-- ==== Sys2Proof/Word.lean ====
section
/-!
DEFINITION. The plainest data of the model: bytes, the sparse stores, and the names of the fixed sets the spec numbers.
-/

namespace Sys2Proof

/-- A byte on the wire or in a memory image (R10). -/
abbrev Byte := BitVec 8

/-- A store addressed by a number (a byte buffer, a map with one value per pixel): address and value pairs, in the one
canonical form of `Mem.wf` (Machine/Ops.lean). -/
abbrev Mem (β : Type) := List (Nat × β)

/-- The variants of Table 0.1. -/
inductive Variant where
  | f | s | e
deriving DecidableEq, Repr

/-- The session domains of R262, in the numbering of Table 11.12. -/
inductive Domain where
  | info | light | safety | service
deriving DecidableEq, Repr

/-- The two link ports (R234). -/
inductive Port where
  | a | b
deriving DecidableEq, Repr

/-- The two converters (R324). -/
inductive Conv where
  | a | b
deriving DecidableEq, Repr

/-- The two pixel banks (R63). -/
inductive Bank where
  | a | b
deriving DecidableEq, Repr

/-- The other bank. -/
def Bank.other : Bank → Bank
  | .a => .b
  | .b => .a

/-- The block actions of Table 15.6. -/
inductive Action where
  | mpRestart | compReinit | cutoff | moduleReset | brownoutSave
deriving DecidableEq, Repr

/-- The wake sources of Table 18.3, in ascending WAKE bit. -/
inductive WakeSrc where
  | contact | timer | canPattern
deriving DecidableEq, Repr

end Sys2Proof
end

