-- ==== Sys2Proof/Syntax.lean ====
section
/-!
DEFINITION. The commands of the block: one constructor of `Instr` for each row of spec/opcode_table.json, with the inputs
that reach the module at that step. Every command except VIN_RISE and WAKE_SOURCE carries `t`, the TSC at which it takes
place (R30); those two start the TSC at 0.
-/

namespace Sys2Proof

/-- One sweep of a byte lane in DRAM training (R395): step k passed when bit k is set. -/
structure LaneSweep where
  read : BitVec 64
  write : BitVec 64
deriving DecidableEq, Repr

/-- What the boot sequencer and the boot ROM find at an entry to BOOT. -/
structure BootInputs where
  /-- Up to three trainings of the four byte lanes (R395, R396); used when the entry trains the DRAM. -/
  training : List (List LaneSweep)
  /-- The latch row whose readback disagrees with the pattern written; none when all agree (R34). -/
  latchBad : Option Nat
  /-- The loader's signature check passes (R435). -/
  loaderOk : Bool
  /-- The result of each check-value unit over the check string (R458), CVU0 to CVU3. -/
  cvu : List Nat
deriving DecidableEq, Repr

/-- The verdict of the signature engine over the image slot (R436, R437). -/
structure ImageVerdict where
  sigOk : Bool
  /-- SHA-256 over bytes 0 to IMAGE_BYTES − 1, as the loader's pass computes it. -/
  digest : List Byte
deriving DecidableEq, Repr

/-- A sender of PSIFER messages (R262): the IPv4 address and UDP source port on a link port, REQ_ID on the service port. -/
structure Endpoint where
  viaCan : Bool
  ip : Nat
  port : Nat
deriving DecidableEq, Repr

/-- A PSIFER message that reached the gate: its header (Table 11.2), payload and arrival (R30). -/
structure Msg where
  ep : Endpoint
  arrival : Nat
  version : Nat
  flags : Nat
  opcode : Nat
  session : Nat
  sequence : Nat
  freshness : Nat
  length : Nat
  reserved : Nat
  context : Nat
  payload : List Byte
deriving DecidableEq, Repr

/-- A symbol of the sync line (Table 5.1). -/
structure Sym where
  mark : BitVec 8
  type : BitVec 4
  payload : BitVec 24
  check : BitVec 4
deriving DecidableEq, Repr

/-- A gPTP frame as the hardware handles it (R249, R250). -/
inductive GptpMsg where
  /-- Sync with its Follow_Up, or a one-step Sync: domain, logSyncInterval, the measured offset in ns and the trim that the servo writes for
  it, correctionField in 2⁻¹⁶ ns, cumulativeScaledRateOffset in 2⁻⁴¹, and the residence time in ns that the hardware measures when it
  relays it. -/
  | sync (domain : Nat) (logInterval : Int) (offset : Int) (trim : Int) (correction : Int) (rate : Int) (residence : Nat)
  | pdelayReq
  /-- The exchange that this response ends has measured the propagation delay in ns and the rate ratio to the neighbour, in 2⁻⁴¹. -/
  | pdelayResp (delay : Nat) (rate : Int)
  /-- Announce: domain, logAnnounceInterval, the identity of the grandmaster in the order the BMCA compares it (priority1 first),
  stepsRemoved, the sender's port identity. -/
  | announce (domain : Nat) (logInterval : Int) (identity : List Nat) (hops : Nat) (source : Nat)
deriving DecidableEq, Repr

/-- What a frame carries for the internal port (R241, R242). -/
structure IpInfo where
  dst : Nat
  options : Bool
  fragment : Bool
  headerOk : Bool
  udp : Bool
  dstPort : Nat
  /-- The UDP checksum is good, or 0. -/
  udpOk : Bool
deriving DecidableEq, Repr

/-- An Ethernet frame at a link port (R237 to R243). -/
structure EthFrame where
  port : Port
  fcsOk : Bool
  bytes : Nat
  pause : Bool
  /-- Destination MAC address as a 48-bit number. -/
  dst : Nat
  src : Nat
  /-- 802.1Q tag: priority and VID. -/
  tag : Option (Nat × Nat)
  srcIp : Nat
  ip : Option IpInfo
deriving DecidableEq, Repr

/-- A frame on the service port (R253, R255). -/
structure CanFrame where
  id : Nat
  fd : Bool
  data : List Byte
deriving DecidableEq, Repr

/-- A row packet of the on-substrate link (Table 3.5). -/
structure RowPacket where
  /-- ROW, 10 bits -/
  row : Nat
  bank : Bank
  /-- KIND: 0 drive row, 1 settle-latch row -/
  kind : Nat
  /-- FRAME, 4 bits; 0 for KIND 1 -/
  frame : Nat
  /-- 2,048 codes: 14 bits each for KIND 0, 2 bits for KIND 1 -/
  codes : List Nat
deriving DecidableEq, Repr

/-- A row packet with the CRC, 32 bits, that follows it (Table 3.5). -/
structure SealedRow where
  packet : RowPacket
  crc : Nat
deriving DecidableEq, Repr

/-- A UDP packet at the internal port (R241, R242). -/
structure Datagram where
  ip : IpInfo
  payload : List Byte
deriving DecidableEq, Repr

/-- A port whose link is gone, and whether its PHY trains afresh (Table 10.12). -/
structure LinkLoss where
  port : Port
  training : Bool
deriving DecidableEq, Repr

/-- How a link has come up: its speed (1 to 3, Table 10.12) and whether the PHY is the master (R234). -/
structure LinkMode where
  speed : Nat
  master : Bool
deriving DecidableEq, Repr

/-- The error state of the CAN controller (R253, Table 10.12). -/
inductive CanErr where
  | active | passive | busOff
deriving DecidableEq, Repr

/-- A window of the MP load (R276): the share of it in which the MP was busy, in percent, and the time in tk that it needs for every message
queued at its end. -/
structure LoadWindow where
  busy : Nat
  need : Nat
deriving DecidableEq, Repr

/-- The level at a demand input (02 Table 2.4). -/
inductive Contact where
  /-- the contact is open: the pull-down holds it low -/
  | openWire
  /-- at most 2.0 V -/
  | low
  /-- at least 4.0 V -/
  | high
deriving DecidableEq, Repr

/-- What the main latch sees as the module enters STANDBY (Table 18.2): the sources latched in its steps 1 and 2 and the timer at step 4, and the
level of the WAKE contact at step 4. -/
structure EntryWatch where
  latched : List WakeSrc
  pin : Contact
deriving DecidableEq, Repr

/-- An active wake source with the latest samples of the WAKE contact (Table 18.3). -/
structure WakeEvent where
  src : WakeSrc
  pins : List Contact
deriving DecidableEq, Repr

/-- What an outstanding fetch belongs to (R225). -/
inductive LateFetch where
  | drawer (slot : Nat)
  | cabinet (entry : Nat)
  | correction
  | chest
deriving DecidableEq, Repr

/-- What the column sense circuits measure in one probe window (R301, R303): columns with a current or a voltage. Columns that are not listed
are healthy. -/
structure Probe where
  /-- phase 0: the current into the held anode, pA -/
  leak : List (Nat × Nat)
  /-- phase 1: Vf at 20 µA, mV -/
  vf : List (Nat × Nat)
  /-- phases 2a and 2b: the current into the held anodes, nA -/
  held2a : List (Nat × Nat)
  held2b : List (Nat × Nat)
  /-- phase 3: the current into the anodes of the sense row, nA -/
  sense3 : List (Nat × Nat)
deriving DecidableEq, Repr

/-- One converter sample: its code, and whether its input lay above or below the range (R330). -/
structure Sample where
  code : Nat
  ovr : Bool
  unr : Bool
deriving DecidableEq, Repr

/-- What a calibration pass makes of one quantity: the value, the samples that carried TAINT, OVR and UNR, and those that carried any flag and
were replaced (R339). -/
structure CalReading where
  value : Int
  taint : Nat
  ovr : Nat
  unr : Nat
  replaced : Nat
deriving DecidableEq, Repr

/-- The readings of one calibration pass (Table 14.6): corrected results in 1/16 LSB, the skew the tone shows in ps, and for the references
through R_CAL the sum of the 1,024 corrected results of input 0 in 1/16 LSB. -/
structure CalPass where
  offsetA : CalReading
  offsetB : CalReading
  refA : CalReading
  refB : CalReading
  tone : CalReading
  skew : Int
  irefA : CalReading
  irefB : CalReading
  sl : List CalReading
  probe : CalReading
deriving DecidableEq, Repr

/-- The steps of a calibration run after its acknowledgement (R339, R340): a pass starts, it ends, the decision. -/
inductive CalStep where
  | passStart
  | passEnd (p : CalPass)
  | outcome
deriving DecidableEq, Repr

/-- The ECC finding of a memory read (R393, R406). -/
inductive Ecc where
  | clean | corrected | uncorrectable
deriving DecidableEq, Repr

/-- The urgency classes of Table 17.3. -/
inductive Urgency where
  | urgent | normal | bulk
deriving DecidableEq, Repr

/-- A DRAM request (R398 to R403). -/
structure DramReq where
  channel : Nat
  bank : Nat
  row : Nat
  /-- Address in 64-byte blocks; consecutive 2 KiB alternate between the channels (R391). -/
  block : Nat
  write : Bool
  /-- A write of less than a whole word (R394). -/
  partialWord : Bool
  urgency : Urgency
  /-- A fetch of the compositor for the frame being composed: its class is the watermark's (09 R224). -/
  composer : Bool
  /-- The row belongs to the protected class (Table 17.2). -/
  prot : Bool
  /-- Owner as FS06 names it in DATA [7:0] (Table 15.3). -/
  owner : Nat
  ecc : Ecc
  /-- The 9 random bits of R403. -/
  draw : BitVec 9
  /-- Arrival at the controller. -/
  arrival : Nat
deriving DecidableEq, Repr

/-- The commands. -/
inductive Instr where
  -- start, supply
  | vinRise (vin : Nat) (boot : BootInputs)
  | trainingRetry (t : Nat) (attempts : List (List LaneSweep))
  | imageCheckComplete (t : Nat) (v : ImageVerdict) (draws : List Nat)
  | loaderCheckRetry (t : Nat) (ok : Bool)
  | calLoadComplete (t : Nat)
  | mapRestoreComplete (t : Nat)
  | vinBelowVbo (t : Nat)
  | vinAboveVbo (t : Nat)
  | brownout (t : Nat)
  | lastgaspSaveComplete (t : Nat) (above : Bool) (vin : Nat) (boot : BootInputs)
  | vledBlindWindowEnd (t : Nat)
  | vinLow (t : Nat) (low : Bool) (vin : Nat)
  | vinHigh (t : Nat) (high : Bool) (vin : Nat)
  | holdReady (t : Nat) (ready : Bool)
  -- fault collector
  | faultAssert (t : Nat) (src : Nat) (data : Nat)
  | faultLevelEnd (t : Nat) (src : Nat)
  | shadowEnd (t : Nat) (action : Action)
  | rearm (t : Nat)
  | moduleReset (t : Nat) (boot : BootInputs)
  | mpWatchdogService (t : Nat)
  | mpWatchdogExpiry (t : Nat) (inHand : Bool)
  | mpRestartEnd (t : Nat)
  | mpRestartOverrun (t : Nat)
  | clockMon (t : Nat) (clock : Nat)
  -- time base
  | tscStep (t : Nat) (offset : Int)
  | tscJump (t : Nat)
  | gptpMessage (t : Nat) (port : Port) (msg : GptpMsg)
  | syncReceiptTimeout (t : Nat)
  -- frames
  | compositionStart (t : Nat)
  | contentCutoff (t : Nat)
  | rowLatePoint (t : Nat) (row : Nat) (late : List LateFetch)
  | rowTransferStart (t : Nat) (row : Nat) (complete : Bool) (levels : List Nat)
  | rowPacket (t : Nat) (p : RowPacket) (crc : Nat)
  | chestCheckComplete (t : Nat) (crc : Nat)
  | governorLatch (t : Nat)
  | wrdoneDeadline (t : Nat)
  | sluiceExecute (t : Nat) (readback : Bool)
  | timedSwap (t : Nat) (readback : Bool)
  | droopTimer (t : Nat)
  | latchRowCycle (t : Nat) (p : SealedRow) (readback : List Nat)
  | latchReadbackCheck (t : Nat) (readback : List Nat)
  -- Rake
  | probeWindow (t : Nat) (m : Option Probe)
  | sweepWindow (t : Nat) (m : Option Probe) (samples : List Sample)
  | vfModelRewrite (t : Nat)
  | faultMapFlashWrite (t : Nat)
  | mapSnapshot (t : Nat)
  -- monitor
  | monitorPacketSend (t : Nat)
  | monitorTrailer (t : Nat)
  -- sync chain
  | symbolSlot (t : Nat)
  | symbolRepeat (t : Nat) (sym : Sym)
  | sluiceSymbolReceived (t : Nat) (sym : Sym) (tEnd : Nat)
  | headReceived (t : Nat) (sym : Sym)
  | enumReceived (t : Nat) (sym : Sym)
  | startWindowEnd (t : Nat)
  | syncLoss (t : Nat)
  | syncLossEnd (t : Nat)
  | linkDelayMeasure (t : Nat) (delay : Nat)
  -- video, moves, references
  | brineVideoPacket (t : Nat) (d : Datagram)
  | bufferMoveComplete (t : Nat) (item : Nat)
  | chestRefComplete (t : Nat)
  -- links
  | linkDown (t : Nat) (x : LinkLoss)
  | linkUp (t : Nat) (port : Port) (mode : LinkMode)
  | linkDownTimeout (t : Nat) (port : Port)
  | ethernetFrame (t : Nat) (f : EthFrame)
  | arpRequest (t : Nat) (port : Port) (target : Nat)
  | hostSilent (t : Nat)
  | canFrame (t : Nat) (f : CanFrame)
  | isotpTimeout (t : Nat)
  | canBusOff (t : Nat) (st : CanErr)
  -- gate
  | psiferMessage (t : Nat) (ep : Endpoint) (raw : List Byte)
  | sessionIdleLost (t : Nat) (session : Nat)
  | authWindowEnd (t : Nat)
  | mpLoadWindow (t : Nat) (w : LoadWindow)
  | eventMessage (t : Nat) (session : Nat)
  | eventWindowEnd (t : Nat)
  -- system group
  | caps (t : Nat) (m : Msg)
  | readWord (t : Nat) (m : Msg)
  | ping (t : Nat) (m : Msg)
  | resetModule (t : Nat) (m : Msg) (boot : BootInputs)
  | resetMpOnly (t : Nat) (m : Msg)
  | settingsStore (t : Nat) (m : Msg)
  | settingsStoreOutcome (t : Nat) (erased : Bool)
  | linkConfigWrite (t : Nat) (m : Msg)
  | canConfigWrite (t : Nat) (m : Msg)
  | mailboxConfigWrite (t : Nat) (m : Msg)
  -- drawer group
  | create (t : Nat) (m : Msg)
  | configure (t : Nat) (m : Msg)
  | place (t : Nat) (m : Msg)
  | release (t : Nat) (m : Msg)
  | destroy (t : Nat) (m : Msg)
  | flip (t : Nat) (m : Msg)
  | commit (t : Nat) (m : Msg)
  | abort (t : Nat) (m : Msg)
  | chunkWrite (t : Nat) (m : Msg)
  | curveWrite (t : Nat) (m : Msg)
  | blendProgramWrite (t : Nat) (m : Msg)
  -- shade and glyph group
  | shadeUpdate (t : Nat) (m : Msg)
  | shadeClear (t : Nat) (m : Msg)
  | glyphSeal (t : Nat) (m : Msg)
  -- timing group
  | timingChange (t : Nat) (m : Msg)
  | timingAnchor (t : Nat) (m : Msg)
  | hostScaleWrite (t : Nat) (m : Msg)
  | monitorConfigWrite (t : Nat) (m : Msg)
  -- diagnostics group
  | logRead (t : Nat) (m : Msg)
  | eventFilter (t : Nat) (m : Msg)
  | faultMapRead (t : Nat) (m : Msg)
  | scalerCoeffRead (t : Nat) (m : Msg)
  -- safety group
  | chestStage (t : Nat) (m : Msg)
  | chestActivate (t : Nat) (m : Msg)
  | settleStage (t : Nat) (m : Msg)
  | settleActivate (t : Nat) (m : Msg)
  | safetyStore (t : Nat) (m : Msg)
  | safetyStoreOutcome (t : Nat) (erased : Bool)
  | holdDemand (t : Nat) (m : Msg)
  | recover (t : Nat) (m : Msg)
  | faultForceSet (t : Nat) (m : Msg)
  | faultForceClear (t : Nat) (m : Msg)
  | faultConfig (t : Nat) (m : Msg)
  | compConfigWrite (t : Nat) (m : Msg)
  | govBudgetWrite (t : Nat) (m : Msg)
  | hostTimeoutWrite (t : Nat) (m : Msg)
  | sdimConfigWrite (t : Nat) (m : Msg)
  -- calibration group
  | calRun (t : Nat) (m : Msg)
  | calRunOutcome (t : Nat) (e : CalStep)
  | calRead (t : Nat) (m : Msg)
  | calWrite (t : Nat) (m : Msg)
  | calStore (t : Nat) (m : Msg)
  | calStoreOutcome (t : Nat) (erased : Bool)
  | corrChunk (t : Nat) (m : Msg)
  | tcurveWrite (t : Nat) (m : Msg)
  | tcurveApply (t : Nat) (m : Msg)
  | ageingCurveWrite (t : Nat) (m : Msg)
  -- power, sync, security groups
  | idleRequest (t : Nat) (m : Msg)
  | wakeToLight (t : Nat) (m : Msg)
  | standbyRequest (t : Nat) (m : Msg) (e : EntryWatch)
  | syncConfigWrite (t : Nat) (m : Msg)
  | syncEnumerate (t : Nat) (m : Msg)
  | sessionOpen (t : Nat) (m : Msg) (nonce : List Byte)
  | sessionClose (t : Nat) (m : Msg)
  | lifecycleAdvance (t : Nat) (m : Msg)
  | zeroise (t : Nat) (m : Msg)
  -- update group
  | updateIntent (t : Nat) (m : Msg) (boot : BootInputs)
  | updateBlock (t : Nat) (m : Msg)
  | updateVerify (t : Nat) (m : Msg)
  | updateVerifyOutcome (t : Nat) (v : ImageVerdict)
  | updateActivate (t : Nat) (m : Msg) (boot : BootInputs)
  | updateConfirm (t : Nat) (m : Msg)
  -- converters
  | scan (t : Nat) (readings : List (List Sample))
  | selftest (t : Nat) (a : List (List Sample)) (b : List (List Sample))
  | urgentRequest (t : Nat) (input : Nat) (x : Sample)
  | referenceModeAuto (t : Nat) (conv : Conv)
  | shutdownComparator (t : Nat) (input : Nat) (x : Sample)
  | thermalStep (t : Nat)
  -- Safe-Dim and cutoff
  | sdimFilterTick (t : Nat)
  | rampTick (t : Nat)
  | rampEnd (t : Nat)
  | rampEnvelope (t : Nat) (mean : Nat)
  | sdimDiscrepancy (t : Nat)
  | proofMissing (t : Nat)
  | cutoffTestpulse (t : Nat) (fallOk : Bool) (recoveryOk : Option Bool)
  | switchReadback (t : Nat) (isOpen : Bool)
  | governorEnvelope (t : Nat) (mean : Nat)
  | vledRegulation (t : Nat) (mv : Nat)
  -- memories
  | dramRequest (t : Nat) (req : Option DramReq) (channel : Nat)
  | dramScrub (t : Nat) (channel : Nat) (owner : Nat) (ecc : Ecc)
  | dqsDriftCheck (t : Nat) (channel : Nat) (steps : List Int) (refresh : Nat)
  | neighbourRefresh (t : Nat) (channel : Nat) (bank : Nat) (row : Nat)
  | panSramScrub (t : Nat) (bank : Nat) (ecc : Ecc)
  -- wake and slots
  | wakeSource (e : WakeEvent) (lost : BitVec 5) (seconds : Nat) (vin : Nat) (boot : BootInputs)
  | lastgaspSlotErase (t : Nat)
  -- added rows
  | sdimSample (t : Nat) (a : Contact) (b : Contact)
  | refreshWindowStart (t : Nat)
  | referenceModeWarm (t : Nat) (conv : Conv)
  | convRefReady (t : Nat) (conv : Conv)
  | pdelayRequest (t : Nat) (port : Port)
  | announceReceiptTimeout (t : Nat) (port : Port)
deriving DecidableEq, Repr

end Sys2Proof
end

