-- ==== Sys2Proof/Decode.lean ====
section
/-!
DEFINITION. spec/opcode_table.json gives no row any bits: no word spells a command, so the decoder accepts none.
-/

namespace Sys2Proof

/-- The command a word spells by the table's bits: none, since every row's field list is empty. -/
def decodeTableWord (_nbits _w : Nat) : Option Instr := none

end Sys2Proof
end

