-- ==== Sys2Proof/Config.lean ====
section
/-!
DEFINITION. What the spec leaves to the part within a bound: the free values. Each is a constant without a body, so nothing
can be proved of its value; the meaning that uses it keeps the bound the rule sets (log entries 7, 8, 9 and 14).
-/

namespace Sys2Proof.Config

/-- The deviation of a generated PATTERN value from the exact one: R173 allows −1, 0 or +1 dv. Arguments: the drawer's parameters,
slot, view column, view row. Reduced modulo 3 by its user. -/
opaque patternDeviation : List Int → Nat → Nat → Nat → Nat

/-- The deviation of the shade engine's weight k from R199: R200 allows −1, 0 or +1. Arguments: the object's edge and
vertices, slot, object ID, view column, view row. Reduced modulo 3 by its user. -/
opaque shadeDeviation : List Int → Nat → Nat → Nat → Nat → Nat

/-- The number n, 0 to 16, of the 16 samples of a pixel that lie inside a glyph primitive (R208 fixes outlines only within
0.5 px). Arguments: the bytes of the drawer's front table, the primitive, view column, view row. Reduced modulo 17 by its user. -/
opaque glyphSamples : List (Nat × Byte) → Nat → Nat → Nat → Nat

/-- The segments that the glyph unit makes beyond the fewest that R208 allows: R208 bounds the deviation of chords and the length of pieces, not
their count. Arguments: the bytes of the table, SRC_W, SRC_H. -/
opaque glyphSegments : List (Nat × Byte) → Nat → Nat → Nat

/-- The rising threshold at which FS34 clears, in mV: Table 2.6 gives 6,200 to 6,400. Clamped to that range by its user. -/
opaque fs34Clear : Nat

/-- V_START, in mV: Table 2.6 gives 5,800 to 6,000. Clamped to that range by its user. -/
opaque vStart : Nat

/-- The falling threshold at which FS34 is raised, in mV: Table 2.6 gives 5,800 to 6,000. Clamped to that range by its user. -/
opaque fs34Raise : Nat

/-- The falling threshold at which FS35 clears, in mV: Table 2.6 gives 35,200 to 35,800. Clamped to that range by its user. -/
opaque fs35Clear : Nat

/-- Where the threshold of a probe test lies within its tolerance (13 Table 13.2). Arguments: the test, the column. Reduced to the tolerance by
its user. -/
opaque probeTolerance : Nat → Nat → Nat

/-- The current of a column probe source within ±5 % of 20 µA (13 R302). Arguments: the column, the TSC. Reduced to that range by its user. -/
opaque probeSource : Nat → Nat → Nat

/-- How long an urgent request pauses a sequence: at most 500 ns (14 R334). Argument: the TSC. Reduced to that range by its user. -/
opaque urgentPause : Nat → Nat

/-- What a storage node has lost by droop, in 10⁻⁸ codes: 03 R73 bounds it by 0.1 % of its value per millisecond. Arguments: the pixel, the
TSC. Reduced to that bound by its user. -/
opaque droop : Nat → Nat → Nat

/-- What a monitor frame carries for an array pixel that was not composed, since the frame was withheld before: 07 R191 has it sent and states
no value. Arguments: the frame, the pixel. Reduced to the width of the tap by its user. -/
opaque monitorRest : Nat → Nat → Nat

/-- The rising threshold at which FS35 is raised, in mV: Table 2.6 gives 36,000 to 36,800. Clamped to that range by its user. -/
opaque fs35Raise : Nat

/-- The check value formed over a copy of the flash safety area that fails its CRC (R34): the model keeps no content of such a copy.
Argument: the copy. Reduced modulo 2³² by its user. -/
opaque brokenCopyCrc : Nat → Nat

/-- The check value of a flash record whose layout the spec does not give: a settings record, a fault-map snapshot. Argument: the
number of jobs finished before. Reduced modulo 2³² by its user. -/
opaque recordCrc : Nat → Nat

/-- How many of the bytes still to come the MP has fed to a CHEST_REF job by now (20 R456). Argument: the TSC. Reduced to the bytes to come by
its user. -/
opaque cvuFed : Nat → Nat

/-- The signature of a retained bank of Pan SRAM (18 R416): the spec gives the banks no byte layout. Argument: the bank. Reduced modulo
2³² by its user. -/
opaque bankSignature : Nat → Nat

/-- The converter that FS38 names when CONV_A and CONV_B differ on input 26: 14 R336 does not say which. Argument: the TSC. Reduced
modulo 2 by its user. -/
opaque selfTestConv : Nat → Nat

/-- What a status word holds in a field that its table calls valid only in a state, outside that state (09 Table 9.10). Arguments: the
field's offset, the TSC. Reduced to the field's width by its user. -/
opaque invalidField : Nat → Nat → Nat

/-- The DATA of an assertion that FAULT_FORCE makes: 15 R368 states none. Arguments: source, TSC. Reduced to the values of the source
by its user. -/
opaque forcedData : Nat → Nat → Nat

end Sys2Proof.Config
end

