-- ==== Sys2Proof/Machine/State.lean ====
section
/-!
DEFINITION. The state of the module: every register, store, queue, counter, timer and mode the spec gives it, as plain data.
Each field's docstring gives its width or range and the rule that names it; its default is its value at reset (the module as
shipped, without power: OFF of Table 1.9). A default the spec does not state is named in log entry 3.
-/

namespace Sys2Proof.Machine

/-- Where a run stops. -/
inductive Fault where
  /-- A command names a thing the module does not have: a row above 639, a fault source above 47, a converter input, memory bank
  or channel that does not exist. Raised by the meaning of the command; safe (the hardware has no such command). -/
  | impossibleOperand
deriving DecidableEq, Repr

/-- Why a command has no meaning in the model. -/
inductive Refusal where
  /-- The command has no meaning yet; raised by its arm of `exec`; safe (the model stops). -/
  | notModelled (mnemonic : String)
deriving DecidableEq, Repr

/-- The operating states of Table 1.7, and OFF of Table 1.9. -/
inductive OpState where
  | off | boot | loader | proofPending | full | safe | idle | standby | brownoutSave
deriving DecidableEq, Repr

/-! ### Settings image (bank 4, R404): every register kept in the settings image -/

/-- GOV_CONFIG (04 R104, Table 4.3). -/
structure GovConfig where
  /-- u16, 100–8000 mA -/
  precise : Nat := 8000
  /-- u16, 100–8000 mA -/
  balanced : Nat := 8000
  /-- u16, 100–8000 mA -/
  swift : Nat := 8000
  /-- u16, 100–8000 mA -/
  cool : Nat := 6000
  /-- u10 -/
  hostScale : Nat := 1023
deriving DecidableEq, Repr

/-- SYNC_CONFIG (05 R137, Table 5.9). -/
structure SyncConfig where
  /-- 1–512 -/
  chainLen : Nat := 512
  /-- 0 AUTO, 1 FORCE_HEAD -/
  role : Nat := 0
deriving DecidableEq, Repr

/-- COMP_CONFIG (07 R166, Table 7.1). -/
structure CompConfig where
  /-- VIEW_MIRROR bit 0 -/
  mirrorX : Bool := false
  /-- VIEW_MIRROR bit 1 -/
  mirrorY : Bool := false
deriving DecidableEq, Repr

/-- MONITOR_CONFIG (07 R187, Table 7.9). -/
structure MonitorConfig where
  /-- 1 bit -/
  enable : Bool := false
  /-- 1 or 2 -/
  tap : Nat := 1
  /-- 0 FULL, 1 DOWN2, 2 DOWN4 -/
  mode : Nat := 0
  /-- 0 MEAN, 1 MAX -/
  downOp : Nat := 0
  /-- 1–255 -/
  everyN : Nat := 1
  /-- 0–7 -/
  pcp : Nat := 2
deriving DecidableEq, Repr

/-- TIMING_CONFIG (09 R216, Table 9.1). -/
structure TimingConfig where
  /-- 0 PRECISE, 1 BALANCED, 2 SWIFT, 3 COOL -/
  profile : Nat := 1
  /-- u32 tk -/
  period : Nat := 500000
  /-- u64 -/
  anchorTsc : Nat := 0
  /-- u64 -/
  anchorFrame : Nat := 0
deriving DecidableEq, Repr

/-- LINK_CONFIG (10 R258, Table 10.10). IPv4 addresses as numbers, first octet highest. -/
structure LinkConfig where
  /-- 0–3 -/
  speedA : Nat := 1
  /-- 0–3 -/
  speedB : Nat := 1
  /-- 2 bits -/
  phyRole : Nat := 2
  /-- 0 STATIC, 1 DERIVED -/
  addrMode : Nat := 1
  /-- IPv4 -/
  ipAddr : Nat := 0x0A2A0100
  /-- IPv4 -/
  ipBase : Nat := 0x0A2A0000
  /-- 8–30 -/
  prefixLen : Nat := 22
  /-- 0–7 -/
  psiferPcp : Nat := 5
  /-- 0–4094 -/
  vlanId : Nat := 0
  /-- IPv4 -/
  monDestIp : Nat := 0x0A2A0001
  /-- 1024–65535 -/
  monDestPort : Nat := 50112
  /-- 50–10,000 ms -/
  hostTimeout : Nat := 500
  /-- 0 or a multicast IPv4 address -/
  mcastGroup : Nat := 0
deriving DecidableEq, Repr

/-- CAN_CONFIG (10 R259, Table 10.11). -/
structure CanConfig where
  /-- 0–1 -/
  nominal : Nat := 0
  /-- 0–2 -/
  dataRate : Nat := 2
  /-- 0x000–0x7FE, even -/
  base : Nat := 0x400
  /-- 0 NODE, 1 STATIC -/
  indexMode : Nat := 0
  /-- 0–1023 -/
  index : Nat := 0
deriving DecidableEq, Repr

/-- MAILBOX_CONFIG (11 R283, Table 11.10). -/
structure MailboxConfig where
  /-- 1–3600 s -/
  sessionIdle : Nat := 60
  /-- 16–1024 -/
  authBurst : Nat := 64
deriving DecidableEq, Repr

/-- SDIM_CONFIG (12 R299, Table 12.14). -/
structure SdimConfig where
  /-- 5–500 ms -/
  tDisc : Nat := 50
  /-- 100–2,000 ms -/
  tRamp : Nat := 500
  /-- 1 SETTLE, 2 DARK, 3 CUTOFF -/
  target : Nat := 1
  /-- 1,000–30,000 ms -/
  proofWindow : Nat := 5000
deriving DecidableEq, Repr

/-- The default reactions of FS00–FS47 (15 Table 15.3). -/
def defaultReactions : List Nat :=
  [4, 1, 1, 0, 4, 0, 2, 1, 4, 1, 4, 1, 2, 3, 4, 6, 1, 1, 5, 1, 1, 1, 4, 1] ++
  [1, 1, 1, 1, 1, 1, 6, 1, 1, 6, 1, 1, 6, 4, 4, 4, 4, 1, 1, 1, 6, 1, 4, 4]

/-- The settings image of Pan SRAM bank 4 (17 R404). -/
structure Settings where
  gov : GovConfig := {}
  sync : SyncConfig := {}
  comp : CompConfig := {}
  mon : MonitorConfig := {}
  timing : TimingConfig := {}
  link : LinkConfig := {}
  can : CanConfig := {}
  mailbox : MailboxConfig := {}
  sdim : SdimConfig := {}
  /-- 48 × u8, configured reactions (15 R367) -/
  faults : List Nat := defaultReactions
deriving DecidableEq, Repr

/-! ### Chest, SETTLE, drawers -/

/-- A Chest polygon (07 Table 7.7). -/
structure Polygon where
  /-- u16 -/
  ceil : Nat
  /-- u16 -/
  floor : Nat
  /-- 3–8 vertices in 1/16 px -/
  verts : List (Int × Int)
deriving DecidableEq, Repr

/-- A Chest image (07 R180). -/
structure ChestImage where
  /-- u16 -/
  defaultCeil : Nat := 65535
  /-- u16 -/
  defaultFloor : Nat := 0
  /-- at most 64 -/
  polys : List Polygon := []
deriving DecidableEq, Repr

/-- The SETTLE pattern and its levels (03 R75, 12 R298). -/
structure SettleData where
  /-- 327,680 bytes in the layout of R298 -/
  pattern : Mem Byte := []
  /-- SL1 to SL3, 12 bits each -/
  levels : List Nat := [0, 0, 0]
deriving DecidableEq, Repr

/-- The drawer descriptor (06 R145, Table 6.4). -/
structure Descriptor where
  /-- 0–4 -/
  type : Nat := 0
  /-- 0–4 -/
  format : Nat := 0
  /-- u8 -/
  tier : Nat := 0
  /-- 0–4 -/
  operator : Nat := 0
  /-- FLAGS bit 0 -/
  isStatic : Bool := false
  /-- FLAGS bit 1 -/
  mirrorX : Bool := false
  /-- FLAGS bit 2 -/
  mirrorY : Bool := false
  /-- 0–2 -/
  stalePolicy : Nat := 0
  /-- 1–1000 ms -/
  staleLimit : Nat := 0
  /-- u16 -/
  srcW : Nat := 0
  /-- u16 -/
  srcH : Nat := 0
  /-- u16 -/
  cropX : Nat := 0
  /-- u16 -/
  cropY : Nat := 0
  /-- u16 -/
  cropW : Nat := 0
  /-- u16 -/
  cropH : Nat := 0
  /-- s16 -/
  dstX : Int := 0
  /-- s16 -/
  dstY : Int := 0
  /-- u16 -/
  dstW : Nat := 0
  /-- u16 -/
  dstH : Nat := 0
  /-- 0, 2, 4, 6 -/
  vtaps : Nat := 0
  /-- 0, 2, 3 -/
  buffers : Nat := 0
  /-- 0–7 -/
  curve : Nat := 0
  /-- u16 -/
  stream : Nat := 0
deriving DecidableEq, Repr

/-- The parameter block: Table 7.3 for PATTERN, Table 8.1 for SHADE. -/
structure Params where
  /-- PATTERN KIND 0–2 -/
  kind : Nat := 0
  /-- s16, 1/16 px -/
  originX : Int := 0
  /-- s16, 1/16 px -/
  originY : Int := 0
  /-- s16 -/
  dirX : Int := 0
  /-- s16 -/
  dirY : Int := 0
  /-- u16, 1/16 px -/
  length : Nat := 0
  /-- 17 × u16 -/
  profile : List Nat := []
  /-- SHADE HORIZON, 1–1000 ms -/
  horizon : Nat := 0
deriving DecidableEq, Repr

/-- A shade object (08 R195, Table 8.2). -/
structure ShadeObj where
  /-- 0–63 -/
  id : Nat
  /-- FLAGS bit 0 -/
  active : Bool
  /-- 0–15 px -/
  edge : Nat
  /-- u16 dv -/
  ceil : Nat
  /-- signed 64-bit (R198) -/
  validTsc : Int
  /-- s8.8 px/ms -/
  vx : Int
  /-- s8.8 px/ms -/
  vy : Int
  /-- 4 × (s16, s16), 1/8 px -/
  verts : List (Int × Int)
deriving DecidableEq, Repr

/-- The states of a drawer slot (06 R146). -/
inductive SlotState where
  | free | opened | placed | retiring
deriving DecidableEq, Repr

/-- The pending changes of one drawer (06 R148). -/
structure Pending where
  /-- the session that made them -/
  session : Nat
  configure : Option (Descriptor × Params) := none
  place : Bool := false
  release : Bool := false
  destroy : Bool := false
  flip : Bool := false
deriving DecidableEq, Repr

/-- A pixel buffer of a VIDEO or STILL drawer (06 R153, R154). -/
structure Buffer where
  /-- stored bytes in the form of Table 6.3 -/
  data : Mem Byte := []
  /-- TSC of the packet that completed it (VIDEO) -/
  completed : Option Nat := none
deriving DecidableEq, Repr

/-- A VIDEO buffer in reception (10 R247). -/
structure Reception where
  /-- BUF_SEQ, u32 -/
  seq : Nat
  /-- the buffer it fills; none while its packets are discarded (R153) -/
  buf : Option Nat
  /-- pixels received of each row: row and count -/
  rows : Mem Nat := []
  /-- every row has reached SRC_W: the buffer is complete -/
  complete : Bool := false
deriving DecidableEq, Repr

/-- One of the 256 drawer slots (06 R140 to R163, 08). -/
structure Slot where
  /-- generation 0–255 (R141) -/
  gen : Nat := 0
  st : SlotState := .free
  desc : Descriptor := {}
  params : Params := {}
  /-- a CONFIGURE has applied (Table 6.6) -/
  configured : Bool := false
  pend : Option Pending := none
  /-- frame at whose composition start the drawer retires (R150) -/
  retireAt : Option Nat := none
  /-- the retirement ends in FREE (R146) -/
  destroyed : Bool := false
  /-- PLACE of DRAWER_STATUS: 0–3 -/
  place : Nat := 0
  /-- Cabinet entry of a member -/
  cabinet : Option Nat := none
  /-- VIDEO: 2 or 3 buffers; STILL: 2 -/
  buffers : List Buffer := []
  /-- VIDEO: latest complete buffer; STILL: front buffer -/
  latest : Option Nat := none
  /-- buffer fetched by the latest composed frame (CURRENT) -/
  current : Option Nat := none
  /-- VIDEO buffer chosen at the latest content cut-off -/
  chosen : Option Nat := none
  rx : Option Reception := none
  /-- in a run of discards (R153) -/
  overrunRun : Bool := false
  /-- u32 -/
  arrived : Nat := 0
  /-- u32 -/
  overrun : Nat := 0
  /-- u64, 0 if none -/
  lastArrival : Nat := 0
  /-- a buffer has arrived since PLACE -/
  everArrived : Bool := false
  /-- frame number, latest frame that fetched it -/
  lastFrame : Nat := 0
  /-- the stale deadline has passed: DRAWER_STALE recorded or FS47 raised (R160) -/
  isStale : Bool := false
  /-- start of the stale deadline while never filled (R160) -/
  staleFrom : Option Nat := none
  /-- STILL or GLYPH: the flip of an accepted COMMIT, or the retirement of the old front, lasts until this frame's composition
  start (R154) -/
  flipUntil : Option Nat := none
  /-- that flip retires a front that had content -/
  oldFront : Bool := false
  /-- back glyph table (08 R205) -/
  glyphBack : Mem Byte := []
  /-- front glyph table; empty list of primitives until the first FLIP -/
  glyphFront : Option (Mem Byte) := none
  /-- BACK_SEALED -/
  sealed : Bool := false
  /-- BACK_SEGMENTS, 0–8,192 -/
  backSegs : Nat := 0
  /-- FRONT_SEGMENTS, 0–8,192 -/
  frontSegs : Nat := 0
  /-- FLIPS, u32 -/
  flips : Nat := 0
  /-- shade objects, at most one per ID (R195) -/
  objects : List ShadeObj := []
  /-- objects latched at the latest content cut-off (R197) -/
  latched : List ShadeObj := []
  /-- the lists that handoffs left since, with their TSC: each waits for the first cut-off at or after it (R197) -/
  handed : List (Nat × List ShadeObj) := []
  /-- IDs clamped at the horizon in the latest frame (R198) -/
  clamped : List Nat := []
  /-- UPDATES, u32 -/
  updates : Nat := 0
  /-- BREACHES, u32 -/
  breaches : Nat := 0
  /-- HORIZON_HITS, u32 -/
  horizonHits : Nat := 0
  /-- SHADE_STATUS.LAST_FRAME -/
  updateFrame : Nat := 0
  /-- LAST_HANDOFF_TSC -/
  lastHandoff : Nat := 0
deriving DecidableEq, Repr

/-- A step of a blend program (07 R176, Table 7.5). -/
structure BlendStep where
  /-- u16 handle -/
  handle : Nat
  /-- 0–4 -/
  operator : Nat
  regionEn : Bool
  /-- view -/
  x0 : Nat
  y0 : Nat
  x1 : Nat
  y1 : Nat
deriving DecidableEq, Repr

/-- An item of a placement (06 R156). -/
structure Item where
  /-- slot, 256 + n for Cabinet entry n, 512 for the correction map -/
  key : Nat
  /-- blend position of the item -/
  pos : Nat
  /-- slots flattened into it -/
  members : List Nat
  /-- bytes fetched per frame -/
  cost : Nat
  /-- bytes held -/
  memory : Nat
  inSram : Bool
deriving DecidableEq, Repr

/-- Memory that still waits for its retire point (06 R150, R159). -/
structure Retiring where
  /-- frame at whose composition start it is free -/
  frame : Nat
  slot : Nat
  bytes : Nat
  inSram : Bool
  /-- a buffer of a drawer that stays placed (DRAWER_RETIRED 3) -/
  bufferOnly : Bool
deriving DecidableEq, Repr

/-- A row of the drawer table: a drawer of the frame set (06 R151). -/
structure TableRow where
  slot : Nat
  desc : Descriptor
  params : Params
deriving DecidableEq, Repr

/-- An accepted COMMIT, or a placement, that awaits its effective frame (06 R149, R151, R158). -/
structure Commit where
  frame : Nat
  /-- COMMIT_SEQ of a COMMIT; none for a placement alone -/
  seq : Option Nat
  /-- the whole frame set it leaves -/
  table : List TableRow
  /-- curve tables with their content -/
  curves : List (Nat × List Nat)
  /-- the blend program it leaves; empty in fixed mode -/
  blend : List BlendStep
  items : List Item
  /-- drawers changed (COMMIT_APPLIED) -/
  touched : List Nat
  /-- STILL and GLYPH drawers flipped -/
  flips : List Nat
  /-- placed drawers that get new buffers at the effective frame (R467) -/
  fresh : List Nat
deriving DecidableEq, Repr

/-- The drawers and their placement (06, 08), Pan SRAM bank 0. -/
structure Drawers where
  /-- 256 slots; slots 0 and 1 are the fixed drawers (R142) -/
  slots : List Slot := { gen := 1 } :: { gen := 1 } :: List.replicate 254 {}
  /-- bank 0 is intact (R143) -/
  bank0 : Bool := false
  /-- the drawer table in force: the frame set (R151) -/
  table : List TableRow := []
  /-- accepted COMMITs in order of acceptance -/
  commits : List Commit := []
  /-- CURVE_0 to CURVE_7 in force: none is the factory content v × 257 (07 R169) -/
  curves : List (Option (List Nat)) := List.replicate 8 none
  /-- pending curve tables: session, table, content -/
  pendCurves : List (Nat × Nat × List Nat) := []
  /-- blend program in force; empty in fixed mode (07 R175, R176) -/
  blend : List BlendStep := []
  /-- pending blend program: session and steps -/
  pendBlend : Option (Nat × List BlendStep) := none
  /-- the committed placement (R156); the empty set is the correction map alone, in Pan SRAM (R155) -/
  items : List Item := [{ key := 512, pos := 0, members := [], cost := 2621440, memory := 2621440, inSram := true }]
  retiring : List Retiring := []
  /-- buffer moves not yet complete: item keys (R159) -/
  moves : List Nat := []
  /-- COMMIT_SEQ, u32: commits applied -/
  seq : Nat := 0
  /-- commits accepted since BOOT -/
  issued : Nat := 0
  /-- EFFECT_FRAME -/
  effectFrame : Nat := 0
deriving DecidableEq, Repr

/-! ### Frames -/

/-- A layer of the frame being composed (07 R174). -/
structure Layer where
  slot : Nat
  operator : Nat
  /-- REGION_EN step: x0, y0, x1, y1 -/
  region : Option (Nat × Nat × Nat × Nat)
  desc : Descriptor
  params : Params
  /-- buffer fetched -/
  buf : Option Nat
  /-- shade objects, extrapolated (08 R198) -/
  objects : List ShadeObj
  /-- Cabinet entry that stands for it -/
  cabinet : Option Nat
  /-- switched off for the rest of the frame (09 R225) -/
  off : Bool
deriving DecidableEq, Repr

/-- The frame being composed, with the working copies of R223. -/
structure CompFrame where
  /-- frame number, u64 -/
  frame : Nat
  layers : List Layer
  chest : ChestImage
  /-- CHEST_REF in force for the frame -/
  chestRef : Nat
  mirrorX : Bool
  mirrorY : Bool
  /-- curve tables CURVE_0–7 for the frame -/
  curves : List (Option (List Nat))
  /-- correction map for the frame (R87) -/
  corr : Mem Nat
  /-- fault map and bridge pairs for the frame (13 R313) -/
  map : Mem Nat
  bridges : List (Nat × Nat)
  /-- the table or tables of R89 and the weight w -/
  tLo : Mem Nat
  tHi : Mem Nat
  w : Nat
  /-- all active shade cores of placed SHADE drawers: slot and extrapolated object (08 R202) -/
  cores : List (Nat × ShadeObj)
  /-- row pitch of the frame, tk (09 Table 9.2) -/
  pitch : Nat
  /-- TSC_TRIM at the composition start: a CLK_PIX period in TSC (09 R219) -/
  trim : Int
  /-- PROFILE and PERIOD that apply to the frame (09 R221) -/
  profile : Nat
  period : Nat
  /-- S0 = swap(m − 1) on the grid of the frame (09 R221) -/
  prevSwap : Int
  /-- the swap before it does not fall at S0: the return from a fallback schedule (09 R231) -/
  gap : Bool
  /-- swap(m) -/
  swapTsc : Int
  /-- next row to compose -/
  nextRow : Nat := 0
  /-- URGENT is marked at present (09 R224) -/
  urgentNow : Bool := true
  /-- breaches found so far: object ID and slot (08 R202) -/
  breaches : List (Nat × Nat) := []
  /-- S of R92 over the rows composed -/
  sum : Nat := 0
  /-- CODE_MAX of R92 -/
  codeMax : Nat := 0
  /-- SCALE_FLOOR of R93 -/
  scaleFloor : Nat := 0
  /-- FS12 switched off a layer -/
  layerOff : Bool := false
  /-- the CRC mismatched (R182) -/
  chestFail : Bool := false
  /-- withheld under R226, R182, R202, R71 or R354 -/
  withheld : Bool := false
  /-- the Chest and shade checks are made -/
  checked : Bool := false
  /-- scale of the governor latch (R95), once made -/
  scale : Option Nat := none
  /-- URGENT was raised after D(0) (R224) -/
  urgent : Bool := false
deriving DecidableEq, Repr

/-- The pixel array, the global lines and what drives them (03). -/
structure PixelArray where
  /-- BANK_SEL: bank on show (R64) -/
  bankSel : Bank := .a
  /-- SRC_SEL at settle -/
  srcSettle : Bool := false
  /-- DRV_EN, low at power-up (R65) -/
  drvEn : Bool := false
  /-- WRDONE is raised, or is to be raised at `wrdoneAt` -/
  wrdone : Bool := false
  /-- TSC at which the sampling switches of row 639 open: the WRDONE edge (R70, 09 R220) -/
  wrdoneAt : Nat := 0
  /-- TSC from which the droop of the frame in bank A, bank B counts: row 0 is driven (R73) -/
  drivenA : Nat := 0
  drivenB : Nat := 0
  /-- IREF_A.SCALE, 10 bits (R67) -/
  irefA : Nat := 0
  /-- IREF_B.SCALE -/
  irefB : Nat := 0
  /-- bank A codes by pixel 2048 × r + c, 14 bits; unlisted reads 0 -/
  bankA : Mem Nat := []
  /-- bank B codes -/
  bankB : Mem Nat := []
  /-- S of the frame in bank A (R92) -/
  sumA : Nat := 0
  /-- S of the frame in bank B -/
  sumB : Nat := 0
  /-- I_PRED in µA of the frame in bank A at its scale -/
  predA : Nat := 0
  /-- I_PRED in µA of the frame in bank B -/
  predB : Nat := 0
  /-- effective budget B in µA of the frame in bank A, bank B (04 R103) -/
  budgetA : Nat := 0
  budgetB : Nat := 0
  /-- IREF_A_TRIM, IREF_B_TRIM, SL_TRIM and PROBE_TRIM in force, 0.01 % (14 R338) -/
  trimA : Int := 0
  trimB : Int := 0
  slTrim : List Int := [0, 0, 0]
  probeTrim : Int := 0
  /-- settle latches, 2 bits per pixel; unlisted reads 0 -/
  latches : Mem Nat := []
  /-- SL1–SL3 LEVEL in force, 12 bits each (R75) -/
  levels : List Nat := [0, 0, 0]
  /-- next drive row the backplane expects (R70) -/
  writeRow : Nat := 0
  /-- FRAME value of the first row of the frame being written -/
  writeFrame : Nat := 0
  /-- a row of the frame being written was rejected (R71) -/
  writeBad : Bool := false
  /-- LATCH_BUSY -/
  latchBusy : Bool := false
  /-- committed SETTLE pattern (codes by pixel) -/
  pattern : Mem Nat := []
  /-- settle levels of the update in progress -/
  newLevels : List Nat := [0, 0, 0]
  /-- next latch row of the update -/
  latchRow : Nat := 0
  /-- the row's first attempt was rejected (R78) -/
  latchRetry : Bool := false
  /-- frame whose vertical gap holds the latest latch cycles, and their number (R77) -/
  gapFrame : Nat := 0
  gapCycles : Nat := 0
  /-- TSC of the latest row of the readback check (R78) -/
  checkedAt : Option Nat := none
  /-- next latch row of the readback check (R78) -/
  checkRow : Nat := 0
  /-- CUTOFF switch open (16 R384) -/
  switchOpen : Bool := true
  /-- TSC at which the switch last closed -/
  switchClosedAt : Nat := 0
  /-- VLED target in force, mV (04 R101) -/
  vled : Nat := 2800
  /-- VLED target of the frame in bank A, bank B, mV (R101) -/
  vledA : Nat := 2800
  vledB : Nat := 2800
  /-- TSC of the latest command of a higher VLED target (R101) -/
  vledRose : Option Nat := none
  /-- TSC since which VLED has been seen more than 100 mV below its target, more than 300 mV above it (R102) -/
  vledLow : Option Nat := none
  vledHigh : Option Nat := none
  /-- TSC of the latest fresh swap while the droop timer runs (R74) -/
  droopFrom : Option Nat := none
deriving DecidableEq, Repr

/-- A timing change that awaits its frame k (09 R230). -/
structure TimingPending where
  profile : Nat
  period : Nat
  frame : Nat
deriving DecidableEq, Repr

/-- The grid and the pitch that apply to the frame composed last (09 R231, R232). -/
structure GridShown where
  profile : Nat := 1
  period : Nat := 500000
  anchorTsc : Nat := 0
  anchorFrame : Nat := 0
  fallback : Bool := false
  skip : Bool := false
deriving DecidableEq, Repr

/-- The frame schedule (09). -/
structure Sched where
  /-- RUNNING -/
  running : Bool := false
  /-- grid in force: PROFILE, 0–3 -/
  profile : Nat := 1
  /-- grid in force: PERIOD, tk -/
  period : Nat := 500000
  /-- grid in force: ANCHOR_TSC -/
  anchorTsc : Nat := 0
  /-- grid in force: ANCHOR_FRAME -/
  anchorFrame : Nat := 0
  /-- FALLBACK: the grid of R231 runs -/
  fallback : Bool := false
  /-- CLK_PIX skip in force (R231) -/
  skip : Bool := false
  /-- first frame n0 of the schedule (R217) -/
  first : Nat := 0
  /-- frame of the next composition start -/
  nextComp : Nat := 0
  /-- latest frame composed in this schedule, or the frame before its first (06 R150) -/
  composed : Nat := 0
  /-- frame whose content cut-off has been taken -/
  cutDone : Option Nat := none
  /-- frame of the next swap instant -/
  nextSwap : Nat := 0
  /-- swap instant of that frame while a later frame is being composed -/
  swapTsc : Int := 0
  /-- swap − 1,000 tk decided: the next swap is executed (R112, R113) -/
  decided : Option Bool := none
  /-- frame n of the WITHHOLD reactions chosen by R228 -/
  withhold : List Nat := []
  /-- W(m) of the frame being written: the execution of the previous swap, or its instant -/
  writeStart : Nat := 0
  /-- frame being composed -/
  cur : Option CompFrame := none
  /-- frames the module withheld or abandoned itself, awaiting their swap instant (R113) -/
  ownWithheld : List Nat := []
  change : Option TimingPending := none
  /-- TSC of the latest compositor reinitialisation, until the first WRDONE after it (15 R365, Table 15.6) -/
  reinitAt : Option Nat := none
  /-- THROTTLE_PERIOD to record at the next composition start: its DATA (04 R108) -/
  fbNote : Option Nat := none
  /-- slots that DROP_LAYER switches off for the next frame composed (15 Table 15.2) -/
  dropNext : List Nat := []
  /-- the content cut-off taken last -/
  lastCut : Int := 0
  /-- the cut-off taken before that one (06 Table 6.8) -/
  prevCut : Int := 0
  /-- frames whose swap records PROFILE_APPLIED, each with its profile (R109) -/
  profileFrames : List (Nat × Nat) := []
  /-- frame whose 640 rows the scan-out has sent in full last (05 R113) -/
  sent : Option Nat := none
  /-- the grid that TIMING_STATUS reports: the one taken at the latest composition start (R231, R232) -/
  shown : GridShown := {}
  /-- LB_MIN, 0–8 -/
  lbMin : Nat := 0
  /-- T_LED latched at the latest composition start, as the sum of the eight sensors: 1/128 °C (03 R89) -/
  tLed : Int := 0
  /-- latest composed frame -/
  frame : Nat := 0
  /-- LAYER_OFFS, u32 -/
  layerOffs : Nat := 0
  /-- UNDERRUNS, u32 -/
  underruns : Nat := 0
  /-- HOLD_WITHHELD, u32 -/
  holdWithheld : Nat := 0
  /-- URGENT_FRAMES, u32 -/
  urgentFrames : Nat := 0
  /-- rows that are composed and wait for their transfer: the row packet last sent over the link -/
  link : Option SealedRow := none
deriving DecidableEq, Repr

/-- A Chest activation whose reference is being formed (07 R183, 12 R297). -/
structure Activation where
  image : ChestImage
  effectTsc : Nat
  msg : Msg
deriving DecidableEq, Repr

/-- The compositor's Chest and status (07). -/
structure Compositor where
  /-- Chest image in force -/
  chest : ChestImage := {}
  /-- CHEST_REF in force, u32 -/
  chestRef : Nat := 0
  /-- activation accepted, awaiting its effective frame: image, reference, frame -/
  chestNext : List (ChestImage × Nat × Nat) := []
  /-- activation whose reference is being formed -/
  activation : Option Activation := none
  /-- Chest image of the latest CHEST_ACTIVATE answered OK (12 R297, SAFETY_STORE) -/
  chestAccepted : ChestImage := {}
  /-- staging image, 2,568 bytes (R297) -/
  chestStage : Mem Byte := []
  /-- SETTLE data of the latest SETTLE_ACTIVATE answered OK -/
  settleAccepted : SettleData := {}
  /-- staged SETTLE pattern, 327,680 bytes (R298) -/
  settleStage : Mem Byte := []
  /-- CHEST_LAST, u32 -/
  chestLast : Nat := 0
  /-- CHEST_FAILS, u32 -/
  chestFails : Nat := 0
  /-- a STUCK pixel lay inside an active core in the latest frame (08 R203) -/
  stuckUnder : Bool := false
  /-- latest composed frame -/
  frame : Nat := 0
deriving DecidableEq, Repr

/-- The headers of a datagram the module sent (10 R241 to R244). -/
structure SentIp where
  port : Port
  /-- 802.1Q tag: priority and VID -/
  tag : Option (Nat × Nat)
  src : Nat
  dst : Nat
  srcPort : Nat
  dstPort : Nat
  ttl : Nat
  df : Bool
  fragment : Bool
deriving DecidableEq, Repr

/-- The way a reply or an event message left the module: the CAN identifier, or the headers of its datagram (10 R242 to R244, R254). -/
inductive Path where
  | can (id : Nat)
  | link (h : SentIp)
deriving DecidableEq, Repr

/-- A monitor frame in the ring (07 R189). -/
structure MonFrame where
  frame : Nat
  tap : Nat
  mode : Nat
  downOp : Nat
  /-- tapped rows so far, row 0 first -/
  rows : List (List Nat)
  /-- packets sent -/
  sent : Nat
  /-- the swap instant has passed: SHOWN -/
  shown : Option Bool
  layerOff : Bool
  chestFail : Bool
  scale : Nat
  swapTsc : Nat
  /-- VIEW_MIRROR of the frame -/
  mirrorX : Bool
  mirrorY : Bool
  /-- PCP of its packets -/
  pcp : Nat
  /-- check value of the payload, once every row is composed (20 R453) -/
  crc : Option Nat
deriving DecidableEq, Repr

/-- The monitor stream (07 R187 to R190). -/
structure Monitor where
  /-- configuration the frame in progress uses -/
  inForce : MonitorConfig := {}
  /-- a write that leaves the ring as it is, for the next composition start (R187) -/
  small : Option MonitorConfig := none
  /-- writes that change the ring: the frame from which each applies -/
  waiting : List (Nat × MonitorConfig) := []
  /-- MON_N, 1–255 -/
  effN : Nat := 1
  ring : List MonFrame := []
  /-- MON_SENT, u32 -/
  sent : Nat := 0
  /-- MON_SKIPPED, u32 -/
  skipped : Nat := 0
  /-- BRINE packet handed to port A last: its headers and the UDP payload (10 R242 to R245, R248) -/
  out : Option (SentIp × List Byte) := none
deriving DecidableEq, Repr

/-- The flux governor (04). -/
structure Governor where
  /-- SCALE of GOV_STATUS -/
  scale : Nat := 0
  /-- SCALE_BUDGET -/
  scaleBudget : Nat := 0
  /-- SCALE_FLOOR -/
  scaleFloor : Nat := 0
  /-- BUDGET, mA -/
  budget : Nat := 0
  /-- I_PRED, µA -/
  pred : Nat := 0
  /-- VLED_TARGET, mV -/
  vledTarget : Nat := 2800
  /-- thermal step n, 0–8 (R97) -/
  step : Nat := 0
  /-- THERM_STEP: n at the latch of the frame most recently scaled -/
  frameStep : Nat := 0
  /-- LIMITER, 0–4 -/
  limiter : Nat := 0
  /-- PROFILE of the frame most recently scaled -/
  profile : Nat := 0
  /-- CONFLICT_COUNT, u32 -/
  conflicts : Nat := 0
  /-- frames in the conflict run -/
  conflictRun : Nat := 0
  /-- the power term set s in the latest frame (POWER_LIMIT) -/
  powerSet : Bool := false
  /-- FRAME -/
  frame : Nat := 0
  /-- TSC of the entry or exit from which full seconds count -/
  stepFrom : Nat := 0
  /-- VF_MODEL entries 1–16, mV (R100) -/
  vfModel : List Nat := List.replicate 16 2800
  /-- R103 windows judged: the number of the latest plus 1 -/
  windowsDone : Nat := 0
  /-- effective budget in force, µA: that of the frame on show (R98, R103) -/
  inForce : Nat := 0
  /-- largest budget in force in the window of R103 that runs, and in the window before, µA -/
  windowMax : Nat := 0
  prevBudget : Nat := 0
deriving DecidableEq, Repr

/-! ### Sync chain -/

/-- Chain roles (05 Table 5.10). -/
inductive Role where
  | member | head | islandHead | unenumerated
deriving DecidableEq, Repr

/-- The sync chain (05). -/
structure Sync where
  role : Role := .member
  /-- the start window has ended (R126) -/
  started : Bool := false
  /-- TSC at which the start window ends -/
  windowEnd : Nat := 0
  /-- a valid symbol arrived in the start window -/
  heard : Bool := false
  /-- DEPTH, 0–511 -/
  depth : Nat := 0
  /-- CHAIN_LEN in force, L -/
  len : Nat := 512
  /-- EPOCH, 0–31 -/
  epoch : Nat := 0
  /-- CARRIER -/
  carrier : Bool := false
  /-- DEPTH_PENDING -/
  depthPending : Bool := false
  /-- the ENUM depth held pending (R128) -/
  pendingDepth : Nat := 0
  /-- LEN_SHORT -/
  lenShort : Bool := false
  /-- LINK_LONG -/
  linkLong : Bool := false
  /-- LINK_DELAY, 1/64 ns, u16 -/
  linkDelay : Nat := 0
  /-- TSC at which a new EPOCH was seen in HEAD (R123) -/
  epochSeen : Option Nat := none
  /-- an interconnect measurement is due (R123) -/
  measuring : Bool := false
  /-- LAST_FRAME: full number of the latest executed swap -/
  lastFrame : Option Nat := none
  /-- EXECUTED, u32 -/
  executed : Nat := 0
  /-- TIMED_SWAPS, u32 -/
  timedSwaps : Nat := 0
  /-- DUPLICATES, u32 -/
  duplicates : Nat := 0
  /-- FRAME_MISMATCH, u32 -/
  frameMismatch : Nat := 0
  /-- FRAME_MISMATCH was recorded in this run (R132) -/
  mismatchNoted : Bool := false
  /-- WITHHELD, u32 -/
  withheld : Nat := 0
  /-- BANK_MISMATCH, u32 -/
  bankMismatch : Nat := 0
  /-- LAST_EXEC_TSC, u64 -/
  lastExec : Nat := 0
  /-- ORIGIN of the latest HEAD -/
  origin : Nat := 0
  /-- EPOCH of the latest HEAD -/
  headEpoch : Nat := 0
  /-- RUN of the latest HEAD -/
  headRun : Bool := false
  /-- TSC of the latest HEAD -/
  headTsc : Option Nat := none
  /-- arrival of the last valid symbol (R131) -/
  lastSym : Nat := 0
  /-- a loss is in force (FS23) -/
  loss : Bool := false
  /-- consecutive valid symbols during a loss -/
  validRun : Nat := 0
  /-- consecutive missed SLUICE (R133) -/
  missed : Nat := 0
  /-- a run of timed swaps is in progress (TIMED_SWAP recorded) -/
  timedRun : Bool := false
  /-- SLUICE received for the next swap: frame low 16 bits and execution instant in units of 2.5 ns -/
  armed : Option (Nat × Nat) := none
  /-- frames driven as island head -/
  driven : Nat := 0
  /-- upstream HEAD confirmed (R135) -/
  upHead : Bool := false
  /-- upstream ENUM confirmed -/
  upEnum : Bool := false
  /-- the upstream chain is confirmed: this node drives one more swap (R135) -/
  confirmed : Bool := false
  /-- the last swap driven has passed; FS24 ends at the next swap instant (R135) -/
  rejoining : Bool := false
  /-- frame whose SLUICE symbol was sent last (R120) -/
  sluiceSent : Option Nat := none
  /-- the symbol sent last on SYNC_OUT -/
  lineOut : Option Sym := none
  /-- slot-end TSC of the slot sent last (R119) -/
  slotAt : Option Nat := none
deriving DecidableEq, Repr

/-! ### Time base, log -/

/-- An event record (01 R25, Table 1.4). -/
structure EventRec where
  /-- u64 -/
  tsc : Nat
  /-- u16 -/
  node : Nat
  /-- 12 bits -/
  source : Nat
  /-- u16 -/
  code : Nat
  /-- u16 -/
  data : Nat
deriving DecidableEq, Repr

/-- The Announce that a port received last (10 R249). -/
structure Announced where
  identity : List Nat
  hops : Nat
  source : Nat
  /-- TSC of its arrival -/
  arrived : Nat
  /-- announce interval, tk -/
  interval : Nat
deriving DecidableEq, Repr

/-- A gPTP frame the module sent (10 R249, R250). -/
structure GptpOut where
  port : Port
  /-- 0 peer-delay request, 1 peer-delay response, 2 relayed Sync with Follow_Up, 3 relayed Announce -/
  kind : Nat
  /-- correctionField in 2⁻¹⁶ ns and cumulativeScaledRateOffset in 2⁻⁴¹ of a relayed Sync -/
  correction : Int
  rate : Int
  /-- stepsRemoved of a relayed Announce -/
  hops : Nat
deriving DecidableEq, Repr

/-- The time base (01 R21 to R24, 10 R249 to R251). -/
structure TimeBase where
  /-- time accumulator in units of 2⁻³² ns -/
  acc : Nat := 0
  /-- TSC_TRIM, s32, units of 2⁻³² ns -/
  trim : Int := 0
  /-- number of the latest step since BOOT (R468) -/
  step : Nat := 0
  /-- GPTP: 0 no grandmaster, 1 acquiring, 2 locked, 3 lock lost -/
  gptp : Nat := 0
  /-- GPTP_HOPS -/
  hops : Nat := 0
  /-- GPTP_OFFSET, ns -/
  offset : Int := 0
  /-- consecutive Sync intervals within ±1,000 ns (R251) -/
  good : Nat := 0
  /-- TSC since which the offset has stayed above 1 ms while a schedule runs (R23) -/
  highFrom : Option Nat := none
  /-- gPTP frame the module sent last (10 R249, R250) -/
  gptpOut : Option GptpOut := none
  /-- propagation delay in ns and rate ratio to the neighbour at port A, B (10 R249) -/
  propA : Option (Nat × Int) := none
  propB : Option (Nat × Int) := none
  /-- TSC of the latest peer-delay request at port A, B -/
  pdelayA : Option Nat := none
  pdelayB : Option Nat := none
  /-- latest Announce at port A, B -/
  annA : Option Announced := none
  annB : Option Announced := none
  /-- TSC of the latest Sync and its interval in tk (10 R251) -/
  syncAt : Option (Nat × Nat) := none
deriving DecidableEq, Repr

/-- A record of the event log. -/
structure LogRec where
  /-- its number in the order of writing -/
  num : Nat
  event : EventRec
deriving DecidableEq, Repr

/-- The event log, Pan SRAM bank 1 (01 R27, 11 R281). -/
structure Log where
  /-- the latest 1,024 records, in the order of R27 -/
  recs : List LogRec := []
  /-- records overwritten, until every session has passed them -/
  gone : List LogRec := []
  /-- records written before BOOT -/
  base : Nat := 0
  /-- records written since BOOT -/
  written : Nat := 0
deriving DecidableEq, Repr

/-! ### Fault collector -/

/-- The fault collector (15). -/
structure Collector where
  /-- the collector runs (Table 1.10) -/
  running : Bool := false
  /-- FLT_STATUS, 64 bits -/
  status : BitVec 64 := 0
  /-- FLT_SEEN, 64 bits -/
  seen : BitVec 64 := 0
  /-- FLT_SHADOWED, 64 bits -/
  shadowed : BitVec 64 := 0
  /-- FLT_FORCE, 64 bits -/
  force : BitVec 64 := 0
  /-- level sources whose own condition holds -/
  cond : BitVec 64 := 0
  /-- level sources asserted only under a shadow (R363) -/
  masked : BitVec 64 := 0
  /-- level sources whose WITHHOLD is carried out while they stay asserted (R353) -/
  withholding : BitVec 64 := 0
  /-- sources with a KIND 3 record in the present shadow period -/
  shadowNoted : BitVec 64 := 0
  /-- DATA of the latest assertion of each source, which the KIND 2 record of a level source repeats -/
  datas : List Nat := List.replicate 48 0
  /-- FIRST_SRC and FIRST_TSC while VALID -/
  first : Option (Nat × Nat) := none
  /-- FLT_OVERFLOW -/
  overflow : Bool := false
  /-- SETTLE_AS_DARK -/
  settleAsDark : Bool := false
  /-- REACTION, 0–6 -/
  reaction : Nat := 0
  /-- RECOVERING: TSC of the acceptance, from which the gap of R370 counts -/
  recovering : Option Nat := none
  /-- MP_RESTARTS, u16 -/
  mpRestarts : Nat := 0
  /-- ASSERT_COUNT, 48 × u16 -/
  counts : List Nat := List.replicate 48 0
  /-- records written per source in the present window (R362) -/
  recCounts : List Nat := List.replicate 48 0
  /-- number of that window: TSC / 100,000,000 -/
  recWindow : Nat := 0
  /-- TSC of the latest unshadowed assertion of a CONTAINED or FATAL source (R361) -/
  lastAssert : Nat := 0
  /-- actions of Table 15.6 in effect -/
  shadows : List Action := []
  /-- ALIVE pair toggles (R366) -/
  alive : Bool := false
  /-- module reset begun and not yet at BOOT (R358) -/
  resetPending : Bool := false
  /-- CUTOFF opened for a reaction in IDLE (R359) or BOOT, LOADER -/
  heldByReaction : Bool := false
deriving DecidableEq, Repr

/-! ### Safe-Dim -/

/-- The Safe-Dim states (16 Table 16.4). -/
inductive DimState where
  | quiet | ramp | applied
deriving DecidableEq, Repr

/-- The Safe-Dim block (16). -/
structure SafeDim where
  /-- the comparator's latest samples, newest first, at most ten: A asserted, B asserted -/
  samples : List (Bool × Bool) := []
  /-- TSC of the latest sample (R372) -/
  sampledAt : Option Nat := none
  /-- filtered SDIM_A asserted -/
  a : Bool := false
  /-- filtered SDIM_B asserted -/
  b : Bool := false
  /-- the first filtered level has been taken (R373) -/
  valid : Bool := false
  state : DimState := .quiet
  /-- a demand is in force (R374) -/
  demand : Bool := false
  /-- TARGET of the demand: 0 none, 1–3 -/
  target : Nat := 0
  /-- T_DISC of the demand, ms -/
  tDisc : Nat := 50
  /-- T_RAMP of the demand, ms -/
  tRamp : Nat := 500
  /-- T0_TSC -/
  t0 : Nat := 0
  /-- T_END_TSC -/
  tEnd : Nat := 0
  /-- I0, µA -/
  i0 : Nat := 0
  /-- I_END, µA -/
  iEnd : Nat := 0
  /-- ENVELOPE at the latest ramp tick, µA -/
  envelope : Nat := 0
  /-- LAST_MEAN, µA -/
  lastMean : Nat := 0
  /-- the IDLE ramp (18 R408): t0, t_end, I0 -/
  idleRamp : Option (Nat × Nat × Nat) := none
  /-- tick t_a of the disagreement (R380) -/
  disagree : Option Nat := none
  /-- the proof window: t_p -/
  proofFrom : Option Nat := none
  /-- PROOF_WINDOW taken at BOOT, ms -/
  proofWindow : Nat := 5000
  /-- tick a of R381: both asserted since -/
  bothFrom : Option Nat := none
  /-- tick b reached with b − a long enough -/
  bothLong : Bool := false
  /-- both channels have been asserted together -/
  everBoth : Bool := false
  /-- PROOF_SEEN -/
  proofSeen : Bool := false
  /-- PROOF_TSC -/
  proofTsc : Nat := 0
  /-- the proof transition waits for calibration loading (14 R344) -/
  proofWaits : Bool := false
  /-- DARK or CUTOFF applied by the demand outside FULL and SAFE -/
  heldByDemand : Bool := false
  /-- DEMANDS, u32 -/
  demands : Nat := 0
  /-- WITHDRAWN, u32 -/
  withdrawn : Nat := 0
  /-- DISCREPANCIES, u32 -/
  discrepancies : Nat := 0
  /-- PULSES, u32 -/
  pulses : Nat := 0
  /-- PULSE_FAILS, u32 -/
  pulseFails : Nat := 0
  /-- PULSE_RETEST -/
  retest : Bool := false
  /-- PROOF_LATE -/
  proofLate : Bool := false
  /-- window of R103 (TSC / 100,000) in which SRC_SEL last went to settle -/
  settleFrom : Nat := 0
  /-- window of R103 in which SRC_SEL last returned to bank -/
  settleTo : Nat := 0
  /-- the channels have been asserted together long enough since t_p (R382) -/
  everLong : Bool := false
  /-- due TSC of the latest test pulse made or deferred (R385) -/
  pulseAt : Option Nat := none
  /-- a deferred pulse waits (R385) -/
  pulseWaits : Bool := false
  /-- TSC at which a failed pulse is repeated (R386) -/
  retestAt : Option Nat := none
  /-- TSC of the latest test pulse made (R385) -/
  pulsedAt : Option Nat := none
  /-- FS15 has ended the checks of this demand's ramp (Table 16.1) -/
  rampTripped : Bool := false
  /-- window of R103 that the ramp check has judged last (R379) -/
  rampWindow : Option Nat := none
  /-- TSC since which the switch position has differed from its command, and whether FS18 was raised for it (R384) -/
  differs : Option Nat := none
  differsNoted : Bool := false
deriving DecidableEq, Repr

/-! ### Rake -/

/-- A candidate of the table (13 R311). -/
inductive Cand where
  /-- pixel and result: 1 DEAD, 3 STUCK -/
  | pixel (p : Nat) (cls : Nat)
  /-- bridge pair: the pixel and its right or lower neighbour -/
  | pair (p : Nat) (q : Nat)
deriving DecidableEq, Repr

/-- A delta record of the fault-map ring (13 Table 13.4). -/
structure Delta where
  pixel : Nat
  cls : Nat
  /-- 0 none, 1 right neighbour, 2 lower neighbour -/
  link : Nat
deriving DecidableEq, Repr

/-- A probe or sweep window in progress (13 R301, R316). -/
structure RakeWindow where
  row : Nat
  /-- TSC of its start -/
  start : Nat
  sweep : Bool
  /-- a sweep window's converters are ready (14 R328) -/
  ready : Bool
  /-- pixels of the cursor block whose samples an urgent request has touched (14 R334) -/
  touched : List Nat
deriving DecidableEq, Repr

/-- Rake (13), Pan SRAM bank 3. -/
structure Rake where
  /-- next row to be probed, 0–639 -/
  nextRow : Nat := 0
  /-- start of the frame or cadence whose windows are counted (R306, R307) -/
  base : Nat := 0
  /-- its probe windows, r of R107 or 11; 0 when none of it is used -/
  rows : Nat := 0
  /-- how far latch updates have shifted its windows (R308) -/
  shift : Nat := 0
  /-- the next of its windows -/
  windows : Nat := 0
  /-- the window in progress -/
  window : Option RakeWindow := none
  /-- its sweep window has been made -/
  swept : Bool := false
  /-- codes by pixel: 0 OK, 1 DEAD, 2 BRIDGED, 3 STUCK; unlisted reads 0 (R310) -/
  map : Mem Nat := []
  /-- bridge list: at most 4,096 pairs (R312) -/
  bridges : List (Nat × Nat) := []
  /-- candidate table: at most 4,096 entries -/
  cands : List Cand := []
  /-- CANDIDATE_OVERFLOW recorded until there is room -/
  overflow : Bool := false
  /-- CANDIDATE_DROPS, u32 -/
  drops : Nat := 0
  /-- tiles that raised FS19 -/
  tiles : List Nat := []
  /-- map entries not yet in flash (R315) -/
  queue : List Delta := []
  /-- PASSES, u32 -/
  passes : Nat := 0
  /-- LAST_PASS_TSC -/
  lastPass : Nat := 0
  /-- end of the previous window of each row (R309) -/
  lastProbe : Mem Nat := []
  /-- sweep cursor j (R317) -/
  cursor : Nat := 0
  /-- VF_SWEEPS, u32 -/
  sweeps : Nat := 0
  /-- VF_SKIPPED, u32 -/
  skipped : Nat := 0
  /-- PULSES_DEFERRED, u32 -/
  deferred : Nat := 0
  /-- DVF by pixel, u16, 0.25 mV (R318); DRAM protected class -/
  dvf : Mem Nat := []
  /-- VF_MAX_25 in units of 0.25 mV (R320) -/
  vfMax : Nat := 9600
  /-- WORN_COUNT (03 R86) -/
  worn : Nat := 0
  /-- the map is restored (R315) -/
  restored : Bool := false
  /-- TSC of the latest VF_MODEL rewrite (R320) -/
  vfAt : Nat := 0
  /-- STATE of RAKE_STATUS: 0 suspended, 1 framed, 2 free-running (R305) -/
  mode : Nat := 0
  /-- end of the latest suspension (R309) -/
  resumedAt : Nat := 0
  /-- time in PROOF_PENDING, FULL, SAFE or IDLE counted from here to the next snapshot (R315) -/
  snapFrom : Nat := 0
deriving DecidableEq, Repr

/-! ### Converters and calibration -/

/-- What a calibration slot or the factory trim holds (14 Table 14.8). -/
structure CalData where
  /-- working set, 512 bytes (Table 14.5) -/
  working : Mem Byte := []
  /-- TCURVE_0–3; an unlisted entry reads the linear table of R88 -/
  tcurves : List (Mem Nat) := [[], [], [], []]
  /-- uniformity map by pixel; an unlisted entry reads 1024 -/
  uniformity : Mem Nat := []
  /-- VF_BASE by pixel, u8; unlisted reads 0 -/
  vfBase : Mem Nat := []
deriving DecidableEq, Repr

/-- A programmed calibration slot (14 R342). The CRC field is held by what it shows: whether it checks. -/
structure CalSlot where
  sequence : Nat
  format : Nat
  content : CalData
  /-- CRC checks over bytes 12 to the end of the payload -/
  crcGood : Bool := true
deriving DecidableEq, Repr

/-- The factory working set's bytes that are not 0 (Table 14.5): FORMAT 1, R_CAL 50,000,000, gains 1.0, VF_TEMPCO −1,600, and an
AGEING_CURVE that rises by 1 mV a point at factor 1.0. -/
def factoryWorking : Mem Byte :=
  [(0, 0x01), (20, 0x80), (21, 0xF0), (22, 0xFA), (23, 0x02), (27, 0x40), (31, 0x40), (46, 0xC0), (47, 0xF9), (83, 0x40)] ++
  ((List.range 31).flatMap fun k => [(84 + 4 * k, BitVec.ofNat 8 (k + 1)), (87 + 4 * k, 0x40)]) ++
  ((List.range 14).map fun k => (211 + 4 * k, (0x40 : Byte)))

/-- The factory trim record of flash (14 R344). -/
def factoryTrim : CalData := { working := factoryWorking }

/-- The converters and the calibration working set (14), Pan SRAM bank 2. -/
structure Converters where
  /-- A WARM, A CONV_REF_READY, B WARM, B CONV_REF_READY -/
  aWarm : Bool := false
  aReady : Bool := false
  bWarm : Bool := false
  bReady : Bool := false
  /-- TSC of the latest timed sequence due (R329) -/
  timedAt : Nat := 0
  /-- working set, transfer curves, uniformity map, VF_BASE in force -/
  cal : CalData := factoryTrim
  /-- staging copies of TCURVE_0–3 (12 TCURVE_WRITE) -/
  tstage : List (Mem Nat) := [[], [], [], []]
  /-- correction map by pixel, Table 3.11; an unlisted entry reads 1024 -/
  corr : Mem Nat := []
  /-- AGEING_CURVE in use: points of DVF in 0.25 mV and FACTOR (13 R319) -/
  ageing : List (Nat × Nat) := []
  /-- calibration is loaded (R344) -/
  loaded : Bool := false
  /-- URGENT_DROP, u32 -/
  urgentDrop : Nat := 0
  /-- TSC until which the urgent slot is occupied (R333) -/
  urgentUntil : Option Nat := none
  /-- window of the latest URGENT_DROP record -/
  urgentWindow : Option Nat := none
  /-- TAINTED, u32 -/
  tainted : Nat := 0
  /-- REPEATS, u32 -/
  repeats : Nat := 0
  /-- TAINT_EXHAUSTED, u32 -/
  exhausted : Nat := 0
  /-- inputs whose TAINT_EXHAUSTED is recorded -/
  exhaustedNoted : List Nat := []
  /-- OVR_COUNT, u32 -/
  ovr : Nat := 0
  /-- UNR_COUNT, u32 -/
  unr : Nat := 0
  /-- REF_NOT_READY, u32 -/
  notReady : Nat := 0
  /-- window of the latest REF_NOT_READY record -/
  notReadyWindow : Option Nat := none
  /-- result of the latest urgent request: input and corrected reading in 1/16 LSB (R333) -/
  urgentResult : Option (Nat × Int) := none
  /-- latest completed readings of inputs 1–23, in their units -/
  readings : List Int := List.replicate 23 0
  /-- flags of those readings: bit 0 OVR, 1 UNR, 2 TAINT (R331) -/
  readingFlags : List Nat := List.replicate 23 0
  /-- SELFTEST_FAILS, u32 -/
  selfFails : Nat := 0
  /-- consecutive failing tests -/
  selfRun : Nat := 0
  /-- TSC of the latest self-test (R336) -/
  selfAt : Option Nat := none
  /-- passes of the calibration run that are complete, and the start of the one in progress (R339) -/
  passes : List CalPass := []
  passFrom : Option Nat := none
  /-- LAST_SCAN_TSC -/
  lastScan : Nat := 0
deriving DecidableEq, Repr

/-! ### Links, gate, MP -/

/-- A frame that waits in an egress queue of the switch (10 R239). -/
structure EgressFrame where
  /-- 0 lowest to 3 highest -/
  queue : Nat
  bytes : Nat
  /-- TSC at which it joined -/
  joined : Nat
deriving DecidableEq, Repr

/-- An egress port of the switch (10 R238, R239). -/
structure Egress where
  /-- the frames that wait, in the order of arrival -/
  waiting : List EgressFrame := []
  /-- end of the transmission in progress, in units of 0.1 ns of the TSC -/
  busyUntil : Nat := 0
deriving DecidableEq, Repr

/-- A frame the switch forwarded (10 R237, R238). -/
structure Forwarded where
  port : Port
  frame : EthFrame
  cutThrough : Bool
deriving DecidableEq, Repr

/-- An ARP the module sent (10 R240, R241). -/
structure ArpSent where
  port : Port
  gratuitous : Bool
  tag : Option (Nat × Nat)
deriving DecidableEq, Repr

/-- The link ports and the switch (10). -/
structure Links where
  /-- LINK_CONFIG applied at the latest BOOT (all but HOST_TIMEOUT) -/
  inForce : LinkConfig := {}
  /-- A_STATE: 0 down, 1 training, 2 up -/
  aState : Nat := 0
  /-- A_SPEED -/
  aSpeed : Nat := 0
  /-- B_STATE -/
  bState : Nat := 0
  /-- B_SPEED -/
  bSpeed : Nat := 0
  /-- TSC at which port A, B reported its link false -/
  aDown : Option Nat := none
  bDown : Option Nat := none
  /-- FCS_ERRORS, u32 -/
  fcsErrors : Nat := 0
  /-- EGRESS_DROP, u32 -/
  egressDrop : Nat := 0
  /-- BRINE_UNBOUND, u32 -/
  unbound : Nat := 0
  /-- BRINE_FORMAT, u32 -/
  badFormat : Nat := 0
  /-- BRINE_ORDER, u32 -/
  badOrder : Nat := 0
  /-- BRINE_ABANDONED, u32 -/
  abandoned : Nat := 0
  /-- LAST_HOST_TSC, u64 -/
  lastHost : Nat := 0
  /-- latest arrival (or schedule start) from which host silence is judged (R252) -/
  silenceFrom : Nat := 0
  /-- the port on which the latest accepted frame of an address arrived (R244) -/
  peers : List (Nat × Port) := []
  /-- the PHY of port A, B is master (R234) -/
  aMaster : Bool := false
  bMaster : Bool := false
  /-- egress queues of port A, B (R239) -/
  egressA : Egress := {}
  egressB : Egress := {}
  /-- frame forwarded last -/
  forwarded : Option Forwarded := none
  /-- frame delivered last to the internal port and accepted there -/
  delivered : Option EthFrame := none
  /-- ARP sent last -/
  arp : Option ArpSent := none
  /-- a gratuitous ARP waits for a link (R240) -/
  arpDue : Bool := false
  /-- IPv4 address in force, none when unenumerated under DERIVED (R240) -/
  ip : Option Nat := none
deriving DecidableEq, Repr

/-- A segmented reception (10 R255). -/
structure IsoRx where
  /-- FF_DL -/
  total : Nat
  bytes : List Byte
  /-- next sequence number -/
  next : Nat
  /-- TSC of the latest frame -/
  last : Nat
deriving DecidableEq, Repr

/-- A segmented transmission that waits for flow control (10 R255). -/
structure IsoTx where
  bytes : List Byte
  /-- bytes sent -/
  sent : Nat
  /-- next sequence number -/
  next : Nat
  /-- WAIT frames since the last block -/
  waits : Nat
  /-- TSC from which N_Bs counts -/
  since : Nat
deriving DecidableEq, Repr

/-- A frame the service port sent (10 R254, R255). -/
structure CanSent where
  /-- TSC before which it does not leave: STmin -/
  due : Nat
  id : Nat
  data : List Byte
deriving DecidableEq, Repr

/-- The service port (10 R253 to R257). -/
structure CanPort where
  /-- CAN_CONFIG applied at the latest BOOT -/
  inForce : CanConfig := {}
  /-- BUS_OFF -/
  busOff : Bool := false
  /-- ERROR_PASSIVE -/
  errPassive : Bool := false
  /-- CAN_BUS_OFF, u32 -/
  busOffs : Nat := 0
  /-- ISOTP_ERRORS, u32 -/
  isoErrors : Nat := 0
  rx : Option IsoRx := none
  /-- complete message passed to the gate last -/
  complete : Option (List Byte) := none
  /-- frames sent, the latest first -/
  tx : List CanSent := []
  /-- the message being sent in segments -/
  sending : Option IsoTx := none
  /-- messages that wait for it, oldest first -/
  sendq : List (List Byte) := []
deriving DecidableEq, Repr

/-- A session (11 R262, Table 11.12). -/
structure Session where
  /-- 1–0xFFFF -/
  id : Nat
  domain : Domain
  ep : Endpoint
  /-- endpoint of the latest accepted message, where event messages go -/
  evEp : Endpoint
  high : List Msg := []
  norm : List Msg := []
  bulk : List Msg := []
  freshHigh : Nat := 0
  freshNorm : Nat := 0
  freshBulk : Nat := 0
  /-- outgoing counter (R273) -/
  freshOut : Nat := 0
  /-- EVENT_LOSS, u32 -/
  eventLoss : Nat := 0
  /-- LOSS waiting for the next event message -/
  loss : Nat := 0
  /-- ACCEPTED, u32 -/
  accepted : Nat := 0
  lastArrival : Nat
  opened : Nat
  /-- K_HM, 16 bytes (19 R432) -/
  kHm : List Byte
  /-- K_MH, 16 bytes -/
  kMh : List Byte
  /-- event filter, 384 bits (12 EVENT_FILTER) -/
  filter : BitVec 384 := BitVec.allOnes 384
  /-- every record numbered below is delivered or passed -/
  evNext : Nat
  /-- later records that are delivered already: records do not always come in the order of R27 -/
  evDone : List Nat := []
  /-- SEQUENCE of the next event message -/
  evSeq : Nat := 0
  /-- records delivered in the window of R281 -/
  evCount : Nat := 0
  /-- number of that window: TSC / 100,000,000 -/
  evWindow : Nat := 0
deriving DecidableEq, Repr

/-- A reply handed to the transport (11 R272). -/
structure Reply where
  ep : Endpoint
  /-- how it left: none when the port is silent or down, or its queue is full -/
  path : Option Path := none
  tsc : Nat
  flags : Nat
  opcode : Nat
  session : Nat
  sequence : Nat
  freshness : Nat
  context : Nat
  status : Nat
  detail : Nat
  data : List Byte
  /-- 8 bytes -/
  tag : List Byte
deriving DecidableEq, Repr

/-- The mailbox gate (11). -/
structure Gate where
  sessions : List Session := []
  /-- number issued last (R262) -/
  lastId : Nat := 0
  /-- opening FRESHNESS of INFO, LIGHT, SAFETY, SERVICE (19 R433) -/
  openFresh : List Nat := [0, 0, 0, 0]
  /-- opening requests that wait for the MP, oldest first -/
  openings : List Msg := []
  /-- E_AUTH count of the window (R274) -/
  authCount : Nat := 0
  /-- number of that window -/
  authWindow : Nat := 0
  /-- AUTH_MUTED -/
  muted : Bool := false
  /-- RUNTS, u32 -/
  runts : Nat := 0
  /-- VERSION_REJECTS -/
  verRejects : Nat := 0
  /-- LENGTH_REJECTS -/
  lenRejects : Nat := 0
  /-- AUTH_REJECTS -/
  authRejects : Nat := 0
  /-- QUEUE_REJECTS -/
  queueRejects : Nat := 0
  /-- FRESH_REJECTS -/
  freshRejects : Nat := 0
  /-- DOMAIN_REJECTS -/
  domRejects : Nat := 0
  /-- BUSY_REPLIES -/
  busyReplies : Nat := 0
  /-- FULL_REJECTS -/
  fullRejects : Nat := 0
  /-- SESSIONS_LOST -/
  lost : Nat := 0
  /-- replies and event messages handed to the transport, latest first -/
  outbox : List Reply := []
deriving DecidableEq, Repr

/-- A long operation in progress (12 R291). -/
structure LongOp where
  opcode : Nat
  arrival : Nat
deriving DecidableEq, Repr

/-- The message the MP has served last (11 R278). -/
structure Served where
  opcode : Nat
  /-- it was applied: answered OK -/
  applied : Bool
  /-- its reply, if it had one -/
  reply : Option Reply
  /-- the key of the reply's tag; none for an untagged one -/
  key : Option (List Byte)
deriving DecidableEq, Repr

/-- The management processor (11 R275 to R278, 15 R357). -/
structure Mp where
  /-- MP_RESTARTING: TSC of the start of the restart -/
  restarting : Option Nat := none
  /-- TSC of the end of the latest restart -/
  endedAt : Nat := 0
  /-- the restart in progress is the second one (R357) -/
  second : Bool := false
  /-- TSC of the latest watchdog service -/
  serviced : Nat := 0
  /-- MP_LOAD, 0–100 -/
  load : Nat := 0
  /-- TSC at which the window of MP_LOAD began (11 R276) -/
  loadAt : Nat := 0
  /-- LOAD_HIGH -/
  loadHigh : Bool := false
  long : List LongOp := []
  /-- Chest and SETTLE data a running SAFETY_STORE has taken -/
  storeChest : ChestImage := {}
  storeSettle : SettleData := {}
  /-- calibration a running CAL_STORE has copied (14 R343) -/
  storeCal : CalData := {}
  /-- settings a running SETTINGS_STORE has taken -/
  storeSettings : Settings := {}
  /-- the message served last, while its reply may still be in hand (11 R278) -/
  served : Option Served := none
deriving DecidableEq, Repr

/-! ### Memories, power, security, check values -/

/-- A byte lane's trained state (17 R395). -/
structure Lane where
  readDelay : Nat := 0
  writeDelay : Nat := 0
  eye : Nat := 64
deriving DecidableEq, Repr

/-- The DRAM controller (17). -/
structure Dram where
  lanes : List Lane := List.replicate 4 {}
  /-- training failed: TSC of the latest training (R396) -/
  trainFailed : Option Nat := none
  /-- requests waiting, in order of arrival -/
  queue : List DramReq := []
  /-- by channel: the 64 check lines used most recently, latest first (R392) -/
  checkLines : List (List Nat) := [[], []]
  /-- open row by channel × 8 + bank -/
  openRows : Mem Nat := []
  /-- counter table of each bank, by channel × 8 + bank: row and count (R402) -/
  tables : Mem (List (Nat × Nat)) := []
  /-- refresh-rate multiple by channel (R397) -/
  refresh : List Nat := [1, 1]
  /-- start of the refresh window in force, by channel (R397, R402) -/
  windowFrom : List Nat := [0, 0]
  /-- latest reading of the interval oscillator and of MR4, by channel (R397) -/
  driftAt : List (Option Nat) := [none, none]
  /-- request served last -/
  served : Option DramReq := none
  /-- by channel: the block whose waiting read follows the write served last (R401) -/
  follow : List (Option Nat) := [none, none]
  /-- by channel: number of the latest interval of R400 and BULK accesses served in it -/
  bulk : List (Nat × Nat) := [(0, 0), (0, 0)]
  /-- rows refreshed last: channel × 8 + bank, rows (R402, R403) -/
  refreshed : Option (Nat × List Nat) := none
deriving DecidableEq, Repr

/-- Power states, supply and heat (02, 18). -/
structure Power where
  /-- HOLD_READY (02 R52) -/
  holdReady : Bool := false
  /-- the HOLD rail has been ready: FS37 watches it (02 R52) -/
  holdWatched : Bool := false
  /-- first TSC of VIN below V_BO (02 R47) -/
  belowFrom : Option Nat := none
  /-- end of the FS44 blind window (R48) -/
  blindUntil : Option Nat := none
  /-- flash work is allowed (18 R425) -/
  flashAllowed : Bool := false
  /-- WAKE_REPORT, 16 bits -/
  wakeReport : Nat := 0
  /-- RETAIN, bank mask -/
  retain : Nat := 0
  /-- signatures of banks 0 to 4 in the always-on domain (Table 18.2) -/
  signatures : List Nat := []
  /-- banks kept through the latest STANDBY whose signature matched (R416), until the next BOOT -/
  kept : Nat := 0
  /-- LASTGASP_RESULT, 0–6 -/
  lgResult : Nat := 0
  /-- LASTGASP_TSC -/
  lgTsc : Nat := 0
  /-- result to report at the next PROOF_PENDING (Table 18.8), 0 none -/
  lgPending : Nat := 0
  /-- a last-gasp save is in progress: assertion TSC and state word before -/
  saving : Option (Nat × Nat) := none
  /-- REFUSALS, 6 × u32 -/
  refusals : List Nat := List.replicate 6 0
  /-- STANDBY_S -/
  standbyS : Nat := 0
  /-- selected wake sources -/
  wakeSel : List WakeSrc := []
  /-- TIMER, s -/
  timer : Nat := 0
  /-- a wake source seen at the completion of the entry (Table 18.2 step 4) -/
  wakeAtEntry : Option WakeSrc := none
  /-- CLK_CPU halved (R424) -/
  cpuHalf : Bool := false
  /-- the erase of a last-gasp slot is wanted (R418) -/
  slotWanted : Bool := false
deriving DecidableEq, Repr

/-- The update control record (19 R439, Table 19.5). -/
structure ControlRec where
  sequence : Nat := 1
  /-- 0 CONFIRMED, 1 INTENT, 2 RECEIVING, 3 VERIFIED, 4 ACTIVATED -/
  stage : Nat := 0
  boots : Nat := 0
  imageBytes : Nat := 256
  nextOffset : Nat := 256
  fwVersion : Nat := 1
  /-- 32 bytes -/
  digest : List Byte := List.replicate 32 0
deriving DecidableEq, Repr

/-- A last-gasp slot (18 R418, Table 18.7). -/
inductive LgSlot where
  | erased
  | invalid
  | valid (sequence : Nat) (tsc : Nat) (state : Nat) (frame : Nat) (status : List Byte) (recs : List EventRec) (deltas : List Delta)
deriving DecidableEq, Repr

/-- A fault-map snapshot slot (13 Table 13.4). -/
structure Snapshot where
  sequence : Nat
  map : Mem Nat
  dvf : Mem Nat
  bridges : List (Nat × Nat)
deriving DecidableEq, Repr

/-- The flash (01 Table 1.1, 13, 14, 18, 19). -/
structure Flash where
  /-- latest valid settings record: SETTINGS_FORMAT and content -/
  settings : Option (Nat × Settings) := none
  control : ControlRec := {}
  /-- firmware slot, bytes (19 R436) -/
  image : Mem Byte := [(0, 0x53), (1, 0x50), (2, 0x54), (3, 0x31), (4, 0x01), (8, 0x01), (13, 0x01), (20, 0x01), (22, 0x01)]
  /-- flash safety area: two copies, none when the copy fails its CRC -/
  safety : List (Option (ChestImage × SettleData)) := [some ({}, {}), some ({}, {})]
  /-- calibration slots A and B, none when invalid -/
  calA : Option CalSlot := some { sequence := 1, format := 1, content := factoryTrim }
  calB : Option CalSlot := none
  /-- factory trim record -/
  trim : CalData := factoryTrim
  snapA : Option Snapshot := some { sequence := 1, map := [], dvf := [], bridges := [] }
  snapB : Option Snapshot := none
  /-- delta log, oldest first -/
  delta : List Delta := []
  /-- 16 last-gasp slots -/
  lastgasp : List LgSlot := List.replicate 16 .erased
  /-- highest sequence reported before -/
  lgReported : Nat := 0
  /-- event archive -/
  archive : List EventRec := []
deriving DecidableEq, Repr

/-- Fuses and the Locker (19 R429 to R431). -/
structure Fuses where
  variant : Variant := .f
  /-- 48 bits -/
  mac : Nat := 0x020000000001
  /-- u64 -/
  serial : Nat := 1
  /-- u32 -/
  loaderVersion : Nat := 1
  /-- 0–3; modules ship PROVISIONED (R430) -/
  lifecycle : Nat := 1
  /-- K_INFO, K_LIGHT, K_SAFETY, K_SERVICE: 16 bytes each -/
  keys : List (List Byte) := [List.replicate 16 1, List.replicate 16 2, List.replicate 16 3, List.replicate 16 4]
  /-- blown ROLLBACK fuses, 0–64 -/
  rollback : Nat := 0
  /-- zeroise fuses blown -/
  zeroised : Bool := false
  /-- IMG_PUB_0 and IMG_PUB_1: 64 bytes each (R431) -/
  imgPub : List (List Byte) := [List.replicate 64 5, List.replicate 64 6]
  /-- the debug-enable fuse is blown (R430) -/
  debugBlown : Bool := false
deriving DecidableEq, Repr

/-- Update and security functions (19). -/
structure Update where
  /-- LOADER_CAUSE, 0xFF not in LOADER -/
  loaderCause : Nat := 0xFF
  /-- VERIFIED_OK -/
  verifiedOk : Bool := false
  /-- LAST_RESULT, status code -/
  lastResult : Nat := 0
  /-- LAST_TSC -/
  lastTsc : Nat := 0
  /-- expected next offset (R442) -/
  expected : Nat := 0
  /-- start and bytes of the block in progress -/
  block : Option (Nat × Mem Byte) := none
  /-- LOADER_BAD failures since BOOT -/
  loaderBad : Nat := 0
  /-- the loader failed its check: TSC of the latest check (R435) -/
  loaderWait : Option Nat := none
  /-- FW_VERSION running, 0 in LOADER -/
  fwVersion : Nat := 0
  /-- OPENS, u32 -/
  opens : Nat := 0
  /-- OPEN_REJECTS, 4 × u32 -/
  openRejects : List Nat := [0, 0, 0, 0]
deriving DecidableEq, Repr

/-- A parameter set of a check-value unit (20 Table 20.2). -/
structure CheckParams where
  width : Nat
  refin : Bool
  refout : Bool
  poly : Nat
  init : Nat
  xorout : Nat
deriving DecidableEq, Repr

/-- SET 0 of Table 20.3: the CRC-32 of IEEE 802.3. -/
def set0 : CheckParams :=
  { width := 32, refin := true, refout := true, poly := 0x04C11DB7, init := 0xFFFFFFFF, xorout := 0xFFFFFFFF }

/-- A saved job of CVU3: its parameter set, RUNNING and COUNT (20 R456), and whether it carries an expected value. -/
structure CvuJob where
  param : CheckParams
  reg : Nat
  count : Nat
  compare : Bool
deriving DecidableEq, Repr

/-- One check-value unit (20 R459, Table 20.4). -/
structure Cvu where
  selftestOk : Bool := false
  lastMismatch : Bool := false
  compare : Bool := false
  running : Bool := false
  /-- the set in force -/
  param : CheckParams := set0
  /-- RUNNING and COUNT of the job (R454) -/
  reg : Nat := 0
  count : Nat := 0
  /-- jobs saved, the latest first (R456); CVU3 only -/
  saved : List CvuJob := []
  jobs : Nat := 0
  mismatches : Nat := 0
  lastValue : Nat := 0
  lastTsc : Nat := 0
deriving DecidableEq, Repr

/-- The operating state (01 R31, R32). -/
structure Mode where
  op : OpState := .off
  /-- SAFE_KIND: 0 none, 1 HOLD, 2 SETTLE, 3 DARK, 4 CUTOFF -/
  safeKind : Nat := 0
  /-- CAL_LIMITED -/
  calLimited : Bool := false
  /-- UNCONFIRMED -/
  unconfirmed : Bool := false
deriving DecidableEq, Repr

/-- The state of the module. -/
structure State where
  mode : Mode := {}
  time : TimeBase := {}
  log : Log := {}
  cfg : Settings := {}
  arr : PixelArray := {}
  sched : Sched := {}
  comp : Compositor := {}
  mon : Monitor := {}
  gov : Governor := {}
  drw : Drawers := {}
  sync : Sync := {}
  flt : Collector := {}
  dim : SafeDim := {}
  rake : Rake := {}
  conv : Converters := {}
  link : Links := {}
  can : CanPort := {}
  gate : Gate := {}
  mp : Mp := {}
  dram : Dram := {}
  pwr : Power := {}
  upd : Update := {}
  flash : Flash := {}
  fuse : Fuses := {}
  /-- CVU0 to CVU3 -/
  cvus : List Cvu := List.replicate 4 {}
  /-- the commands that wait, first in, first out -/
  pending : List Instr := []
deriving DecidableEq, Repr

/-- The module right after reset: as shipped, without power (OFF of Table 1.9); VIN_RISE starts it. -/
def State.reset : State := {}

end Sys2Proof.Machine
end

