-- ==== Sys2Proof/Machine/Egress.lean ====
section
/-!
DEFINITION. The egress queues of the link ports (10 R238, R239), as functions of the link state and the time.
-/

namespace Sys2Proof.Machine

/-- A 32-bit counter that wraps. -/
def incr32 (n : Nat) : Nat := (n + 1) % 4294967296

/-- The time of one byte at a speed of Table 10.12, in units of 0.1 ns. -/
def byteTime (speed : Nat) : Nat :=
  match speed with
  | 1 => 8
  | 2 => 16
  | _ => 32

/-- The queue of a frame by its tag, 3 the highest; an untagged one uses the lowest (R239). -/
def egressQueue (tag : Option (Nat × Nat)) : Nat := tag.elim 0 fun x => x.1 % 8 / 2

/-- The frame served next at the instant `x`, in 0.1 ns: of those that wait, the first of the highest queue (R239). -/
def pickFrame (x : Nat) (l : List EgressFrame) : Option EgressFrame :=
  l.foldl (fun best f =>
    if x < 100 * f.joined then best
    else match best with
      | none => some f
      | some b => if b.queue < f.queue then some f else some b) none

/-- The transmissions that have started by the TSC `now`, at a speed, over at most `n` frames: each takes its bytes with preamble and
gap. -/
def drainEgress (speed now : Nat) : Nat → Egress → Egress
  | 0, e => e
  | n + 1, e =>
    match (e.waiting.map (·.joined)).min? with
    | none => e
    | some a =>
      let x := max e.busyUntil (100 * a)
      if 100 * now < x then e
      else
        match pickFrame x e.waiting with
        | some f => drainEgress speed now n { waiting := e.waiting.erase f, busyUntil := x + (f.bytes + 20) * byteTime speed }
        | none => e

/-- The queues of a port. -/
def egressOf (l : Links) : Port → Egress
  | .a => l.egressA
  | .b => l.egressB

def setEgress (p : Port) (e : Egress) (l : Links) : Links :=
  match p with
  | .a => { l with egressA := e }
  | .b => { l with egressB := e }

/-- The state and the speed of a port. -/
def portState (l : Links) : Port → Nat
  | .a => l.aState
  | .b => l.bState

def portSpeed (l : Links) : Port → Nat
  | .a => l.aSpeed
  | .b => l.bSpeed

/-- The queues of a port as they are now. -/
def egressNow (now : Nat) (p : Port) (l : Links) : Egress :=
  let e := egressOf l p
  drainEgress (portSpeed l p) now e.waiting.length e

/-- Bytes that wait in a queue. -/
def queueFill (q : Nat) (e : Egress) : Nat := (e.waiting.filter fun f => f.queue = q).foldl (fun n f => n + f.bytes) 0

/-- The port sends nothing and nothing waits for it (R238). -/
def egressIdle (now : Nat) (e : Egress) : Bool := e.waiting = [] && decide (e.busyUntil ≤ 100 * now)

/-- A frame finds room in its queue of 24 KiB (R239). -/
def egressRoom (now q bytes : Nat) (p : Port) (l : Links) : Bool := decide (queueFill q (egressNow now p l) + bytes ≤ 24576)

/-- A frame joins its queue; one that finds it full is discarded and counted (R239). -/
def joinQueue (now q bytes : Nat) (p : Port) (l : Links) : Links :=
  let e := egressNow now p l
  if queueFill q e + bytes ≤ 24576 then setEgress p { e with waiting := e.waiting ++ [{ queue := q, bytes := bytes, joined := now }] } l
  else { l with egressDrop := incr32 l.egressDrop }

/-- The tag of the module's own frames at a priority (R243). -/
def ownTag (l : Links) (pcp : Nat) : Option (Nat × Nat) := if l.inForce.vlanId = 0 then none else some (pcp, l.inForce.vlanId)

/-- Bytes of a frame with a UDP payload, or of a padded short one. -/
def udpFrame (tag : Option (Nat × Nat)) (payload : Nat) : Nat := max 64 (46 + payload) + (if tag.isSome then 4 else 0)

/-- The port on which the latest accepted frame from an address arrived, or port A (R244). -/
def peerPort (l : Links) (ip : Nat) : Port := (l.peers.find? fun e => e.1 = ip).elim .a (·.2)

/-- The module sends an ARP on a port (R240, R241). DESIGN CHOICE: with a tag it has priority 0 (log entry 51). -/
def sendArp (now : Nat) (p : Port) (gratuitous : Bool) (l : Links) : Links :=
  let tag := ownTag l 0
  joinQueue now (egressQueue tag) (udpFrame tag 0) p { l with arp := some { port := p, gratuitous := gratuitous, tag := tag } }

/-- The headers of a datagram of the module: TTL 64, DF, no fragment (R241 to R243). -/
def datagram (l : Links) (p : Port) (pcp own dst srcPort dstPort : Nat) : SentIp :=
  { port := p, tag := ownTag l pcp, src := own, dst := dst, srcPort := srcPort, dstPort := dstPort, ttl := 64, df := true, fragment := false }

end Sys2Proof.Machine
end

