-- ==== Sys2Proof/Machine/Ops.lean ====
section
/-!
DEFINITION. The operations every meaning shares: the sparse stores, the clock, the event log, the global lines of the array,
and the arithmetic of the predicted current.
-/

namespace Sys2Proof.Machine

/-- The answer of a meaning. -/
abbrev Out := Host.Outcome State Fault Refusal

/-! ### Sparse stores -/

/-- The value a store holds at a key; `d` is what an unlisted key reads as. -/
def memRead {β : Type} (d : β) : Mem β → Nat → β
  | [], _ => d
  | (k, v) :: m, a => if k = a then v else memRead d m a

/-- The entry of `a` removed. -/
def memErase {β : Type} : Mem β → Nat → Mem β
  | [], _ => []
  | (k, v) :: m, a => if k = a then m else if a < k then (k, v) :: m else (k, v) :: memErase m a

/-- The entry of `a` set. -/
def memInsert {β : Type} : Mem β → Nat → β → Mem β
  | [], a, v => [(a, v)]
  | (k, w) :: m, a, v => if a < k then (a, v) :: (k, w) :: m else if k = a then (a, v) :: m else (k, w) :: memInsert m a v

/-- A write in the canonical form: writing the value an unlisted key reads as removes the entry. -/
def memWrite {β : Type} [DecidableEq β] (d : β) (m : Mem β) (a : Nat) (v : β) : Mem β :=
  if v = d then memErase m a else memInsert m a v

/-- Consecutive writes from `a`. -/
def memWriteList {β : Type} [DecidableEq β] (d : β) : Mem β → Nat → List β → Mem β
  | m, _, [] => m
  | m, a, v :: vs => memWriteList d (memWrite d m a v) (a + 1) vs

/-- `n` consecutive values from `a`. -/
def memReadList {β : Type} (d : β) (m : Mem β) (a n : Nat) : List β :=
  (List.range n).map fun i => memRead d m (a + i)

/-- Every key of the store is above `lo`, keys rise, and no entry equals `d`. -/
def memWfFrom {β : Type} [DecidableEq β] (d : β) : Nat → Mem β → Bool
  | _, [] => true
  | lo, (k, v) :: m => decide (lo ≤ k) && decide (v ≠ d) && memWfFrom d (k + 1) m

/-- The canonical form: keys strictly rise, and no entry equals what an unlisted key reads as. -/
def memWf {β : Type} [DecidableEq β] (d : β) (m : Mem β) : Bool := memWfFrom d 0 m

/-! ### Lists and counters -/

/-- Element `n` replaced by its image. -/
def listUpdate {α : Type} (l : List α) (n : Nat) (f : α → α) : List α := l.modify n f

/-- A u16 that saturates. -/
def sat16 (n : Nat) : Nat := min n 65535

/-- Ceiling of a quotient of naturals. -/
def ceilDiv (a b : Nat) : Nat := (a + b - 1) / b

/-- Bit `n` of a 64-bit set. -/
def hasBit (b : BitVec 64) (n : Nat) : Bool := b.getLsbD n

/-- Bit `n` set. -/
def withBit (b : BitVec 64) (n : Nat) : BitVec 64 := b ||| ((1 : BitVec 64) <<< n)

/-- Bit `n` cleared. -/
def withoutBit (b : BitVec 64) (n : Nat) : BitVec 64 := b &&& ~~~((1 : BitVec 64) <<< n)

/-! ### The clock (01 R21, R22) -/

/-- 10 ns in the units of the accumulator. -/
def tkUnits : Nat := 42949672960

/-- The TSC: the accumulated time divided by 10 ns, rounded down (R22). -/
def tsc (s : State) : Nat := s.time.acc / tkUnits

/-- The TSC counts in every powered state but STANDBY (01 Table 1.9, 18 Table 18.2). -/
def clockRuns (s : State) : Bool :=
  match s.mode.op with
  | .off | .standby => false
  | _ => true

/-- The clock brought to the TSC `t` at which a command takes place; it never decreases (R22; log entry 1). -/
def advance (t : Nat) (s : State) : State :=
  if clockRuns s && decide (tsc s < t) then { s with time := { s.time with acc := t * tkUnits } } else s

/-- One edge of CLK_TSC: 10 ns plus TSC_TRIM (R22). -/
def clockEdge (s : State) : State :=
  if clockRuns s then { s with time := { s.time with acc := (Int.toNat (s.time.acc + tkUnits + s.time.trim)) } } else s

/-- A write of TSC_TRIM, clamped to its range (R21). -/
def clampTrim (v : Int) : Int := max (-8589934) (min 8589934 v)

/-! ### The event log (01 R25, 11 R281) -/

/-- NODE of a record (Table 1.4): the depth, or UNENUM for an unenumerated module. -/
def nodeField (s : State) : Nat :=
  if s.sync.role = .unenumerated then 0x200 else s.sync.depth % 512

/-- `before` of R27, on TSC, NODE and SOURCE. -/
def recBefore (a b : EventRec) : Bool :=
  if a.tsc ≠ b.tsc then decide (a.tsc < b.tsc)
  else if a.node ≠ b.node then decide (a.node < b.node)
  else decide (a.source < b.source)

/-- A record put into the log, after the records it does not come before; so records equal in all keys stay in the order written. -/
def recInsert (r : LogRec) : List LogRec → List LogRec
  | [] => [r]
  | x :: xs => if recBefore r.event x.event then r :: x :: xs else x :: recInsert r xs

/-- Records ever written to the log. -/
def logTotal (l : Log) : Nat := l.base + l.written

/-- The number of the oldest record held, by writing. -/
def firstHeld (l : Log) : Nat := (l.recs.map (·.num)).min?.getD (logTotal l)

/-- Append a record to the log, which holds the latest 1,024 in the order of R27 (R281). -/
def logAppend (r : EventRec) (l : Log) : Log :=
  let recs := recInsert { num := logTotal l, event := r } l.recs
  if recs.length ≤ 1024 then { l with recs := recs, written := l.written + 1 }
  else
    { l with recs := recs.filter fun e => decide (e.num ≠ firstHeld l), gone := l.gone ++ recs.filter fun e => decide (e.num = firstHeld l),
             written := l.written + 1 }

/-- Record an event dated `at_`. -/
def recordAt (at_ source code data : Nat) (s : State) : State :=
  { s with log := logAppend { tsc := at_, node := nodeField s, source := source, code := code, data := data % 65536 } s.log }

/-- Record an event now. -/
def record (source code data : Nat) (s : State) : State := recordAt (tsc s) source code data s

/-! ### Sources of records (Table 1.5) -/

def srcDrawer (slot : Nat) : Nat := 0x040 + slot
def srcSafeDim : Nat := 0x140
def srcGov : Nat := 0x141
def srcRake : Nat := 0x142
def srcSync : Nat := 0x143
def srcPower : Nat := 0x144
def srcCal : Nat := 0x145
def srcUpdate : Nat := 0x146
def srcGate : Nat := 0x147
def srcTime : Nat := 0x148

/-! ### The array -/

/-- The number of pixels. -/
def pixels : Nat := 1310720

/-- IREF_x.SCALE of a bank. -/
def bankScale (a : PixelArray) : Bank → Nat
  | .a => a.irefA
  | .b => a.irefB

/-- S of the frame in a bank. -/
def bankSum (a : PixelArray) : Bank → Nat
  | .a => a.sumA
  | .b => a.sumB

/-- I_PRED (µA, rounded down) of the frame in a bank at its scale. -/
def bankPred (a : PixelArray) : Bank → Nat
  | .a => a.predA
  | .b => a.predB

/-- IREF_x.SCALE of a bank written. -/
def setBankScale (b : Bank) (v : Nat) (a : PixelArray) : PixelArray :=
  match b with
  | .a => { a with irefA := v }
  | .b => { a with irefB := v }

/-- The inactive bank (R63). -/
def inactive (a : PixelArray) : Bank := a.bankSel.other

/-- I_PRED(s) in µA, rounded down (R92). -/
def predicted (scale sum : Nat) : Nat := 48 * (scale + 1) * sum / (1024 * 16383)

/-- scale_for of R94: the largest scale whose predicted current fits `b` µA, −1 when none does. -/
def scaleFor (sum b : Nat) : Int :=
  if sum = 0 then 1023 else min 1023 ((b * 1024 * 16383 / (48 * sum) : Nat) - 1 : Int)

/-- LEVEL of the settle level a latch code selects (R75). -/
def levelOf (levels : List Nat) (code : Nat) : Nat :=
  if code = 0 then 0 else levels.getD (code - 1) 0

/-- The settle total in µA: the sum over all pixels of the current each latch code selects, rounded down (R76, Table 16.2). -/
def settleTotal (levels : List Nat) (codes : Mem Nat) : Nat :=
  48 * (codes.foldl (fun acc e => acc + levelOf levels e.2) 0) / 4095

/-- The highest settle level in use (R101). -/
def settleMax (levels : List Nat) (codes : Mem Nat) : Nat :=
  codes.foldl (fun acc e => max acc (levelOf levels e.2)) 0

/-- The VLED target of a VF_MODEL entry index: 400 mV headroom, steps of 25 mV, 2,800 to 4,300 mV (R100). -/
def vledOfEntry (model : List Nat) (k : Nat) : Nat :=
  min (max (25 * ceilDiv (model.getD (k - 1) 0 + 400) 25) 2800) 4300

/-- vled_target of R100. -/
def vledTarget (model : List Nat) (scale codeMax : Nat) : Nat :=
  if codeMax = 0 then 2800
  else vledOfEntry model (min 16 (max 1 (ceilDiv (48 * (scale + 1) * codeMax) (3 * 1024 * 16383))))

/-- The VLED target for SL_max, its current taken as the peak current of vled_target (R101). -/
def settleVled (s : State) : Nat :=
  let m := settleMax s.arr.levels s.arr.latches
  if m = 0 then 2800 else vledOfEntry s.gov.vfModel (min 16 (max 1 (ceilDiv (48 * m) (3 * 4095))))

/-- A VLED target comes into force at TSC `t`; a higher one starts the rise of R101. -/
def setVled (v t : Nat) (a : PixelArray) : PixelArray :=
  { a with vled := v, vledRose := if a.vled < v then some t else a.vledRose }

/-- VLED target of the frame in a bank. -/
def bankVled (a : PixelArray) : Bank → Nat
  | .a => a.vledA
  | .b => a.vledB

/-- LATCH_BUSY: set from the first cycle of an update to the last (03 R77). -/
def latchBusyNow (a : PixelArray) : Bool := a.latchBusy && (decide (a.latchRow ≠ 0) || a.latchRetry)

/-- SRC_SEL was at settle at some time in window `k` of 04 R103. -/
def settleIn (s : State) (k : Nat) : Bool :=
  (s.arr.srcSettle && decide (s.dim.settleFrom ≤ k)) || decide (s.dim.settleTo = k ∧ 0 < k) || decide (s.dim.settleFrom ≤ k ∧ k < s.dim.settleTo)

/-- The light is that of a bank: SRC_SEL at bank and DRV_EN high (R63). -/
def bankLit (s : State) : Bool := s.arr.drvEn && !s.arr.srcSettle

/-- The array shows the settle source. -/
def settleLit (s : State) : Bool := s.arr.drvEn && s.arr.srcSettle

/-- The value of a storage node of a bank in 10⁻⁸ codes: the code written less droop, at most 0.1 % per millisecond since the frame was
driven (R73; which value within the bound is free). -/
def nodeValue (s : State) (b : Bank) (p : Nat) : Nat :=
  let code := match b with | .a => memRead 0 s.arr.bankA p | .b => memRead 0 s.arr.bankB p
  let age := tsc s - (match b with | .a => s.arr.drivenA | .b => s.arr.drivenB)
  code * 100000000 - Config.droop p (tsc s) % (min (code * age) (code * 100000000) + 1)

/-- The current in µA of pixel `p` = 2048 × row + column by the global lines and its cell (R63, Table 3.2). -/
def cellCurrent (s : State) (p : Nat) : Rat :=
  if !s.arr.drvEn then 0
  else if s.arr.srcSettle then 48 * levelOf s.arr.levels (memRead 0 s.arr.latches p) / 4095
  else 48 * (bankScale s.arr s.arr.bankSel + 1) / 1024 * nodeValue s s.arr.bankSel p / (16383 * 100000000)

/-- A column probe source in µA: 20 ± 5 %; none with the CUTOFF switch open (13 R302). -/
def probeSource (s : State) (col : Nat) : Rat := if s.arr.switchOpen then 0 else 19 + (Config.probeSource col (tsc s) % 2001 : Nat) / 1000

/-- The current in µA of pixel `p`: in a probe window the probed row follows the phases of 13 Table 13.1, and the sense row is disconnected from
phase 3 on; every other pixel has the current of its cell (R63, 13 R301). -/
def pixelCurrent (s : State) (p : Nat) : Rat :=
  match s.rake.window with
  | none => cellCurrent s p
  | some w =>
    let e := tsc s - w.start
    let col := p % 2048
    if 400 ≤ e then cellCurrent s p
    else if p / 2048 = w.row then
      if e < 50 then 0
      else if e < 200 then probeSource s col
      else if e < 250 then (if col % 2 = 0 then probeSource s col else 0)
      else if e < 300 then (if col % 2 = 1 then probeSource s col else 0)
      else probeSource s col
    else if p / 2048 = w.row + 1 ∧ 300 ≤ e then 0
    else cellCurrent s p

/-- SRC_SEL to settle; VLED is held at the target for SL_max (R101). -/
def selectSettle (s : State) : State :=
  { s with arr := { setVled (settleVled s) (tsc s) s.arr with srcSettle := true, droopFrom := none },
           dim := { s.dim with settleFrom := if s.arr.srcSettle then s.dim.settleFrom else tsc s / 100000 } }

/-- DRV_EN low; the droop timer stops (R74). -/
def drvLow (s : State) : State := { s with arr := { s.arr with drvEn := false, droopFrom := none } }

/-- The CUTOFF switch opens; CUTOFF_OPENED carries the cause (R384, R389). An open switch stays open. -/
def openSwitch (cause : Nat) (s : State) : State :=
  if s.arr.switchOpen then s
  else
    record srcSafeDim 0x0006 cause
      { s with arr := { s.arr with switchOpen := true },
               flt := { s.flt with shadows := if s.flt.shadows.contains .cutoff then s.flt.shadows else s.flt.shadows ++ [.cutoff] } }

/-- The CUTOFF switch closes (R384). -/
def closeSwitch (s : State) : State :=
  if s.arr.switchOpen then
    record srcSafeDim 0x0007 0 { s with arr := { s.arr with switchOpen := false, switchClosedAt := tsc s } }
  else s

/-! ### States (01 Tables 1.7 to 1.9) -/

/-- PROOF_PENDING, FULL, SAFE or IDLE: the firmware runs (Table 12.1, FW). -/
def isFw (o : OpState) : Bool :=
  match o with
  | .proofPending | .full | .safe | .idle => true
  | _ => false

/-- A state in which a frame schedule runs (R215). -/
def isRun (o : OpState) : Bool :=
  match o with
  | .full | .safe => true
  | _ => false

/-- The array has its supply: every powered state but STANDBY and BROWNOUT_SAVE. -/
def arrayUp (s : State) : Bool :=
  match s.mode.op with
  | .off | .standby | .brownoutSave => false
  | _ => true

/-- STATE of MODULE_STATE (Table 1.7). OFF answers nothing; it reads as BOOT. -/
def stateCode (o : OpState) : Nat :=
  match o with
  | .off | .boot => 0
  | .loader => 1
  | .proofPending => 2
  | .full => 3
  | .safe => 4
  | .idle => 5
  | .standby => 6
  | .brownoutSave => 7

/-- SAFE_KIND as MODULE_STATE reports it: in SAFE the kind in force; in LOADER and PROOF_PENDING that of a Safe-Dim target beyond
SETTLE that is applied (Table 1.7, 16 R376; log entry 12). -/
def safeKindWord (s : State) : Nat :=
  match s.mode.op with
  | .safe => s.mode.safeKind
  | .loader | .proofPending => if s.dim.state = .applied ∧ 2 ≤ s.dim.target then s.dim.target + 1 else 0
  | _ => 0

/-- MODULE_STATE (R31). -/
def moduleState (s : State) : Nat :=
  stateCode s.mode.op + 16 * safeKindWord s + (if s.mp.restarting.isSome then 128 else 0)
    + (if s.mode.calLimited then 256 else 0) + (if s.mode.unconfirmed then 512 else 0)

/-! ### Addresses (10 R240) -/

/-- The IPv4 address that LINK_CONFIG and the depth give. -/
def ipOf (s : State) : Option Nat :=
  if s.link.inForce.addrMode = 0 then some s.link.inForce.ipAddr
  else if s.sync.role = .unenumerated then none
  else some (s.link.inForce.ipBase + 256 + s.sync.depth)

/-- The address follows the depth; a change is announced by one gratuitous ARP, on the first link that is up. -/
def readdress (s : State) : State :=
  let ip := ipOf s
  if ip = s.link.ip then s
  else
    let up := if s.link.aState = 2 then some Port.a else if s.link.bState = 2 then some Port.b else none
    let l := { s.link with ip := ip, arpDue := ip.isSome && up.isNone }
    { s with link := match up with | some p => if ip.isSome then sendArp (tsc s) p true l else l | none => l }

/-! ### Rake's placement (13 Table 13.3) -/

/-- 0 suspended, 1 framed, 2 free-running. -/
def rakeMode (s : State) : Nat :=
  if s.dim.demand ∧ 2 ≤ s.dim.target then 0
  else
    match s.mode.op with
    | .loader | .proofPending | .idle => 2
    | .full => 1
    | .safe => if s.mode.safeKind ≤ 2 then 1 else 0
    | _ => 0

/-- The window in progress now. -/
def openWindow (s : State) : Option RakeWindow := s.rake.window.filter fun w => decide (tsc s < w.start + 400)

/-- Rake follows its placement; RAKE_SUSPENDED and RAKE_RESUMED are recorded (R305, R322). A suspension stops the window in progress, and its
results are discarded; any other change lets it complete, and free-running placement starts at the next cadence (R323). -/
def rakeUpdate (s : State) : State :=
  let m := rakeMode s
  let old := s.rake.mode
  if m = old then s
  else
    let s := { s with rake := { s.rake with mode := m } }
    if m = 0 then record srcRake 0x0007 ((openWindow s).elim 0xFFFF (·.row)) { s with rake := { s.rake with window := none } }
    else if old = 0 then record srcRake 0x0008 m { s with rake := { s.rake with resumedAt := tsc s } }
    else if m = 2 then
      { s with rake := { s.rake with base := tsc s / 1000000 * 1000000, rows := 0, shift := 0, windows := 0, swept := true } }
    else s

/-! ### Demand contacts (02 R43, Table 2.4) -/

/-- A Safe-Dim channel, active low, reads as asserted while its contact is low or open (R43). -/
def sdimAsserted (c : Contact) : Bool := decide (c ≠ .high)

/-- The WAKE contact, active high, reads as asserted at a high level; an open contact does not (R43). -/
def wakeAsserted (c : Contact) : Bool := decide (c = .high)

/-! ### Units (00 Table 0.2, Table 0.3) -/

def hasLinkB (s : State) : Bool := s.fuse.variant ≠ .e
def hasShade (s : State) : Bool := s.fuse.variant ≠ .e
def hasGlyph (s : State) : Bool := s.fuse.variant = .f
def hasConvB (s : State) : Bool := s.fuse.variant ≠ .e
/-- Cabinet entries. -/
def cabinets (s : State) : Nat := if s.fuse.variant = .e then 2 else 4
/-- The DRAM placement pool (Table 6.7). -/
def dramPool (s : State) : Nat := if s.fuse.variant = .e then 536870912 else 1610612736

/-- UNITS_PRESENT (R3, Table 0.3). -/
def unitsPresent (s : State) : Nat :=
  match s.fuse.variant with
  | .f => 0x0000044F
  | .s => 0x0000044B
  | .e => 0x00000220

end Sys2Proof.Machine
end

