-- ==== Sys2Proof/Machine/Crypto.lean ====
section
/-!
DEFINITION. The check-value computation of R454, AES-128-CMAC (R267; the cipher and the mode are those of FIPS 197 and NIST
SP 800-38B, log entry 5) and the key derivation of R432. Bytes are naturals below 256.
-/

namespace Sys2Proof.Machine

/-! ### Check values (20 R454, R455) -/

/-- The low `w` bits of `v` in reverse order. -/
def reflectBits (w v : Nat) : Nat :=
  (List.range w).foldl (fun acc i => 2 * acc + (v >>> i) % 2) 0

/-- One of the eight repeats of feed. -/
def checkShift (p : CheckParams) (reg : Nat) : Nat :=
  let r := (2 * reg) % 2 ^ p.width
  if (reg >>> (p.width - 1)) % 2 = 1 then r ^^^ p.poly else r

/-- feed(b) of R454. -/
def checkFeed (p : CheckParams) (reg b : Nat) : Nat :=
  (List.range 8).foldl (fun r _ => checkShift p r) (reg ^^^ ((if p.refin then reflectBits 8 b else b) <<< (p.width - 8)))

/-- finish of R454. -/
def checkFinish (p : CheckParams) (reg : Nat) : Nat := (if p.refout then reflectBits p.width reg else reg) ^^^ p.xorout

/-- start, feed of every byte, finish. -/
def checkValue (p : CheckParams) (bytes : List Nat) : Nat := checkFinish p (bytes.foldl (checkFeed p) (p.init % 2 ^ p.width))

/-- The CRC-32 of IEEE 802.3 over bytes. -/
def crc32 (bytes : List Byte) : Nat := checkValue set0 (bytes.map BitVec.toNat)

/-- CRC-4 of a sync symbol: polynomial x⁴ + x + 1, initial value 0, over the bits in transmission order (Table 5.1). -/
def crc4 (bits : List Bool) : BitVec 4 :=
  bits.foldl (fun (r : BitVec 4) b => if (r.getLsbD 3) ^^ b then (r <<< 1) ^^^ 3#4 else r <<< 1) 0

/-! ### AES-128 -/

/-- The substitution table: byte x in bits 8x and up, in four pieces of 64 bytes. -/
def aesBox0 : Nat := 0x75b227ebe28012079a059618c323c7041531d871f1e5a534ccf73f362693fdb7c072a49cafa2d4adf04759fa7dc982ca76abd7fe2b670130c56f6bf27b777c63
def aesBox1 : Nat := 0xd2f3ff1021dab6bcf5389d928f40a351a89f3c507f02f94585334d43fbaaefd0cf584c4a39becb6a5bb1fc20ed00d153842fe329b3d63b52a05a6e1b1a2c8309
def aesBox2 : Nat := 0x08ae7a65eaf4566ca94ed58d6d37c8e779e4959162acd3c25c2406490a3a32e0db0b5ede14b8ee4688902a22dc4f816073195d643d7ea7c41744975fec130ccd
def aesBox3 : Nat := 0x16bb54b00f2d99416842e6bf0d89a18cdf2855cee9871e9b948ed9691198f8e19e1dc186b95735610ef6034866b53e708a8bbd4b1f74dde8c6b4a61c2e2578ba

/-- SubBytes of one byte. -/
def aesSub (x : Nat) : Nat :=
  let box := if x < 64 then aesBox0 else if x < 128 then aesBox1 else if x < 192 then aesBox2 else aesBox3
  (box >>> (8 * (x % 64))) % 256

/-- Multiplication by x in the field of AES. -/
def aesXtime (x : Nat) : Nat := if x < 128 then 2 * x else (2 * x) ^^^ 0x11B

/-- Bytewise exclusive or. -/
def xorBytes (a b : List Nat) : List Nat := List.zipWith (fun x y => x ^^^ y) a b

/-- SubBytes and ShiftRows, columns first. -/
def aesSubShift (st : List Nat) : List Nat :=
  [0, 5, 10, 15, 4, 9, 14, 3, 8, 13, 2, 7, 12, 1, 6, 11].map fun i => aesSub (st.getD i 0)

/-- MixColumns. -/
def aesMix : List Nat → List Nat
  | a :: b :: c :: d :: rest =>
    let t := a ^^^ b ^^^ c ^^^ d
    (a ^^^ t ^^^ aesXtime (a ^^^ b)) :: (b ^^^ t ^^^ aesXtime (b ^^^ c)) :: (c ^^^ t ^^^ aesXtime (c ^^^ d))
      :: (d ^^^ t ^^^ aesXtime (d ^^^ a)) :: aesMix rest
  | _ => []

/-- The next round key. -/
def aesNextKey (rcon : Nat) (k : List Nat) : List Nat :=
  let g := [aesSub (k.getD 13 0) ^^^ rcon, aesSub (k.getD 14 0), aesSub (k.getD 15 0), aesSub (k.getD 12 0)]
  let w0 := xorBytes (k.take 4) g
  let w1 := xorBytes ((k.drop 4).take 4) w0
  let w2 := xorBytes ((k.drop 8).take 4) w1
  let w3 := xorBytes (k.drop 12) w2
  w0 ++ w1 ++ w2 ++ w3

/-- Rounds 1 to 10 with the round constants that remain. -/
def aesRounds : List Nat → List Nat → List Nat → List Nat
  | [], _, st => st
  | [rc], k, st => xorBytes (aesSubShift st) (aesNextKey rc k)
  | rc :: rcs, k, st =>
    let k' := aesNextKey rc k
    aesRounds rcs k' (xorBytes (aesMix (aesSubShift st)) k')

/-- AES-128 of one block. -/
def aes128 (key block : List Nat) : List Nat :=
  aesRounds [1, 2, 4, 8, 16, 32, 64, 128, 27, 54] key (xorBytes block key)

/-! ### CMAC -/

/-- A byte string doubled in the field of 2^128, most significant byte first. -/
def cmacDouble (b : List Nat) : List Nat :=
  let v := b.foldl (fun acc x => 256 * acc + x) 0
  let d := if v < 2 ^ 127 then 2 * v else ((2 * v) % 2 ^ 128) ^^^ 0x87
  (List.range 16).map fun i => (d >>> (8 * (15 - i))) % 256

/-- The chain over the blocks of a message; the last block is taken with the subkeys. -/
def cmacChain (key k1 k2 : List Nat) : Nat → List Nat → List Nat → List Nat
  | 0, x, _ => x
  | fuel + 1, x, m =>
    if m.length ≤ 16 then
      let last := if m.length = 16 then xorBytes m k1
        else xorBytes (m ++ 0x80 :: List.replicate (15 - m.length) 0) k2
      aes128 key (xorBytes x last)
    else cmacChain key k1 k2 fuel (aes128 key (xorBytes x (m.take 16))) (m.drop 16)

/-- AES-128-CMAC (NIST SP 800-38B). -/
def cmac (key msg : List Nat) : List Nat :=
  let k1 := cmacDouble (aes128 key (List.replicate 16 0))
  cmacChain key k1 (cmacDouble k1) (msg.length / 16 + 1) (List.replicate 16 0) msg

/-- The tag of R267: the first 8 bytes of the CMAC over header and payload. -/
def tagOf (key : List Byte) (msg : List Byte) : List Byte :=
  ((cmac (key.map BitVec.toNat) (msg.map BitVec.toNat)).take 8).map (BitVec.ofNat 8)

/-- KDF of R432. -/
def kdf (key : List Byte) (label context : List Byte) : List Byte :=
  (cmac (key.map BitVec.toNat) (([0x01] ++ label ++ [0x00] ++ context ++ [0x00, 0x80] : List Byte).map BitVec.toNat)).map (BitVec.ofNat 8)

/-- The ASCII labels "OPN", "H2M" and "M2H" of Table 19.3. -/
def labelOpn : List Byte := [0x4F, 0x50, 0x4E]
def labelH2m : List Byte := [0x48, 0x32, 0x4D]
def labelM2h : List Byte := [0x4D, 0x32, 0x48]

end Sys2Proof.Machine
end

