-- ==== Sys2Proof/Machine/Operands.lean ====
section
/-!
DEFINITION. Byte fields in the order of R10, the PSIFER header, and the checks of fields that messages share.
-/

namespace Sys2Proof.Machine

/-! ### Little-endian fields (R10) -/

/-- `n` bytes from offset `off` as an unsigned number. -/
def le (bs : List Byte) (off n : Nat) : Nat :=
  ((bs.drop off).take n).foldr (fun b acc => b.toNat + 256 * acc) 0

/-- The two's-complement value of a `w`-bit number. -/
def signed (w v : Nat) : Int := if v < 2 ^ (w - 1) then v else (v : Int) - 2 ^ w

/-- `n` bytes from offset `off` as a signed number. -/
def leS (bs : List Byte) (off n : Nat) : Int := signed (8 * n) (le bs off n)

/-- A number as `n` bytes. -/
def toLE : Nat → Nat → List Byte
  | 0, _ => []
  | n + 1, v => BitVec.ofNat 8 v :: toLE n (v / 256)

/-- A signed number as `n` bytes in two's complement. -/
def toLES (n : Nat) (v : Int) : List Byte := toLE n (v % (2 ^ (8 * n) : Nat)).toNat

def u8 (v : Nat) : List Byte := toLE 1 v
def u16 (v : Nat) : List Byte := toLE 2 v
def u32 (v : Nat) : List Byte := toLE 4 v
def u64 (v : Nat) : List Byte := toLE 8 v
def s16 (v : Int) : List Byte := toLES 2 v

/-- A flag as a number. -/
def bit (b : Bool) : Nat := if b then 1 else 0

/-- Flags as a number, bit 0 first. -/
def bits : List Bool → Nat
  | [] => 0
  | b :: bs => bit b + 2 * bits bs

/-- The four octets of an IPv4 address, first octet first. -/
def ipBytes (ip : Nat) : List Byte :=
  [BitVec.ofNat 8 (ip / 16777216), BitVec.ofNat 8 (ip / 65536), BitVec.ofNat 8 (ip / 256), BitVec.ofNat 8 ip]

/-- The IPv4 address at an offset, first octet first. -/
def ipAt (bs : List Byte) (off : Nat) : Nat :=
  ((bs.drop off).take 4).foldl (fun acc b => 256 * acc + b.toNat) 0

/-! ### Status codes (11 Table 11.8) -/

def eOk : Nat := 0x0000
def eOpcode : Nat := 0x0001
def eLength : Nat := 0x0002
def eAuth : Nat := 0x0003
def eFresh : Nat := 0x0004
def eDomain : Nat := 0x0005
def eFull : Nat := 0x0006
def eBusy : Nat := 0x0007
def eRange : Nat := 0x0008
def eHandle : Nat := 0x0009
def eState : Nat := 0x000A
def eAbsent : Nat := 0x000B
def eLinebuf : Nat := 0x000C
def eBandwidth : Nat := 0x000D
def eTiming : Nat := 0x000E
def eTemp : Nat := 0x000F
def eCapacity : Nat := 0x0010
def eCrc : Nat := 0x0011
def eDisagree : Nat := 0x0012
def eProof : Nat := 0x0013
def eVersion : Nat := 0x0014
def eSignature : Nat := 0x0015
def eBudget : Nat := 0x0016

/-! ### The PSIFER header (11 Table 11.2) -/

/-- The header fields of a raw message and its payload, without the tag. -/
def parseMsg (ep : Endpoint) (arrival : Nat) (raw : List Byte) : Msg :=
  { ep := ep, arrival := arrival, version := le raw 0 1, flags := le raw 1 1, opcode := le raw 2 2,
    session := le raw 4 2, sequence := le raw 6 2, freshness := le raw 8 4, length := le raw 12 2,
    reserved := le raw 14 2, context := le raw 16 8, payload := (raw.take (raw.length - 8)).drop 24 }

/-- A header in wire order. -/
def headerBytes (version flags opcode session sequence freshness length reserved context : Nat) : List Byte :=
  u8 version ++ u8 flags ++ u16 opcode ++ u16 session ++ u16 sequence ++ u32 freshness ++ u16 length ++ u16 reserved ++ u64 context

/-- QUEUE of FLAGS (Table 11.3). -/
def msgQueue (m : Msg) : Nat := m.flags % 4

/-- NO_REPLY of FLAGS. -/
def msgNoReply (m : Msg) : Bool := m.flags / 4 % 2 = 1

/-- The handle a message names in CONTEXT [15:0] (R288). -/
def msgHandle (m : Msg) : Nat := m.context % 65536

/-! ### Checks of fields -/

/-- What a check of a field decides: a status and its DETAIL, or none when it passes. -/
abbrev Check := Option (Nat × Nat)

/-- The first check that fails. -/
def firstFail : List Check → Check
  | [] => none
  | some e :: _ => some e
  | none :: cs => firstFail cs

/-- E_RANGE with the offset of the field, unless the condition holds. -/
def inRange (ok : Bool) (off : Nat) : Check := if ok then none else some (eRange, off)

/-- A status with DETAIL 0, unless the condition holds. -/
def require (ok : Bool) (status : Nat) : Check := if ok then none else some (status, 0)

/-- A number lies between two bounds. -/
def between (v lo hi : Nat) : Bool := decide (lo ≤ v) && decide (v ≤ hi)

/-! ### The calibration working set (14 Table 14.5) -/

/-- `n` bytes of the working set as a number. -/
def calU (c : CalData) (off n : Nat) : Nat := le (memReadList 0 c.working off n) 0 n

/-- `n` bytes of the working set as a signed number. -/
def calS (c : CalData) (off n : Nat) : Int := leS (memReadList 0 c.working off n) 0 n

/-- SL_TRIM of the working set comes into force (14 R338). -/
def takeSlTrim (s : State) : State := { s with arr := { s.arr with slTrim := (List.range 3).map fun k => calS s.conv.cal (38 + 2 * k) 2 } }

/-- The calibration data change: SL_TRIM comes into force at once without a frame schedule, the other trims later (14 R338). -/
def setCalData (c : CalData) (s : State) : State :=
  let s := { s with conv := { s.conv with cal := c } }
  if s.sched.running then s else takeSlTrim s

end Sys2Proof.Machine
end

