-- ==== Sys2Proof/Machine/Scaler.lean ====
section
/-!
DEFINITION. The scaler coefficients: the values the formula of R466 gives, for the three sets, the 8 horizontal taps and 2, 4 or 6
vertical taps, 64 phases each. A table holds s1.14 values of 16 bits, phase 0 first and tap 0 first from the low end, in four
pieces of 16 phases.
-/

namespace Sys2Proof.Machine

def coef0_8_0 : Nat := 0xffc701e0fa8310cb39f9f696036dff0fffce01bdfae50f823abaf6f4034aff16ffd40199fb480e3e3b70f75b0324ff1effdb0176fbaa0cfe3c19f7cc02faff28ffe10153fc0d0bc43cb4f84702cdff33ffe60131fc6f0a8f3d45f8cb029cff3fffeb010ffcd009613dc9f9590267ff4cffef00eefd3108393e3df9f10230ff5bfff300cdfd9107173ea6fa9201f5ff6bfff700adfdef05fd3f02fb3c01b6ff7cfffa008efe4c04e93f4ffbf00175ff8ffffc006ffea703de3f8ffcae0130ffa3fffe0052ff0102da3fbffd7500e8ffb9ffff0035ff5801de3fe4fe45009effcf0000001affad00eb3ff9ff1e0050ffe700000000000000004000000000000000
def coef0_8_1 : Nat := 0xff3903c1f58e264c28e8f53803e3ff29ff4203adf5c124fa2a2df51603f1ff22ff4b0396f5f923a42b6ff4fb03fdff1bff54037ef636224c2cabf4e60406ff15ff5d0365f67820f22de2f4d7040cff0fff66034af6be1f962f12f4d00410ff0aff6f032df7081e39303bf4d10411ff06ff790310f7561cdc315bf4d8040fff03ff8202f1f7a61b7e3277f4e8040aff00ff8b02d1f7fb1a213389f5000401fefeff9502b0f85118c53492f51f03f6fefeff9e028ff8ab176b358ff54803e8fefeffa6026cf90616123688f57903d6feffffaf024af96314bc3774f5b203c1ff01ffb70227f9c213683856f5f503a8ff05ffbf0204fa221217392ef641038cff09
def coef0_8_2 : Nat := 0xff0503a8f5f538561368f9c20227ffb7ff0103c1f5b2377414bcf963024affaffeff03d6f57936881612f906026cffa6fefe03e8f548358f176bf8ab028fff9efefe03f6f51f349218c5f85102b0ff95fefe0401f50033891a21f7fb02d1ff8bff00040af4e832771b7ef7a602f1ff82ff03040ff4d8315b1cdcf7560310ff79ff060411f4d1303b1e39f708032dff6fff0a0410f4d02f121f96f6be034aff66ff0f040cf4d72de220f2f6780365ff5dff150406f4e62cab224cf636037eff54ff1b03fdf4fb2b6f23a4f5f90396ff4bff2203f1f5162a2d24faf5c103adff42ff2903e3f53828e8264cf58e03c1ff39ff3103d3f560279c279cf56003d3ff31
def coef0_8_3 : Nat := 0xffe70050ff1e3ff900ebffad001a0000ffcf009efe453fe401deff580035ffffffb900e8fd753fbf02daff010052fffeffa30130fcae3f8f03defea7006ffffcff8f0175fbf03f4f04e9fe4c008efffaff7c01b6fb3c3f0205fdfdef00adfff7ff6b01f5fa923ea60717fd9100cdfff3ff5b0230f9f13e3d0839fd3100eeffefff4c0267f9593dc90961fcd0010fffebff3f029cf8cb3d450a8ffc6f0131ffe6ff3302cdf8473cb40bc4fc0d0153ffe1ff2802faf7cc3c190cfefbaa0176ffdbff1e0324f75b3b700e3efb480199ffd4ff16034af6f43aba0f82fae501bdffceff0f036df69639f910cbfa8301e0ffc7ff09038cf641392e1217fa220204ffbf
def coef0_8 : Nat := coef0_8_0 ||| (coef0_8_1 <<< 2048) ||| (coef0_8_2 <<< 4096) ||| (coef0_8_3 <<< 6144)
def coef0_2_0 : Nat := 0x57c3a8404a73b5903e83c18033c3cc402a53d5b021f3de101ab3e5501483eb800f33f0d00ad3f5300753f8b00483fb800283fd800113fef00043ffc00004000
def coef0_2_1 : Nat := 0x1e0022001c0423fc1a0d25f3182027e0163d29c314682b9812a42d5c10f12f0f0f5230ae0dc832380c5333ad0af5350b09af365108803780076838980666399a
def coef0_2_2 : Nat := 0x3898076837800880365109af350b0af533ad0c5332380dc830ae0f522f0f10f12d5c12a42b98146829c3163d27e0182025f31a0d23fc1c0422001e0020002000
def coef0_2_3 : Nat := 0x3ffc00043fef00113fd800283fb800483f8b00753f5300ad3f0d00f33eb801483e5501ab3de1021f3d5b02a53cc4033c3c1803e83b5904a73a84057c399a0666
def coef0_2 : Nat := coef0_2_0 ||| (coef0_2_1 <<< 512) ||| (coef0_2_2 <<< 1024) ||| (coef0_2_3 <<< 1536)
def coef0_4_0 : Nat := 0xff010dbd388bfab7ff220c973973fad4ff410b783a4ffaf8ff5e0a613b1dfb24ff7909513bddfb59ff91084a3c8ffb96ffa6074c3d32fbdcffba06563dc5fc2bffcb056a3e48fc83ffd904873ebbfce5ffe503ad3f1efd50ffef02dd3f6efdc6fff702173fadfe45fffc015a3fdcfeceffff00a83ff7ff620000000040000000
def coef0_4_1 : Nat := 0xfc2f22a2255dfbd2fc5f214326b8fba6fc901fe32811fb7cfcc11e842967fb54fcf21d272ab9fb2efd241bca2c06fb0cfd551a702d4ffaecfd8519182e92fad1fdb517c32fcffab9fde316713106faa6fe1115233235fa97fe3d13da335bfa8efe6812963478fa8afe911156358efa8bfeb8101d3698fa93fede0ee93797faa2
def coef0_4_2 : Nat := 0xfa933698101dfeb8fa8b358e1156fe91fa8a34781296fe68fa8e335b13dafe3dfa9732351523fe11faa631061671fde3fab92fcf17c3fdb5fad12e921918fd85faec2d4f1a70fd55fb0c2c061bcafd24fb2e2ab91d27fcf2fb5429671e84fcc1fb7c28111fe3fc90fba626b82143fc5ffbd2255d22a2fc2ffc0024002400fc00
def coef0_4_3 : Nat := 0xff623ff700a8fffffece3fdc015afffcfe453fad0217fff7fdc63f6e02ddffeffd503f1e03adffe5fce53ebb0487ffd9fc833e48056affcbfc2b3dc50656ffbafbdc3d32074cffa6fb963c8f084aff91fb593bdd0951ff79fb243b1d0a61ff5efaf83a4f0b78ff41fad439730c97ff22fab7388b0dbdff01faa237970ee9fede
def coef0_4 : Nat := coef0_4_0 ||| (coef0_4_1 <<< 1024) ||| (coef0_4_2 <<< 2048) ||| (coef0_4_3 <<< 3072)
def coef0_6_0 : Nat := 0x6bfbf6100f39f1f7bc01e3005dfc450ecb3ab5f80801d60050fc930d8d3b6ef85c01c60044fce10c553c18f8ba01b40039fd2d0b243cb5f922019f002ffd7909f93d46f99201870026fdc308d53dcafa0c016c001efe0b07b93e40fa8f014f0017fe5106a43ea9fb1c012f0011fe9505983f03fbb3010c000cfed804933f50fc5300e60007ff1803973f90fcfc00be0004ff5602a43fc0fdaf00930002ff9101ba3fe4fe6b00640000ffca00d83ff9ff310034000000000000400000000000
def coef0_6_1 : Nat := 0x180f77f25c92875f72201a1016ff7b3246e29c5f6fb01b0015df7ec23102b10f6d901be014bf82921b02c55f6bc01cb0138f868204e2d95f6a601d70126f8ab1eec2eccf69501e20113f8f01d892ffef68b01eb0101f9381c263127f68701f300eef9821ac43248f68b01f900dcf9cd19633361f69501fe00cafa1a18043471f6a7020000b9fa6816a83575f6c1020100a8fab7154e3672f6e201ff0098fb0613f83763f70c01fb0088fb5612a63848f73e01f60079fba611583924f77801ed
def coef0_6_2 : Nat := 0x1f6f73e384812a6fb56008801fbf70c376313f8fb06009801fff6e23672154efab700a80201f6c1357516a8fa6800b90200f6a734711804fa1a00ca01fef69533611963f9cd00dc01f9f68b32481ac4f98200ee01f3f68731271c26f938010101ebf68b2ffe1d89f8f0011301e2f6952ecc1eecf8ab012601d7f6a62d95204ef868013801cbf6bc2c5521b0f829014b01bef6d92b102310f7ec015d01b0f6fb29c5246ef7b3016f01a1f722287525c9f77f01800191f74e27212721f74e0191
def coef0_6_3 : Nat := 0x34ff313ff900d8ffca00000064fe6b3fe401baff9100020093fdaf3fc002a4ff56000400befcfc3f900397ff18000700e6fc533f500493fed8000c010cfbb33f030598fe950011012ffb1c3ea906a4fe510017014ffa8f3e4007b9fe0b001e016cfa0c3dca08d5fdc300260187f9923d4609f9fd79002f019ff9223cb50b24fd2d003901b4f8ba3c180c55fce1004401c6f85c3b6e0d8dfc93005001d6f8083ab50ecbfc45005d01e3f7bc39f1100ffbf6006b01edf77839241158fba60079
def coef0_6 : Nat := coef0_6_0 ||| (coef0_6_1 <<< 1536) ||| (coef0_6_2 <<< 3072) ||| (coef0_6_3 <<< 4608)
def coef1_8_0 : Nat := 0x2d00a6f904186d2d790341fba4015e002700bcf8f917a72dce03d2fb780165002200d0f8f116e02e1f0466fb4e016a001d00e4f8ec16192e6804fefb240170001800f6f8ea15522eaf0599fafa017400140107f8ea148c2eee0637fad2017800100117f8ee13c62f2706d8faab017b000d0125f8f513012f5a077dfa84017d000a0133f8fe123c2f870824fa5f017f0007013ff90a11792faf08cefa3a01800005014af91810b62fd0097bfa18018000030154f9280ff52fed0a2af9f6017f0002015df93b0f3530020adcf9d6017d00010165f9500e7730100b91f9b8017a0000016cf9670dba301b0c47f99b017600000172f9800d00301c0d00f9800172
def coef1_8_1 : Nat := 0xb6feaffb9e24282573fc38fe5f00cb00acfed6fb58237d2615fc8afe3500d500a2fefcfb1522cf26b1fce1fe0c00e00098ff21fad7221e274bfd3cfde100ea008eff45fa9c216b27e1fd9bfdb600f40084ff69fa6620b52872fdfdfd8b00fe007bff8bfa331ffc2900fe64fd5f01080072ffacfa041f412989fecffd3301120069ffcdf9d91e852a0bff3efd07011c0060ffecf9b21dc62a8bffb1fcda01260058000af98f1d062b050028fcad012f00500027f96f1c452b7900a3fc81013800480043f9521b822bec0121fc5401400041005df93a1abe2c5601a4fc280148003a0077f92419f92cbd022afbfb01500033008ff91319342d1d02b3fbcf0158
def coef1_8_2 : Nat := 0x150fbfb022a2cbd19f9f9240077003a0148fc2801a42c561abef93a005d00410140fc5401212bec1b82f952004300480138fc8100a32b791c45f96f00270050012ffcad00282b051d06f98f000a00580126fcdaffb12a8b1dc6f9b2ffec0060011cfd07ff3e2a0b1e85f9d9ffcd00690112fd33fecf29891f41fa04ffac00720108fd5ffe6429001ffcfa33ff8b007b00fefd8bfdfd287220b5fa66ff69008400f4fdb6fd9b27e1216bfa9cff45008e00eafde1fd3c274b221efad7ff21009800e0fe0cfce126b122cffb15fefc00a200d5fe35fc8a2615237dfb58fed600ac00cbfe5ffc3825732428fb9efeaf00b600c0fe87fbe924d024d0fbe9fe8700c0
def coef1_8_3 : Nat := 0x176f99b0c47301b0dbaf967016c0000017af9b80b9130100e77f95001650001017df9d60adc30020f35f93b015d0002017ff9f60a2a2fed0ff5f928015400030180fa18097b2fd010b6f918014a00050180fa3a08ce2faf1179f90a013f0007017ffa5f08242f87123cf8fe0133000a017dfa84077d2f5a1301f8f50125000d017bfaab06d82f2713c6f8ee011700100178fad206372eee148cf8ea010700140174fafa05992eaf1552f8ea00f600180170fb2404fe2e681619f8ec00e4001d016afb4e04662e1f16e0f8f100d000220165fb7803d22dce17a7f8f900bc0027015efba403412d79186df90400a6002d0158fbcf02b32d1d1934f913008f0033
def coef1_8 : Nat := coef1_8_0 ||| (coef1_8_1 <<< 2048) ||| (coef1_8_2 <<< 4096) ||| (coef1_8_3 <<< 6144)
def coef1_2_0 : Nat := 0x97a36860882377e0796386a06b8394805e63a1a05213adf04683b9803bd3c43031d3ce302893d7702013dff01853e7b01143eec00ae3f5200523fae00004000
def coef1_2_1 : Nat := 0x1e7d21831cfb23051b7c24841a00260018882778171528eb15a92a5714452bbb12e82d1811952e6b104b2fb50f0b30f50dd732290cad33530b9034700a7f3581
def coef1_2_2 : Nat := 0x34700b9033530cad32290dd730f50f0b2fb5104b2e6b11952d1812e82bbb14452a5715a928eb17152778188826001a0024841b7c23051cfb21831e7d20002000
def coef1_2_3 : Nat := 0x3fae00523f5200ae3eec01143e7b01853dff02013d7702893ce3031d3c4303bd3b9804683adf05213a1a05e6394806b8386a0796377e08823686097a35810a7f
def coef1_2 : Nat := coef1_2_0 ||| (coef1_2_1 <<< 512) ||| (coef1_2_2 <<< 1024) ||| (coef1_2_3 <<< 1536)
def coef1_4_0 : Nat := 0xfec013b52bbe01cdfed312e72c200226fee8121b2c790284fefd11512ccb02e7ff12108a2d16034eff280fc62d5903b9ff3e0f042d950429ff540e452dca049dff6b0d8a2df50516ff810cd32e190593ff970c1f2e350615ffad0b6f2e4a069affc20ac32e570724ffd70a1b2e5c07b2ffec09782e590843000008d92e4e08d9
def coef1_4_1 : Nat := 0xfe6520c7224cfe88fe591fff230afe9efe501f3523c3feb8fe491e68247afed5fe461d99252afef7fe451cc925d6ff1cfe461bf6267fff45fe4a1b232720ff73fe501a4f27bdffa4fe59197b2852ffdafe6318a628e30014fe6f17d1296e0052fe7c16fd29f20095fe8b16292a7000dcfe9c15572ae50128fead14852b560178
def coef1_4_2 : Nat := 0x1282ae51557fe9c00dc2a701629fe8b009529f216fdfe7c0052296e17d1fe6f001428e318a6fe63ffda2852197bfe59ffa427bd1a4ffe50ff7327201b23fe4aff45267f1bf6fe46ff1c25d61cc9fe45fef7252a1d99fe46fed5247a1e68fe49feb823c31f35fe50fe9e230a1ffffe59fe88224c20c7fe65fe75218b218bfe75
def coef1_4_3 : Nat := 0x8432e590978ffec07b22e5c0a1bffd707242e570ac3ffc2069a2e4a0b6fffad06152e350c1fff9705932e190cd3ff8105162df50d8aff6b049d2dca0e45ff5404292d950f04ff3e03b92d590fc6ff28034e2d16108aff1202e72ccb1151fefd02842c79121bfee802262c2012e7fed301cd2bbe13b5fec001782b561485fead
def coef1_4 : Nat := coef1_4_0 ||| (coef1_4_1 <<< 1024) ||| (coef1_4_2 <<< 2048) ||| (coef1_4_3 <<< 3072)
def coef1_6_0 : Nat := 0x25fae117442d4202d8fd9c0027fae1167d2da5035afd7c0029fae415b72e0003e1fd5b002afae914f12e57046bfd3a002afaf1142c2ea704f9fd190029fafb13682ef0058cfcf80027fb0612a42f360622fcd70025fb1411e22f7306bcfcb60023fb2411202fab0759fc95001ffb3610602fdc07fafc75001bfb490fa23006089ffc550017fb5e0ee530290947fc360012fb740e2a304709f2fc17000cfb8c0d72305c0aa1fbf90006fba50cbb306c0b52fbdc0000fbc00c0630740c06fbc0
def coef1_6_1 : Nat := 0xff7bfc7a23372493fceeff53ff8dfc472285253cfd2dff3eff9efc1721d025e2fd71ff28ffaffbeb211a2683fdb8ff11ffbefbc220602723fe04fef9ffccfb9d1fa527befe54fee0ffd9fb7c1ee82855fea8fec6ffe5fb5e1e2928e9ff00feabfff0fb441d692976ff5dfe90fffafb2d1ca72a02ffbdfe730003fb191be42a880022fe56000bfb081b202b09008bfe390012fafa1a5b2b8600f9fe1a0018faf019962bfc016afdfc001dfae818d02c6f01e0fddc0021fae3180a2cdc025afdbc
def coef1_6_2 : Nat := 0xfddc01e02c6f18d0fae8001dfdfc016a2bfc1996faf00018fe1a00f92b861a5bfafa0012fe39008b2b091b20fb08000bfe5600222a881be4fb190003fe73ffbd2a021ca7fb2dfffafe90ff5d29761d69fb44fff0feabff0028e91e29fb5effe5fec6fea828551ee8fb7cffd9fee0fe5427be1fa5fb9dffccfef9fe0427232060fbc2ffbeff11fdb82683211afbebffafff28fd7125e221d0fc17ff9eff3efd2d253c2285fc47ff8dff53fcee24932337fc7aff7bff68fcb223e623e6fcb2ff68
def coef1_6_3 : Nat := 0xfbdc0b52306c0cbbfba50006fbf90aa1305c0d72fb8c000cfc1709f230470e2afb740012fc36094730290ee5fb5e0017fc55089f30060fa2fb49001bfc7507fa2fdc1060fb36001ffc9507592fab1120fb240023fcb606bc2f7311e2fb140025fcd706222f3612a4fb060027fcf8058c2ef01368fafb0029fd1904f92ea7142cfaf1002afd3a046b2e5714f1fae9002afd5b03e12e0015b7fae40029fd7c035a2da5167dfae10027fd9c02d82d421744fae10025fdbc025a2cdc180afae30021
def coef1_6 : Nat := coef1_6_0 ||| (coef1_6_1 <<< 1536) ||| (coef1_6_2 <<< 3072) ||| (coef1_6_3 <<< 4608)
def coef2_8_0 : Nat := 0xffafffae07011343171c0dac0271ff26ffb5ffa306d3131817290ddf0290ff25ffbaff9906a512ed17350e1202b0ff24ffc0ff8f067812c117400e4402d0ff24ffc5ff86064b1295174a0e7702f0ff24ffcbff7d061e126817520ea90312ff25ffd1ff7405f2123b175a0edb0333ff26ffd6ff6c05c6120d17620f0c0356ff27ffdbff65059b11df17680f3e0378ff28ffe1ff5e057111b0176b0f6f039cff2affe6ff570546118117700fa003c0ff2cffebff51051d115117730fd003e4ff2ffff1ff4b04f31121177510000409ff32fff6ff4604cb10f117741030042fff35fffbff4104a310c01775105f0454ff390000ff3d047b108f1772108f047bff3d
def coef2_8_1 : Nat := 0xff5b00a80a10158d15c70a7600d1ff52ff60009409dd156e15e30aa900e7ff4eff65008109aa154e15ff0adc00fdff4aff69006e0978152e16190b100114ff46ff6e005c0946150c16340b43012bff42ff73004a091414ea164c0b770143ff3fff79003908e214c816630baa015cff3bff7e002908b114a416790bde0175ff38ff830019087f147f16920c11018eff35ff88000a084f145a16a50c4501a9ff32ff8efffb081e143416b90c7801c4ff30ff93ffed07ee140e16cc0cac01dfff2dff99ffdf07be13e716de0cdf01fbff2bff9effd2078e13bf16ee0d130218ff2affa4ffc6075f139616fe0d460235ff28ffaaffba0730136d170c0d790253ff27
def coef2_8_2 : Nat := 0xff2802350d4616fe1396075fffc6ffa4ff2a02180d1316ee13bf078effd2ff9eff2b01fb0cdf16de13e707beffdfff99ff2d01df0cac16cc140e07eeffedff93ff3001c40c7816b91434081efffbff8eff3201a90c4516a5145a084f000aff88ff35018e0c111692147f087f0019ff83ff3801750bde167914a408b10029ff7eff3b015c0baa166314c808e20039ff79ff3f01430b77164c14ea0914004aff73ff42012b0b431634150c0946005cff6eff4601140b101619152e0978006eff69ff4a00fd0adc15ff154e09aa0081ff65ff4e00e70aa915e3156e09dd0094ff60ff5200d10a7615c7158d0a1000a8ff5bff5700bc0a4315ab15a90a4300bcff57
def coef2_8_3 : Nat := 0xff390454105f177510c004a3ff41fffbff35042f1030177410f104cbff46fff6ff32040910001775112104f3ff4bfff1ff2f03e40fd017731151051dff51ffebff2c03c00fa0177011810546ff57ffe6ff2a039c0f6f176b11b00571ff5effe1ff2803780f3e176811df059bff65ffdbff2703560f0c1762120d05c6ff6cffd6ff2603330edb175a123b05f2ff74ffd1ff2503120ea917521268061eff7dffcbff2402f00e77174a1295064bff86ffc5ff2402d00e44174012c10678ff8fffc0ff2402b00e12173512ed06a5ff99ffbaff2502900ddf1729131806d3ffa3ffb5ff2602710dac171c13430701ffaeffafff2702530d79170c136d0730ffbaffaa
def coef2_8 : Nat := coef2_8_0 ||| (coef2_8_1 <<< 2048) ||| (coef2_8_2 <<< 4096) ||| (coef2_8_3 <<< 6144)
def coef2_2_0 : Nat := 0xd9832680c96336a0b9734690a9c356409a4365c08b0375007bf384106d2392e05e93a1705043afc04243bdc03473cb9026f3d91019b3e6500cb3f3500004000
def coef2_2_1 : Nat := 0x1ee2211e1dc4223c1ca6235a1b8924771a6c2594195126af183727c9171e28e2160729f914f12b0f13dd2c2312cc2d3411bc2e4410af2f510fa5305b0e9d3163
def coef2_2_2 : Nat := 0x305b0fa52f5110af2e4411bc2d3412cc2c2313dd2b0f14f129f9160728e2171e27c9183726af195125941a6c24771b89235a1ca6223c1dc4211e1ee220002000
def coef2_2_3 : Nat := 0x3f3500cb3e65019b3d91026f3cb903473bdc04243afc05043a1705e9392e06d2384107bf375008b0365c09a435640a9c34690b97336a0c9632680d9831630e9d
def coef2_2 : Nat := coef2_2_0 ||| (coef2_2_1 <<< 512) ||| (coef2_2_2 <<< 1024) ||| (coef2_2_3 <<< 1536)
def coef2_4_0 : Nat := 0x1b915591e880a66019214ff1eb10abe016c14a61ed60b180147144b1efb0b73012413f01f1d0bcf010313951f3c0c2c00e3133a1f590c8a00c412de1f760ce800a712821f8f0d48008b12261fa60da9007011ca1fbc0e0a0057116e1fcf0e6c003f11111fe10ecf002910b51fef0f33001410591ffb0f9800000ffd20060ffd
def coef2_4_1 : Nat := 0x4fe1a791b07058204bf1a2f1b4c05c6048019e41b90060c044419981bd206520409194b1c11069b03cf18fc1c5006e5039718ac1c8d07300360185b1cc9077c032b18091d0207ca02f717b61d3a081902c517621d7008690295170d1da308bb026616b81dd4090e023816611e050962020c160a1e3309b701e215b21e5e0a0e
def coef2_4_2 : Nat := 0x9b71e33160a020c09621e0516610238090e1dd416b8026608bb1da3170d029508691d70176202c508191d3a17b602f707ca1d021809032b077c1cc9185b036007301c8d18ac039706e51c5018fc03cf069b1c11194b040906521bd219980444060c1b9019e4048005c61b4c1a2f04bf05821b071a7904fe053f1ac11ac1053f
def coef2_4_3 : Nat := 0xf981ffb105900140f331fef10b500290ecf1fe11111003f0e6c1fcf116e00570e0a1fbc11ca00700da91fa61226008b0d481f8f128200a70ce81f7612de00c40c8a1f59133a00e30c2c1f3c139501030bcf1f1d13f001240b731efb144b01470b181ed614a6016c0abe1eb114ff01920a661e88155901b90a0e1e5e15b201e2
def coef2_4 : Nat := coef2_4_0 ||| (coef2_4_1 <<< 1024) ||| (coef2_4_2 <<< 2048) ||| (coef2_4_3 <<< 3072)
def coef2_6_0 : Nat := 0xffed058213aa18a70cd1016fffeb0554137418b90d0d0187ffea0526133e18ca0d49019fffea04fa130718d80d8501b8ffea04ce12cf18e70dc101d1ffea04a3129718f30dfd01ecffeb0479125f18fd0e390207ffec044f122619070e750223ffed042711ec190f0eb10240ffef03fe11b219170eed025dfff103d71178191c0f28027cfff403b1113d191f0f64029bfff6038b110219230f9f02bbfff9036610c619260fda02dbfffc0342108b1926101402fd0000031f104f1924104f031f
def coef2_6_1 : Nat := 0x4708b5169a16e80925005d003d087e1672170c095e0069003408471649172f09970076002b0811161f175209d00083002307db15f417730a0a0091001c07a615c717940a44009f00150771159a17b30a7e00af000e073d156d17d00ab900bf00080709153e17ee0af400cf000306d6150e18090b2f00e1fffe06a314dd18250b6a00f3fffa067114ac183e0ba50106fff70640147a18550be10119fff3060f1447186c0c1d012efff105df141318810c590143ffee05b013df18950c950159
def coef2_6_2 : Nat := 0x1430c591881141305dffff1012e0c1d186c1447060ffff301190be11855147a0640fff701060ba5183e14ac0671fffa00f30b6a182514dd06a3fffe00e10b2f1809150e06d6000300cf0af417ee153e0709000800bf0ab917d0156d073d000e00af0a7e17b3159a07710015009f0a44179415c707a6001c00910a0a177315f407db0023008309d01752161f0811002b00760997172f1649084700340069095e170c1672087e003d005d092516e8169a08b50047005208ed16c116c108ed0052
def coef2_6_3 : Nat := 0x2fd10141926108b0342fffc02db0fda192610c60366fff902bb0f9f19231102038bfff6029b0f64191f113d03b1fff4027c0f28191c117803d7fff1025d0eed191711b203feffef02400eb1190f11ec0427ffed02230e7519071226044fffec02070e3918fd125f0479ffeb01ec0dfd18f3129704a3ffea01d10dc118e712cf04ceffea01b80d8518d8130704faffea019f0d4918ca133e0526ffea01870d0d18b913740554ffeb016f0cd118a713aa0582ffed01590c95189513df05b0ffee
def coef2_6 : Nat := coef2_6_0 ||| (coef2_6_1 <<< 1536) ||| (coef2_6_2 <<< 3072) ||| (coef2_6_3 <<< 4608)

/-- The table of a set and a number of taps. -/
def coefTable (set taps : Nat) : Nat :=
  match set, taps with
  | 0, 8 => coef0_8
  | 0, 2 => coef0_2
  | 0, 4 => coef0_4
  | 0, 6 => coef0_6
  | 1, 8 => coef1_8
  | 1, 2 => coef1_2
  | 1, 4 => coef1_4
  | 1, 6 => coef1_6
  | 2, 8 => coef2_8
  | 2, 2 => coef2_2
  | 2, 4 => coef2_4
  | 2, 6 => coef2_6
  | _, _ => 0

/-- The u16 image of coefficient k of a phase. -/
def coefBits (set taps phase k : Nat) : Nat := (coefTable set taps >>> (16 * (phase * taps + k))) % 65536

/-- Coefficient k of a phase, s1.14 (R171, R466). -/
def coef (set taps phase k : Nat) : Int := signed 16 (coefBits set taps phase k)

end Sys2Proof.Machine
end

