-- ==== Sys2Proof/Machine/Geometry.lean ====
section
/-!
DEFINITION. Integer geometry of the composition: convexity and coverage of polygons (R180, R181), the Chest, shade objects
(R198 to R200), generated patterns (R173), glyphs (R208), buffers and their scaling (R168 to R171).
-/

namespace Sys2Proof.Machine

/-! ### Arithmetic -/

/-- Integer square root from bit `n` down. -/
def isqrtFrom : Nat → Nat → Nat → Nat
  | 0, r, x => if (r + 1) * (r + 1) ≤ x then r + 1 else r
  | n + 1, r, x => isqrtFrom n (if (r + 2 ^ (n + 1)) * (r + 2 ^ (n + 1)) ≤ x then r + 2 ^ (n + 1) else r) x

/-- The integer square root. -/
def isqrt (x : Nat) : Nat := isqrtFrom (x.log2 / 2 + 1) 0 x

/-- A number clamped to 0–65535. -/
def clamp16 (x : Int) : Nat := (max 0 (min 65535 x)).toNat

/-! ### Polygons -/

/-- A point or vector. -/
abbrev Pt := Int × Int

/-- The cross product. -/
def cross (a b : Pt) : Int := a.1 * b.2 - a.2 * b.1

def ptSub (a b : Pt) : Pt := (a.1 - b.1, a.2 - b.2)

/-- The edges of a polygon: start and vector. -/
def edges (vs : List Pt) : List (Pt × Pt) :=
  List.zipWith (fun a b => (a, ptSub b a)) vs (vs.drop 1 ++ vs.take 1)

/-- All numbers share one sign or are 0. -/
def oneSign (l : List Int) : Bool := l.all (fun x => decide (0 ≤ x)) || l.all (fun x => decide (x ≤ 0))

/-- The cross products of every edge with the vectors from its start to every vertex. -/
def edgeVertexCrosses (vs : List Pt) : List Int :=
  (edges vs).flatMap fun e => vs.map fun v => cross e.2 (ptSub v e.1)

/-- Convexity under R180. -/
def convex (vs : List Pt) : Bool :=
  let es := edges vs
  let turns := List.zipWith (fun a b => cross a.2 b.2) es (es.drop 1 ++ es.take 1)
  oneSign (turns ++ edgeVertexCrosses vs)

/-- The side towards which the non-zero cross products turn: 1, −1, or 0 for a polygon without area. -/
def winding (vs : List Pt) : Int :=
  match (edgeVertexCrosses vs).find? (fun x => x ≠ 0) with
  | none => 0
  | some x => if 0 < x then 1 else -1

/-- The point passes the test of one edge (R181). -/
def edgePasses (sgn : Int) (q : Pt) (e : Pt × Pt) : Bool :=
  if e.2 = (0, 0) then true
  else
    let c := sgn * cross e.2 (ptSub q e.1)
    decide (0 < c) || (decide (c = 0) &&
      (decide (0 < -(sgn * e.2.2)) || (decide (e.2.2 = 0) && decide (0 < sgn * e.2.1))))

/-- The polygon covers the point (R181). -/
def covers (vs : List Pt) (q : Pt) : Bool :=
  let sgn := winding vs
  decide (sgn ≠ 0) && (edges vs).all (edgePasses sgn q)

/-! ### The Chest (R181) -/

/-- c_max and f_min of a view pixel. -/
def envelope (c : ChestImage) (u v : Nat) : Nat × Nat :=
  let cov := c.polys.filter fun p => covers p.verts ((16 * u + 8 : Nat), (16 * v + 8 : Nat))
  match cov with
  | [] => (c.defaultCeil, c.defaultFloor)
  | p :: ps => (ps.foldl (fun m x => min m x.ceil) p.ceil, ps.foldl (fun m x => max m x.floor) p.floor)

/-- Stage 2: the ceiling, then the floor. -/
def chestApply (a cMax fMin : Nat) : Nat := max (min a cMax) fMin

/-- The view pixel an array pixel shows (R166). -/
def viewOf (mirrorX mirrorY : Bool) (c r : Nat) : Nat × Nat :=
  (if mirrorX then 2047 - c else c, if mirrorY then 639 - r else r)

/-- The bytes of CHEST_REF: c_max and f_min of every pixel in array order (R182). -/
def chestStream (img : ChestImage) (mirrorX mirrorY : Bool) : List Byte :=
  (List.range 640).flatMap fun r => (List.range 2048).flatMap fun c =>
    let uv := viewOf mirrorX mirrorY c r
    let e := envelope img uv.1 uv.2
    u16 e.1 ++ u16 e.2

/-- CHEST_REF: the CRC-32 over c_max and f_min of every pixel in array order (R182). -/
def chestCrc (img : ChestImage) (mirrorX mirrorY : Bool) : Nat :=
  let reg := (List.range 640).foldl (fun acc r =>
    (List.range 2048).foldl (fun acc c =>
      let uv := viewOf mirrorX mirrorY c r
      let e := envelope img uv.1 uv.2
      [e.1 % 256, e.1 / 256, e.2 % 256, e.2 / 256].foldl (checkFeed set0) acc) acc) set0.init
  reflectBits 32 reg ^^^ set0.xorout

/-! ### Shade objects -/

/-- The extrapolated object and whether |dt| exceeded the horizon `h` (R198). -/
def extrapolate (o : ShadeObj) (swap : Int) (h : Int) : ShadeObj × Bool :=
  let dt0 := swap - o.validTsc
  let dt := max (-h) (min h dt0)
  let dx := (o.vx * dt + 1600000) / 3200000
  let dy := (o.vy * dt + 1600000) / 3200000
  ({ o with verts := o.verts.map fun p => (p.1 + dx, p.2 + dy) }, decide (dt ≠ dt0))

/-- The core covers a view pixel (R199). -/
def coreCovers (o : ShadeObj) (u v : Nat) : Bool := covers o.verts ((8 * u + 4 : Nat), (8 * v + 4 : Nat))

/-- floor(e × 256 / EDGE) for one edge, with e its signed distance in px, 0 on the inner side; none for an edge of no length. -/
def edgeWeight (sgn : Int) (edge : Nat) (q : Pt) (e : Pt × Pt) : Option Nat :=
  if e.2 = (0, 0) then none
  else
    let c := (-(sgn * cross e.2 (ptSub q e.1))).toNat
    let len2 := (e.2.1 * e.2.1 + e.2.2 * e.2.2).toNat
    some (isqrt ((32 * c) * (32 * c) / (len2 * edge * edge)))

/-- The weight k of an object at a view pixel: 0 in the core, up to 255 in the soft edge, none elsewhere (R199). -/
def shadeWeight (o : ShadeObj) (u v : Nat) : Option Nat :=
  let sgn := winding o.verts
  if sgn = 0 then none
  else if coreCovers o u v then some 0
  else if o.edge = 0 then none
  else
    let q : Pt := ((8 * u + 4 : Nat), (8 * v + 4 : Nat))
    let k := ((edges o.verts).filterMap (edgeWeight sgn o.edge q)).foldl max 0
    if k < 256 then some k else none

/-- The weight the shade engine uses: within ±1 of R199 (R200; the deviation is a free value, log entry 8). -/
def engineWeight (slot : Nat) (o : ShadeObj) (u v : Nat) : Option Nat :=
  let choice := Config.shadeDeviation ((o.edge : Int) :: o.verts.flatMap fun x => [x.1, x.2]) slot o.id u v
  match shadeWeight o u v with
  | none => none
  | some 0 => if coreCovers o u v then some 0 else some (min 1 (choice % 3 - 1))
  | some k => some (min 255 (k + choice % 3 - 1))

/-- The value a SHADE drawer delivers (Table 8.3). -/
def shadeValue (slot : Nat) (objs : List ShadeObj) (mul : Bool) (u v : Nat) : Nat :=
  objs.foldl (fun acc o =>
    match engineWeight slot o u v with
    | none => acc
    | some k =>
      if mul then max acc (((65535 - o.ceil) * (256 - k) + 128) / 256)
      else min acc (o.ceil + ((65535 - o.ceil) * k + 128) / 256)) (if mul then 0 else 65535)

/-! ### Patterns (R173) -/

/-- An integer within ±1 of P[k] + ΔP (x − k), with x² = num/den: the exact value lies between two bounds and the generator
chooses among the integers between them (R173; log entry 7). -/
def patternNear (profile : List Nat) (num den choice : Nat) : Nat :=
  if 256 * den ≤ num then clamp16 ((profile.getD 16 0 : Int) - 1 + choice % 3)
  else
    let k := isqrt (num / den)
    let p : Int := profile.getD k 0
    let d : Int := (profile.getD (k + 1) 0 : Int) - p
    let g := d.natAbs * d.natAbs * num
    let fl := isqrt (g / den)
    let exact := decide (fl * fl * den = g)
    let floorE := if 0 ≤ d then p - d * k + fl else p - d * k - fl - (if exact then 0 else 1)
    if exact then clamp16 (floorE - 1 + (choice % 3 : Nat)) else clamp16 (floorE + (choice % 2 : Nat))

/-- The value of a PATTERN drawer at drawn pixel (i, j). -/
def patternValue (slot : Nat) (p : Params) (i j u v : Nat) : Nat :=
  let choice := Config.patternDeviation ([(p.kind : Int), p.originX, p.originY, p.dirX, p.dirY, p.length] ++ p.profile.map Int.ofNat) slot u v
  let x : Int := 16 * (i : Int) - p.originX
  let y : Int := 16 * (j : Int) - p.originY
  match p.kind with
  | 1 =>
    let n := x * p.dirX + y * p.dirY
    let dd := (p.dirX * p.dirX + p.dirY * p.dirY).toNat
    patternNear p.profile (256 * n.toNat * n.toNat) (dd * p.length * p.length) choice
  | 2 => patternNear p.profile (256 * (x * x + y * y).toNat) (p.length * p.length) choice
  | _ => clamp16 ((p.profile.getD 0 0 : Int) - 1 + (choice % 3 : Nat))

/-! ### Glyphs (R205 to R208) -/

/-- What R208 fixes of a sample: it lies inside, outside, or within 0.5 px of the outline. -/
inductive Sampling where
  | inside | outside | near
deriving DecidableEq, Repr

/-- The comparison of a distance, given as num/den of its square, with a half width and the margin within which the outline may lie; all in
1/32 px. -/
def sampleByDistance (num den halfWidth margin : Nat) : Sampling :=
  if halfWidth ≥ margin ∧ num ≤ (halfWidth - margin) * (halfWidth - margin) * den then .inside
  else if (halfWidth + margin) * (halfWidth + margin) * den ≤ num then .outside
  else .near

/-- The squared distance of a point from a segment, as a fraction. -/
def segDistance (a b q : Pt) : Nat × Nat :=
  let d := ptSub b a
  let w := ptSub q a
  let len2 := d.1 * d.1 + d.2 * d.2
  let t := w.1 * d.1 + w.2 * d.2
  if t ≤ 0 then ((w.1 * w.1 + w.2 * w.2).toNat, 1)
  else if len2 ≤ t then
    let z := ptSub q b
    ((z.1 * z.1 + z.2 * z.2).toNat, 1)
  else (((cross d w) * (cross d w)).toNat, len2.toNat)

/-- The best of several findings of one stroke: inside any, else near any. -/
def sampleUnion (l : List Sampling) : Sampling :=
  if l.contains .inside then .inside else if l.contains .near then .near else .outside

/-- The winding number of a closed path around a point. -/
def windingNumber (vs : List Pt) (q : Pt) : Int :=
  (edges vs).foldl (fun acc e =>
    let b := (e.1.1 + e.2.1, e.1.2 + e.2.2)
    let c := cross e.2 (ptSub q e.1)
    if e.1.2 ≤ q.2 ∧ q.2 < b.2 ∧ 0 < c then acc + 1
    else if b.2 ≤ q.2 ∧ q.2 < e.1.2 ∧ c < 0 then acc - 1
    else acc) 0

/-- A glyph primitive as it is drawn (Table 8.7). -/
structure Prim where
  kind : Nat
  flags : Nat
  value : Nat
  width : Nat
  radius : Nat
  start : Nat
  sweep : Nat
  pts : List Pt
deriving DecidableEq, Repr

/-- The terms of the sine series, in 2⁻³⁰. -/
def sinTerms (x2 : Int) : Nat → Nat → Int → Int
  | 0, _, _ => 0
  | n + 1, k, term => term + sinTerms x2 n (k + 1) (-(term * x2 / 1073741824 / ((2 * k + 2) * (2 * k + 3) : Nat)))

/-- The sine of a quarter turn's fraction, `x` in 2⁻³² turn, in 2⁻³⁰. -/
def sinQuarter (x : Nat) : Int :=
  let r : Int := (x * 1686629713 / 1073741824 : Nat)
  sinTerms (r * r / 1073741824) 9 0 r

/-- The sine of an angle in 2⁻³² turn, in 2⁻³⁰. -/
def sinTurn (x : Nat) : Int :=
  let r := x % 1073741824
  match x / 1073741824 % 4 with
  | 0 => sinQuarter r
  | 1 => sinQuarter (1073741824 - r)
  | 2 => -sinQuarter r
  | _ => -sinQuarter (1073741824 - r)

/-- The swept angle of an arc, 2⁻¹⁶ turn; 0 is a full turn. -/
def arcSweep (p : Prim) : Nat := if p.sweep = 0 then 65536 else p.sweep

/-- The number of equal chords that deviate from an arc by at most 1/16 px (R208). -/
def arcChords (p : Prim) : Nat := isqrt (arcSweep p * arcSweep p * p.radius * 49349 / 42949672960000) + 1

/-- A point of an arc, in 2⁻²⁰ px: from START towards +gy, or against it with CCW (Table 8.7). -/
def arcPoint (p : Prim) (k : Nat) : Pt :=
  let c := p.pts.headD (0, 0)
  let turned := 65536 * arcSweep p * k / arcChords p
  let x := if p.flags / 2 % 2 = 1 then 65536 * p.start + 8589934592 - turned else 65536 * p.start + turned
  (65536 * c.1 + (p.radius : Int) * sinTurn (x + 1073741824) / 16384, 65536 * c.2 + (p.radius : Int) * sinTurn x / 16384)

/-- The path of a primitive in 2⁻²⁰ px of glyph space, an arc by its chords, and whether it closes. -/
def primPath (p : Prim) : List Pt × Bool :=
  match p.kind with
  | 0 => (p.pts.map fun g => (65536 * g.1, 65536 * g.2), decide (p.flags % 2 = 1))
  | 1 => if p.sweep = 0 then ((List.range (arcChords p)).map (arcPoint p), true) else ((List.range (arcChords p + 1)).map (arcPoint p), false)
  | _ => (p.pts.map fun g => (65536 * g.1, 65536 * g.2), true)

/-- The segments of a path: start and vector. -/
def pathEdges (x : List Pt × Bool) : List (Pt × Pt) := if x.2 then edges x.1 else (edges x.1).take (x.1.length - 1)

/-- A mesh node N(i, j) of a table, 1/8 px of the view (R206). -/
def meshNode (t : Mem Byte) (i j : Nat) : Pt :=
  let o := 16 + 4 * (33 * j + i)
  (leS (memReadList 0 t o 2) 0 2, leS (memReadList 0 t (o + 2) 2) 0 2)

/-- The place of a glyph point in the mesh: the cell, and the fractions a − i and b − j as numerators of `A` and `B` (R206). -/
structure MeshPlace where
  i : Nat
  j : Nat
  a : Int
  b : Int
  A : Int
  B : Int
deriving DecidableEq, Repr

/-- The place of the glyph point (x, y)/den, in 2⁻²⁰ px (R206). -/
def meshPlace (w h : Nat) (x y : Int) (den : Nat) : MeshPlace :=
  let A : Int := (den * 65536 * w : Nat)
  let B : Int := (den * 1048576 * h : Nat)
  let i := min (2 * x / A).toNat 31
  let j := min (10 * y / B).toNat 9
  { i := i, j := j, a := 2 * x - i * A, b := 10 * y - j * B, A := A, B := B }

/-- The bilinear blend of one coordinate of the four nodes, times 4 (1/32 px). -/
def meshBlend (m : MeshPlace) (n00 n10 n01 n11 : Int) : Int :=
  4 * ((m.A - m.a) * (m.B - m.b) * n00 + m.a * (m.B - m.b) * n10 + (m.A - m.a) * m.b * n01 + m.a * m.b * n11) / (m.A * m.B)

/-- The view point of the glyph point (x, y)/den, in 1/32 px (R206). -/
def glyphView (t : Mem Byte) (mesh : Bool) (d : Descriptor) (x y : Int) (den : Nat) : Pt :=
  if mesh then
    let m := meshPlace d.srcW d.srcH x y den
    let n := fun (i j : Nat) => meshNode t (m.i + i) (m.j + j)
    (meshBlend m (n 0 0).1 (n 1 0).1 (n 0 1).1 (n 1 1).1, meshBlend m (n 0 0).2 (n 1 0).2 (n 0 1).2 (n 1 1).2)
  else (32 * d.dstX + x / (32768 * den : Nat), 32 * d.dstY + y / (32768 * den : Nat))

/-- Half the stroke width in 1/32 px at a glyph point: WIDTH / 16 × √|det J| in the view (R208). -/
def strokeHalf (t : Mem Byte) (mesh : Bool) (d : Descriptor) (width : Nat) (x y : Int) (den : Nat) : Nat :=
  if mesh then
    let m := meshPlace d.srcW d.srcH x y den
    let n := fun (i j : Nat) => meshNode t (m.i + i) (m.j + j)
    let mix := fun (f : Pt → Int) (p q r s : Pt) (k e : Int) => (e - k) * (f q - f p) + k * (f s - f r)
    let xu : Pt := (mix (·.1) (n 0 0) (n 1 0) (n 0 1) (n 1 1) m.b m.B, mix (·.2) (n 0 0) (n 1 0) (n 0 1) (n 1 1) m.b m.B)
    let xv : Pt := (mix (·.1) (n 0 0) (n 0 1) (n 1 0) (n 1 1) m.a m.A, mix (·.2) (n 0 0) (n 0 1) (n 1 0) (n 1 1) m.a m.A)
    isqrt (width * width * 5 * (cross xu xv).natAbs / (d.srcW * d.srcH * (m.A * m.B).natAbs))
  else width

/-- Where a coordinate that goes from `c0` by `dc` meets `b`: the fraction strictly between 0 and 1, as numerator and denominator. -/
def crossingOf (c0 dc b : Int) : Option (Nat × Nat) :=
  let n := if 0 < dc then b - c0 else c0 - b
  if 0 < n ∧ n < dc.natAbs then some (n.toNat, dc.natAbs) else none

/-- A fraction put into its order. -/
def insertFraction (x : Nat × Nat) : List (Nat × Nat) → List (Nat × Nat)
  | [] => [x]
  | y :: ys => if x.1 * y.2 ≤ y.1 * x.2 then x :: y :: ys else y :: insertFraction x ys

/-- The fractions at which a segment crosses mesh cell boundaries, in order (R208). -/
def boundaryCrossings (w h : Nat) (e : Pt × Pt) : List (Nat × Nat) :=
  (((List.range 31).filterMap fun i => crossingOf e.1.1 e.2.1 (((i + 1) * w * 32768 : Nat) : Int))
    ++ ((List.range 9).filterMap fun j => crossingOf (10 * e.1.2) (10 * e.2.2) (((j + 1) * h * 1048576 : Nat) : Int))).foldr insertFraction []

/-- The point of a segment at a fraction, times its denominator. -/
def pointOn (e : Pt × Pt) (x : Nat × Nat) : Pt := (e.1.1 * x.2 + e.2.1 * x.1, e.1.2 * x.2 + e.2.2 * x.1)

/-- The fractions between which a segment is drawn straight: split at the boundaries it crosses, and so finely within a cell that a chord
stays within 1/4 px of the mapped line in each coordinate (R208). -/
def straightCuts (t : Mem Byte) (mesh : Bool) (d : Descriptor) (e : Pt × Pt) : List (Nat × Nat) :=
  if !mesh then [(0, 1), (1, 1)]
  else
    let cuts := (0, 1) :: boundaryCrossings d.srcW d.srcH e ++ [(1, 1)]
    (List.zipWith (fun (x y : Nat × Nat) =>
      let mid := pointOn e (x.1 * y.2 + y.1 * x.2, 2 * x.2 * y.2)
      let m := meshPlace d.srcW d.srcH mid.1 mid.2 (2 * x.2 * y.2)
      let k := fun (f : Pt → Int) => (f (meshNode t m.i m.j) - f (meshNode t (m.i + 1) m.j) - f (meshNode t m.i (m.j + 1)) + f (meshNode t (m.i + 1) (m.j + 1))).natAbs
      let n := isqrt (max (k (·.1)) (k (·.2)) / 8) + 1
      (List.range n).map fun c => (x.1 * y.2 * (n - c) + y.1 * x.2 * c, x.2 * y.2 * n)) cuts (cuts.drop 1)).flatten ++ [(1, 1)]

/-- The drawn pieces of a segment: their ends in the view, and half the stroke width at their middle, in 1/32 px. -/
def drawnPieces (t : Mem Byte) (mesh : Bool) (d : Descriptor) (width : Nat) (e : Pt × Pt) : List (Pt × Pt × Nat) :=
  let cuts := straightCuts t mesh d e
  List.zipWith (fun (x y : Nat × Nat) =>
    let p := pointOn e x
    let q := pointOn e y
    let mid := pointOn e (x.1 * y.2 + y.1 * x.2, 2 * x.2 * y.2)
    (glyphView t mesh d p.1 p.2 x.2, glyphView t mesh d q.1 q.2 y.2, strokeHalf t mesh d width mid.1 mid.2 (2 * x.2 * y.2))) cuts (cuts.drop 1)

/-- The margin of an outline in 1/32 px: 0.5 px (R208), and what the model's own chords may lie from the exact shape. -/
def outlineMargin (mesh : Bool) (kind : Nat) : Nat := if mesh then 32 else if kind = 1 then 18 else 16

/-- The finding of one sample of a primitive with its drawn pieces: a stroke with round joins and caps by the distance from its pieces, a
polygon by the nonzero rule (R208). -/
def samplePrim (kind margin : Nat) (pieces : List (Pt × Pt × Nat)) (q : Pt) : Sampling :=
  if kind = 2 then
    if pieces.all (fun e =>
        let d := segDistance e.1 e.2.1 q
        decide (margin * margin * d.2 ≤ d.1)) then
      if windingNumber (pieces.map (·.1)) q ≠ 0 then .inside else .outside
    else .near
  else
    sampleUnion (pieces.map fun e =>
      let d := segDistance e.1 e.2.1 q
      sampleByDistance d.1 d.2 e.2.2 margin)

/-- The point list of a primitive in a table. -/
def primPoints (t : Mem Byte) (off n : Nat) : List Pt :=
  (List.range n).map fun k => (leS (memReadList 0 t (off + 4 * k) 4) 0 2, leS (memReadList 0 t (off + 4 * k) 4) 2 2)

/-- The primitives of a table from an offset. -/
def primsAt (t : Mem Byte) : Nat → Nat → List Prim
  | 0, _ => []
  | n + 1, off =>
    let b := memReadList 0 t off 16
    let npts := le b 2 2
    { kind := le b 0 1, flags := le b 1 1, value := le b 4 2, width := le b 6 2, radius := le b 8 2, start := le b 10 2, sweep := le b 12 2,
      pts := primPoints t (off + 16) npts } :: primsAt t n (off + 16 + 4 * npts)

/-- MESH of a table. -/
def glyphMesh (t : Mem Byte) : Bool := decide ((memRead 0 t 4 : Byte) = 1)

/-- The primitives of a table (R205). -/
def glyphPrims (t : Mem Byte) : List Prim :=
  primsAt t (le (memReadList 0 t 0 2) 0 2) (16 + if glyphMesh t then 1452 else 0)

/-- The 16 sample points of a view pixel in 1/32 px. -/
def samplePoints (u v : Nat) : List Pt :=
  (List.range 16).map fun k => ((32 * u + 4 * (2 * (k % 4) + 1) : Nat), (32 * v + 4 * (2 * (k / 4) + 1) : Nat))

/-- The point lies in glyph space (R206). -/
def inGlyphSpace (d : Descriptor) (g : Pt) : Bool :=
  decide (0 ≤ g.1) && decide (g.1 ≤ (1048576 * d.srcW : Nat)) && decide (0 ≤ g.2) && decide (g.2 ≤ (1048576 * d.srcH : Nat))

/-- The number of samples a primitive covers: what R208 fixes, and a free choice among the samples near the outline. The mesh maps glyph
space only: of an arc that leaves it the whole count is free (log entry 9). -/
def primCount (t : Mem Byte) (mesh : Bool) (d : Descriptor) (p : Prim) (k u v : Nat) : Nat :=
  let choice := Config.glyphSamples t k u v
  let path := primPath p
  if mesh && !path.1.all (inGlyphSpace d) then choice % 17
  else
    let pieces := (pathEdges path).flatMap (drawnPieces t mesh d p.width)
    let f := (samplePoints u v).map (samplePrim p.kind (outlineMargin mesh p.kind) pieces)
    (f.filter fun x => x = .inside).length + choice % ((f.filter fun x => x = .near).length + 1)

/-- The value a GLYPH drawer delivers. -/
def glyphValue (t : Mem Byte) (d : Descriptor) (u v : Nat) : Nat :=
  let mesh := glyphMesh t
  ((glyphPrims t).zipIdx).foldl (fun acc pk => max acc ((pk.1.value * primCount t mesh d pk.1 pk.2 u v + 8) / 16)) 0

/-- The fewest segments that R208 splits a primitive into: the chords of an arc; of another path a piece per mesh cell it passes, or
without a mesh pieces of at most 8 px. -/
def leastSegments (mesh : Bool) (d : Descriptor) (p : Prim) : Nat :=
  if p.kind = 1 then arcChords p
  else
    ((pathEdges (primPath p)).map fun e =>
      if mesh then (boundaryCrossings d.srcW d.srcH e).length + 1
      else
        let len2 := (e.2.1 * e.2.1 + e.2.2 * e.2.2).toNat
        max 1 (isqrt ((len2 + 70368744177663) / 70368744177664 - 1) + 1)).foldl (· + ·) 0

/-- The segments of a table for a descriptor: none without primitives, else as many as R208 needs and those that the unit makes beyond
them (R209; log entry 9). -/
def glyphSegs (t : Mem Byte) (d : Descriptor) : Nat :=
  let ps := glyphPrims t
  if ps = [] then 0
  else (ps.map (leastSegments (glyphMesh t) d)).foldl (· + ·) 0 + Config.glyphSegments t d.srcW d.srcH

/-! ### Buffers -/

/-- A length padded to 64 bytes. -/
def pad64 (n : Nat) : Nat := 64 * ceilDiv n 64

/-- Bytes of a stored row (Table 6.3). -/
def rowBytes (format w : Nat) : Nat :=
  match format with
  | 0 => 2 * w
  | 1 => pad64 (3 * ((w + 1) / 2))
  | 4 => pad64 ((w + 7) / 8)
  | _ => pad64 w

/-- Bytes of a buffer. -/
def bufferBytes (d : Descriptor) : Nat := rowBytes d.format d.srcW * d.srcH

/-- The stored pixel (x, y) of a buffer. -/
def storedPixel (d : Descriptor) (buf : Mem Byte) (x y : Nat) : Nat :=
  let row := y * rowBytes d.format d.srcW
  let at_ := fun k => (memRead 0 buf k : Byte).toNat
  match d.format with
  | 0 => at_ (row + 2 * x) + 256 * at_ (row + 2 * x + 1)
  | 1 =>
    let o := row + 3 * (x / 2)
    if x % 2 = 0 then at_ o + 256 * (at_ (o + 1) % 16) else at_ (o + 1) / 16 + 16 * at_ (o + 2)
  | 4 => at_ (row + x / 8) / 2 ^ (x % 8) % 2
  | _ => at_ (row + x)

/-- An entry of a curve table; the factory content is v × 257 (R169). -/
def curveEntry (curves : List (Option (List Nat))) (t v : Nat) : Nat :=
  match curves.getD t none with
  | none => v * 257
  | some l => l.getD v 0

/-- The stored pixel expanded to 16 bits (Table 7.2). -/
def expand (d : Descriptor) (curves : List (Option (List Nat))) (v : Nat) : Nat :=
  match d.format with
  | 0 => v
  | 1 => v * 16 + v / 256
  | 2 => curveEntry curves d.curve v
  | 3 => v * 257
  | _ => if v = 0 then 0 else 65535

/-- A source pixel. -/
def sourcePixel (d : Descriptor) (curves : List (Option (List Nat))) (buf : Mem Byte) (x y : Nat) : Nat :=
  expand d curves (storedPixel d buf x y)

/-- A drawer is scaled (R145). -/
def isScaled (d : Descriptor) : Bool := decide (d.dstW ≠ d.cropW) || decide (d.dstH ≠ d.cropH)

/-- The coefficient set of a scale ratio (R171). -/
def coefSet (dst crop : Nat) : Nat := if crop ≤ dst then 0 else if crop ≤ 2 * dst then 1 else 2

/-- xi and the phase of destination index i (R171, R466); the position has 16 fraction bits, rounded down to them. -/
def scalePos (crop0 crop dst i : Nat) : Int × Nat :=
  let x : Int := 65536 * (crop0 : Int) + ((2 * i + 1) * crop * 65536 / (2 * dst) : Nat) - 32768
  let q := (x + 512) / 1024
  (q / 64, (q % 64).toNat)

/-- One pass: (Σ coefficient × sample + 8192) >> 14, clamped. -/
def filterPass (set taps : Nat) (pos : Int × Nat) (lo hi : Int) (sample : Nat → Nat) : Nat :=
  let sum := (List.range taps).foldl (fun (acc : Int) (k : Nat) =>
    let x := max lo (min hi (pos.1 - (taps / 2 : Nat) + 1 + (k : Int)))
    acc + coef set taps pos.2 k * (sample x.toNat : Int)) 0
  clamp16 ((sum + 8192) / 16384)

/-- The value of a scaled layer at (i, j), after the mirrors (R171). -/
def scaledPixel (d : Descriptor) (curves : List (Option (List Nat))) (buf : Mem Byte) (i j : Nat) : Nat :=
  let px := scalePos d.cropX d.cropW d.dstW i
  let py := scalePos d.cropY d.cropH d.dstH j
  filterPass (coefSet d.dstH d.cropH) d.vtaps py d.cropY (d.cropY + d.cropH - 1 : Nat) fun y =>
    filterPass (coefSet d.dstW d.cropW) 8 px d.cropX (d.cropX + d.cropW - 1 : Nat) fun x =>
      sourcePixel d curves buf x y

/-! ### Blending (R174) -/

/-- op(A, x) of Table 7.4. -/
def blendOp (op a x : Nat) : Nat :=
  match op with
  | 0 => max a x
  | 1 => min (a + x) 65535
  | 2 => (a * (65536 - (x + x / 32768)) + 32768) / 65536
  | 3 => min a x
  | _ => x

/-! ### Correction and transfer (R85, R89, R90) -/

/-- correct(dv, GAIN, OFFSET) of R85 on a correction entry (Table 3.11). -/
def correct (dv entry : Nat) : Nat :=
  if dv = 0 then 0
  else clamp16 ((((dv * (entry % 4096) + 512) / 1024 : Nat) : Int) + 4 * signed 4 (entry / 4096))

/-- The breakpoint P(k). -/
def breakpoint (k : Nat) : Nat := if k = 1023 then 65535 else 64 * k

/-- Entry `k` of the linear table of R88. -/
def linearCode (k : Nat) : Nat := (2 * breakpoint k * 16383 + 65535) / (2 * 65535)

/-- Entry k of a transfer table; an unlisted entry is the linear one (R88). -/
def tcurveEntry (t : Mem Nat) (k : Nat) : Nat :=
  memRead (linearCode k) t k

/-- lookup(T, x) of R90. -/
def tlookup (t : Mem Nat) (x : Nat) : Nat :=
  let i := min (x / 64) 1022
  let span := breakpoint (i + 1) - breakpoint i
  tcurveEntry t i + ((tcurveEntry t (i + 1) - tcurveEntry t i) * (x - breakpoint i) + span / 2) / span

/-- transfer(x) of R90: w is the weight of the upper table. -/
def transfer (lo hi : Mem Nat) (w x : Nat) : Nat :=
  if w = 0 then tlookup lo x else ((256 - w) * tlookup lo x + w * tlookup hi x + 128) / 256

end Sys2Proof.Machine
end

