-- ==== Sys2Proof/Machine/CheckUnits.lean ====
section
/-! DEFINITION. The check-value units (chapter 20): their jobs, and the saving and restoring of jobs of CVU3. -/

namespace Sys2Proof.Machine

/-- start of R454. -/
def unitStart (p : CheckParams) (compare : Bool) (u : Cvu) : Cvu :=
  { u with running := true, compare := compare, param := p, reg := p.init % 2 ^ p.width, count := 0 }

/-- feed of R454, for each of some bytes. -/
def unitFeed (bytes : List Byte) (u : Cvu) : Cvu :=
  { u with reg := bytes.foldl (fun r b => checkFeed u.param r b.toNat) u.reg, count := u.count + bytes.length }

/-- The value finish delivers (R454). -/
def unitValue (u : Cvu) : Nat := checkFinish u.param u.reg

/-- A save between two bytes (R456). -/
def unitSave (u : Cvu) : Cvu :=
  { u with running := false, saved := { param := u.param, reg := u.reg, count := u.count, compare := u.compare } :: u.saved }

/-- A restore of the job saved last: it continues as if it had not been interrupted (R456). -/
def unitRestore (u : Cvu) : Cvu :=
  match u.saved with
  | j :: js => { u with running := true, param := j.param, reg := j.reg, count := j.count, compare := j.compare, saved := js }
  | [] => u

/-- A job finishes with a value, compared with the expected one if it carries one (R457). -/
def unitFinish (value : Nat) (expected : Option Nat) (now : Nat) (u : Cvu) : Cvu :=
  { u with running := false, jobs := incr32 u.jobs, lastValue := value, lastTsc := now, compare := expected.isSome,
           lastMismatch := expected.elim u.lastMismatch fun e => decide (e ≠ value),
           mismatches := if expected.elim false fun e => decide (e ≠ value) then incr32 u.mismatches else u.mismatches }

/-- What the MP has fed to the CHEST_REF job by now: bytes of its stream from COUNT on; how many is a matter of timing, and free. -/
def chestFed (s : State) (u : Cvu) : List Byte :=
  match s.comp.activation with
  | some a =>
    let rest := (chestStream a.image s.cfg.comp.mirrorX s.cfg.comp.mirrorY).drop u.count
    rest.take (Config.cvuFed (tsc s) % (rest.length + 1))
  | none => []

/-- A unit changed. -/
def updCvu (unit : Nat) (f : Cvu → Cvu) (s : State) : State := { s with cvus := listUpdate s.cvus unit f }

/-- A job of a unit runs and finishes. A job of CVU3 in progress, that of a CHEST_REF, is saved for it and restored after it (R456). -/
def cvuJob (unit value : Nat) (expected : Option Nat) (s : State) : State :=
  updCvu unit (fun u =>
    if u.running && decide (unit = 3) then unitRestore (unitFinish value expected (tsc s) (unitSave (unitFeed (chestFed s u) u)))
    else unitFinish value expected (tsc s) u) s

/-- The job of a unit in progress finishes. -/
def cvuEnd (unit value : Nat) (s : State) : State := updCvu unit (unitFinish value none (tsc s)) s

/-- A job starts. -/
def cvuStart (unit : Nat) (compare : Bool) (s : State) : State := updCvu unit (unitStart set0 compare) s

/-- The job in progress and every saved one are abandoned: they deliver no value and are not counted (R457, R460). -/
def cvuAbandon (unit : Nat) (s : State) : State := updCvu unit (fun u => { u with running := false, saved := [] }) s

end Sys2Proof.Machine
end

