-- ==== Sys2Proof/Machine/Grid.lean ====
section
/-!
DEFINITION. The instants of the frame schedule (09 Tables 9.2 and 9.3) and the choice of an effective frame (R149, R230).
-/

namespace Sys2Proof.Machine

/-- Row pitch in tk (Table 9.2). -/
def rowPitch (profile : Nat) (skip : Bool) : Nat :=
  match profile with
  | 1 => 300
  | 2 => if skip then 200 else 150
  | _ => 600

/-- The change of timing that binds frame `n` of the grid in force, if any (R230). While the fallback grid runs, a pending
change concerns the host's grid only (R231). -/
def changeFor (g : Sched) (n : Nat) : Option TimingPending :=
  match g.change with
  | some c => if !g.fallback && decide (c.frame ≤ n) then some c else none
  | none => none

/-- swap(n) on the grid in force, without a pending change (R215). -/
def gridSwap (g : Sched) (n : Nat) : Int := (g.anchorTsc : Int) + ((n : Int) - g.anchorFrame) * g.period

/-- swap(n) (R215), from frame k on with the new period of a pending change. -/
def swapAt (g : Sched) (n : Nat) : Int :=
  match changeFor g n with
  | some c => gridSwap g (c.frame - 1) + ((n : Int) - c.frame + 1) * c.period
  | none => gridSwap g n

/-- The profile of frame `m`. -/
def profileAt (g : Sched) (m : Nat) : Nat :=
  match changeFor g m with
  | some c => c.profile
  | none => g.profile

/-- The frame period of frame `m`. -/
def periodAt (g : Sched) (m : Nat) : Nat :=
  match changeFor g m with
  | some c => c.period
  | none => g.period

/-- The row pitch of frame `m` in tk. -/
def pitchAt (g : Sched) (m : Nat) : Nat := rowPitch (profileAt g m) g.skip

/-- C(m) (Table 9.3). -/
def compAt (g : Sched) (m : Nat) : Int := swapAt g (m - 1) - (1200 + 2 * pitchAt g m : Nat)

/-- The content cut-off of frame `m`. -/
def cutoffAt (g : Sched) (m : Nat) : Int := compAt g m - 4000

/-- The swap instant of frame `n`: of a frame composed already it is the one it was composed for. -/
def swapOf (g : Sched) (n : Nat) : Int :=
  match g.cur with
  | some f => if f.frame = n then f.swapTsc else if n < f.frame then g.swapTsc else swapAt g n
  | none => swapAt g n

/-- W(m) of the frame being composed: the execution of the swap before it, or its instant when that swap is withheld; none while that
swap is still to come (Table 9.3). -/
def writeStartOf (g : Sched) (f : CompFrame) : Option Int :=
  if f.frame ≤ g.nextSwap then some (if f.gap then max (g.writeStart : Int) f.prevSwap else g.writeStart)
  else if g.decided = some false then some f.prevSwap
  else none

/-- `n` tk of CLK_PIX time as a TSC interval under TSC_TRIM, at the first TSC at or after its end (R219). -/
def pixTicks (trim : Int) (n : Nat) : Nat := ceilDiv (n * ((tkUnits : Int) + trim).toNat) tkUnits

/-- D(r) of the frame being composed (Table 9.3). -/
def transferAt (g : Sched) (f : CompFrame) (r : Nat) : Option Int :=
  if r = 0 then some (f.prevSwap - f.pitch) else (writeStartOf g f).map fun w => w + (pixTicks f.trim ((r - 1) * f.pitch) : Nat)

/-- L(r), one pitch before D(r). Those of rows 0 and 1 fall before W, which is S0 unless the swap has been executed later. -/
def lateAt (g : Sched) (f : CompFrame) (r : Nat) : Option Int :=
  match r with
  | 0 => some (f.prevSwap - 2 * f.pitch)
  | 1 => some ((writeStartOf g f).getD f.prevSwap - f.pitch)
  | r + 2 => (writeStartOf g f).map fun w => w + (pixTicks f.trim (r * f.pitch) : Nat)

/-- Row time in tk (Table 9.2). -/
def rowTime (profile : Nat) : Nat :=
  match profile with
  | 1 => 300
  | 2 => 150
  | _ => 600

/-- Row `r` starts to be driven (R220). -/
def driveAt (g : Sched) (f : CompFrame) (r : Nat) : Option Int := (writeStartOf g f).map fun w => w + (pixTicks f.trim (r * f.pitch) : Nat)

/-- The sampling switches of row `r` open: the end of its row time (R220). -/
def openAt (g : Sched) (f : CompFrame) (r : Nat) : Option Int :=
  (writeStartOf g f).map fun w => w + (pixTicks f.trim (r * f.pitch + rowTime f.profile) : Nat)

/-- The end of the write window. -/
def windowEnd (g : Sched) (f : CompFrame) : Option Int := (writeStartOf g f).map fun w => w + (pixTicks f.trim (640 * f.pitch) : Nat)

/-- Steps of `p` from `base` until `x` is reached. -/
def stepsTo (base x : Int) (p : Nat) : Nat := ceilDiv (x - base).toNat p

/-- The first frame from `lo` whose instant `f`, linear with the period up to a pending change and from it on, is at or after `x`. -/
def firstFrame (g : Sched) (f : Nat → Int) (x : Int) (lo : Nat) : Nat :=
  let m := lo + stepsTo (f lo) x (periodAt g lo)
  match g.change with
  | some c =>
    if g.fallback ∨ m < c.frame then m
    else
      let lo' := max lo c.frame
      lo' + stepsTo (f lo') x c.period
  | none => m

/-- The effective frame of R149: its swap instant at or after EFFECT_TSC, its content cut-off at or after `ready`, not before
`notBefore`, and not composed yet. -/
def effectiveFrame (g : Sched) (effTsc ready notBefore : Nat) : Nat :=
  max (firstFrame g (swapAt g) effTsc g.nextComp) (max (firstFrame g (cutoffAt g) ready g.nextComp) notBefore)

/-- The first frame of a schedule that starts at `t` (R217), with its row pitch. -/
def firstOfSchedule (anchorTsc anchorFrame period pitch t : Nat) : Nat :=
  anchorFrame + 1 + stepsTo ((anchorTsc : Int) - (5200 + 2 * pitch : Nat)) t period

/-- The least Rake rows per frame of a profile (Table 4.5). -/
def leastRows (profile : Nat) : Nat :=
  match profile with
  | 0 => 4
  | 1 => 2
  | 2 => 1
  | _ => 9

/-- Rake rows per frame (R107). -/
def rakeRows (profile period : Nat) : Nat :=
  let r0 := leastRows profile
  ((List.range (641 - r0)).find? fun k => decide (ceilDiv 640 (r0 + k) * period ≤ 64000000)).elim 640 (r0 + ·)

/-- The range of the frame period of a profile (Table 4.5). -/
def periodOk (profile period : Nat) : Bool :=
  decide (period ≤ 1666667) && decide ((match profile with | 0 => 400000 | 1 => 200000 | 2 => 100000 | _ => 833334) ≤ period)

end Sys2Proof.Machine
end

