-- ==== Sys2Proof/Machine/Drawers.lean ====
section
/-!
DEFINITION. Drawer slots, placement (R155 to R159), the switch of the drawer table (R151) and retirement (R150).
-/

namespace Sys2Proof.Machine

/-! ### Slots -/

/-- A slot. -/
def slotAt (s : State) (n : Nat) : Slot := s.drw.slots.getD n {}

/-- A slot changed. -/
def updSlot (n : Nat) (f : Slot → Slot) (s : State) : State :=
  { s with drw := { s.drw with slots := listUpdate s.drw.slots n f } }

/-- Every slot changed. -/
def mapSlots (f : Slot → Slot) (s : State) : State :=
  { s with drw := { s.drw with slots := s.drw.slots.map f } }

/-- The handle of a slot (Table 6.1). -/
def handleOf (s : State) (n : Nat) : Nat := n + 256 * (slotAt s n).gen

/-- A handle is valid: its slot is in use and carries the same generation (R141). -/
def handleValid (s : State) (h : Nat) : Bool :=
  let sl := slotAt s (h % 256)
  decide (h / 256 = sl.gen) && decide (h % 256 < 2 ∨ sl.st ≠ .free)

/-! ### Blend order (R175, R176) -/

/-- A layer of the blend order: slot, operator, region, named by a step. -/
structure OrderItem where
  slot : Nat
  operator : Nat
  region : Option (Nat × Nat × Nat × Nat)
  named : Bool
deriving DecidableEq, Repr

/-- A row put into the fixed order: ascending TIER, ties by slot. -/
def insertTier (r : TableRow) : List TableRow → List TableRow
  | [] => [r]
  | x :: xs =>
    if r.desc.tier < x.desc.tier ∨ (r.desc.tier = x.desc.tier ∧ r.slot < x.slot) then r :: x :: xs
    else x :: insertTier r xs

/-- The region of a blend step. -/
def stepRegion (b : BlendStep) : Option (Nat × Nat × Nat × Nat) :=
  if b.regionEn then some (b.x0, b.y0, b.x1, b.y1) else none

/-- The blend order of a frame set: fixed, or by the program and then the drawers no step names. -/
def blendOrder (table : List TableRow) (blend : List BlendStep) : List OrderItem :=
  if blend = [] then
    (table.foldr insertTier []).map fun r => { slot := r.slot, operator := r.desc.operator, region := none, named := true }
  else
    (blend.filterMap fun b =>
      if table.any (fun r => r.slot = b.handle % 256) then
        some { slot := b.handle % 256, operator := b.operator, region := stepRegion b, named := true }
      else none)
    ++ ((table.filter fun r => !(blend.any fun b => b.handle % 256 = r.slot)).map fun r =>
      { slot := r.slot, operator := r.desc.operator, region := none, named := false })

/-! ### Placement (R155, R156) -/

/-- VIDEO or STILL: the drawer has pixel buffers. -/
def hasBuffers (d : Descriptor) : Bool := decide (d.type ≤ 1)

/-- Number of pixel buffers (Table 6.2). -/
def bufferCount (d : Descriptor) : Nat :=
  match d.type with
  | 0 => d.buffers
  | 1 => 2
  | _ => 0

/-- Fetch cost of a drawer. -/
def drawerCost (d : Descriptor) : Nat := if hasBuffers d then d.cropH * rowBytes d.format d.srcW else 0

/-- Memory of a drawer. -/
def drawerMemory (d : Descriptor) : Nat := bufferCount d * bufferBytes d

/-- A destination area clipped to the view: x0, y0, x1, y1, exclusive at the end. -/
def clippedArea (d : Descriptor) : Int × Int × Int × Int :=
  (max d.dstX 0, max d.dstY 0, min (d.dstX + d.dstW) 2048, min (d.dstY + d.dstH) 640)

/-- The row of a slot in a table. -/
def rowOf (table : List TableRow) (slot : Nat) : Option TableRow := table.find? fun r => r.slot = slot

/-- The descriptor of a slot in a table. -/
def descIn (table : List TableRow) (slot : Nat) : Descriptor := (rowOf table slot).elim {} (·.desc)

/-- The cost of a Cabinet entry: the rectangle that bounds its members' clipped areas, in L16. -/
def entryCost (table : List TableRow) (members : List Nat) : Nat :=
  let areas := (members.map fun m => clippedArea (descIn table m)).filter fun a => decide (a.1 < a.2.2.1) && decide (a.2.1 < a.2.2.2)
  match areas with
  | [] => 0
  | a :: as =>
    let b := as.foldl (fun x y => (min x.1 y.1, min x.2.1 y.2.1, max x.2.2.1 y.2.2.1, max x.2.2.2 y.2.2.2)) a
    2 * ((b.2.2.1 - b.1).toNat * (b.2.2.2 - b.2.1).toNat)

/-- An item of the blend order may belong to a candidate run with the operator. -/
def flattenable (table : List TableRow) (o : OrderItem) : Bool :=
  o.named && (descIn table o.slot).isStatic && (o.operator = 0 || o.operator = 1 || o.operator = 3)

/-- Maximal sequences of adjacent flattenable items with one operator: position of the first member, members. -/
def sequences (table : List TableRow) : Nat → Option (Nat × Nat × List Nat) → List OrderItem → List (Nat × List Nat)
  | _, none, [] => []
  | _, some (p, _, ms), [] => [(p, ms)]
  | i, none, o :: os =>
    if flattenable table o then sequences table (i + 1) (some (i, o.operator, [o.slot])) os
    else sequences table (i + 1) none os
  | i, some (p, op, ms), o :: os =>
    if flattenable table o && o.operator = op then sequences table (i + 1) (some (p, op, ms ++ [o.slot])) os
    else if flattenable table o then (p, ms) :: sequences table (i + 1) (some (i, o.operator, [o.slot])) os
    else (p, ms) :: sequences table (i + 1) none os

/-- The sum of the members' own costs. -/
def memberCost (table : List TableRow) (ms : List Nat) : Nat := ms.foldl (fun acc m => acc + drawerCost (descIn table m)) 0

/-- A run put into the order of R156: saving, largest first, ties by the blend position of the first member. -/
def insertRun (table : List TableRow) (r : Nat × List Nat) : List (Nat × List Nat) → List (Nat × List Nat)
  | [] => [r]
  | x :: xs =>
    let sr := memberCost table r.2 - entryCost table r.2
    let sx := memberCost table x.2 - entryCost table x.2
    if sx < sr ∨ (sx = sr ∧ r.1 < x.1) then r :: x :: xs else x :: insertRun table r xs

/-- The runs of a set (R156). -/
def runsOf (table : List TableRow) (order : List OrderItem) : List (Nat × List Nat) :=
  ((sequences table 0 none order).filter fun r =>
    decide (2 ≤ r.2.length) && decide (entryCost table r.2 < memberCost table r.2)).foldr (insertRun table) []

/-- Key of the correction map among items. -/
def corrKey : Nat := 512

/-- The items of a set with some runs flattened: the correction map, the Cabinet entries, the drawers. -/
def itemsOf (table : List TableRow) (order : List OrderItem) (runs : List (Nat × List Nat)) : List Item :=
  { key := corrKey, pos := 0, members := [], cost := 2621440, memory := 2621440, inSram := false }
  :: (runs.zipIdx.map fun rk =>
      { key := 256 + rk.2, pos := rk.1.1, members := rk.1.2, cost := entryCost table rk.1.2,
        memory := entryCost table rk.1.2, inSram := false })
  ++ (order.zipIdx.map fun ok =>
      let d := descIn table ok.1.slot
      { key := ok.1.slot, pos := ok.2, members := [],
        cost := if runs.any (fun r => r.2.contains ok.1.slot) then 0 else drawerCost d,
        memory := drawerMemory d, inSram := false })

/-- The item is the base layer's: the first item in blend order, or the Cabinet entry that stands there (R156). -/
def isBaseItem (order : List OrderItem) (runs : List (Nat × List Nat)) (it : Item) : Bool :=
  match order with
  | [] => false
  | o :: _ =>
    o.named && (if runs.any (fun r => r.2.contains o.slot) then it.members.contains o.slot else it.key = o.slot)

/-- The order of fill_sram: the correction map, the base layer, then cost / memory largest first; ties by blend position, Cabinet
entries first. Items that hold no memory have no such quotient and take nothing from the pool: they come last. -/
def fillBefore (isBase : Item → Bool) (a b : Item) : Bool :=
  if a.key = corrKey then true
  else if b.key = corrKey then false
  else if isBase a then true
  else if isBase b then false
  else if (a.memory = 0) ≠ (b.memory = 0) then decide (b.memory = 0)
  else if a.cost * b.memory ≠ b.cost * a.memory then decide (b.cost * a.memory < a.cost * b.memory)
  else if a.pos ≠ b.pos then decide (a.pos < b.pos)
  else decide (b.key < a.key)

def insertFill (isBase : Item → Bool) (a : Item) : List Item → List Item
  | [] => [a]
  | x :: xs => if fillBefore isBase a x then a :: x :: xs else x :: insertFill isBase a xs

/-- Items put into Pan SRAM while they fit, the others into DRAM. -/
def fillSram : Nat → List Item → List Item
  | _, [] => []
  | free, it :: its =>
    if it.memory ≤ free then { it with inSram := true } :: fillSram (free - it.memory) its
    else { it with inSram := false } :: fillSram free its

/-- Bytes fetched from DRAM per frame. -/
def dramFetch (items : List Item) : Nat := items.foldl (fun acc i => if i.inSram then acc else acc + i.cost) 0

/-- Bytes held in DRAM. -/
def dramMemory (items : List Item) : Nat := items.foldl (fun acc i => if i.inSram then acc else acc + i.memory) 0

/-- The ring of the monitor stream in Pan SRAM (R189). -/
def monitorRing (m : MonitorConfig) : Nat :=
  if !m.enable then 0
  else
    match m.mode with
    | 0 => 2621440
    | 1 => 655360
    | _ => 163840

/-- Memory still held in a pool by items before their retire point. -/
def retiringBytes (s : State) (sram : Bool) : Nat :=
  (s.drw.retiring.filter fun r => r.inSram = sram).foldl (fun acc r => acc + r.bytes) 0

/-- The items with the first `f` runs flattened, placed. -/
def placedItems (s : State) (mon : MonitorConfig) (table : List TableRow) (order : List OrderItem) (runs : List (Nat × List Nat)) : List Item :=
  fillSram (11534336 - monitorRing mon - retiringBytes s true)
    ((itemsOf table order runs).foldr (insertFill (isBaseItem order runs)) [])

/-- The items fit the DRAM pool with what still retires there. -/
def fitsPool (s : State) (items : List Item) : Bool := decide (dramMemory items + retiringBytes s false ≤ dramPool s)

/-- place of R156, trying `f` runs and then fewer. -/
def placeRuns (s : State) (mon : MonitorConfig) (table : List TableRow) (order : List OrderItem) (runs : List (Nat × List Nat)) (p : Nat) : Nat → Option (List Item)
  | 0 =>
    let items := placedItems s mon table order []
    if dramFetch items ≤ 80 * p ∧ fitsPool s items then some items else none
  | f + 1 =>
    let items := placedItems s mon table order (runs.take (f + 1))
    if dramFetch items ≤ 80 * p ∧ fitsPool s items then some items
    else placeRuns s mon table order runs p f

/-- The placement of a set at frame period `p`: E_CAPACITY when the memory exceeds the pools even without flattening, E_BANDWIDTH
when no placement fits (R152, R156). -/
def placeSet (s : State) (mon : MonitorConfig) (table : List TableRow) (blend : List BlendStep) (p : Nat) : Nat × List Item :=
  let order := blendOrder table blend
  if !fitsPool s (placedItems s mon table order []) then (eCapacity, [])
  else
    let runs := runsOf table order
    match placeRuns s mon table order runs p (min runs.length (cabinets s)) with
    | some items => (eOk, items)
    | none => (eBandwidth, [])

/-! ### Moves (R159, R179) -/

/-- A Cabinet entry of the new placement stood in the old one, in the same pool, and none of its members changed. -/
def entryKept (old : List Item) (touched : List Nat) (it : Item) : Bool :=
  old.any (fun o => o.members = it.members && o.inSram = it.inSram && decide (256 ≤ o.key ∧ o.key < 512))
    && !(it.members.any touched.contains)

/-- Items the new placement copies or builds. -/
def movedItems (old new : List Item) (touched : List Nat) : List Item :=
  new.filter fun it =>
    if it.members ≠ [] then !entryKept old touched it
    else old.any fun o => o.key = it.key && o.inSram != it.inSram && decide (0 < it.memory)

/-- Old copies that retire: moved buffers and Cabinet entries that do not stand any more (R159, R179). -/
def oldCopies (old new : List Item) (touched : List Nat) (frame : Nat) : List Retiring :=
  old.filterMap fun o =>
    if o.members ≠ [] then
      if new.any (fun n => n.members = o.members && entryKept old touched n) then none
      else some { frame := frame, slot := o.key, bytes := o.memory, inSram := o.inSram, bufferOnly := false }
    else if new.any (fun n => n.key = o.key && n.inSram != o.inSram) && decide (0 < o.memory) then
      some { frame := frame, slot := o.key, bytes := o.memory, inSram := o.inSram, bufferOnly := decide (o.key < 256) }
    else none

/-- Time of the moves at no less than 1.0 GB/s (R159). -/
def moveTime (items : List Item) : Nat := ceilDiv (items.foldl (fun acc i => acc + i.memory) 0) 10

/-! ### Buffers of a drawer (R153, R154, R467) -/

/-- The drawer's buffers renewed and empty: a VIDEO drawer never filled, a STILL drawer with an empty front. A FLIP that is still to take
effect stays pending (R154). -/
def freshBuffers (d : Descriptor) (sl : Slot) : Slot :=
  { sl with buffers := List.replicate (bufferCount d) {}, latest := none, current := none, chosen := none, rx := none,
            everArrived := false, lastArrival := 0, isStale := false, staleFrom := none, overrunRun := false }

/-- The counters that count from PLACE. -/
def fromPlace (sl : Slot) : Slot :=
  { sl with arrived := 0, overrun := 0, flips := 0, updates := 0, breaches := 0, horizonHits := 0 }

/-- The back buffer of a STILL drawer. -/
def backIndex (sl : Slot) : Nat :=
  match sl.latest with
  | some 0 => 1
  | _ => 0

/-- A flip: the back buffer or table becomes the front, the old front the back (R154, R209). -/
def flipSlot (d : Descriptor) (sl : Slot) : Slot :=
  if d.type = 3 then
    { sl with glyphFront := some sl.glyphBack, frontSegs := sl.backSegs, flips := incr32 sl.flips,
              glyphBack := sl.glyphFront.getD [], sealed := sl.glyphFront.isSome, backSegs := sl.frontSegs }
  else { sl with latest := some (backIndex sl), flips := incr32 sl.flips }

/-! ### Applying and retiring -/

/-- PLACE and CABINET of DRAWER_STATUS from the items (Table 6.9). -/
def placeFields (items : List Item) (slot : Nat) (sl : Slot) : Slot :=
  match items.find? (fun i => i.members.contains slot) with
  | some e => { sl with place := 3, cabinet := some (e.key - 256) }
  | none =>
    match items.find? (fun i => i.key = slot && i.members = []) with
    | some i => { sl with place := if i.inSram then 1 else 2, cabinet := none }
    | none => sl

/-- PLACE of every drawer of the table. -/
def placeAll (table : List TableRow) (items : List Item) (s : State) : State :=
  table.foldl (fun s r => updSlot r.slot (placeFields items r.slot) s) s

/-- COMMIT_APPLIED for each drawer changed (R164). -/
def recordApplied (frame : Nat) (touched : List Nat) (s : State) : State :=
  touched.foldl (fun s n => record (srcDrawer n) 0x0005 (frame % 65536) s) s

/-- New content of curve tables. -/
def setCurves (curves : List (Option (List Nat))) (new : List (Nat × List Nat)) : List (Option (List Nat)) :=
  new.foldl (fun cs tc => cs.set tc.1 (some tc.2)) curves

/-- The switch of the drawer table (R151). -/
def applyCommit (c : Commit) (s : State) : State :=
  let s := c.fresh.foldl (fun s n => updSlot n (fun sl => freshBuffers (descIn c.table n) sl) s) s
  let s := c.flips.foldl (fun s n => updSlot n (flipSlot (descIn c.table n)) s) s
  let s := placeAll c.table c.items s
  let s := { s with drw := { s.drw with table := c.table, blend := c.blend, items := c.items,
                                        curves := setCurves s.drw.curves c.curves } }
  match c.seq with
  | none => s
  | some q => recordApplied c.frame c.touched { s with drw := { s.drw with seq := q, effectFrame := c.frame } }

/-- A drawer reaches its retire point (Table 6.5). -/
def retireSlot (n : Nat) (s : State) : State :=
  let sl := slotAt s n
  if sl.destroyed then
    record (srcDrawer n) 0x0001 2 (updSlot n (fun sl => ({ gen := sl.gen } : Slot)) s)
  else
    record (srcDrawer n) 0x0001 1 (updSlot n (fun sl =>
      { sl with st := .opened, retireAt := none, place := 0, cabinet := none, buffers := [], latest := none, current := none,
                chosen := none, rx := none, flipUntil := none }) s)

/-- A retire point `f` is reached with the composition start of frame `m`, after which the frame before `f`, or a later one, has been
composed: the count is by frames composed (R150). All are reached when no schedule runs. -/
def retirePoint (m : Option Nat) (composed f : Nat) : Bool :=
  match m with
  | some k => decide (f ≤ k) && decide (f ≤ composed + 1)
  | none => true

/-- The retire points reached with the composition start of frame `m`; all of them when no schedule runs (R150, R165). -/
def retireDue (m : Option Nat) (s : State) : State :=
  let due := retirePoint m s.sched.composed
  let s := (List.range 256).foldl (fun s n =>
    match (slotAt s n).retireAt with
    | some f => if due f then retireSlot n s else s
    | none => s) s
  let s := (List.range 256).foldl (fun s n =>
    match (slotAt s n).flipUntil with
    | some f =>
      if due f then
        let old := (slotAt s n).oldFront
        let s := updSlot n (fun sl => { sl with flipUntil := none, oldFront := false }) s
        if old then record (srcDrawer n) 0x0001 3 s else s
      else s
    | none => s) s
  let s := (s.drw.retiring.filter fun r => due r.frame && r.bufferOnly).foldl (fun s r => record (srcDrawer r.slot) 0x0001 3 s) s
  { s with drw := { s.drw with retiring := s.drw.retiring.filter fun r => !due r.frame } }

/-- Every COMMIT due at the composition start of frame `m`, in order of acceptance. -/
def applyDue (m : Nat) (s : State) : State :=
  let due := s.drw.commits.filter fun c => decide (c.frame ≤ m)
  due.foldl (fun s c => applyCommit c s) { s with drw := { s.drw with commits := s.drw.commits.filter fun c => !decide (c.frame ≤ m) } }

/-- The frame schedule stops: every COMMIT applies and everything retires at once (R165, R218). A drawer never filled starts its stale
deadline afresh with the next schedule (R160). -/
def drawersStop (s : State) : State :=
  let cs := s.drw.commits
  let s := cs.foldl (fun s c => applyCommit { c with frame := 0 } s) { s with drw := { s.drw with commits := [], moves := [] } }
  mapSlots (fun sl => { sl with latched := sl.objects, handed := [], staleFrom := none, isStale := sl.isStale && sl.everArrived }) (retireDue none s)

/-- The frame set and what the last accepted COMMIT leaves (R149). -/
def lastTable (s : State) : List TableRow := (s.drw.commits.getLast?).elim s.drw.table (·.table)
def lastBlend (s : State) : List BlendStep := (s.drw.commits.getLast?).elim s.drw.blend (·.blend)
def lastItems (s : State) : List Item := (s.drw.commits.getLast?).elim s.drw.items (·.items)
/-- The frame set of frame `m`: what the COMMITs up to it leave. -/
def tableFor (s : State) (m : Nat) : List TableRow :=
  ((s.drw.commits.filter fun c => decide (c.frame ≤ m)).getLast?).elim s.drw.table (·.table)

/-- The pending changes of a session discarded (R148). -/
def dropPending (session : Nat) (s : State) : State :=
  let s := mapSlots (fun sl => match sl.pend with
    | some p => if p.session = session then { sl with pend := none } else sl
    | none => sl) s
  { s with drw := { s.drw with
      pendCurves := s.drw.pendCurves.filter (fun c => c.1 ≠ session),
      pendBlend := s.drw.pendBlend.filter (fun b => b.1 ≠ session) } }

/-- A slot at entry to BOOT: general slots FREE, generations kept (R143). -/
def bootSlot (sl : Slot) : Slot := { gen := sl.gen }

/-- The drawers at entry to BOOT (R143, R150). -/
def bootDrawers (s : State) : State :=
  { s with drw := { slots := s.drw.slots.map bootSlot, bank0 := s.drw.bank0 } }

end Sys2Proof.Machine
end

