-- ==== Sys2Proof/Machine/Transport.lean ====
section
/-!
DEFINITION. How datagrams reach the module and how messages leave it: what the internal port accepts (10 R240 to R244), and the sending
side of the service port (10 R254, R255).
-/

namespace Sys2Proof.Machine

/-! ### Link ports -/

/-- A tag the module accepts (R243). -/
def tagAccepted (s : State) (f : EthFrame) : Bool :=
  match f.tag with
  | none => true
  | some (_, vid) => decide (vid = 0) || decide (vid = s.link.inForce.vlanId)

/-- An IPv4 packet the internal port accepts (R240 to R242). -/
def ipAccepted (s : State) (i : IpInfo) : Bool :=
  match s.link.ip with
  | none => false
  | some own =>
    !i.options && !i.fragment && i.headerOk && i.udp && i.udpOk
      && (decide (i.dst = own) && (decide (i.dstPort = 50110) || decide (i.dstPort = 50111))
        || decide (i.dst = s.link.inForce.mcastGroup) && decide (s.link.inForce.mcastGroup ≠ 0) && decide (i.dstPort = 50111))

/-- A PSIFER message leaves on the port of its destination: how, when it can leave, and the link state after it (R241 to R244). -/
def sendMessage (ep : Endpoint) (bytes : Nat) (s : State) : Option Path × Links :=
  match s.link.ip with
  | none => (none, s.link)
  | some own =>
    let p := peerPort s.link ep.ip
    let h := datagram s.link p s.link.inForce.psiferPcp own ep.ip 50110 ep.port
    let n := udpFrame h.tag bytes
    if portState s.link p ≠ 2 then (none, s.link)
    else (if egressRoom (tsc s) (egressQueue h.tag) n p s.link then some (.link h) else none, joinQueue (tsc s) (egressQueue h.tag) n p s.link)

/-! ### Service port -/

/-- REQ_ID, none where the port stays silent (R254): ID_OVERFLOW. -/
def canReqId (s : State) : Option Nat :=
  let c := s.can.inForce
  if c.indexMode = 0 ∧ s.sync.role = .unenumerated then none
  else
    let id := c.base + 2 * (if c.indexMode = 1 then c.index else s.sync.depth)
    if 0x7FF < id + 1 then none else some id

/-- The length of a CAN FD frame that holds `n` bytes. -/
def canLength (n : Nat) : Nat := ([8, 12, 16, 20, 24, 32, 48, 64].find? fun l => decide (n ≤ l)).getD 64

/-- A frame padded with 0xCC (Table 10.9). DESIGN CHOICE: to the next length of a CAN FD frame, at least 8 (log entry 51). -/
def canPad (l : List Byte) : List Byte := l ++ List.replicate (canLength l.length - l.length) 0xCC

/-- The port sends a frame on an identifier, not before `due`. -/
def canEmit (due id : Nat) (data : List Byte) (c : CanPort) : CanPort := { c with tx := { due := due, id := id, data := canPad data } :: c.tx }

/-- The first frame of a segmented message, with FF_DL in 12 bits. -/
def isoFirstFrame (m : List Byte) : List Byte := [BitVec.ofNat 8 (0x10 + m.length / 256), BitVec.ofNat 8 m.length] ++ m.take 62

/-- Waiting messages leave: single frames up to 62 bytes, until one needs segments and waits for flow control (R255). -/
def canFlush (now id : Nat) : List (List Byte) → CanPort → CanPort
  | [], c => { c with sendq := [] }
  | m :: ms, c =>
    if m.length ≤ 62 then canFlush now id ms (canEmit now id ([0x00, BitVec.ofNat 8 m.length] ++ m) c)
    else { canEmit now id (isoFirstFrame m) c with sending := some { bytes := m, sent := 62, next := 1, waits := 0, since := now }, sendq := ms }

/-- A message is sent, after those that wait. -/
def canSend (now id : Nat) (m : List Byte) (c : CanPort) : CanPort :=
  if c.sending.isSome || c.busOff then { c with sendq := c.sendq ++ [m] } else canFlush now id (c.sendq ++ [m]) c

/-- A message that has not left is replaced by another one: where it waits, or by its frames, which are taken back. -/
def canRecall (now id : Nat) (old new : List Byte) (c : CanPort) : CanPort :=
  if c.sendq.contains old then { c with sendq := c.sendq.map fun m => if m = old then new else m }
  else if c.sending.any fun x => decide (x.bytes = old) then
    canFlush now id (new :: c.sendq) { c with sending := none, tx := c.tx.eraseP fun f => decide (f.data = canPad (isoFirstFrame old)) }
  else
    canFlush now id (new :: c.sendq)
      { c with tx := c.tx.eraseP fun f => decide (f.data = canPad ([0x00, BitVec.ofNat 8 old.length] ++ old)) }

/-- The transmission in progress ends; what waited follows. -/
def canNext (now id : Nat) (c : CanPort) : CanPort := canFlush now id c.sendq { c with sending := none }

/-- A transmission is aborted, and counted as a segmentation error (R255). -/
def canAbort (now id : Nat) (c : CanPort) : CanPort := canNext now id { c with isoErrors := incr32 c.isoErrors }

/-- STmin in tk: 0 to 127 ms, or 100 to 900 µs; a reserved value counts as 127 ms. -/
def stMin (b : Nat) : Nat := if b ≤ 0x7F then 100000 * b else if 0xF1 ≤ b ∧ b ≤ 0xF9 then 10000 * (b - 0xF0) else 12700000

/-- A block of at most `n` consecutive frames, the k-th not before k times STmin. -/
def canBlock (id gap : Nat) : Nat → Nat → IsoTx → CanPort → IsoTx × CanPort
  | 0, _, x, c => (x, c)
  | n + 1, due, x, c =>
    if x.bytes.length ≤ x.sent then (x, c)
    else
      canBlock id gap n (due + gap)
        { x with sent := x.sent + 63, next := (x.next + 1) % 16, since := due }
        (canEmit due id (BitVec.ofNat 8 (0x20 + x.next) :: (x.bytes.drop x.sent).take 63) c)

/-- A flow control of the host (Table 10.9): ContinueToSend releases a block of BS frames, all of them for 0, STmin apart; up to 10 WAIT in a
row are honoured; anything else aborts. -/
def hostFlow (now id : Nat) (data : List Byte) (c : CanPort) : CanPort :=
  match c.sending with
  | none => c
  | some x =>
    match (data.getD 0 0).toNat % 16 with
    | 0 =>
      let bs := (data.getD 1 0).toNat
      let r := canBlock id (stMin (data.getD 2 0).toNat) (if bs = 0 then x.bytes.length else bs) now { x with waits := 0, since := now } c
      if r.1.bytes.length ≤ r.1.sent then canNext now id r.2 else { r.2 with sending := some r.1 }
    | 1 => if x.waits < 10 then { c with sending := some { x with waits := x.waits + 1, since := now } } else canAbort now id c
    | _ => canAbort now id c

/-- N_Bs has expired: the transmission is aborted (Table 10.9). -/
def sendExpire (now id : Nat) (c : CanPort) : CanPort :=
  if c.sending.elim false fun x => decide (x.since + 100000000 < now) then canAbort now id c else c

/-- What the port sends on: REQ_ID + 1 (R254). -/
def canTxId (s : State) : Option Nat := (canReqId s).map (· + 1)

/-- A message leaves over the transport of an endpoint; it is silent on a service port without identifier (R254). -/
def transmit (ep : Endpoint) (bytes : List Byte) (s : State) : Option Path × State :=
  if ep.viaCan then
    match canTxId s with
    | some id => (some (.can id), { s with can := canSend (tsc s) id bytes s.can })
    | none => (none, s)
  else
    let r := sendMessage ep bytes.length s
    (r.1, { s with link := r.2 })

end Sys2Proof.Machine
end

