-- ==== Sys2Proof/Machine/GateOps.lean ====
section
/-!
DEFINITION. Sessions, replies and their tags (11 R262 to R278): what the gate and the MP share.
-/

namespace Sys2Proof.Machine

/-! ### Long operations that a reset or a restart cuts short (12 R291) -/

/-- The valid slot with the higher sequence: false for A, true for B. -/
def bestSlot (f : Flash) : Option (Bool × CalSlot) :=
  match f.calA, f.calB with
  | none, none => none
  | some a, none => some (false, a)
  | none, some b => some (true, b)
  | some a, some b => if a.sequence < b.sequence then some (true, b) else some (false, a)

/-- A field of the image header (19 Table 19.4). -/
def imgField (s : State) (off n : Nat) : Nat := le (memReadList 0 s.flash.image off n) 0 n

/-- The firmware knows calibration FORMAT `f` (CAL_FORMATS). -/
def calFormatKnown (s : State) (f : Nat) : Bool := decide (1 ≤ f ∧ f ≤ 16) && decide (imgField s 22 2 / 2 ^ (f - 1) % 2 = 1)

/-- A slot is valid when its CRC checks, its SEQUENCE is neither 0 nor 0xFFFFFFFF, and the firmware knows its FORMAT (14 R342). -/
def slotValid (s : State) (c : CalSlot) : Bool :=
  c.crcGood && decide (c.sequence ≠ 0) && decide (c.sequence ≠ 0xFFFFFFFF) && calFormatKnown s c.format

/-- A slot that is valid to the firmware; one that is not records CAL_SLOT_BAD. -/
def knownSlot (s : State) (x : Option CalSlot) : Option CalSlot := x.filter (slotValid s)

/-- The flash with the calibration slots that are valid to the running firmware. -/
def knownSlots (s : State) : Flash := { s.flash with calA := knownSlot s s.flash.calA, calB := knownSlot s s.flash.calB }

/-- The slot CAL_STORE writes: false for A, true for B (14 R343). -/
def storeTarget (s : State) : Bool := match bestSlot (knownSlots s) with | some (b, _) => !b | none => false

/-- A calibration slot set. -/
def setSlot (b : Bool) (x : Option CalSlot) (f : Flash) : Flash := if b then { f with calB := x } else { f with calA := x }

/-- Every long operation is abandoned without an outcome. A CAL_STORE leaves its target slot invalid (14 R343); any other store leaves
the older copy. -/
def dropLong (s : State) : State :=
  let f := if s.mp.long.any (fun l => l.opcode = 0x0704) then setSlot (storeTarget s) none s.flash else s.flash
  { s with flash := f, mp := { s.mp with long := [] } }

/-- A long operation of an opcode is running (12 R291). -/
def isRunning (s : State) (opcode : Nat) : Bool := s.mp.long.any fun l => l.opcode = opcode

/-- A long operation ends with its outcome, recorded once. -/
def endLong (opcode status : Nat) (s : State) : State :=
  record srcGate (0x0100 + status) opcode { s with mp := { s.mp with long := s.mp.long.filter fun l => l.opcode ≠ opcode } }

/-- CAL_RUN ends with an outcome other than OK: nothing is applied, and CAL_REJECTED carries the cause (14 R340, R341). -/
def rejectRun (cause : Nat) (s : State) : State :=
  if isRunning s 0x0701 then record srcCal 0x0002 cause (endLong 0x0701 eDisagree s) else s

/-- The module leaves IDLE, a demand arrives or FS38 is raised during a run: cause 4. -/
def interruptRun (s : State) : State := rejectRun 4 s

/-! ### Sessions -/

/-- An open session. -/
def findSession (s : State) (id : Nat) : Option Session := s.gate.sessions.find? fun x => x.id = id

/-- A session changed. -/
def updSession (id : Nat) (f : Session → Session) (s : State) : State :=
  { s with gate := { s.gate with sessions := s.gate.sessions.map fun x => if x.id = id then f x else x } }

/-- A reply or event message handed to the transport, with its header and body; its tag follows them (11 R266). -/
def pushReply (bytes : List Byte) (r : Reply) (s : State) : State :=
  let x := transmit r.ep (bytes ++ r.tag) s
  { x.2 with gate := { x.2.gate with outbox := { r with path := x.1 } :: x.2.gate.outbox } }

/-- The session is lost: its queue and its pending drawer changes are discarded (R264). -/
def loseSession (id : Nat) (s : State) : State :=
  dropPending id { s with gate := { s.gate with sessions := s.gate.sessions.filter fun x => x.id ≠ id } }

/-- A loss that SESSIONS_LOST counts. -/
def countLost (s : State) : State := { s with gate := { s.gate with lost := incr32 s.gate.lost } }

/-- Every session is lost together (R264). -/
def loseAllSessions (s : State) : State :=
  let s := s.gate.sessions.foldl (fun s x => countLost (dropPending x.id s)) s
  { s with gate := { s.gate with sessions := [], openings := [] } }

/-- The session ends after the reply to the message whose accepted FRESHNESS was 0xFFFFFFFF (`last`), or after the reply or event message
with which its outgoing counter has reached that (R264). -/
def freshEnd (last : Bool) (id : Nat) (s : State) : State :=
  match findSession s id with
  | some x =>
    if last ∨ x.freshOut = 0xFFFFFFFF then
      countLost (loseSession id (record srcGate 0x0004 id s))
    else s
  | none => s

/-- OPCODE of a reply: bit 15 set (R272). -/
def replyOpcode (op : Nat) : Nat := if op < 32768 then op + 32768 else op

/-- A tagged reply over an open session; it takes the session's next outgoing FRESHNESS (R272, R273). -/
def replyTagged (m : Msg) (status detail : Nat) (data : List Byte) (s : State) : State :=
  match findSession s m.session with
  | none => s
  | some x =>
    let fresh := x.freshOut + 1
    let flags := msgQueue m
    let body := u16 status ++ u16 detail ++ data
    let hdr := headerBytes 1 flags (replyOpcode m.opcode) m.session m.sequence fresh body.length 0 m.context
    pushReply (hdr ++ body)
      { ep := m.ep, tsc := tsc s, flags := flags, opcode := replyOpcode m.opcode, session := m.session, sequence := m.sequence,
        freshness := fresh, context := m.context, status := status, detail := detail, data := data, tag := tagOf x.kMh (hdr ++ body) }
      (updSession m.session (fun x => { x with freshOut := fresh }) s)

/-- A reply with UNAUTH 1, FRESHNESS 0 and a tag of zeros (R273). -/
def replyUntagged (m : Msg) (status detail : Nat) (s : State) : State :=
  let hdr := headerBytes 1 (msgQueue m + 8) (replyOpcode m.opcode) m.session m.sequence 0 4 0 m.context
  pushReply (hdr ++ u16 status ++ u16 detail)
    { ep := m.ep, tsc := tsc s, flags := msgQueue m + 8, opcode := replyOpcode m.opcode, session := m.session, sequence := m.sequence,
      freshness := 0, context := m.context, status := status, detail := detail, data := [], tag := List.replicate 8 0 } s

/-- The reply to a message: none for OK with NO_REPLY; untagged on SESSION 0 (R266, 19 R433). -/
def replyTo (m : Msg) (status detail : Nat) (data : List Byte) (s : State) : State :=
  if status = eOk ∧ msgNoReply m then s
  else if m.session = 0 then replyUntagged m status detail s
  else replyTagged m status detail data s

/-! ### MP restart (R278) -/

/-- E_BUSY for one accepted message; nothing for one whose session is lost. -/
def busyReply (m : Msg) (s : State) : State :=
  if m.session ≠ 0 ∧ (findSession s m.session).isNone then s
  else
    freshEnd (decide (m.freshness = 0xFFFFFFFF)) m.session
      (replyTo m eBusy 0 [] { s with gate := { s.gate with busyReplies := incr32 s.gate.busyReplies } })

/-- The gate answers every queued message with E_BUSY. -/
def busyAll (s : State) : State :=
  let ms := s.gate.openings ++ s.gate.sessions.flatMap fun x => x.high ++ x.norm ++ x.bulk
  let s := ms.foldl (fun s m => busyReply m s) s
  { s with gate := { s.gate with openings := [],
                                 sessions := s.gate.sessions.map fun x => { x with high := [], norm := [], bulk := [] } } }

/-- The bytes of a reply on the wire (R265, R272). -/
def replyBytes (r : Reply) : List Byte :=
  headerBytes 1 r.flags r.opcode r.session r.sequence r.freshness (4 + r.data.length) 0 r.context ++ u16 r.status ++ u16 r.detail ++ r.data ++ r.tag

/-- A reply without DATA in place of one, under the same FRESHNESS. -/
def replacement (key : Option (List Byte)) (r : Reply) (status flags : Nat) : Reply :=
  let q := { r with status := status, flags := flags, detail := 0, data := [], tag := [] }
  { q with tag := key.elim (List.replicate 8 0) fun k => tagOf k (replyBytes q) }

/-- A reply that is not yet handed over is replaced. On the service port its frames are replaced too; in a queue of a link port it keeps the
room it has taken. -/
def replaceReply (old new : Reply) (s : State) : State :=
  let s := { s with gate := { s.gate with outbox := s.gate.outbox.map fun r => if r = old then new else r } }
  match old.path with
  | some (.can id) => { s with can := canRecall (tsc s) id (replyBytes old) (replyBytes new) s.can }
  | _ => s

/-- The message the MP is executing as a restart begins, its reply not yet handed over (R278): one that is applied is answered OK with
DATA_LOST 1 and no DATA, and MESSAGE_DATA_LOST is recorded; any other is answered E_BUSY. -/
def dataLost (s : State) : State :=
  match s.mp.served with
  | none => s
  | some x =>
    let s := { s with mp := { s.mp with served := none } }
    if x.applied then
      record srcGate 0x0007 x.opcode (x.reply.elim s fun r => replaceReply r (replacement x.key r eOk (r.flags + 32)) s)
    else
      x.reply.elim s fun r =>
        replaceReply r (replacement x.key r eBusy r.flags) { s with gate := { s.gate with busyReplies := incr32 s.gate.busyReplies } }

/-- The MP has answered a message, from the state `old` to `s`; what it served last is remembered until the next one or a restart. -/
def noteServed (m : Msg) (status : Nat) (key : Option (List Byte)) (old s : State) : State :=
  let x : Served :=
    { opcode := m.opcode, applied := decide (status = eOk), key := key,
      reply := if old.gate.outbox.length < s.gate.outbox.length then s.gate.outbox.head? else none }
  { s with mp := { s.mp with served := some x } }

/-- An activation whose reference is being formed is discarded; its message is answered E_BUSY (07 R183). -/
def dropActivation (s : State) : State :=
  match s.comp.activation with
  | some a => busyReply a.msg (cvuAbandon 3 { s with comp := { s.comp with activation := none } })
  | none => s

/-- A shadow comes into effect. -/
def addShadow (a : Action) (s : State) : State :=
  if s.flt.shadows.contains a then s else { s with flt := { s.flt with shadows := s.flt.shadows ++ [a] } }

/-- An MP restart begins (15 R357, R278). A long operation is abandoned (12 R291), and the block of an update in the buffer is lost
(19 Table 19.13). -/
def beginMpRestart (second inHand : Bool) (s : State) : State :=
  let s := if inHand then dataLost s else s
  let s := dropActivation (busyAll (dropLong s))
  addShadow .mpRestart
    { s with upd := { s.upd with block := none, expected := s.flash.control.nextOffset },
             mp := { s.mp with restarting := some (tsc s), second := second, served := none },
             rake := { s.rake with window := s.rake.window.filter fun w => !w.sweep },
             flt := { s.flt with mpRestarts := (s.flt.mpRestarts + 1) % 65536 } }

end Sys2Proof.Machine
end

