-- ==== Sys2Proof/Machine/Schedule.lean ====
section
/-!
DEFINITION. The frame schedule starts and stops (09 R217, R218), and what a frame loses when it is withheld (R226).
-/

namespace Sys2Proof.Machine

/-- The die group is in throttle: CLK_PIX skips one cycle in four from the next composition start (18 R424). -/
def throttled (s : State) : Bool := hasBit s.flt.cond 32

/-- SWIFT below 133,334 tk needs the fallback schedule in throttle (04 R108). -/
def needsFallback (profile period : Nat) : Bool := decide (profile = 2) && decide (period < 133334)

/-- The offset to the grandmaster is above 1 ms (01 R23). -/
def highOffset (b : TimeBase) : Bool := decide (b.gptp ≠ 0) && decide (1000000 < b.offset.natAbs)

/-- The grid in force, as TIMING_STATUS reports it from now on. -/
def gridShown (g : Sched) : GridShown :=
  { profile := g.profile, period := g.period, anchorTsc := g.anchorTsc, anchorFrame := g.anchorFrame, fallback := g.fallback, skip := g.skip }

/-- The frame schedule starts (R217, R231). -/
def startSchedule (s : State) : State :=
  let g := s.cfg.timing
  let t := tsc s
  let skip := throttled s
  let pitch := rowPitch g.profile skip
  let n0 := firstOfSchedule g.anchorTsc g.anchorFrame g.period pitch t
  let s0 : Int := (g.anchorTsc : Int) + ((n0 : Int) - 1 - g.anchorFrame) * g.period
  let fb := skip && needsFallback g.profile g.period
  let sch : Sched :=
    { s.sched with
        running := true, profile := g.profile, period := if fb then 133334 else g.period,
        anchorTsc := if fb then s0.toNat else g.anchorTsc, anchorFrame := if fb then n0 - 1 else g.anchorFrame,
        fallback := fb, skip := skip, first := n0, nextComp := n0, cutDone := none, nextSwap := n0,
        composed := n0 - 1, decided := none, withhold := [], writeStart := s0.toNat, cur := none, ownWithheld := [], change := none,
        swapTsc := 0, fbNote := none, profileFrames := [], sent := none, reinitAt := none, dropNext := [], lastCut := s0 - g.period - (5200 + 2 * pitch : Nat) }
  let s := { s with sched := { sch with shown := gridShown sch }, arr := { s.arr with writeRow := 0, writeBad := false },
                    sync := { s.sync with armed := none, missed := 0, timedRun := false, mismatchNoted := false, sluiceSent := none },
                    link := { s.link with silenceFrom := t },
                    time := { s.time with highFrom := if highOffset s.time then some t else none } }
  if fb then record srcGov 0x0005 1 s else s

/-- LEN_SHORT follows the depth and L (05 R129). -/
def checkLen (s : State) : State :=
  let short := (s.sync.role = .member || s.sync.role = .islandHead) && decide (s.sync.len ≤ s.sync.depth)
  if short && !s.sync.lenShort then record srcSync 0x0005 s.sync.len { s with sync := { s.sync with lenShort := true } }
  else { s with sync := { s.sync with lenShort := short } }

/-- A depth held pending is taken when the schedule stops (05 R128). -/
def takePendingDepth (s : State) : State :=
  if s.sync.depthPending then
    let s := { s with sync := { s.sync with depth := s.sync.pendingDepth, depthPending := false } }
    checkLen (readdress (record srcSync 0x0003 s.sync.depth s))
  else s

/-- Chest activations that await their effective frame apply at once. -/
def chestStop (c : Compositor) : Compositor :=
  match c.chestNext.getLast? with
  | some (img, ref, _) => { c with chest := img, chestRef := ref, chestNext := [] }
  | none => c

/-- The monitor at the end of a schedule: what waits applies, a frame that is not composed in whole is counted in MON_SKIPPED, and one whose
swap has not come is not shown (07 R187, R189). -/
def monitorStop (m : Monitor) : Monitor :=
  let kept := m.ring.filter fun x => x.crc.isSome
  { m with inForce := (m.waiting.getLast?.map (·.2) <|> m.small).getD m.inForce, small := none, waiting := [],
           ring := kept.map fun x => { x with shown := some (x.shown.getD false) },
           skipped := (m.skipped + (m.ring.length - kept.length)) % 4294967296 }

/-- The frame schedule stops at once (R218): what is being composed is abandoned with its check-value job (20 R457). DESIGN CHOICE: a
schedule that stops while the fallback runs records no THROTTLE_PERIOD (log entry 48). -/
def stopSchedule (s : State) : State :=
  if !s.sched.running then s
  else
    let timing := match s.sched.change with
      | some c => { s.cfg.timing with profile := c.profile, period := c.period }
      | none => s.cfg.timing
    let s := { s with
      cfg := { s.cfg with timing := timing },
      sched := { s.sched with
        running := false, profile := timing.profile, period := timing.period, anchorTsc := timing.anchorTsc,
        anchorFrame := timing.anchorFrame, fallback := false, skip := throttled s, cutDone := none, decided := none,
        withhold := [], cur := none, ownWithheld := [], change := none, profileFrames := [], sent := none, reinitAt := none, dropNext := [], fbNote := none },
      arr := { s.arr with writeRow := 0, writeBad := false, droopFrom := none },
      comp := chestStop s.comp,
      mon := monitorStop s.mon,
      sync := { s.sync with armed := none, missed := 0, timedRun := false } }
    let s := if s.mon.ring.all (fun x => x.crc.isSome) then s else cvuAbandon 1 s
    takeSlTrim (takePendingDepth (drawersStop (cvuAbandon 0 s)))

/-- The frame being composed is withheld: no further row is sent, and its scale and checks are discarded (R226). -/
def withholdCurrent (s : State) : State :=
  match s.sched.cur with
  | some f =>
    if f.withheld then s
    else { s with sched := { s.sched with cur := some { f with withheld := true, checked := true },
                                          ownWithheld := f.frame :: s.sched.ownWithheld } }
  | none => s

/-- The frame whose swap a WITHHOLD asserted now withholds (R228): the first swap S with t ≤ S − 1,000 tk among the next one, the
frame being composed, and those that follow. -/
def withholdFrame (s : State) : Nat :=
  let g := s.sched
  let open_ := fun (n : Nat) => decide ((tsc s : Int) ≤ swapOf g n - 1000)
  if g.decided.isNone ∧ open_ g.nextSwap then g.nextSwap
  else
    match g.cur with
    | some f =>
      if g.nextSwap < f.frame ∧ open_ f.frame then f.frame
      else firstFrame g (fun n => swapAt g n - 1000) (tsc s) g.nextComp
    | none => firstFrame g (fun n => swapAt g n - 1000) (tsc s) (g.nextSwap + 1)

/-- A WITHHOLD reaction (R228). -/
def addWithhold (s : State) : State :=
  let n := withholdFrame s
  if s.sched.withhold.contains n then s else { s with sched := { s.sched with withhold := n :: s.sched.withhold } }

/-- Slots that a switch-off of one drawer takes along: all members of its Cabinet entry. -/
def offSet (items : List Item) (slot : Nat) : List Nat :=
  match items.find? (fun i => i.members.contains slot) with
  | some e => e.members
  | none => [slot]

/-- Layers switched off for the rest of the frame being composed, or for the next frame composed (15 Table 15.2). -/
def switchOff (slots : List Nat) (s : State) : State :=
  let next := { s with sched := { s.sched with dropNext := s.sched.dropNext ++ slots } }
  match s.sched.cur with
  | some f =>
    if f.withheld || decide (640 ≤ f.nextRow) then next
    else
      { s with sched := { s.sched with cur := some { f with layers := f.layers.map fun l => if slots.contains l.slot then { l with off := true } else l } } }
  | none => next

/-- The base layer of the frame being composed: its first layer that is not left out (06 R156, R160). -/
def baseSlots (s : State) : List Nat :=
  match s.sched.cur with
  | some f =>
    match f.layers.head? with
    | some l => offSet s.drw.items l.slot
    | none => []
  | none => []

end Sys2Proof.Machine
end

