-- ==== Sys2Proof/Machine/Collector.lean ====
section
/-!
DEFINITION. The fault collector (chapter 15): sources, shadows, reactions, block actions, the re-arm. `assertSource` is the one
way a source is asserted, `endSource` the one way a level source ends.
-/

namespace Sys2Proof.Machine

/-! ### Sources (Table 15.3) -/

/-- FATAL sources. -/
def isFatal (src : Nat) : Bool := [0, 4, 8, 9, 10, 14, 15, 18, 37, 40, 44].contains src

/-- CORRECTED sources. -/
def isCorrected (src : Nat) : Bool := [3, 5, 7].contains src

/-- Level sources. -/
def isLevel (src : Nat) : Bool :=
  [7, 16, 17, 19, 20, 23, 24, 25, 26, 27, 28, 29, 30, 31, 32, 33, 34, 35, 37, 38, 39, 40, 41, 43, 44, 46, 47].contains src

/-- The least reaction of each source. -/
def leastReactions : List Nat :=
  [4, 1, 1, 0, 4, 0, 2, 0, 4, 1, 4, 1, 2, 3, 4, 6, 1, 1, 5, 1, 1, 1, 4, 0] ++
  [0, 0, 0, 0, 0, 1, 6, 0, 1, 6, 1, 1, 6, 4, 4, 4, 4, 0, 1, 1, 6, 1, 4, 4]

/-- The configured reaction. -/
def configured (s : State) (src : Nat) : Nat := s.cfg.faults.getD src 0

/-- A source is asserted: a level source while its condition or its force holds, a pulse source while its FLT_STATUS bit is set. -/
def isAsserted (s : State) (src : Nat) : Bool :=
  if isLevel src then hasBit s.flt.cond src || hasBit s.flt.force src else hasBit s.flt.status src

/-- A level source is asserted and its assertion was not shadowed (R369). -/
def unshadowed (s : State) (src : Nat) : Bool := isAsserted s src && !hasBit s.flt.masked src

/-- A FATAL bit is set. -/
def anyFatal (s : State) : Bool := (List.range 48).any fun n => isFatal n && hasBit s.flt.status n

/-! ### Shadows (Table 15.6) -/

/-- The shadow set of an action. -/
def inShadowSet (a : Action) (src data : Nat) : Bool :=
  match a with
  | .mpRestart => src = 27 || src = 43
  | .compReinit => [8, 11, 12, 13, 21, 45].contains src
  | .cutoff => src = 14 || src = 44 || (src = 18 && data ≠ 2)
  | .moduleReset => !([30, 33, 36, 37, 44].contains src)
  | .brownoutSave => !(src = 0 || src = 40)

/-- A source is shadowed now (R363). -/
def isShadowed (s : State) (src data : Nat) : Bool := s.flt.shadows.any fun a => inShadowSet a src data

/-! ### Records (R362) -/

/-- A fault-source record, at most 64 per source and window. -/
def recordFault (src kind reaction data : Nat) (forced : Bool) (s : State) : State :=
  let w := tsc s / 100000000
  let counts := if s.flt.recWindow = w then s.flt.recCounts else List.replicate 48 0
  let n := counts.getD src 0
  let s := { s with flt := { s.flt with recWindow := w, recCounts := if n < 64 then counts.set src (n + 1) else counts } }
  if n < 64 then record src (kind + (if forced then 16 else 0) + 256 * reaction) data s else s

/-! ### Safe states -/

/-- The hardware of a SAFE_KIND: SETTLE lights the settle source, DARK drives DRV_EN low, CUTOFF also opens the switch (Table 15.2).
`cause` is the DATA of CUTOFF_OPENED. -/
def kindHardware (kind cause : Nat) (s : State) : State :=
  match kind with
  | 2 =>
    let s := selectSettle s
    { s with arr := { s.arr with drvEn := true } }
  | 3 => drvLow s
  | 4 => openSwitch cause (drvLow s)
  | _ => s

/-- FULL or SAFE goes to SAFE; SAFE_KIND is the stronger of the kind in force and the new one (Tables 1.9, 15.2). Leaving FULL, the
entry to IDLE is abandoned (18 R408) and ALIVE goes low (R366). -/
def goSafe (kind cause : Nat) (s : State) : State :=
  let cur := if s.mode.op = .safe then s.mode.safeKind else 0
  let s := if cur < kind ∨ kind = 4 then kindHardware kind cause s else s
  let s := rakeUpdate { s with mode := { s.mode with op := .safe, safeKind := max cur kind }, flt := { s.flt with alive := false } }
  if s.dim.idleRamp.isSome then
    record srcPower 0x0002 s.mode.safeKind { s with dim := { s.dim with idleRamp := none } }
  else s

/-- The reaction in force is at least `r` (R353). -/
def raiseReaction (r : Nat) (s : State) : State := { s with flt := { s.flt with reaction := max s.flt.reaction r } }

/-- SETTLE is carried out as DARK while FS09 is set, outside R34 (R355). -/
def settleOrDark (s : State) (kind : Nat) : Nat := if kind = 2 ∧ s.flt.settleAsDark then 3 else kind

/-- PROOF_PENDING goes to SAFE on a reaction of DARK or CUTOFF; a frame schedule starts (Table 1.9, 09 R217). -/
def proofToSafe (kind cause : Nat) (s : State) : State :=
  let k := max kind (safeKindWord s)
  let s := kindHardware kind cause s
  startSchedule (rakeUpdate { s with mode := { s.mode with op := .safe, safeKind := k }, dim := { s.dim with heldByDemand := false } })

/-- The layers a source names for DROP_LAYER (R354). -/
def namedSlots (s : State) (src data : Nat) : List Nat :=
  match src with
  | 6 => offSet s.drw.items (data % 256)
  | 21 => [data / 64 % 256]
  | _ => [data % 256]

/-- FS06 on the correction map or the base layer (R354). -/
def isBaseFetch (s : State) (src data : Nat) : Bool :=
  src = 6 && (data % 256 = 0xFF || (baseSlots s).contains (data % 256))

/-- The reaction as it is carried out (R354 to R357). -/
def carriedOut (s : State) (src data : Nat) : Nat :=
  let r := configured s src
  if src = 14 ∧ s.mode.op = .safe ∧ s.mode.safeKind = 2 then 6
  else if r = 0 then 0
  else
    let r := if src = 1 ∧ data = 1 then max 4 r
      else if src = 6 ∧ data % 256 = 0xFE then max 4 r
      else if src = 6 ∧ data % 256 = 0xFD then 1
      else if r = 2 ∧ (isBaseFetch s src data ∨ !([6, 12, 21, 47].contains src)) then 3
      else r
    if (r = 2 ∨ r = 3) ∧ !s.sched.running then 1
    else if r = 4 ∧ s.flt.settleAsDark then 5
    else r

/-- The reaction in force beside layers and single swaps: that of SAFE_KIND in SAFE, one carried out on the hardware, or a level source
that withholds (R353). -/
def heldReaction (s : State) : Nat :=
  let r := if s.mode.op = .safe then max s.flt.reaction (s.mode.safeKind + 2) else s.flt.reaction
  if s.sched.running ∧ s.flt.withholding ≠ 0 then max 3 r else r

/-- WITHHOLD: a level source withholds while it stays asserted (R353), another source the swap of R228. -/
def withholdBy (src data : Nat) (s : State) : State :=
  if isBaseFetch s src data then cvuAbandon 0 (withholdCurrent s)
  else if isLevel src then addWithhold { s with flt := { s.flt with withholding := withBit s.flt.withholding src } }
  else addWithhold s

/-- A reaction is carried out, by the operating state (Table 15.2, R359). DROP_LAYER and WITHHOLD at or below the reaction in force change
nothing (R353). -/
def react (src data r : Nat) (s : State) : State :=
  let cause := if src = 36 then 2 else 0
  match s.mode.op with
  | .full | .safe =>
    if r = 2 then (if heldReaction s < 2 then switchOff (namedSlots s src data) s else s)
    else if r = 3 then (if heldReaction s < 3 then withholdBy src data s else s)
    else if 4 ≤ r then
      let s := raiseReaction r (goSafe (r - 2) cause s)
      { s with flt := { s.flt with recovering := none }, mode := { s.mode with calLimited := s.mode.calLimited || decide (src = 39) } }
    else s
  | .proofPending => if 5 ≤ r then raiseReaction r (proofToSafe (r - 2) cause s) else s
  | .boot | .loader =>
    if 5 ≤ r then
      let s := raiseReaction r (kindHardware (r - 2) cause s)
      { s with flt := { s.flt with heldByReaction := true } }
    else s
  | .idle =>
    if r = 6 then
      let s := raiseReaction r (openSwitch cause s)
      { s with flt := { s.flt with heldByReaction := true } }
    else s
  | _ => s

/-! ### Block actions (Table 15.6) -/

/-- Compositor reinitialisation: the frame being composed is abandoned with its check-value job (R365, 20 R460). -/
def reinitialise (s : State) : State :=
  let s := addShadow .compReinit (cvuAbandon 0 (withholdCurrent s))
  { s with sched := { s.sched with reinitAt := some (tsc s) } }

/-- The slot a last-gasp save uses: the one after the slot with the highest valid sequence, in ring order (18 R418). -/
def slotSequence : LgSlot → Nat
  | .valid q _ _ _ _ _ _ => q
  | _ => 0

/-- The highest valid sequence of the last-gasp slots. -/
def lgHighest (slots : List LgSlot) : Nat := slots.foldl (fun m x => max m (slotSequence x)) 0

def nextLgSlot (slots : List LgSlot) : Nat :=
  let hi := lgHighest slots
  if hi = 0 then 0 else (slots.findIdx (fun x => slotSequence x = hi) + 1) % 16

/-- The module reset action begins (R358). A save it cuts short leaves an invalid slot (18 R420). -/
def beginModuleReset (s : State) : State :=
  match s.mode.op with
  | .off | .boot | .standby => s
  | _ =>
    let s := if s.pwr.saving.isSome then
        { s with flash := { s.flash with lastgasp := s.flash.lastgasp.set (nextLgSlot s.flash.lastgasp) .invalid },
                 pwr := { s.pwr with saving := none } }
      else s
    addShadow .moduleReset { s with flt := { s.flt with resetPending := true } }

/-- The PHYs stop: both links are down (10 R235). -/
def phyOff (s : State) : State :=
  { s with link := { s.link with aState := 0, aSpeed := 0, bState := 0, bSpeed := 0, aDown := none, bDown := none } }

/-- Entry to BROWNOUT_SAVE (18 R419, R420): the switch opens, the schedule stops, the sessions are lost, long operations end. `before`
is MODULE_STATE before the brownout. -/
def enterBrownout (before : Nat) (s : State) : State :=
  let s := openSwitch 2 (drvLow s)
  let s := phyOff (loseAllSessions (stopSchedule (dropLong (interruptRun s))))
  let result :=
    if s.mode.op = .standby then 6
    else if !s.pwr.holdReady then 2
    else if !s.pwr.flashAllowed then 3
    else if s.flash.lastgasp.getD (nextLgSlot s.flash.lastgasp) .invalid ≠ .erased then 4
    else 0
  addShadow .brownoutSave (rakeUpdate
    { s with
      mode := { s.mode with op := .brownoutSave, safeKind := 0 },
      flt := { s.flt with alive := false, recovering := none },
      dim := { s.dim with idleRamp := none },
      mp := { s.mp with restarting := none },
      comp := { s.comp with activation := none },
      cvus := listUpdate s.cvus 3 fun u => { u with running := false, saved := [] },
      pwr := { s.pwr with saving := if result = 0 then some (tsc s, before) else none, lgPending := result } })

/-- The block action of a source (Table 15.3). -/
def blockAction (src data before : Nat) (s : State) : State :=
  match src with
  | 0 | 40 => beginModuleReset s
  | 1 => if data = 1 ∧ s.mp.second then beginModuleReset s else beginMpRestart (decide (data = 1)) false s
  | 4 | 8 => reinitialise s
  | 36 => if s.mode.op = .brownoutSave ∨ s.mode.op = .off then s else enterBrownout before s
  | _ => s

/-! ### Assertion -/

/-- FIRST_SRC and FLT_OVERFLOW after an unshadowed assertion (R361). -/
def latchFirst (src now : Nat) (f : Collector) : Collector :=
  if isCorrected src then f
  else
    let f := { f with lastAssert := now }
    match f.first with
    | none => { f with first := some (src, now) }
    | some (q, t) =>
      if q = src then f
      else if t = now ∧ src < q then { f with first := some (src, t), overflow := true }
      else { f with overflow := true }

/-- What every assertion leaves: FLT_SEEN, ASSERT_COUNT, the DATA (R360). -/
def countAssertion (src data : Nat) (f : Collector) : Collector :=
  { f with seen := withBit f.seen src, counts := listUpdate f.counts src (fun n => min 65535 (n + 1)), datas := f.datas.set src data }

/-- FS09 outside R34: from now on SETTLE is carried out as DARK, and a SETTLE in force is replaced (R355). -/
def settleFails (s : State) : State :=
  if s.mode.op = .boot then s
  else
    let s := { s with flt := { s.flt with settleAsDark := true } }
    if s.mode.op = .safe ∧ s.mode.safeKind = 2 then raiseReaction 5 (goSafe 3 0 s) else s

/-- A shadowed assertion (R363; which bits of FLT_STATUS it sets, log entry 13). -/
def deliverShadowed (src data : Nat) (forced : Bool) (s : State) : State :=
  let f := countAssertion src data s.flt
  let noted := hasBit f.shadowNoted src
  let f := { f with
    shadowed := withBit f.shadowed src,
    shadowNoted := withBit f.shadowNoted src,
    masked := if isLevel src then withBit f.masked src else f.masked,
    status := if isLevel src && !isFatal src then withBit f.status src else f.status }
  if noted then { s with flt := f } else recordFault src 3 0 data forced { s with flt := f }

/-- An assertion reaches the collector: it is dated, counted, recorded, and its reaction is carried out; with `act` its block action
too (R349 to R364). -/
def deliver (src data : Nat) (forced act : Bool) (s : State) : State :=
  if isShadowed s src data then deliverShadowed src data forced s
  else
    let before := moduleState s
    let f := latchFirst src (tsc s) (countAssertion src data s.flt)
    let s := { s with flt := { f with status := withBit f.status src, masked := withoutBit f.masked src } }
    let r := carriedOut s src data
    let s := if r = 0 then s else recordFault src 1 r data forced s
    let s := react src data r s
    let s := if src = 9 then settleFails s else if src = 38 then interruptRun s else s
    if act then blockAction src data before s else s

/-- A source is asserted: by its condition, or by FAULT_FORCE. A level source that is asserted already makes no new assertion; before
the collector runs only the condition is kept (R349, R350, R359, R368). -/
def assertSource (src data : Nat) (forced : Bool) (s : State) : State :=
  let high := isLevel src && (hasBit s.flt.cond src || hasBit s.flt.force src)
  let f := s.flt
  let f := if isLevel src then
      if forced then { f with force := withBit f.force src } else { f with cond := withBit f.cond src, datas := f.datas.set src data }
    else f
  let s := { s with flt := f }
  if !s.flt.running || high then s else deliver src (data % 65536) forced true s

/-- A source with a configured reaction of at least `r` is asserted. -/
def anyReaction (s : State) (r : Nat) : Bool := (List.range 48).any fun n => isAsserted s n && decide (r ≤ configured s n)

/-- The boot sequencer shows the SETTLE beam: it closes the switch, commands VLED for SL_max and drives DRV_EN high with the settle
source selected, unless a reaction in force or a Safe-Dim target that is applied holds the array dark (R33, R376). -/
def restoreBeam (s : State) : State :=
  let target := if s.dim.state = .applied then s.dim.target else 0
  let s := if s.flt.reaction = 6 ∨ target = 3 then s else closeSwitch s
  let s := selectSettle s
  if 5 ≤ s.flt.reaction ∨ 2 ≤ target then s else { s with arr := { s.arr with drvEn := true } }

/-- What a reaction held ends with its sources: in IDLE, and in FULL after it, the switch closes once no source with reaction CUTOFF is
asserted (R359); in BOOT the SETTLE beam is shown once none carries DARK or CUTOFF (R33). A demand may hold on (16 R376). -/
def releaseHold (s : State) : State :=
  if !s.flt.heldByReaction then s
  else
    match s.mode.op with
    | .idle | .full =>
      if anyReaction s 6 then s
      else
        let s := { s with flt := { s.flt with heldByReaction := false, reaction := 0 } }
        if s.dim.heldByDemand then s else closeSwitch s
    | .boot =>
      if anyReaction s 5 then s
      else restoreBeam { s with flt := { s.flt with heldByReaction := false, reaction := 0 } }
    | _ => s

/-- A level source has ended: neither its condition nor a force holds (R350). -/
def levelEnded (src : Nat) (forced : Bool) (s : State) : State :=
  let masked := hasBit s.flt.masked src
  let data := s.flt.datas.getD src 0
  let s := { s with
    flt := { s.flt with
      status := if isFatal src then s.flt.status else withoutBit s.flt.status src, masked := withoutBit s.flt.masked src,
      withholding := withoutBit s.flt.withholding src },
    mode := { s.mode with calLimited := s.mode.calLimited && decide (src ≠ 39) } }
  let s := if masked ∨ configured s src = 0 then s else recordFault src 2 0 data forced s
  releaseHold s

/-- The condition of a level source ends. -/
def endSource (src : Nat) (s : State) : State :=
  if isLevel src && hasBit s.flt.cond src then
    let s := { s with flt := { s.flt with cond := withoutBit s.flt.cond src } }
    if !s.flt.running || hasBit s.flt.force src then s else levelEnded src false s
  else s

/-- A force ends (R368). -/
def endForce (src : Nat) (s : State) : State :=
  if hasBit s.flt.force src then
    let s := { s with flt := { s.flt with force := withoutBit s.flt.force src } }
    if hasBit s.flt.cond src then s else levelEnded src true s
  else s

/-- A level source follows a condition. -/
def levelSource (src data : Nat) (on : Bool) (s : State) : State :=
  if on then assertSource src data false s else endSource src s

/-! ### Re-arm, shadows end, entries -/

/-- The re-arm (R361). -/
def rearmCollector (f : Collector) : Collector :=
  { f with first := none, overflow := false, seen := 0, shadowed := 0,
           status := (List.range 48).foldl (fun b n => if isLevel n || isFatal n then b else withoutBit b n) f.status }

/-- An action's shadow ends: a level source whose assertion was shadowed and that no other shadow covers is asserted anew (R363). -/
def endShadow (a : Action) (s : State) : State :=
  if s.flt.shadows.contains a then
    let s := { s with flt := { s.flt with shadows := s.flt.shadows.filter (· ≠ a) } }
    let s := { s with flt := { s.flt with
      shadowNoted := (List.range 48).foldl (fun b n => if isShadowed s n 0 then b else withoutBit b n) s.flt.shadowNoted } }
    (List.range 48).foldl (fun s n =>
      if hasBit s.flt.masked n && isAsserted s n && !isShadowed s n (s.flt.datas.getD n 0) then
        deliver n (s.flt.datas.getD n 0) (!hasBit s.flt.cond n) false s
      else s) s
  else s

/-- Sources asserted anew at an entry to FULL: every level source still asserted and every FATAL bit (R359). -/
def assertAnew (s : State) : State :=
  (List.range 48).foldl (fun s n =>
    if (isLevel n && isAsserted s n) || (isFatal n && hasBit s.flt.status n) then
      deliver n (s.flt.datas.getD n 0) (isLevel n && !hasBit s.flt.cond n) false s
    else s) s

/-- The collector starts in BOOT: every level source whose condition holds is asserted anew (R359). -/
def startCollector (s : State) : State :=
  let s := { s with flt := { s.flt with running := true } }
  (List.range 48).foldl (fun s n =>
    if isLevel n && hasBit s.flt.cond n then deliver n (s.flt.datas.getD n 0) false true s else s) s

/-- The collector at entry to BOOT: the reaction in force ends, FATAL bits and force bits clear, the re-arm occurs, the counters start
again (R359, R361, R368). The shadow of an open switch goes on (Table 15.6), and so does the window of R362. -/
def bootCollector (f : Collector) : Collector :=
  { cond := f.cond, datas := f.datas, shadows := f.shadows.filter (· = .cutoff), recCounts := f.recCounts, recWindow := f.recWindow }

/-- The reaction in force (R353): the highest whose effect still runs. -/
def reactionInForce (s : State) : Nat :=
  let dropped := s.sched.dropNext ≠ [] ∨ s.sched.cur.elim false fun f => decide (f.nextRow < 640) && f.layers.any (·.off)
  max (heldReaction s) (if s.sched.withhold ≠ [] then 3 else if dropped then 2 else 0)

end Sys2Proof.Machine
end

