-- ==== Sys2Proof/Machine/Calib.lean ====
section
/-!
DEFINITION. The calibration data and what is computed from it: converter and sensor corrections (14 R326), ageing and the correction
map (13 R318 to R320, 03 R86), T_LED (03 R89), and loading (14 R344).
-/

namespace Sys2Proof.Machine

/-! ### Fields of the working set (Table 14.5) -/

/-- Bytes of the working set written. -/
def setCal (off : Nat) (bs : List Byte) (c : CalData) : CalData := { c with working := memWriteList 0 c.working off bs }

def calSource (c : CalData) : Nat := calU c 2 1
def calFlags (c : CalData) : Nat := calU c 3 1
def calCount (c : CalData) : Nat := calU c 4 4
def calStoreSeq (c : CalData) : Nat := calU c 16 4
def vfTempco (c : CalData) : Int := calS c 46 2
def vfShape (c : CalData) (k : Nat) : Int := calS c (48 + 2 * (k - 1)) 2

/-- OFFSET and GAIN of a converter. -/
def convOffset (c : CalData) : Conv → Int
  | .a => calS c 24 2
  | .b => calS c 28 2
def convGain (c : CalData) : Conv → Nat
  | .a => calU c 26 2
  | .b => calU c 30 2

/-- FLAGS.MODIFIED set (R337). -/
def markModified (c : CalData) : CalData := setCal 3 (u8 (calFlags c / 2 * 2 + 1)) c

/-! ### Corrections (R326) -/

/-- corrected(code, conv), 1/16 LSB. -/
def corrected (c : CalData) (conv : Conv) (code16 : Int) : Int := ((code16 - convOffset c conv) * convGain c conv + 8192) / 16384

/-- scaled(cc, input), 1/16 LSB of the input range. -/
def scaled (c : CalData) (input : Nat) (cc : Int) : Int := (cc * (65536 + calS c (264 + 2 * input) 2) + 32768) / 65536

/-- temperature(cc, s), 1/16 °C; sensor `s` is input − 10. The division rounds towards zero (log entry 15). -/
def temperature (c : CalData) (sensor : Nat) (cc : Int) : Int :=
  ((cc - 32768) * calU c (210 + 4 * sensor) 2 + 8192).tdiv 16384 + calS c (208 + 4 * sensor) 2

/-! ### T_LED -/

/-- The sum of the latest readings of inputs 10 to 17: T_LED in 1/128 °C. -/
def tLedNow (s : State) : Int := ((s.conv.readings.drop 9).take 8).foldl (· + ·) 0

/-- The latched T_LED; without a schedule the present one. -/
def tLed (s : State) : Int := if s.sched.running then s.sched.tLed else tLedNow s

/-! ### Ageing (R319) -/

/-- The points of AGEING_CURVE: DVF in 0.25 mV and FACTOR. -/
def ageingPoints (c : CalData) : List (Nat × Nat) :=
  (List.range 32).map fun k => (4 * calU c (80 + 4 * k) 2, calU c (82 + 4 * k) 2)

/-- Linear interpolation between two points, rounded half up as in the worked example. -/
def interpolate (p q : Nat × Nat) (d : Nat) : Nat :=
  ((p.2 : Int) + (((q.2 : Int) - p.2) * ((d : Int) - p.1) + ((q.1 - p.1) / 2 : Nat)) / ((q.1 : Int) - p.1)).toNat

/-- The ageing factor f of a DVF. -/
def factorOn : List (Nat × Nat) → Nat → Nat
  | [], _ => 16384
  | [p], _ => p.2
  | p :: q :: rest, d => if d ≤ p.1 then p.2 else if d < q.1 then interpolate p q d else factorOn (q :: rest) d

/-- A correction entry from a uniformity entry and a factor: GAIN limited to 4095, OFFSET kept. -/
def corrEntry (u f : Nat) : Nat := min 4095 ((u % 4096 * f + 8192) / 16384) + 4096 * (u / 4096)

/-- The pixels whose entry may differ from that of an untouched pixel; all of them when even that differs from GAIN 1.0. -/
def corrKeys (pts : List (Nat × Nat)) (uni dvf : Mem Nat) : List Nat :=
  if corrEntry 1024 (factorOn pts 0) = 1024 then uni.map (·.1) ++ dvf.map (·.1) else List.range pixels

/-- The correction map (R319, R344). -/
def buildCorr (c : CalData) (dvf : Mem Nat) : Mem Nat :=
  let pts := ageingPoints c
  (corrKeys pts c.uniformity dvf).foldl
    (fun m p => memWrite 1024 m p (corrEntry (memRead 1024 c.uniformity p) (factorOn pts (memRead 0 dvf p)))) []

/-- WORN_COUNT (R86). -/
def wornCount (corr : Mem Nat) : Nat := (corr.filter fun e => decide (1638 < e.2 % 4096)).length

/-- The number of entries in which two maps differ. -/
def corrChanges (old new : Mem Nat) : Nat :=
  (new.filter fun e => decide (memRead 1024 old e.1 ≠ e.2)).length + (old.filter fun e => decide (memRead 1024 new e.1 = 1024)).length

/-! ### Forward voltages (R318, R320) -/

/-- VF_MAX_25 in 0.25 mV over the pixels that are OK; no OK pixel lies below 2,400 mV. -/
def vfMaxOf (map : Mem Nat) (vfBase dvf : Mem Nat) : Nat :=
  ((vfBase.map (·.1)) ++ (dvf.map (·.1))).foldl
    (fun m p => if memRead 0 map p = 0 then max m (9600 + 16 * memRead 0 vfBase p + memRead 0 dvf p) else m) 9600

/-- VF_MODEL[k], mV, rounded up. -/
def vfModelEntry (c : CalData) (vfMax : Nat) (t : Int) (k : Nat) : Nat :=
  (-((-((vfMax : Int) * 32000 + vfShape c k * 128000 + vfTempco c * (t - 3200))) / 128000)).toNat

/-- VF_MODEL rewritten. -/
def rewriteModel (s : State) : State :=
  { s with gov := { s.gov with vfModel := (List.range 16).map fun k => vfModelEntry s.conv.cal s.rake.vfMax (tLed s) (k + 1) },
           rake := { s.rake with vfAt := tsc s } }

/-! ### Loading (R344) -/

/-- SOURCE, FLAGS and STORE_SEQ of a loaded working set; FLAGS is 0 after a load. -/
def stampCal (source seq : Nat) (c : CalData) : CalData := setCal 16 (u32 seq) (setCal 2 (u8 source ++ u8 0) c)

end Sys2Proof.Machine
end

