-- ==== Sys2Proof/Machine/BootOps.lean ====
section
/-!
DEFINITION. The entry to BOOT and what follows it: training (17 R395, R396), the SETTLE pattern (01 R34, R33), the loader check
(19 R435), the image check (19 R437 to R444), the banks of Pan SRAM (18 Table 18.5), the last-gasp slots (18 R421).
-/

namespace Sys2Proof.Machine

/-! ### DRAM training -/

/-- The longest run of passing steps: first and last step; the earlier of two equal runs. `start` is where the present run began. -/
def longestRun (w : BitVec 64) : Nat → Nat → Option Nat → Option (Nat × Nat) → Option (Nat × Nat)
  | 0, k, start, best => closeRun k start best
  | n + 1, k, start, best =>
    if w.getLsbD k then longestRun w n (k + 1) (some (start.getD k)) best
    else longestRun w n (k + 1) none (closeRun k start best)
where
  /-- A run that ends before step `k` replaces a shorter best one. -/
  closeRun (k : Nat) (start : Option Nat) (best : Option (Nat × Nat)) : Option (Nat × Nat) :=
    match start with
    | none => best
    | some f =>
      match best with
      | none => some (f, k - 1)
      | some b => if b.2 - b.1 < k - 1 - f then some (f, k - 1) else some b

/-- A lane from its sweeps; an eye of 0 steps when a sweep has no passing step (R395, R396). -/
def trainLane (old : Lane) (w : LaneSweep) : Lane :=
  match longestRun w.read 64 0 none none, longestRun w.write 64 0 none none with
  | some r, some x =>
    { readDelay := (r.1 + r.2) / 2, writeDelay := (x.1 + x.2) / 2, eye := min (r.2 - r.1 + 1) (x.2 - x.1 + 1) }
  | _, _ => { old with eye := 0 }

/-- A training, and the repeats of the lanes that had no passing step. -/
def trainLanes : List Lane → List (List LaneSweep) → List Lane
  | lanes, [] => lanes
  | lanes, w :: ws =>
    let lanes := List.zipWith trainLane lanes w
    let again := ws.map fun x => List.zipWith (fun l v => (l, v)) lanes x
    (again.foldl (fun (acc : List Lane) lv =>
      List.zipWith (fun l v => if l.eye = 0 then trainLane l v.2 else l) acc lv) lanes)

/-- One to three trainings of four lanes. -/
def trainingOk (ws : List (List LaneSweep)) : Bool :=
  decide (ws ≠ []) && decide (ws.length ≤ 3) && ws.all fun w => decide (w.length = 4)

/-- The narrowest lane, the lowest on a tie, and its eye. -/
def narrowest (lanes : List Lane) : Nat × Nat :=
  let w := lanes.foldl (fun m l => min m l.eye) 64
  (lanes.findIdx (fun l => l.eye = w), w)

/-- A training completes: FS07 follows the narrowest eye, and BOOT waits while a lane has none (R396). -/
def trainDram (ws : List (List LaneSweep)) (s : State) : State :=
  let lanes := trainLanes s.dram.lanes ws
  let n := narrowest lanes
  let s := { s with dram := { s.dram with lanes := lanes, trainFailed := if n.2 = 0 then some (tsc s) else none } }
  levelSource 7 (n.1 + 256 * n.2) (decide (n.2 < 12)) s

/-! ### The SETTLE pattern (R298 layout) -/

/-- The code of each pixel from the bytes of a pattern. -/
def patternCodes (m : Mem Byte) : Mem Nat :=
  m.flatMap fun e => (List.range 4).filterMap fun k =>
    let c := e.2.toNat / 4 ^ k % 4
    if c = 0 then none else some (4 * e.1 + k, c)

/-- The bytes of a pattern from the codes. -/
def patternBytes (m : Mem Nat) : Mem Byte :=
  m.foldl (fun b e => memWrite 0 b (e.1 / 4) (memRead 0 b (e.1 / 4) + BitVec.ofNat 8 (e.2 * 4 ^ (e.1 % 4)))) []

/-- The whole pattern as bytes. -/
def patternList (m : Mem Byte) : List Byte := memReadList 0 m 0 327680

/-- The first copy of the flash safety area that passes its CRC; CVU2 checks the copies in turn (R34). -/
def loadSafety (s : State) : State × Option (ChestImage × SettleData) :=
  match s.flash.safety with
  | some d :: _ => (cvuJob 2 (crc32 (patternList d.2.pattern)) (some (crc32 (patternList d.2.pattern))) s, some d)
  | _ :: some d :: _ =>
    let s := brokenCopy 0 s
    (cvuJob 2 (crc32 (patternList d.2.pattern)) (some (crc32 (patternList d.2.pattern))) s, some d)
  | _ => (brokenCopy 1 (brokenCopy 0 s), none)
where
  /-- The check of a copy fails. -/
  brokenCopy (n : Nat) (s : State) : State :=
    let v := Config.brokenCopyCrc n % 4294967296
    cvuJob 2 v (some ((v + 1) % 4294967296)) s

/-- The boot sequencer loads the settle latches; on a failure they hold code 0 and FS09 is due (R34). The result says so. -/
def loadSettle (boot : BootInputs) (s : State) : State × Bool :=
  match loadSafety s with
  | (s, some d) =>
    if boot.latchBad = none then
      ({ s with arr := { s.arr with latches := patternCodes d.2.pattern, pattern := patternCodes d.2.pattern, levels := d.2.levels } }, true)
    else ({ s with arr := { s.arr with latches := [], pattern := [], levels := d.2.levels } }, false)
  | (s, none) => ({ s with arr := { s.arr with latches := [], pattern := [] } }, false)

/-- The Chest of the first copy that passes its CRC is in force after BOOT (06 R142, 07). -/
def bootChest (s : State) : ChestImage :=
  match s.flash.safety with
  | some d :: _ => d.1
  | _ :: some d :: _ => d.1
  | _ => {}

/-! ### The entry to BOOT -/

/-- The latest valid record of the settings ring, or factory defaults (18 Table 18.5). -/
def ringSettings (s : State) : Settings := (s.flash.settings).elim {} (·.2)

/-- The self-test of the units (20 R458). -/
def selfTest (results : List Nat) (now : Nat) : List Cvu :=
  (List.range 4).map fun n =>
    let v := results.getD n 0
    { selftestOk := decide (v = 0xCBF43926), jobs := 1, lastValue := v % 4294967296, lastTsc := now }

/-- A check of the loader; a zeroised Locker holds no key that verifies it (R435, R446). -/
def checkLoader (ok : Bool) (s : State) : State :=
  if ok && !s.fuse.zeroised then { s with upd := { s.upd with loaderWait := none } }
  else
    let n := s.upd.loaderBad + 1
    record srcUpdate 0x0002 (sat16 n) { s with upd := { s.upd with loaderBad := n, loaderWait := some (tsc s) } }

/-- The sync chain at a cold start or a wake (05 R126). DESIGN CHOICE: a module in role AUTO is MEMBER at depth 0 during the start window (log
entry 49). -/
def bootSync (s : State) : State :=
  let head := s.cfg.sync.role = 1
  let sy : Sync := { len := s.cfg.sync.chainLen }
  if head then { s with sync := { sy with role := .head, started := true, epoch := 1, measuring := true } }
  else { s with sync := { sy with role := .member, windowEnd := tsc s + 200000 } }

/-- Flash work starts as forbidden at every start of the collector (18 R425). -/
def forbidFlash (s : State) : State :=
  if s.pwr.flashAllowed then record srcPower 0x0008 1 { s with pwr := { s.pwr with flashAllowed := false } } else s

/-- The steps every entry to BOOT takes. `train`: the entry is not a module reset, so the DRAM is trained, the latches are loaded and
the sync chain starts again. `lost`: the banks that FS42 names. -/
def bootSteps (train : Bool) (lost : Nat) (boot : BootInputs) (s : State) : State :=
  let s := { s with
    mode := { op := .boot },
    cvus := selfTest boot.cvu (tsc s),
    mp := { serviced := tsc s, loadAt := tsc s },
    upd := {},
    time := { s.time with step := 0 },
    comp := { chest := bootChest s },
    link := { s.link with inForce := s.cfg.link },
    can := { s.can with inForce := s.cfg.can },
    dim := { s.dim with proofWindow := s.cfg.sdim.proofWindow },
    sched := { profile := s.cfg.timing.profile, period := s.cfg.timing.period, anchorTsc := s.cfg.timing.anchorTsc,
               anchorFrame := s.cfg.timing.anchorFrame, skip := throttled s } }
  let s := if train then bootSync s else s
  let (s, ok) := if train then loadSettle boot s else (s, true)
  let s := forbidFlash (checkLoader boot.loaderOk s)
  let s := startCollector s
  let s := if lost = 0 then s else assertSource 42 lost false s
  let s := if train then trainDram boot.training s else s
  let s := if ok then s else assertSource 9 (if s.flash.safety.any (·.isSome) then boot.latchBad.getD 0 else 0xFFFF) false s
  readdress (rakeUpdate (restoreBeam s))

/-- A VIN threshold in mV that Table 2.6 gives with a range: `v` has reached it, whichever value within the range it has (log entry 14). -/
def atLeast (v lo hi threshold : Nat) : Bool := decide (hi ≤ v) || (decide (lo ≤ v) && decide (max lo (min hi threshold) ≤ v))

/-- VIN lies above V_START (02 Table 2.6, 01 Table 1.9). -/
def aboveStart (vin : Nat) : Bool := decide (6000 < vin) || (decide (5800 < vin) && decide (max 5800 (min 6000 Config.vStart) < vin))

/-- VIN at the start asserts FS34 and FS35 by their rising thresholds (02 R46, Table 2.6; log entry 14). -/
def vinConditions (vin : Nat) : BitVec 64 :=
  let low := !atLeast vin 6200 6400 Config.fs34Clear
  let high := atLeast vin 36000 36800 Config.fs35Raise
  let b : BitVec 64 := 0
  let b := if low then withBit b 34 else b
  if high then withBit b 35 else b

/-- A start without any retained bank: everything volatile is gone (18 Table 18.5). -/
def coldStart (cond : BitVec 64) (vin : Nat) (boot : BootInputs) (s : State) : State :=
  bootSteps true 0 boot
    { State.reset with
      flash := s.flash, fuse := s.fuse, pending := s.pending, cfg := ringSettings s,
      drw := { slots := s.drw.slots.map bootSlot, bank0 := false },
      flt := { cond := cond, datas := ((List.replicate 48 0).set 34 (vin / 10)).set 35 (vin / 10) },
      pwr := { lgPending := s.pwr.lgPending } }

/-- The level sources whose condition an entry to BOOT ends: the proof, the pixel map, the schedule and the drawers start afresh, and a port
that has not come up since raises nothing (10 R236). -/
def bootCond (c : BitVec 64) : BitVec 64 := [17, 19, 20, 25, 26, 43, 47].foldl withoutBit c

/-- The log at a BOOT that keeps it: its records are numbered from 0 again (12, Diagnostics group). -/
def bootLog (l : Log) : Log := { l with gone := [], base := logTotal l, written := 0 }

/-- The row order and the sweep cursor go on through a suspension (13 R306, R317). -/
def keepRake (old new : Rake) : Rake := { new with nextRow := old.nextRow, cursor := old.cursor }

/-- A module reset (15 R358, 01 R33): Pan SRAM, the DRAM delays, the latches, the demand and the links go on. -/
def warmStart (boot : BootInputs) (s : State) : State :=
  let s := loseAllSessions (stopSchedule (dropLong s))
  let s := bootDrawers s
  bootSteps false 0 boot
    { s with
      log := bootLog s.log,
      flt := bootCollector { s.flt with cond := bootCond s.flt.cond },
      gate := { outbox := s.gate.outbox, authCount := s.gate.authCount, authWindow := s.gate.authWindow, muted := s.gate.muted },
      gov := { s.gov with conflicts := 0, conflictRun := 0 },
      mon := {},
      dim := { s.dim with
        idleRamp := none, proofFrom := none, bothFrom := none, bothLong := false, everBoth := false, proofSeen := false,
        proofTsc := 0, proofWaits := false, proofLate := false, heldByDemand := decide (s.dim.state = .applied ∧ 2 ≤ s.dim.target),
        t0 := if s.dim.demand then s.dim.t0 else 0, tEnd := if s.dim.demand then s.dim.tEnd else 0,
        i0 := if s.dim.demand then s.dim.i0 else 0, iEnd := if s.dim.demand then s.dim.iEnd else 0,
        envelope := if s.dim.demand then s.dim.envelope else 0,
        demands := 0, withdrawn := 0, discrepancies := 0, pulses := 0, pulseFails := 0, retest := false, retestAt := none, everLong := false },
      rake := keepRake s.rake { mode := s.rake.mode, resumedAt := s.rake.resumedAt, lastProbe := s.rake.lastProbe },
      conv := { aWarm := s.conv.aWarm, aReady := s.conv.aReady, bWarm := s.conv.bWarm, bReady := s.conv.bReady,
                timedAt := s.conv.timedAt, readings := s.conv.readings },
      link := { s.link with
        aDown := none, bDown := none,
        fcsErrors := 0, egressDrop := 0, unbound := 0, badFormat := 0, badOrder := 0, abandoned := 0, lastHost := 0 },
      can := { s.can with busOffs := 0, isoErrors := 0, rx := none, complete := none },
      sync := { s.sync with
        executed := 0, timedSwaps := 0, duplicates := 0, frameMismatch := 0, withheld := 0, bankMismatch := 0, lastFrame := none,
        lastExec := 0, len := if s.sync.role = .head then s.cfg.sync.chainLen else s.sync.len },
      pwr := { s.pwr with wakeReport := 0, kept := 0, lgResult := 0, lgTsc := 0, saving := none, refusals := List.replicate 6 0,
                          wakeAtEntry := none, slotWanted := false } }

/-- CVU2 forms the signatures of the retained banks again and compares them with those of the always-on domain (18 R416, 20 R452). -/
def checkSignatures (signatures : List Nat) (retained lost : Nat) (s : State) : State :=
  (List.range 5).foldl (fun s n =>
    if retained / 2 ^ n % 2 = 1 then
      let v := signatures.getD n 0
      cvuJob 2 v (some (if lost / 2 ^ n % 2 = 1 then (v + 1) % 4294967296 else v)) s
    else s) s

/-- The wake (18 R415 to R417): a cold start that keeps the retained banks whose signature matches. -/
def wakeStart (src : WakeSrc) (lost : BitVec 5) (seconds vin : Nat) (boot : BootInputs) (s : State) : State :=
  let retained := s.pwr.retain % 32
  let lostBanks := lost.toNat &&& retained
  let kept := retained &&& (31 - lostBanks)
  let has := fun (n : Nat) => decide (kept / 2 ^ n % 2 = 1)
  let source := match src with | .contact => 1 | .timer => 2 | .canPattern => 3
  let report := source + (if s.pwr.wakeAtEntry.isSome then 8 else 0) + 256 * lostBanks
  checkSignatures s.pwr.signatures retained lostBanks <| bootSteps true lostBanks boot
    { State.reset with
      flash := s.flash, fuse := s.fuse, pending := s.pending,
      cfg := if has 4 then s.cfg else ringSettings s,
      log := if has 1 then bootLog s.log else {},
      drw := { slots := s.drw.slots.map bootSlot, bank0 := has 0 },
      conv := if has 2 then { cal := { s.conv.cal with uniformity := [], vfBase := [] } } else {},
      rake := keepRake s.rake (if has 3 then { map := s.rake.map, bridges := s.rake.bridges, cands := s.rake.cands, queue := s.rake.queue } else {}),
      flt := { cond := vinConditions vin, datas := ((List.replicate 48 0).set 34 (vin / 10)).set 35 (vin / 10) },
      pwr := { lgPending := s.pwr.lgPending, retain := s.pwr.retain, signatures := s.pwr.signatures, wakeReport := report, kept := kept,
               standbyS := seconds } }

/-! ### The update control record (19 R439) -/

/-- The 60 bytes of a record that its CRC covers (Table 19.5). -/
def controlBytes (c : ControlRec) : List Byte :=
  u16 0x0C01 ++ u16 1 ++ u32 c.sequence ++ u8 c.stage ++ u8 c.boots ++ u16 0 ++ u32 c.imageBytes ++ u32 c.nextOffset
    ++ u32 c.fwVersion ++ c.digest ++ u32 0

/-- A new control record, one above the previous one; CVU3 forms its CRC. -/
def writeControl (f : ControlRec → ControlRec) (s : State) : State :=
  let c := { f s.flash.control with sequence := s.flash.control.sequence + 1 }
  cvuJob 3 (crc32 (controlBytes c)) none { s with flash := { s.flash with control := c } }

/-- A record of the settings ring: its layout is not in the spec, so its CRC is a free value. -/
def writeSettings (format : Nat) (c : Settings) (s : State) : State :=
  cvuJob 3 (Config.recordCrc ((s.cvus.getD 3 {}).jobs) % 4294967296) none { s with flash := { s.flash with settings := some (format, c) } }

/-! ### The image header (Table 19.4) -/

def imgKeyId (s : State) : Nat := imgField s 6 1
def imgRollback (s : State) : Nat := imgField s 7 1
def imgVersion (s : State) : Nat := imgField s 8 4
def imgBytes (s : State) : Nat := imgField s 12 4
def imgSettingsFormat (s : State) : Nat := imgField s 20 2

/-- KEY_ID is accepted in the lifecycle state (Table 19.1). -/
def keyAccepted (lifecycle keyId : Nat) : Bool :=
  match lifecycle with
  | 0 | 1 => decide (keyId ≤ 1)
  | 2 => decide (keyId = 0)
  | _ => false

/-- The first part of R437: MAGIC, FORMAT, IMAGE_BYTES, KEY_ID and the signature. -/
def imageAuthentic (s : State) (v : ImageVerdict) : Bool :=
  decide (imgField s 0 4 = 0x31545053) && decide (imgField s 4 2 = 1) && decide (imgBytes s = s.flash.control.imageBytes)
    && keyAccepted s.fuse.lifecycle (imgKeyId s) && !s.fuse.zeroised && v.sigOk

/-- The second part: ROLLBACK and MIN_LOADER. -/
def imageAllowed (s : State) : Bool :=
  decide (s.fuse.rollback ≤ imgRollback s) && decide (imgField s 16 4 ≤ s.fuse.loaderVersion)

/-- An image valid for the boot path, without the recorded-DIGEST test. -/
def imageValid (s : State) (v : ImageVerdict) : Bool := imageAuthentic s v && imageAllowed s

/-! ### Entry to LOADER -/

/-- LOADER (Table 19.6); in STAGE 3 the slot is verified again (R441). -/
def enterLoader (cause : Nat) (v : ImageVerdict) (s : State) : State :=
  let s := rakeUpdate (record srcUpdate 0x0001 cause
    { s with mode := { s.mode with op := .loader, unconfirmed := false },
             upd := { s.upd with loaderCause := cause, fwVersion := 0, expected := s.flash.control.nextOffset },
             mp := { s.mp with serviced := tsc s } })
  if s.flash.control.stage = 3 then
    if imageValid s v && decide (v.digest = s.flash.control.digest) then { s with upd := { s.upd with verifiedOk := true } }
    else record srcUpdate 0x0003 0 (writeControl (fun c => { c with stage := 2, fwVersion := 0 }) s)
  else s

/-! ### Entry to PROOF_PENDING -/

/-- The Chest image as bytes (07 Tables 7.6 and 7.7). -/
def polygonBytes (p : Polygon) : List Byte :=
  u8 p.verts.length ++ u8 0 ++ u16 p.ceil ++ u16 p.floor ++ u16 0
    ++ (List.range 8).flatMap fun k => match p.verts[k]? with | some v => s16 v.1 ++ s16 v.2 | none => u32 0

def chestBytes (c : ChestImage) : List Byte :=
  u16 c.polys.length ++ u16 c.defaultCeil ++ u16 c.defaultFloor ++ u16 0 ++ c.polys.flatMap polygonBytes

/-- CHEST_REF formed on CVU3 (07 R182, 20 R452). -/
def formChestRef (img : ChestImage) (s : State) : Nat := chestCrc img s.cfg.comp.mirrorX s.cfg.comp.mirrorY

/-- The generations drawn when bank 0 is not intact (06 R143). -/
def drawGenerations (draws : List Nat) (s : State) : State :=
  if s.drw.bank0 then s
  else { s with drw := { s.drw with
    bank0 := true,
    slots := s.drw.slots.zipIdx.map fun e => if e.2 < 2 then e.1 else { e.1 with gen := draws.getD (e.2 - 2) 0 % 256 } } }

/-- The settings on a boot with UNCONFIRMED set (19 R444). -/
def migrateSettings (s : State) : State :=
  let fmt := imgSettingsFormat s
  let kept := match s.flash.settings with
    | some (f, r) => if f = fmt then some r else none
    | none => none
  let cfg := kept.getD {}
  let s := writeSettings fmt cfg { s with
    cfg := cfg, link := { s.link with inForce := cfg.link }, can := { s.can with inForce := cfg.can },
    dim := { s.dim with proofWindow := cfg.sdim.proofWindow },
    sched := { s.sched with profile := cfg.timing.profile, period := cfg.timing.period, anchorTsc := cfg.timing.anchorTsc,
                            anchorFrame := cfg.timing.anchorFrame },
    sync := { s.sync with len := if s.sync.role = .head then cfg.sync.chainLen else s.sync.len } }
  record srcUpdate 0x0006 (if kept.isSome then 0 else 1) s

/-- The newest last-gasp record not reported before (18 R421). -/
def newSave (f : Flash) : Option (Nat × Nat × List EventRec × List Delta) :=
  f.lastgasp.foldl (fun best x =>
    match x with
    | .valid q t _ _ _ recs deltas =>
      if f.lgReported < q ∧ (best.elim true fun b => decide (b.1 < q)) then some (q, t, recs, deltas) else best
    | _ => best) none

/-- The MP examines the last-gasp slots (R421). -/
def examineSlots (s : State) : State :=
  let s := match newSave s.flash with
    | some (q, t, recs, deltas) =>
      { s with flash := { s.flash with delta := s.flash.delta ++ deltas, archive := s.flash.archive ++ recs, lgReported := q },
               pwr := { s.pwr with lgResult := 1, lgTsc := t } }
    | none =>
      let r := if s.flash.lastgasp.contains .invalid then 5 else s.pwr.lgPending
      { s with pwr := { s.pwr with lgResult := r, lgTsc := 0 } }
  let s := { s with pwr := { s.pwr with
    lgPending := 0, slotWanted := decide (s.flash.lastgasp.getD (nextLgSlot s.flash.lastgasp) .erased ≠ .erased) } }
  record srcPower 0x0006 s.pwr.lgResult s

/-- The firmware starts (Table 1.9): settings, generations, staging images, the wake and last-gasp reports; the proof window opens. A
DARK or CUTOFF still in force takes the module to SAFE (15 R359). -/
def enterProof (draws : List Nat) (s : State) : State :=
  let s := { s with mode := { s.mode with op := .proofPending },
                    upd := { s.upd with fwVersion := imgVersion s },
                    mp := { s.mp with serviced := tsc s } }
  let s := if s.mode.unconfirmed then readdress (migrateSettings s) else s
  let s := drawGenerations draws s
  let ref := formChestRef s.comp.chest s
  let s := cvuJob 3 ref none s
  let s := { s with
    comp := { s.comp with
      chestRef := ref, chestAccepted := s.comp.chest, chestStage := memWriteList 0 [] 0 (chestBytes s.comp.chest),
      settleAccepted := { pattern := patternBytes s.arr.pattern, levels := s.arr.levels }, settleStage := patternBytes s.arr.pattern },
    dim := { s.dim with proofFrom := some (tsc s) },
    rake := { s.rake with snapFrom := tsc s } }
  let s := if s.pwr.wakeReport = 0 then s else record srcPower 0x0005 s.pwr.wakeReport s
  let s := rakeUpdate (examineSlots s)
  if 5 ≤ s.flt.reaction ∧ s.flt.heldByReaction then
    let r := s.flt.reaction
    proofToSafe (r - 2) 0 { s with flt := { s.flt with heldByReaction := false } }
  else s

/-- The image check completes (19 Table 19.6). -/
def imageCheck (v : ImageVerdict) (draws : List Nat) (s : State) : State :=
  let c := s.flash.control
  let valid := imageValid s v && decide (v.digest = c.digest)
  if 1 ≤ c.stage ∧ c.stage ≤ 3 then enterLoader 1 v s
  else if c.stage = 4 ∧ 3 ≤ c.boots then enterLoader 2 v s
  else if !valid then enterLoader 0 v s
  else if c.stage = 4 then
    let s := writeControl (fun c => { c with boots := c.boots + 1 }) s
    enterProof draws (record srcUpdate 0x0004 s.flash.control.boots { s with mode := { s.mode with unconfirmed := true } })
  else enterProof draws s

end Sys2Proof.Machine
end

