-- ==== Sys2Proof/Machine/DimOps.lean ====
section
/-!
DEFINITION. A Safe-Dim target takes effect (16 Table 16.1, R376); the entries to FULL (01 Table 1.9, 15 R359) and to IDLE (18 R408).
-/

namespace Sys2Proof.Machine

/-! ### The ramp (16 R377, R378) -/

/-- env(t) of R378. -/
def envAt (t0 tEnd i0 iEnd : Nat) (t : Int) : Nat :=
  if (tEnd : Int) ≤ t then iEnd
  else if t ≤ t0 then i0
  else i0 - (i0 - iEnd) * (t - t0).toNat / (tEnd - t0)

/-- SDIM_CAP for a frame of sum `sum` whose swap falls at `swap`: from a demand with a ramp until it is released, and from the ramp of
IDLE_REQUEST (R378, 18 R408). -/
def sdimCap (s : State) (sum : Nat) (swap : Int) : Nat :=
  let x := s.dim
  let a := if x.demand && decide (x.t0 < x.tEnd) then (scaleFor sum (envAt x.t0 x.tEnd x.i0 x.iEnd swap)).toNat else 1023
  match x.idleRamp with
  | some (t0, tEnd, i0) => min a (scaleFor sum (envAt t0 tEnd i0 0 swap)).toNat
  | none => a

/-! ### Targets -/

/-- The light of a target that is applied: in FULL and SAFE the module goes to SAFE; elsewhere only the light and the switch follow
(R375, R376). SETTLE is carried out as DARK while FS09 is set (15 R355). -/
def targetLight (s : State) : State :=
  let k := settleOrDark s (s.dim.target + 1)
  match s.mode.op with
  | .full | .safe =>
    let s := goSafe k 1 s
    { s with flt := { s.flt with recovering := none } }
  | .boot | .loader | .proofPending =>
    if k ≤ 2 then s
    else
      let s := kindHardware k 1 s
      { s with dim := { s.dim with heldByDemand := true } }
  | .idle =>
    if k = 4 then
      let s := openSwitch 1 s
      { s with dim := { s.dim with heldByDemand := true } }
    else s
  | _ => s

/-- The target is applied (Table 16.1). -/
def applyTarget (s : State) : State :=
  let s := targetLight { s with dim := { s.dim with state := .applied, envelope := s.dim.iEnd } }
  rakeUpdate (record srcSafeDim 0x0003 s.dim.target s)

/-- The entry to FULL from PROOF_PENDING or IDLE: the schedule starts; a demand in force that was only recorded is applied; sources
still asserted are asserted anew (Table 1.9, 15 R359, 16 Table 16.1). -/
def enterFull (s : State) : State :=
  let idle := decide (s.mode.op = .idle)
  let s := { s with mode := { s.mode with op := .full, safeKind := 0, calLimited := false },
                    flt := { s.flt with alive := true, reaction := 0, withholding := 0 },
                    dim := { s.dim with heldByDemand := false } }
  let s := rakeUpdate (startSchedule s)
  let s := if s.dim.demand ∧ (idle ∨ s.dim.state = .applied) then applyTarget s else s
  assertAnew s

/-- FS39 holds the module to the SETTLE beam (Table 1.9). -/
def enterLimited (s : State) : State :=
  let k := max (settleOrDark s 2) (safeKindWord s)
  let s := if k = 2 then s else kindHardware k 0 s
  let s := { s with mode := { s.mode with op := .safe, safeKind := k, calLimited := true }, dim := { s.dim with heldByDemand := false } }
  rakeUpdate (startSchedule (raiseReaction (max 4 (k + 2)) s))

/-- The transition out of PROOF_PENDING once the proof is seen and calibration is loaded (14 R344, 16 R381). -/
def proofTransition (s : State) : State :=
  let s := { s with dim := { s.dim with proofWaits := false } }
  if s.mode.op ≠ .proofPending then s
  else if isAsserted s 39 then enterLimited s
  else enterFull s

/-- The IDLE ramp ends: DRV_EN low, IDLE, the schedule stops (18 R408). A demand in its ramp is applied as in IDLE (16 Table 16.1). -/
def enterIdle (s : State) : State :=
  let s := drvLow s
  let s := { s with mode := { s.mode with op := .idle, safeKind := 0 }, flt := { s.flt with alive := false, reaction := 0 },
                    dim := { s.dim with idleRamp := none } }
  let s := endSource 43 (stopSchedule s)
  let s := record srcPower 0x0001 0 (rakeUpdate s)
  if s.dim.state = .ramp then
    let s := { s with dim := { s.dim with state := .applied } }
    targetLight s
  else s

end Sys2Proof.Machine
end

