-- ==== Sys2Proof/Machine/RakeOps.lean ====
section
/-!
DEFINITION. Rake's arithmetic (chapter 13): results of a window, candidates, bridge groups, map entries, the ageing sweep, the restore.
Pixels are numbered 2048 × row + column.
-/

namespace Sys2Proof.Machine

/-! ### Pixels and tiles -/

/-- The tile of a pixel (R314). -/
def tileOf (p : Nat) : Nat := p / 2048 / 32 * 64 + p % 2048 / 32

/-- The class of a pixel: 0 OK, 1 DEAD, 2 BRIDGED, 3 STUCK (R310). -/
def classAt (map : Mem Nat) (p : Nat) : Nat := memRead 0 map p

/-- The rank of a class: OK, BRIDGED, DEAD, STUCK (R311). -/
def rankOf (cls : Nat) : Nat :=
  match cls with
  | 0 => 0
  | 2 => 1
  | 1 => 2
  | _ => 3

/-- Faulty pixels of a tile. -/
def tileCount (map : Mem Nat) (t : Nat) : Nat := (map.filter fun e => tileOf e.1 = t).length

/-- Pixels of one class. -/
def classCount (map : Mem Nat) (cls : Nat) : Nat := (map.filter fun e => e.2 = cls).length

/-! ### Bridge groups (R312) -/

/-- A list without repeats, first occurrences kept. -/
def nub (l : List Nat) : List Nat := l.foldl (fun acc x => if acc.contains x then acc else acc ++ [x]) []

/-- Pixels joined to a set by one listed pair. -/
def groupStep (pairs : List (Nat × Nat)) (set : List Nat) : List Nat :=
  nub (set ++ (pairs.flatMap fun e => if set.contains e.1 then [e.2] else if set.contains e.2 then [e.1] else []))

/-- The bridge group of a pixel. A listed group has at most 8 pixels, so a group with one further pair has at most 16. -/
def groupOf (pairs : List (Nat × Nat)) (p : Nat) : List Nat :=
  (List.range 16).foldl (fun set _ => groupStep pairs set) [p]

/-- A group keeps the limits of 8 pixels and 4 rows. -/
def groupFits (g : List Nat) : Bool :=
  let rows := g.map (· / 2048)
  decide (g.length ≤ 8) && decide (rows.foldl max 0 < (rows.foldl min 639) + 4)

/-! ### Map entries -/

/-- FS19 and FS20 after an entry (R314): a tile that crosses its threshold asserts FS19, anew while it is asserted. -/
def checkThresholds (p : Nat) (s : State) : State :=
  let t := tileOf p
  let s :=
    if 65 ≤ tileCount s.rake.map t ∧ !s.rake.tiles.contains t then
      let s := { s with rake := { s.rake with tiles := s.rake.tiles ++ [t] } }
      if isAsserted s 19 ∧ s.flt.running then
        deliver 19 t false true { s with flt := { s.flt with cond := withBit s.flt.cond 19, datas := s.flt.datas.set 19 t } }
      else assertSource 19 t false s
    else s
  if 1311 ≤ s.rake.map.length then assertSource 20 (sat16 s.rake.map.length) false s else s

/-- A pixel is entered in the map (R311, R315); a member that rises to DEAD or STUCK loses its pairs (R312). -/
def enterPixel (p cls link : Nat) (s : State) : State :=
  let rk := s.rake
  let s := { s with rake := { rk with
    map := memWrite 0 rk.map p cls,
    queue := rk.queue ++ [{ pixel := p, cls := cls, link := link }],
    bridges := if cls = 2 then rk.bridges else rk.bridges.filter fun e => e.1 ≠ p && e.2 ≠ p } }
  checkThresholds p (record srcRake 0x0001 (tileOf p + 2048 * cls) s)

/-- A pixel becomes DEAD if it ranks below. -/
def makeDead (p : Nat) (s : State) : State :=
  if rankOf (classAt s.rake.map p) < 2 then enterPixel p 1 0 s else s

/-- The link field of a pair: 1 right neighbour, 2 lower neighbour (Table 13.4). -/
def linkOf (p q : Nat) : Nat := if q = p + 1 then 1 else 2

/-- A pair is confirmed (R311, R312). -/
def confirmPair (p q : Nat) (s : State) : State :=
  let g := groupOf ((p, q) :: s.rake.bridges) p
  if 4096 ≤ s.rake.bridges.length then
    makeDead q (makeDead p (record srcRake 0x0003 (tileOf p) s))
  else if !groupFits g then g.foldl (fun s x => makeDead x s) (record srcRake 0x0003 (tileOf p) s)
  else
    let s := { s with rake := { s.rake with bridges := s.rake.bridges ++ [(p, q)] } }
    let s := if classAt s.rake.map p = 0 then enterPixel p 2 (linkOf p q) s
      else { s with rake := { s.rake with queue := s.rake.queue ++ [{ pixel := p, cls := 2, link := linkOf p q }] } }
    if classAt s.rake.map q = 0 then enterPixel q 2 0 s else s

/-! ### Candidates (R311) -/

/-- A candidate added, or dropped when the table is full. -/
def addCand (c : Cand) (s : State) : State :=
  if s.rake.cands.length < 4096 then { s with rake := { s.rake with cands := s.rake.cands ++ [c], overflow := false } }
  else
    let s := { s with rake := { s.rake with drops := incr32 s.rake.drops } }
    if s.rake.overflow then s else record srcRake 0x0002 0 { s with rake := { s.rake with overflow := true } }

/-- A candidate leaves the table. -/
def dropCand (c : Cand) (s : State) : State := { s with rake := { s.rake with cands := s.rake.cands.filter (· ≠ c) } }

/-- The pixel candidate of a pixel. -/
def candOf (s : State) (p : Nat) : Option Nat :=
  s.rake.cands.findSome? fun c => match c with | .pixel q cls => if q = p then some cls else none | .pair _ _ => none

/-- One probe result of a pixel (R311). -/
def pixelResult (p r : Nat) (s : State) : State :=
  let worse := (r = 1 || r = 3) && decide (rankOf (classAt s.rake.map p) < rankOf r)
  match candOf s p with
  | some cls =>
    let s := dropCand (.pixel p cls) s
    if r = cls then (if worse then enterPixel p r 0 s else s)
    else if worse then addCand (.pixel p r) s else s
  | none => if worse then addCand (.pixel p r) s else s

/-- A pair found, or not found, in a window of its upper row. -/
def pairResult (found : List (Nat × Nat)) (c : Cand) (row : Nat) (s : State) : State :=
  match c with
  | .pair p q =>
    if p / 2048 = row then
      let s := dropCand c s
      if found.contains (p, q) then confirmPair p q s else s
    else s
  | .pixel _ _ => s

/-- A found pair that is not a candidate yet. -/
def newPair (old : List Cand) (e : Nat × Nat) (s : State) : State :=
  let free := fun (x : Nat) => classAt s.rake.map x = 0 ∨ classAt s.rake.map x = 2
  if !old.contains (.pair e.1 e.2) ∧ free e.1 ∧ free e.2 ∧ !s.rake.bridges.contains e then addCand (.pair e.1 e.2) s else s

/-! ### A window (R303, R304) -/

/-- A threshold within ±`tol` of its nominal value: where it lies is free (Table 13.2). -/
def probeLimit (test col nominal tol : Nat) : Nat := nominal - tol + Config.probeTolerance test col % (2 * tol + 1)

/-- The columns of a list whose value passes a test. -/
def flagged (l : List (Nat × Nat)) (test : Nat × Nat → Bool) : List Nat := (l.filter test).map (·.1)

/-- Stuck-on, phase 0: more than 10 nA ± 3 nA into the held anode. -/
def stuckCols (m : Probe) : List Nat := flagged m.leak fun x => decide (probeLimit 0 x.1 10000 3000 < x.2)

/-- Open and short, phase 1: Vf above 4.2 V or below 1.8 V, ± 50 mV. -/
def openCols (m : Probe) : List Nat := flagged m.vf fun x => decide (probeLimit 1 x.1 4200 50 < x.2)
def shortCols (m : Probe) : List Nat := flagged m.vf fun x => decide (x.2 < probeLimit 2 x.1 1800 50)

/-- Bridge, phases 2a, 2b and 3: more than 2.0 µA ± 0.4 µA into a held anode. -/
def bridgeCols (l : List (Nat × Nat)) : List Nat := flagged l fun x => decide (probeLimit 3 x.1 2000 400 < x.2)

/-- The pixel was flagged in the sub-phase in which it was held: odd columns in 2a, even columns in 2b. -/
def heldFlag (m : Probe) (c : Nat) : Bool := if c % 2 = 1 then (bridgeCols m.held2a).contains c else (bridgeCols m.held2b).contains c

/-- STUCK or DEAD under the first two steps. -/
def hardFault (m : Probe) (c : Nat) : Bool := (stuckCols m).contains c || (openCols m).contains c || (shortCols m).contains c

/-- The columns a window flags. -/
def flaggedCols (m : Probe) : List Nat :=
  nub (stuckCols m ++ openCols m ++ shortCols m ++ bridgeCols m.held2a ++ bridgeCols m.held2b ++ bridgeCols m.sense3)

/-- Insertion into an ascending list. -/
def insertNat (x : Nat) : List Nat → List Nat
  | [] => [x]
  | y :: ys => if x < y then x :: y :: ys else y :: insertNat x ys

/-- The pairs found in a window of a row. -/
def foundPairs (m : Probe) (row : Nat) : List (Nat × Nat) :=
  ((flaggedCols m).foldr insertNat []).flatMap fun c =>
    (if heldFlag m c && heldFlag m (c + 1) && decide (c + 1 < 2048) && !hardFault m c && !hardFault m (c + 1) then
      [(2048 * row + c, 2048 * row + c + 1)] else [])
    ++ (if (bridgeCols m.sense3).contains c && decide (row < 639) && !hardFault m c then [(2048 * row + c, 2048 * row + c + 2048)] else [])

/-- The probe result of a pixel of the probed row. -/
def probeResult (m : Probe) (pairs : List (Nat × Nat)) (row c : Nat) : Nat :=
  let p := 2048 * row + c
  if (stuckCols m).contains c then 3
  else if (openCols m).contains c || (shortCols m).contains c then 1
  else if pairs.any fun e => e.1 = p || e.2 = p then 2
  else if heldFlag m c then 1
  else 0

/-- The columns of a row that have a pixel candidate. -/
def candCols (s : State) (row : Nat) : List Nat :=
  s.rake.cands.filterMap fun c => match c with | .pixel p _ => if p / 2048 = row then some (p % 2048) else none | .pair _ _ => none

/-- The results of one window of a row take effect at its end (R304, R311). -/
def windowResults (row : Nat) (m : Probe) (s : State) : State :=
  let pairs := foundPairs m row
  let cols := (nub (flaggedCols m ++ candCols s row)).foldr insertNat []
  let s := cols.foldl (fun s c => if c < 2048 then pixelResult (2048 * row + c) (probeResult m pairs row c) s else s) s
  let old := s.rake.cands
  let s := old.foldl (fun s c => pairResult pairs c row s) s
  pairs.foldl (fun s e => newPair old e s) s

/-! ### Coverage (R309) -/

/-- COVERAGE_LATE when the interval of a row exceeds 64,000,000 tk; `e` is the end of this window. -/
def checkCoverage (row e : Nat) (s : State) : State :=
  let prev := memRead 0 s.rake.lastProbe row
  let late := decide (prev ≠ 0) && decide (max prev s.rake.resumedAt + 64000000 < e)
  let s := if late then record srcRake 0x0004 row s else s
  { s with rake := { s.rake with lastProbe := memWrite 0 s.rake.lastProbe row e } }

/-! ### The restore (R315) -/

/-- The valid snapshot with the higher sequence. -/
def bestSnapshot (f : Flash) : Option Snapshot :=
  match f.snapA, f.snapB with
  | none, x => x
  | some a, none => some a
  | some a, some b => if a.sequence < b.sequence then some b else some a

/-- A delta record applied to a map and a bridge list. -/
def applyDelta (mb : Mem Nat × List (Nat × Nat)) (d : Delta) : Mem Nat × List (Nat × Nat) :=
  let map := if rankOf (memRead 0 mb.1 d.pixel) < rankOf d.cls then memWrite 0 mb.1 d.pixel d.cls else mb.1
  if d.cls = 2 then
    let e := (d.pixel, if d.link = 1 then d.pixel + 1 else d.pixel + 2048)
    (map, if d.link ≠ 0 ∧ !mb.2.contains e then mb.2 ++ [e] else mb.2)
  else (map, mb.2.filter fun e => e.1 ≠ d.pixel && e.2 ≠ d.pixel)

/-- What flash holds of the map. -/
def flashMap (f : Flash) (sn : Snapshot) : Mem Nat × List (Nat × Nat) := f.delta.foldl applyDelta (sn.map, sn.bridges)

/-- Two maps joined by the higher rank: entries made since BOOT stay. -/
def joinMaps (x y : Mem Nat) : Mem Nat :=
  y.foldl (fun m e => if rankOf (memRead 0 m e.1) < rankOf e.2 then memWrite 0 m e.1 e.2 else m) x

/-- The correction map, WORN_COUNT and VF_MAX_25 from the calibration and DVF in force. -/
def rebuild (s : State) : State :=
  let corr := buildCorr s.conv.cal s.rake.dvf
  { s with conv := { s.conv with corr := corr, ageing := ageingPoints s.conv.cal },
           rake := { s.rake with worn := wornCount corr, vfMax := vfMaxOf s.rake.map s.conv.cal.vfBase s.rake.dvf } }

/-- The restore completes (R315). DVF comes from the snapshot. -/
def restoreMap (s : State) : State :=
  let sn := bestSnapshot s.flash
  let dvf := sn.elim [] (·.dvf)
  let kept := decide (s.pwr.kept / 8 % 2 = 1)
  let res : Nat × Mem Nat × List (Nat × Nat) :=
    if kept then (0, s.rake.map, s.rake.bridges)
    else match sn with
      | some x =>
        let fb := flashMap s.flash x
        (1, joinMaps fb.1 s.rake.map, fb.2 ++ s.rake.bridges.filter fun e => !fb.2.contains e)
      | none => (2, s.rake.map, s.rake.bridges)
  let s := { s with rake := { s.rake with map := res.2.1, bridges := res.2.2, dvf := dvf, restored := true } }
  let s := record srcRake 0x0006 res.1 s
  let s := if s.conv.loaded then rebuild s else s
  s.rake.map.foldl (fun s e => checkThresholds e.1 s) s

/-! ### The precision sweep (R316 to R319) -/

/-- The input lay above or below the converter's range. -/
def isOut (x : Sample) : Bool := x.ovr || x.unr

/-- TAINT of consecutive samples: the `n` after each out-of-range one carry it, 2 on a single converter, 4 of an interleaved stream (14 R330);
`left` still do from before. -/
def taints (n : Nat) : Nat → List Sample → List Bool
  | _, [] => []
  | left, x :: xs => decide (0 < left) :: taints n (if isOut x then n else left - 1) xs

/-- Samples with their TAINT. -/
def withTaint (n : Nat) (l : List Sample) : List (Sample × Bool) := l.zip (taints n 0 l)

/-- Flags counted in CONV_STATUS. -/
def countFlags (taint ovr unr : Nat) (c : Converters) : Converters :=
  { c with tainted := (c.tainted + taint) % 4294967296, ovr := (c.ovr + ovr) % 4294967296, unr := (c.unr + unr) % 4294967296 }

/-- Samples with a flag, for the counters of CONV_STATUS. -/
def countSamples (n : Nat) (l : List Sample) (c : Converters) : Converters :=
  countFlags ((taints n 0 l).filter (·)).length (l.filter (·.ovr)).length (l.filter (·.unr)).length c

/-- A sample the converters can deliver: an out-of-range one has the code of its end (14 R330). -/
def sampleOk (x : Sample) : Bool :=
  decide (x.code < 4096) && (!x.ovr || decide (x.code = 4095)) && (!x.unr || decide (x.code = 0)) && !(x.ovr && x.unr)

/-- Pixels per sweep block, and the number of cursor positions. -/
def blockCols (s : State) : Nat := if hasConvB s then 64 else 32
def cursorEnd (s : State) : Nat := if hasConvB s then 20480 else 40960

/-- The converter that takes sample k: CONV_A and CONV_B in turn, CONV_A alone on -E. -/
def sweepConv (s : State) (k : Nat) : Conv := if hasConvB s && decide (k % 2 = 1) then .b else .a

/-- The sweep value of a pixel in 0.25 mV from its last four samples, each with its TAINT; none when it is lost (R316, R326). -/
def sweepValue (s : State) (samples : List (Sample × Bool)) : Option Int :=
  let used := (samples.zipIdx.drop 2).take 4
  if used.length < 4 ∨ used.any (fun e => isOut e.1.1 || e.1.2) then none
  else some ((used.foldl (fun (acc : Int) e =>
    acc + scaled s.conv.cal 0 (corrected s.conv.cal (sweepConv s e.2) (16 * (e.1.1.code : Nat) : Int))) 0 + 8) / 16)

/-- The new DVF of a pixel (R318); the division by 250 rounds down (log entry 15). -/
def newDvf (s : State) (p : Nat) (v : Int) : Nat :=
  let vf25 := v + (-vfTempco s.conv.cal) * (tLed s - 3200) / 32000
  let d := max (vf25 - 4 * (2400 + 4 * (memRead 0 s.conv.cal.vfBase p : Nat))) 0
  let old : Int := (memRead 0 s.rake.dvf p : Nat)
  (max 0 (min 65535 (old + (d - old + 4) / 8))).toNat

/-- One pixel of the block. -/
def sweepPixel (s : State) (e : List (Sample × Bool) × Nat) : State :=
  match sweepValue s e.1 with
  | none => { s with rake := { s.rake with skipped := incr32 s.rake.skipped } }
  | some v => { s with rake := { s.rake with dvf := memWrite 0 s.rake.dvf e.2 (newDvf s e.2 v) } }


/-- A precision sweep completes: the correction map follows DVF (R319). -/
def sweepDone (s : State) : State :=
  let old := s.conv.corr
  let s := rebuild { s with rake := { s.rake with sweeps := incr32 s.rake.sweeps } }
  record srcRake 0x0005 (sat16 (corrChanges old s.conv.corr)) s

/-- The cursor advances (R317). -/
def advanceCursor (s : State) : State :=
  if s.rake.cursor + 1 < cursorEnd s then { s with rake := { s.rake with cursor := s.rake.cursor + 1 } }
  else sweepDone { s with rake := { s.rake with cursor := 0 } }

/-- The reference of a converter is ready for a timed sequence (14 R328). -/
def convReady (s : State) : Conv → Bool
  | .a => s.conv.aWarm && s.conv.aReady
  | .b => !hasConvB s || (s.conv.bWarm && s.conv.bReady)

/-- A timed sequence finds a reference not ready (14 R328). -/
def refNotReady (s : State) : State :=
  let conv := if convReady s .a then 1 else 0
  let w := tsc s / 100000000
  let first := decide (s.conv.notReadyWindow ≠ some w)
  let s := { s with conv := { s.conv with notReady := incr32 s.conv.notReady, notReadyWindow := some w } }
  if first then record srcCal 0x0008 conv s else s

/-- Samples after which a stream of the sweep is accurate again: 4 interleaved, else 2. -/
def sweepTaint (s : State) : Nat := if hasConvB s then 4 else 2

/-- The sampling of a sweep window at the cursor: six samples for each pixel of the block, in one stream. A pixel that an urgent request has
touched is lost (R316). -/
def sweepSamples (w : RakeWindow) (samples : List Sample) (s : State) : State :=
  let B := 2048 / blockCols s
  let first := 2048 * (s.rake.cursor / B) + blockCols s * (s.rake.cursor % B)
  let s :=
    if w.ready then
      let l := withTaint (sweepTaint s) samples
      let s := { s with conv := countSamples (sweepTaint s) samples s.conv }
      let s := ((List.range (blockCols s)).map fun k => (if w.touched.contains k then [] else (l.drop (6 * k)).take 6, first + k)).foldl sweepPixel s
      { s with rake := { s.rake with vfMax := vfMaxOf s.rake.map s.conv.cal.vfBase s.rake.dvf } }
    else { s with rake := { s.rake with skipped := (s.rake.skipped + blockCols s) % 4294967296 } }
  advanceCursor s

/-- The pixels of the block whose sampling a pause of the converters touches: pixel k is sampled from 750 ns into the window on, for 18.75 ns, or
37.5 ns on -E; the request at `now` pauses the sequence for at most 500 ns (14 R334). In units of 0.25 ns. -/
def touchedPixels (s : State) (w : RakeWindow) : List Nat :=
  let width := if hasConvB s then 75 else 150
  let u := 40 * (tsc s - w.start)
  let e := u + 40 * (Config.urgentPause (tsc s) % 51)
  (List.range (blockCols s)).filter fun k => decide (3000 + width * k ≤ e) && decide (u < 3000 + width * (k + 1))

/-- An urgent request meets the sampling of a sweep window in progress. -/
def touchWindow (s : State) : State :=
  match openWindow s with
  | some w =>
    if w.sweep && w.ready then { s with rake := { s.rake with window := some { w with touched := w.touched ++ touchedPixels s w } } } else s
  | none => s

/-! ### The placement of windows (R305 to R308) -/

/-- The frame that is written now and its W(m), or the start of the cadence (R306, R307). A frame whose swap before it is withheld is written
from the instant of that swap. -/
def windowBase (s : State) : Nat :=
  let g := s.sched
  if s.rake.mode ≠ 1 then tsc s / 1000000 * 1000000
  else if g.decided = some false ∧ swapOf g g.nextSwap ≤ tsc s then (swapOf g g.nextSwap).toNat
  else
    match g.cur with
    | some f => if f.frame = g.nextSwap then ((writeStartOf g f).getD g.writeStart).toNat else g.writeStart
    | none => g.writeStart

/-- The frame that is written now. -/
def windowFrame (s : State) : Nat :=
  if s.sched.decided = some false ∧ swapOf s.sched s.sched.nextSwap ≤ tsc s then s.sched.nextSwap + 1 else s.sched.nextSwap

/-- Probe windows of the frame that is written now, or of a cadence. -/
def windowRows (s : State) : Nat :=
  if s.rake.mode ≠ 1 then 11
  else
    let m := windowFrame s
    match s.sched.cur.filter fun f => decide (f.frame = m) with
    | some f => rakeRows f.profile f.period
    | none => rakeRows (profileAt s.sched m) (periodAt s.sched m)

/-- The count of windows starts afresh with a frame or cadence. -/
def freshBase (s : State) : State :=
  let b := windowBase s
  if s.rake.base = b then s
  else { s with rake := { s.rake with base := b, rows := windowRows s, shift := 0, windows := 0, swept := false } }

/-- The start of window `i` of this frame or cadence; the sweep window follows the probe windows. -/
def windowStart (s : State) (i : Nat) : Nat := s.rake.base + s.rake.shift + 2000 + 500 * i

/-- The window whose start the TSC has reached now; a value it skips is acted on one tick later (01 R22). -/
def windowSlot (s : State) : Option Nat :=
  let d := tsc s - windowStart s 0
  if windowStart s 0 ≤ tsc s ∧ d % 500 ≤ 1 then some (d / 500) else none

/-- A latch update holds free-running windows back (R308). -/
def latchHolds (s : State) : Bool := decide (s.rake.mode = 2) && latchBusyNow s.arr

/-- A window may start: Rake runs, no latch update holds it back, and none is in progress. -/
def mayStart (s : State) : Bool := decide (s.rake.mode ≠ 0) && !latchHolds s && (openWindow s).isNone

/-- Sweep windows run here (Table 13.3). -/
def sweepRuns (s : State) : Bool := decide (s.rake.mode ≠ 0) && isFw s.mode.op && s.mp.restarting.isNone

/-- A window that has waited for a latch update may start now, and the later windows of the cadence shift with it (R308). -/
def shiftWindows (s : State) : State :=
  let s := freshBase s
  let st := windowStart s s.rake.windows
  if s.rake.mode = 2 ∧ s.rake.windows ≤ s.rake.rows ∧ s.rake.rows ≠ 0 ∧ st ≤ tsc s then
    { s with rake := { s.rake with shift := s.rake.shift + (tsc s - st) } }
  else s

/-- A window starts. -/
def startWindow (i row : Nat) (sweep ready : Bool) (s : State) : State :=
  { s with rake := { s.rake with windows := i + 1, swept := s.rake.swept || sweep,
                                 window := some { row := row, start := tsc s, sweep := sweep, ready := ready, touched := [] } },
           arr := { s.arr with probeTrim := calS s.conv.cal 44 2 } }

/-- The window in progress that is over now. -/
def endedWindow (s : State) (sweep : Bool) : Option RakeWindow :=
  s.rake.window.filter fun w => decide (w.sweep = sweep) && decide (w.start + 400 ≤ tsc s)

/-- A calibration pass is in progress (14 R339). -/
def passRuns (s : State) : Bool := isRunning s 0x0701 && s.conv.passFrom.isSome

/-- A timed sequence of the converters is in progress, so that others wait: a sweep window, or a calibration pass (14 R332). -/
def reserved (s : State) : Bool := (openWindow s).any (·.sweep) || passRuns s

end Sys2Proof.Machine
end

