-- ==== Sys2Proof/Machine/Words.lean ====
section
/-!
DEFINITION. The status words that a last-gasp record holds beside READ_WORD (18 Table 18.7): fault status, GOV_STATUS, SYNC_STATUS,
TIMING_STATUS, Safe-Dim status, RAKE_STATUS, CONV_STATUS.
-/

namespace Sys2Proof.Machine

/-- GOV_STATUS (04 Table 4.4). -/
def govStatus (s : State) : List Byte :=
  let g := s.gov
  u16 g.scale ++ u16 g.scaleBudget ++ u16 g.scaleFloor ++ u16 g.budget ++ u16 (g.pred / 1000) ++ u16 g.vledTarget ++ u8 g.frameStep ++ u8 g.limiter
    ++ u8 g.profile ++ u8 0 ++ u32 g.conflicts ++ u32 g.frame

/-- ROLE of SYNC_STATUS. -/
def roleCode : Role → Nat
  | .member => 0
  | .head => 1
  | .islandHead => 2
  | .unenumerated => 3

/-- SYNC_STATUS (05 Table 5.10). -/
def syncStatus (s : State) : List Byte :=
  let x := s.sync
  u16 x.depth ++ u16 x.len ++ u8 (roleCode x.role) ++ u8 x.epoch ++ u8 (bits [x.carrier, x.depthPending, x.lenShort, x.linkLong]) ++ u8 0
    ++ u16 x.linkDelay ++ u16 (x.lastFrame.getD 0) ++ u32 x.executed ++ u32 x.timedSwaps ++ u32 x.duplicates ++ u32 x.frameMismatch
    ++ u32 x.withheld ++ u32 x.bankMismatch ++ u32 0 ++ u64 x.lastExec

/-- TIMING_STATUS (09 Table 9.10). A field that the table calls valid only in a state is free outside it. -/
def timingStatus (s : State) : List Byte :=
  let g := s.sched
  let x := if g.running then g.shown else gridShown g
  u8 x.profile ++ u8 (bits [g.running, x.fallback, g.change.isSome, decide (s.mode.op = .safe ∧ s.mode.safeKind = 1)])
    ++ u16 (4 * rowPitch x.profile x.skip) ++ u32 x.period ++ u8 (rakeRows x.profile x.period) ++ u8 g.lbMin ++ u16 0 ++ u32 g.frame
    ++ u64 (if g.running then (swapOf g g.nextSwap).toNat else Config.invalidField 16 (tsc s))
    ++ u64 x.anchorTsc ++ u64 x.anchorFrame ++ u64 (g.change.elim (Config.invalidField 40 (tsc s)) (·.frame))
    ++ u32 g.layerOffs ++ u32 g.underruns ++ u32 g.holdWithheld ++ u32 g.urgentFrames

/-- FIRST_SRC with VALID. -/
def firstSrc (f : Collector) : Nat := f.first.elim 0 fun x => x.1 + 128

/-- Fault status (15 Table 15.4). -/
def faultStatus (s : State) : List Byte :=
  let f := s.flt
  u64 f.status.toNat ++ u64 f.seen.toNat ++ u64 f.shadowed.toNat ++ u64 f.force.toNat ++ u64 (f.first.elim 0 (·.2)) ++ u8 (firstSrc f)
    ++ u8 (bits [f.overflow, f.settleAsDark, f.alive, f.recovering.isSome]) ++ u8 (reactionInForce s) ++ u8 0 ++ u16 f.mpRestarts ++ u16 0
    ++ (List.range 48).flatMap (fun n => u8 (configured s n)) ++ (List.range 48).flatMap (fun n => u16 (f.counts.getD n 0))

/-- STATE of the Safe-Dim status. -/
def dimCode : DimState → Nat
  | .quiet => 0
  | .ramp => 1
  | .applied => 2

/-- Safe-Dim status (16 Table 16.4). -/
def dimStatus (s : State) : List Byte :=
  let x := s.dim
  u8 (dimCode x.state) ++ u8 (bits [x.a, x.b, hasBit s.flt.cond 16, x.proofSeen, x.proofLate, s.arr.switchOpen, x.retest]) ++ u8 x.target ++ u8 0
    ++ u16 (if x.demand then x.tDisc else s.cfg.sdim.tDisc) ++ u16 (if x.demand then x.tRamp else s.cfg.sdim.tRamp)
    ++ u32 x.i0 ++ u32 x.iEnd ++ u32 x.envelope ++ u32 x.lastMean ++ u64 x.t0 ++ u64 x.tEnd ++ u64 x.proofTsc
    ++ u32 x.demands ++ u32 x.withdrawn ++ u32 x.discrepancies ++ u32 x.pulses ++ u32 x.pulseFails ++ u32 0

/-- The tile with the most faulty pixels, the lowest on a tie, and its count. -/
def worstTile (map : Mem Nat) : Nat × Nat :=
  map.foldl (fun best e =>
    let t := tileOf e.1
    let n := tileCount map t
    if best.2 < n ∨ (best.2 = n ∧ t < best.1) then (t, n) else best) (0, 0)

/-- The highest DVF over the pixels that are OK. -/
def dvfMax (map dvf : Mem Nat) : Nat := dvf.foldl (fun m e => if memRead 0 map e.1 = 0 then max m e.2 else m) 0

/-- RAKE_STATUS (13 Table 13.6). -/
def rakeStatus (s : State) : List Byte :=
  let x := s.rake
  let w := worstTile x.map
  u8 x.mode ++ u8 (if s.sched.running then rakeRows s.sched.profile s.sched.period else 11) ++ u16 x.nextRow
    ++ u32 (classCount x.map 1) ++ u32 (classCount x.map 2) ++ u32 (classCount x.map 3) ++ u32 x.worn ++ u16 w.1 ++ u16 w.2
    ++ u16 x.bridges.length ++ u16 x.cands.length ++ u32 x.drops ++ u32 x.passes ++ u32 x.sweeps ++ u32 x.skipped ++ u32 x.deferred
    ++ u16 x.cursor ++ u16 (x.vfMax / 4) ++ u16 (dvfMax x.map x.dvf) ++ u16 (sat16 x.queue.length) ++ u64 x.lastPass
    ++ (List.range 16).flatMap fun k => u16 (s.gov.vfModel.getD k 0)

/-- CAL_STATE of CONV_STATUS. -/
def calState (s : State) : Nat :=
  if isRunning s 0x0701 then 1 else if isRunning s 0x0704 then 2 else if isFw s.mode.op && !s.conv.loaded then 3 else 0

/-- CONV_STATUS (14 Table 14.9). T_LED is rounded half up. -/
def convStatus (s : State) : List Byte :=
  let x := s.conv
  let f := knownSlots s
  let r := fun (n : Nat) => x.readings.getD (n - 1) 0
  u8 (bits [x.aWarm, x.aReady, x.bWarm, x.bReady, hasConvB s]) ++ u8 (calState s) ++ u8 (calSource x.cal) ++ u8 (bits [f.calA.isSome, f.calB.isSome])
    ++ u32 (calCount x.cal) ++ u64 (calU x.cal 8 8) ++ u32 (calStoreSeq x.cal) ++ u32 x.urgentDrop ++ u32 x.tainted ++ u32 x.repeats
    ++ u32 x.exhausted ++ u32 x.ovr ++ u32 x.unr ++ u32 x.notReady ++ s16 (r 2) ++ s16 (r 1) ++ s16 (r 3) ++ s16 ((tLedNow s + 4) / 8)
    ++ s16 (max (r 18) (r 19)) ++ u16 0 ++ u32 x.selfFails ++ u64 x.lastScan

/-- The status words of a last-gasp record: fault status, then the words of Tables 4.4, 5.10, 9.10, 16.4, 13.6 and 14.9. -/
def saveStatus (s : State) : List Byte :=
  faultStatus s ++ govStatus s ++ syncStatus s ++ timingStatus s ++ dimStatus s ++ rakeStatus s ++ convStatus s

end Sys2Proof.Machine
end

