-- ==== Sys2Proof/Machine/Boot.lean ====
section
/-!
DEFINITION. The commands of start, supply and wake: chapters 01, 02, 17 and 18, with the completion of calibration loading (14 R344) and
of the map restore (13 R315).
-/

namespace Sys2Proof.Machine

/-- VIN_RISE (R35, Table 1.9, 02 Table 2.5): a cold start from OFF, once VIN, in mV, lies above V_START. -/
def execVinRise (vin : Nat) (boot : BootInputs) (s : State) : Out :=
  if !trainingOk boot.training then .fault .impossibleOperand
  else if s.mode.op = .off ∧ aboveStart vin then .next (coldStart (vinConditions vin) vin boot s) else .next s

/-- TRAINING_RETRY (R396): every 100,000,000 tk while a lane has no eye. -/
def execTrainingRetry (t : Nat) (attempts : List (List LaneSweep)) (s : State) : Out :=
  let s := advance t s
  if !trainingOk attempts then .fault .impossibleOperand
  else if s.mode.op = .boot ∧ s.dram.trainFailed.elim false fun t0 => decide (t0 + 100000000 ≤ tsc s) then .next (trainDram attempts s)
  else .next s

/-- After a wake the image is verified at the fixed offset of Table 18.4, whether or not the check has finished sooner (18 R415). -/
def imageOffset (s : State) : Bool := decide (s.pwr.wakeReport = 0) || decide (28800000 ≤ tsc s)

/-- IMAGE_CHECK_COMPLETE (R437, Table 19.6): the image check of BOOT ends. -/
def execImageCheckComplete (t : Nat) (v : ImageVerdict) (draws : List Nat) (s : State) : Out :=
  let s := advance t s
  if s.mode.op = .boot ∧ s.dram.trainFailed = none ∧ s.upd.loaderWait = none ∧ imageOffset s then .next (imageCheck v draws s) else .next s

/-- LOADER_CHECK_RETRY (R435): every 100,000,000 tk while the loader fails its check. -/
def execLoaderCheckRetry (t : Nat) (ok : Bool) (s : State) : Out :=
  let s := advance t s
  if s.mode.op = .boot ∧ s.upd.loaderWait.elim false fun t0 => decide (t0 + 100000000 ≤ tsc s) then .next (checkLoader ok s)
  else .next s

/-- The source of R344 that applies: CAL_LOADED, the data, and whether FS39 is raised. -/
def calSourceOf (s : State) : Nat × CalData × Bool :=
  let best := bestSlot (knownSlots s)
  let bank2 := decide (s.pwr.kept / 4 % 2 = 1)
  match best with
  | some (b, x) =>
    if bank2 then (0, { s.conv.cal with uniformity := x.content.uniformity, vfBase := x.content.vfBase }, false)
    else (if b then 2 else 1, stampCal (if b then 2 else 1) x.sequence x.content, false)
  | none =>
    if bank2 then (3, { s.conv.cal with uniformity := [], vfBase := s.flash.trim.vfBase }, true)
    else (3, stampCal 0 0 { s.flash.trim with uniformity := [] }, true)

/-- CAL_LOAD_COMPLETE (R344): calibration is in force, the correction map is built, and a proof seen before takes its transition. -/
def execCalLoadComplete (t : Nat) (s : State) : Out :=
  let s := advance t s
  if isFw s.mode.op && !s.conv.loaded && s.mp.restarting.isNone then
    let s := if (knownSlot s s.flash.calA).isNone then record srcCal 0x0005 0 s else s
    let s := if (knownSlot s s.flash.calB).isNone then record srcCal 0x0005 1 s else s
    let src := calSourceOf s
    let s := rebuild (setCalData src.2.1 { s with conv := { s.conv with tstage := src.2.1.tcurves, loaded := true } })
    let s := levelSource 39 0 src.2.2 (record srcCal 0x0004 src.1 s)
    .next (if s.dim.proofWaits then proofTransition s else s)
  else .next s

/-- MAP_RESTORE_COMPLETE (R315). -/
def execMapRestoreComplete (t : Nat) (s : State) : Out :=
  let s := advance t s
  if isFw s.mode.op && !s.rake.restored then .next (restoreMap s) else .next s

/-- A powered state: the supply is watched. -/
def powered (s : State) : Bool := decide (s.mode.op ≠ .off)

/-- VIN_BELOW_VBO (R47): the brownout timer starts. -/
def execVinBelowVbo (t : Nat) (s : State) : Out :=
  let s := advance t s
  if powered s && s.pwr.belowFrom.isNone then .next { s with pwr := { s.pwr with belowFrom := some (tsc s), blindUntil := none } } else .next s

/-- VIN_ABOVE_VBO (R47, R48): a recovery at or before the deadline is a microcut; FS44 stays blind for 10,000 tk. A later recovery cancels
nothing: the brownout is due. -/
def execVinAboveVbo (t : Nat) (s : State) : Out :=
  let s := advance t s
  if s.pwr.belowFrom.elim false fun t0 => decide (tsc s ≤ t0 + 2000) then
    .next { s with pwr := { s.pwr with belowFrom := none, blindUntil := some (tsc s + 10000) } }
  else .next s

/-- BROWNOUT (R47): no recovery by the deadline; FS36, with the save of R419 or, in STANDBY, none (R420). DESIGN CHOICE: in STANDBY the TSC
does not count and the spec states no other timer for the 20 µs, so there the brownout may take effect at any time after VIN_BELOW_VBO (log
entry 48). -/
def execBrownout (t : Nat) (s : State) : Out :=
  let s := advance t s
  let due := s.pwr.belowFrom.elim false fun t0 => decide (t0 + 2000 < tsc s) || decide (s.mode.op = .standby)
  if due then
    match s.mode.op with
    | .off | .brownoutSave => .next s
    | .standby => .next (enterBrownout (moduleState s) { s with pwr := { s.pwr with retain := 0, kept := 0 } })
    | _ => .next (assertSource 36 0 false s)
  else .next s

/-- The event records of a save: the latest 384 of the log, in the order of R27 (Table 18.7). -/
def saveRecords (s : State) : List EventRec :=
  (s.log.recs.filter fun e => decide (logTotal s.log ≤ e.num + 384)).map (·.event)

/-- The record of Table 18.7: sequence, TSC, state, frame, status, event records, map entries. -/
def saveRecord (t0 before : Nat) (s : State) : LgSlot :=
  .valid (lgHighest s.flash.lastgasp + 1) t0 before (if before % 16 = 3 ∨ before % 16 = 4 then s.sched.frame else 0) (saveStatus s) ((saveRecords s).filter fun r => decide (r.tsc ≤ t0))
    (s.rake.queue.take 1000)

/-- VIN, in mV, lies above V_START: outside the tolerance of Table 2.6 by its value, within it as the comparator has it (`above`). -/
def seenAbove (above : Bool) (vin : Nat) : Bool := decide (6000 < vin) || (above && decide (5800 < vin))

/-- LASTGASP_SAVE_COMPLETE (R419, R420, R54): the save ends, or there was none; VIN above V_START leads to a full restart, else OFF. -/
def execLastgaspSaveComplete (t : Nat) (above : Bool) (vin : Nat) (boot : BootInputs) (s : State) : Out :=
  let s := advance t s
  if s.mode.op ≠ .brownoutSave then .next s
  else if seenAbove above vin && !trainingOk boot.training then .fault .impossibleOperand
  else
    let s := match s.pwr.saving with
      | some (t0, before) =>
        { s with flash := { s.flash with lastgasp := s.flash.lastgasp.set (nextLgSlot s.flash.lastgasp) (saveRecord t0 before s) } }
      | none => s
    if seenAbove above vin then .next (coldStart (vinConditions vin) vin boot s)
    else
      .next { State.reset with
        flash := s.flash, fuse := s.fuse, pending := s.pending, drw := { slots := s.drw.slots.map bootSlot },
        pwr := { lgPending := s.pwr.lgPending } }

/-- VLED_BLIND_WINDOW_END (R48): the VLED regulation monitor watches again. -/
def execVledBlindWindowEnd (t : Nat) (s : State) : Out :=
  let s := advance t s
  if s.pwr.blindUntil.elim false fun u => decide (u ≤ tsc s) then .next { s with pwr := { s.pwr with blindUntil := none } } else .next s

/-- VIN, in mV, has crossed the falling threshold of FS34 (`low`) or its clearing threshold rising (R46, Table 2.6). -/
def crossesLow (low : Bool) (vin : Nat) : Bool := if low then !atLeast (vin - 1) 5800 6000 Config.fs34Raise else atLeast vin 6200 6400 Config.fs34Clear

/-- VIN, in mV, has crossed the rising threshold of FS35 (`high`) or its clearing threshold falling (R46, Table 2.6). -/
def crossesHigh (high : Bool) (vin : Nat) : Bool :=
  if high then atLeast vin 36000 36800 Config.fs35Raise else !atLeast (vin - 1) 35200 35800 Config.fs35Clear

/-- VIN_LOW (R46): FS34 follows its thresholds; DATA is in 10 mV. -/
def execVinLow (t : Nat) (low : Bool) (vin : Nat) (s : State) : Out :=
  let s := advance t s
  if powered s && crossesLow low vin then .next (levelSource 34 (vin / 10) low s) else .next s

/-- VIN_HIGH (R46): FS35 follows its thresholds. -/
def execVinHigh (t : Nat) (high : Bool) (vin : Nat) (s : State) : Out :=
  let s := advance t s
  if powered s && crossesHigh high vin then .next (levelSource 35 (vin / 10) high s) else .next s

/-- HOLD_READY (R52, R427). -/
def execHoldReady (t : Nat) (ready : Bool) (s : State) : Out :=
  let s := advance t s
  if powered s ∧ s.pwr.holdReady ≠ ready then
    .next (record srcPower 0x0007 (bit ready) { s with pwr := { s.pwr with holdReady := ready, holdWatched := s.pwr.holdWatched || ready } })
  else .next s

/-- The start that follows a module reset: from BROWNOUT_SAVE a full restart, elsewhere with the light of R33. -/
def resetStart (boot : BootInputs) (s : State) : State :=
  if s.mode.op = .brownoutSave then coldStart ((s.flt.cond &&& withBit (withBit 0 34) 35)) (10 * s.flt.datas.getD 34 0) boot
    { s with pwr := { s.pwr with lgPending := 5 } }
  else warmStart boot s

/-- MODULE_RESET (R358): the transition to BOOT of a module-reset action in progress. -/
def execModuleReset (t : Nat) (boot : BootInputs) (s : State) : Out :=
  let s := advance t s
  if s.flt.resetPending then
    if s.mode.op = .brownoutSave ∧ !trainingOk boot.training then .fault .impossibleOperand else .next (resetStart boot s)
  else .next s

/-- A wake source is active after `seconds` in STANDBY: the contact when it is high at four consecutive samples, the timer when TIMER seconds are
over, both counted by the low-power oscillator (18 Table 18.3). -/
def sourceActive (src : WakeSrc) (pins : List Contact) (seconds : Nat) (s : State) : Bool :=
  match src with
  | .contact => decide (pins.length = 4) && pins.all wakeAsserted
  | .timer => decide (s.pwr.timer ≤ seconds)
  | .canPattern => true

/-- The source that a wake reports: the lowest WAKE bit when the contact is seen too (Table 18.6). -/
def wakeSeen (src : WakeSrc) (pins : List Contact) (seconds : Nat) (s : State) : WakeSrc :=
  if s.pwr.wakeSel.contains .contact && sourceActive .contact pins seconds s then .contact
  else if src = .canPattern ∧ s.pwr.wakeSel.contains .timer ∧ sourceActive .timer pins seconds s then .timer
  else src

/-- WAKE_SOURCE (R414 to R417): a selected source that is active wakes the module. One latched during the entry wakes it at once, whatever
the command names. -/
def execWakeSource (e : WakeEvent) (lost : BitVec 5) (seconds vin : Nat) (boot : BootInputs) (s : State) : Out :=
  if !trainingOk boot.training then .fault .impossibleOperand
  else if s.mode.op = .standby ∧ (s.pwr.wakeAtEntry.isSome ∨ (s.pwr.wakeSel.contains e.src ∧ sourceActive e.src e.pins seconds s)) then
    .next (wakeStart (s.pwr.wakeAtEntry.getD (wakeSeen e.src e.pins seconds s)) lost seconds vin boot s)
  else .next s

/-- LASTGASP_SLOT_ERASE (R418): the next slot is erased as the flash interlock allows. -/
def execLastgaspSlotErase (t : Nat) (s : State) : Out :=
  let s := advance t s
  if isFw s.mode.op && s.mp.restarting.isNone && s.pwr.flashAllowed && s.pwr.slotWanted then
    .next { s with flash := { s.flash with lastgasp := s.flash.lastgasp.set (nextLgSlot s.flash.lastgasp) .erased },
                   pwr := { s.pwr with slotWanted := false } }
  else .next s

end Sys2Proof.Machine
end

