-- ==== Sys2Proof/Machine/Compose.lean ====
section
/-!
DEFINITION. One composed row: the blend stack (07 R170 to R176), the Chest (R181), the shade-breach comparator (08 R202), the correction
and the fault map (03 R85, 13 R313), the transfer curve (03 R90).
-/

namespace Sys2Proof.Machine

/-- The layer covers the view pixel (R170, R176). -/
def layerCovers (l : Layer) (u v : Nat) : Bool :=
  decide (l.desc.dstX ≤ u) && decide ((u : Int) ≤ l.desc.dstX + l.desc.dstW - 1) &&
  decide (l.desc.dstY ≤ v) && decide ((v : Int) ≤ l.desc.dstY + l.desc.dstH - 1) &&
  match l.region with
  | some (x0, y0, x1, y1) => decide (x0 ≤ u) && decide (u ≤ x1) && decide (y0 ≤ v) && decide (v ≤ y1)
  | none => true

/-- The value of a layer at a view pixel it covers: buffers (R168 to R171), shade objects (08 R200), glyphs (08 R208), patterns
(R173). -/
def layerValue (s : State) (f : CompFrame) (l : Layer) (u v : Nat) : Nat :=
  let d := l.desc
  let i0 := ((u : Int) - d.dstX).toNat
  let j0 := ((v : Int) - d.dstY).toNat
  let i := if d.mirrorX then d.dstW - 1 - i0 else i0
  let j := if d.mirrorY then d.dstH - 1 - j0 else j0
  let buf := ((slotAt s l.slot).buffers.getD (l.buf.getD 0) {}).data
  match d.type with
  | 2 => shadeValue l.slot l.objects (decide (l.operator = 2)) u v
  | 3 => glyphValue ((slotAt s l.slot).glyphFront.getD []) d u v
  | 4 => patternValue l.slot l.params i j u v
  | _ => if isScaled d then scaledPixel d f.curves buf i j else sourcePixel d f.curves buf (d.cropX + i) (d.cropY + j)

/-- The layer acts on the accumulator; under REPLACE a MASK1 layer leaves out the pixels below 32768 (R174). -/
def layerStep (s : State) (f : CompFrame) (u v a : Nat) (l : Layer) : Nat :=
  if l.off || !layerCovers l u v then a
  else
    let x := layerValue s f l u v
    if l.operator = 4 ∧ l.desc.type ≤ 1 ∧ l.desc.format = 4 ∧ x < 32768 then a else blendOp l.operator a x

/-- Stage 1: the blend stack at a view pixel. -/
def blendPixel (s : State) (f : CompFrame) (u v : Nat) : Nat := f.layers.foldl (layerStep s f u v) 0

/-- The stage 2 output of an array pixel, with its f_min. -/
def stage2 (s : State) (f : CompFrame) (c r : Nat) : Nat × Nat :=
  let uv := viewOf f.mirrorX f.mirrorY c r
  let e := envelope f.chest uv.1 uv.2
  (chestApply (blendPixel s f uv.1 uv.2) e.1 e.2, e.2)

/-- The active cores over a pixel that its stage 2 output exceeds: object ID and slot (08 R202). -/
def breachesAt (f : CompFrame) (c r dv fMin : Nat) : List (Nat × Nat) :=
  if f.cores = [] then []
  else
    let uv := viewOf f.mirrorX f.mirrorY c r
    let cov := f.cores.filter fun e => coreCovers e.2 uv.1 uv.2
    let low := cov.foldl (fun m e => min m e.2.ceil) 65536
    if cov ≠ [] ∧ max low fMin < dv then (cov.filter fun e => decide (max e.2.ceil fMin < dv)).map fun e => (e.2.id, e.1) else []

/-- correct() of R85 for a pixel. -/
def correctedAt (s : State) (f : CompFrame) (p : Nat) : Nat :=
  correct (stage2 s f (p % 2048) (p / 2048)).1 (memRead 1024 f.corr p)

/-- Stage 4 (13 R313). -/
def stage4 (s : State) (f : CompFrame) (p dv : Nat) : Nat :=
  match classAt f.map p with
  | 0 => correct dv (memRead 1024 f.corr p)
  | 2 =>
    let g := groupOf f.bridges p
    if 2 ≤ g.length then (g.foldl (fun acc q => acc + correctedAt s f q) 0 + g.length / 2) / g.length
    else correct dv (memRead 1024 f.corr p)
  | _ => 0

/-- The scale a floored pixel needs (04 R93). -/
def pixelNeed (dv fMin : Nat) : Nat := if fMin = 0 then 0 else ceilDiv (fMin * 1024) dv - 1

/-- What one pixel leaves in the pipeline. -/
structure PixelOut where
  /-- stage 3, dv -/
  dv : Nat
  /-- stage 6, 14-bit code -/
  code : Nat
  need : Nat
  breaches : List (Nat × Nat)
deriving DecidableEq, Repr

/-- An array pixel through stages 1 to 6. -/
def pixelOut (s : State) (f : CompFrame) (c r : Nat) : PixelOut :=
  let y := stage2 s f c r
  { dv := y.1, code := transfer f.tLo f.tHi f.w (stage4 s f (2048 * r + c) y.1), need := pixelNeed y.1 y.2,
    breaches := breachesAt f c r y.1 y.2 }

/-- A composed row. -/
def composeRow (s : State) (f : CompFrame) (r : Nat) : List PixelOut := (List.range 2048).map fun c => pixelOut s f c r

/-- The tables and the weight for T_LED in 1/128 °C (R89); w is rounded half up. -/
def bandTables (c : CalData) (t : Int) : Mem Nat × Mem Nat × Nat :=
  let tab := fun (k : Nat) => c.tcurves.getD k []
  if t ≤ 2560 then (tab 0, tab 0, 0)
  else if 17920 ≤ t then (tab 3, tab 3, 0)
  else
    let k := ((t - 2560) / 5120).toNat
    (tab k, tab (k + 1), ((t - 2560 - 5120 * k + 10) / 20).toNat)

end Sys2Proof.Machine
end

