-- ==== Sys2Proof/Machine/FrameOps.lean ====
section
/-!
DEFINITION. The frame boundary: content cut-off (06 R160, 08 R197), timing changes and the throttle schedule (09 R230, R231), the new
frame (09 R223), the monitor ring (07 R187 to R189).
-/

namespace Sys2Proof.Machine

/-! ### Content cut-off -/

/-- The latest buffer whose arrival is at or before the cut-off: index and arrival (06 R160). -/
def latestBuffer (sl : Slot) (c : Int) : Option (Nat × Nat) :=
  (sl.buffers.zipIdx).foldl (fun best e =>
    match e.1.completed with
    | some a =>
      if (a : Int) ≤ c ∧ (best.elim true fun b => decide (b.2 < a)) then some (e.2, a) else best
    | none => best) none

/-- The stale policy of one VIDEO drawer at the cut-off `c`; `prev` is the cut-off of the frame before (06 Table 6.8). -/
def cutSlot (c prev : Int) (r : TableRow) (s : State) : State :=
  let sl := slotAt s r.slot
  let best := latestBuffer sl c
  let from_ : Int := match best with
    | some b => b.2
    | none => (sl.staleFrom.getD c.toNat : Nat)
  let stale := decide (from_ + 100000 * (r.desc.staleLimit : Nat) < c)
  let chosen := match best with
    | some b => if stale then none else if r.desc.stalePolicy = 1 ∧ (b.2 : Int) ≤ prev then none else some b.1
    | none => none
  let s := updSlot r.slot (fun x =>
    { x with chosen := chosen, isStale := stale, staleFrom := if best.isNone then some (x.staleFrom.getD c.toNat) else none }) s
  if stale && !sl.isStale then
    if r.desc.stalePolicy = 2 then assertSource 47 r.slot false s else record (srcDrawer r.slot) 0x0002 r.desc.stalePolicy s
  else if !stale && sl.isStale then record (srcDrawer r.slot) 0x0003 0 s
  else s

/-- The drawers that a COMMIT due at frame `m` gives new buffers. -/
def freshSlots (s : State) (m : Nat) : List Nat := (s.drw.commits.filter fun c => decide (c.frame ≤ m)).flatMap (·.fresh)

/-- The shade engine latches every object handed over at or before the cut-off `c` (08 R197). -/
def latchObjects (c : Int) (sl : Slot) : Slot :=
  match (sl.handed.filter fun x => decide ((x.1 : Int) ≤ c)).getLast? with
  | some x => { sl with latched := x.2, handed := sl.handed.filter fun y => decide (c < (y.1 : Int)) }
  | none => sl

/-- The content cut-off of frame `m` (06 R160, 08 R197). -/
def contentCut (m : Nat) (s : State) : State :=
  let c := cutoffAt s.sched m
  let prev := s.sched.lastCut
  let table := tableFor s m
  let rows := table.filter fun r => decide (r.desc.type = 0) && !(freshSlots s m).contains r.slot
  let s := rows.foldl (fun s r => cutSlot c prev r s) s
  let s := mapSlots (latchObjects c) s
  let s := { s with sched := { s.sched with cutDone := some m, lastCut := c, prevCut := prev } }
  if rows.any fun r => decide (r.desc.stalePolicy = 2) && (slotAt s r.slot).isStale then s else endSource 47 s

/-! ### Timing changes and throttle -/

/-- The host's grid, as if the module ran it (R231). -/
def hostGrid (s : State) : Sched :=
  let g := s.cfg.timing
  { s.sched with profile := g.profile, period := g.period, anchorTsc := g.anchorTsc, anchorFrame := g.anchorFrame, fallback := false, cur := none }

/-- TIMING_CONFIG re-anchored for a change (R230). -/
def reanchored (g : Sched) (c : TimingPending) : TimingConfig :=
  { profile := c.profile, period := c.period, anchorTsc := (gridSwap g (c.frame - 1)).toNat, anchorFrame := c.frame - 1 }

/-- The swap of frame k records PROFILE_APPLIED (R109). -/
def noteProfile (c : TimingPending) (g : Sched) : Sched := { g with profileFrames := g.profileFrames ++ [(c.frame, c.profile)] }

/-- THROTTLE_PERIOD waits for the next composition start; entry and exit before it cancel each other. -/
def noteFallback (v : Nat) (g : Sched) : Sched :=
  { g with fbNote := match g.fbNote with
      | some w => if w = v then some w else none
      | none => some v }

/-- The fallback grid from frame `k` on, anchored at swap(k − 1) (R231). -/
def enterFallback (k : Nat) (g : Sched) : Sched :=
  noteFallback 1 { g with anchorTsc := (gridSwap g (k - 1)).toNat, anchorFrame := k - 1, period := 133334, fallback := true }

/-- The return to the host's grid, not before frame `lo` (R231). -/
def leaveFallback (lo : Nat) (s : State) : State :=
  let g := s.sched
  let h := s.cfg.timing
  let f := g.nextComp - 1
  let x := swapOf g f
  let n := max (f + 1) (max lo (h.anchorFrame + 1 + stepsTo h.anchorTsc x h.period))
  { s with sched := noteFallback 0 { g with
               profile := h.profile, period := h.period, anchorTsc := h.anchorTsc, anchorFrame := h.anchorFrame, fallback := false,
               nextComp := n, nextSwap := if g.nextSwap = f + 1 then n else g.nextSwap, cutDone := none,
               withhold := g.withhold.map fun w => if w = f + 1 then n else w } }

/-- Throttle takes hold of the frames from the next composition start on (R231). -/
def beginThrottle (s : State) : State :=
  let g := { s.sched with skip := true }
  if !g.fallback && needsFallback g.profile g.period then { s with sched := enterFallback g.nextComp g } else { s with sched := g }

/-- The die group enters throttle: the next composition start, with the longer pitch, must follow (R231). -/
def throttleStart (s : State) : State :=
  if !s.sched.running then { s with sched := { s.sched with skip := true } }
  else if (tsc s : Int) < swapOf s.sched (s.sched.nextComp - 1) - (if s.sched.profile = 2 then 1600 else (1200 + 2 * rowPitch s.sched.profile false : Nat) : Int) then
    beginThrottle s
  else s

/-- The die group leaves throttle (R231). -/
def throttleEnd (s : State) : State :=
  let s := { s with sched := { s.sched with skip := false } }
  if s.sched.running && s.sched.fallback then leaveFallback 0 s else s

/-- The LED group's throttle starts or ends: each starts its own count of full seconds (R97). -/
def throttleEdge (before : Bool) (s : State) : State :=
  let now := hasBit s.flt.cond 29
  if now = before then s
  else
    let s := { s with gov := { s.gov with stepFrom := tsc s } }
    if now ∧ s.gov.step = 0 then record srcGov 0x0003 1 { s with gov := { s.gov with step := 1 } } else s

/-- FS32 starts or ends: CLK_CPU and the CLK_PIX skip follow (R424). -/
def dieEdge (before : Bool) (s : State) : State :=
  let now := hasBit s.flt.cond 32
  if now = before then s
  else
    let s := { s with pwr := { s.pwr with cpuHalf := now } }
    if now then throttleStart s else throttleEnd s

/-- The change of timing that takes hold at C(m) of the grid in force (R230). -/
def applyChange (m : Nat) (s : State) : State :=
  match s.sched.change with
  | some c =>
    if !s.sched.fallback ∧ c.frame ≤ m then
      let t := reanchored s.sched c
      let g := { s.sched with profile := t.profile, period := t.period, anchorTsc := t.anchorTsc, anchorFrame := t.anchorFrame, change := none,
                              profileFrames := (noteProfile c s.sched).profileFrames }
      let g := if g.skip && needsFallback g.profile g.period then enterFallback c.frame g else g
      { s with cfg := { s.cfg with timing := t }, sched := g }
    else s
  | none => s

/-- While the fallback grid runs, a change takes hold on the host's grid; when that no longer needs the fallback, the module returns
to it (R231). -/
def applyHostChange (s : State) : State :=
  match s.sched.change with
  | some c =>
    let h := hostGrid s
    if s.sched.fallback ∧ compAt h c.frame ≤ compAt s.sched s.sched.nextComp ∧ compAt h c.frame ≤ tsc s then
      let t := reanchored h c
      let s := { s with cfg := { s.cfg with timing := t }, sched := { noteProfile c s.sched with change := none } }
      if s.sched.skip && needsFallback t.profile t.period then s else leaveFallback c.frame s
    else s
  | none => s

/-! ### Monitor stream -/

/-- Payload bytes of a monitor frame (R188). -/
def monitorBytes (mode : Nat) : Nat :=
  match mode with
  | 0 => 2621440
  | 1 => 655360
  | _ => 163840

/-- Four times the line rate in Gbit/s of A_SPEED. -/
def lineRate4 (speed : Nat) : Nat :=
  match speed with
  | 1 => 40
  | 2 => 20
  | 3 => 10
  | _ => 0

/-- The limit of R188 for N. -/
def monitorFits (speed mode period n : Nat) : Bool := decide (16 * monitorBytes mode ≤ 3 * lineRate4 speed * period * n)

/-- The effective N (R188); while port A is down it stays as it is. -/
def effectiveN (s : State) : Nat :=
  let m := s.mon.inForce
  if s.link.aSpeed = 0 then s.mon.effN
  else ((List.range (256 - m.everyN)).find? fun k => monitorFits s.link.aSpeed m.mode s.sched.period (m.everyN + k)).elim 255 (m.everyN + ·)

/-- A configuration with the fields of a later one that leave the ring as it is. -/
def withSmall (c x : MonitorConfig) : MonitorConfig := { x with enable := c.enable, mode := if c.enable then c.mode else x.mode }

/-- MONITOR_CONFIG as frame `m` uses it, with its N (07 R187). -/
def monitorBoundary (m : Nat) (s : State) : State :=
  let due := s.mon.waiting.filter fun x => decide (x.1 ≤ m)
  let c := (due.getLast?.map (·.2)).getD (s.mon.small.elim s.mon.inForce (withSmall s.mon.inForce))
  let changed := s.mon.small.isSome || due ≠ []
  let s := { s with mon := { s.mon with inForce := c, small := none, waiting := s.mon.waiting.filter (fun x => decide (m < x.1)),
                                        effN := if changed then c.everyN else s.mon.effN } }
  { s with mon := { s.mon with effN := effectiveN s } }

/-- Packets of a row, of a frame (10 R248). -/
def packetsPerRow (mode : Nat) : Nat :=
  match mode with
  | 0 => 3
  | 1 => 2
  | _ => 1
def monitorRows (mode : Nat) : Nat :=
  match mode with
  | 0 => 640
  | 1 => 320
  | _ => 160
def monitorPackets (mode : Nat) : Nat := packetsPerRow mode * monitorRows mode

/-- A monitor frame starts, or is skipped when port A is down (R189). A module without an address sends no monitor stream (10 R240). -/
def monitorStart (f : CompFrame) (s : State) : State :=
  let m := s.mon.inForce
  if !m.enable ∨ f.frame % s.mon.effN ≠ 0 ∨ s.link.ip = none then s
  else if s.link.aState ≠ 2 then { s with mon := { s.mon with skipped := incr32 s.mon.skipped } }
  else
    cvuStart 1 false { s with mon := { s.mon with ring := s.mon.ring ++
      [{ frame := f.frame, tap := m.tap, mode := m.mode, downOp := m.downOp, rows := [], sent := 0, shown := none, layerOff := false,
         chestFail := false, scale := 0, swapTsc := f.swapTsc.toNat, mirrorX := f.mirrorX, mirrorY := f.mirrorY, pcp := m.pcp, crc := none }] } }

/-- Array rows and columns of a block behind one monitor pixel (07 R189). -/
def blockSide (mode : Nat) : Nat :=
  match mode with
  | 0 => 1
  | 1 => 2
  | _ => 4

/-- Payload bytes of a monitor frame sent so far, and composed so far. -/
def sentBytes (x : MonFrame) : Nat :=
  let row := 2048 / blockSide x.mode
  let per := packetsPerRow x.mode
  2 * (x.sent / per * row + min row (724 * (x.sent % per)))
def composedBytes (x : MonFrame) : Nat := x.rows.length / blockSide x.mode * (4096 / blockSide x.mode)

/-- The ring has no room for what has been composed of the frame, since an earlier one still waits in it (07 R189). -/
def ringFull (ring : List MonFrame) (frame : Nat) : Bool :=
  ring.any fun x => decide (x.frame = frame) &&
    decide (monitorBytes x.mode < composedBytes x + (ring.filter fun y => y.frame ≠ frame).foldl (fun n y => n + (composedBytes y - sentBytes y)) 0)

/-- The monitor frame of a frame, changed. -/
def updMon (frame : Nat) (f : MonFrame → MonFrame) (s : State) : State :=
  { s with mon := { s.mon with ring := s.mon.ring.map fun x => if x.frame = frame then f x else x } }

/-! ### The new frame -/

/-- The active objects latched for a SHADE drawer, extrapolated to the swap, with the clamped ones marked (08 R198). -/
def extrapolated (sl : Slot) (p : Params) (swap : Int) : List (ShadeObj × Bool) :=
  (sl.latched.filter (·.active)).map fun o => extrapolate o swap (100000 * (p.horizon : Nat))

/-- A layer of the frame, unless the drawer is left out (R174). -/
def layerFor (s : State) (table : List TableRow) (swap : Int) (o : OrderItem) : Option Layer :=
  match rowOf table o.slot with
  | none => none
  | some r =>
    let sl := slotAt s o.slot
    let l : Layer :=
      { slot := o.slot, operator := o.operator, region := o.region, desc := r.desc, params := r.params, buf := none,
        objects := if r.desc.type = 2 then (extrapolated sl r.params swap).map (·.1) else [],
        cabinet := (s.drw.items.find? fun i => i.members.contains o.slot).map fun i => i.key - 256,
        off := s.sched.dropNext.contains o.slot }
    match r.desc.type with
    | 0 => sl.chosen.map fun b => { l with buf := some b }
    | 1 => sl.latest.map fun b => { l with buf := some b }
    | _ => some l

/-- The SHADE drawers of the frame set. -/
def shadeRows (table : List TableRow) : List TableRow := table.filter fun r => decide (r.desc.type = 2)

/-- The working copies of frame `m` (R223). -/
def newFrame (m : Nat) (s : State) : CompFrame :=
  let g := s.sched
  let table := s.drw.table
  let swap := swapAt g m
  let b := bandTables s.conv.cal g.tLed
  { frame := m, layers := ((blendOrder table s.drw.blend).filter (·.named)).filterMap (layerFor s table swap),
    chest := s.comp.chest, chestRef := s.comp.chestRef, mirrorX := s.cfg.comp.mirrorX, mirrorY := s.cfg.comp.mirrorY,
    curves := s.drw.curves, corr := s.conv.corr, map := s.rake.map, bridges := s.rake.bridges, tLo := b.1, tHi := b.2.1, w := b.2.2,
    cores := (shadeRows table).flatMap fun r => (extrapolated (slotAt s r.slot) r.params swap).map fun o => (r.slot, o.1),
    pitch := pitchAt g m, trim := s.time.trim, profile := profileAt g m, period := periodAt g m, prevSwap := swapAt g (m - 1),
    gap := decide (swapOf g g.nextSwap ≠ swapAt g (m - 1)) && decide (g.nextSwap < m), swapTsc := swap }

/-- CURRENT and LAST_FRAME of every slot (06 Table 6.9). -/
def noteFetches (f : CompFrame) (s : State) : State :=
  let s := mapSlots (fun sl => { sl with current := none }) s
  f.layers.foldl (fun s l =>
    if l.buf.isSome then updSlot l.slot (fun sl => { sl with current := l.buf, lastFrame := f.frame }) s else s) s

/-- The horizon of the active objects of one SHADE drawer (08 R198, R213). -/
def noteHorizon (swap : Int) (r : TableRow) (s : State) : State :=
  let sl := slotAt s r.slot
  let ext := extrapolated sl r.params swap
  let now := (ext.filter (·.2)).map (·.1.id)
  let s := ext.foldl (fun s e =>
    if e.2 && !sl.clamped.contains e.1.id then record (srcDrawer r.slot) 0x0010 e.1.id s
    else if !e.2 && sl.clamped.contains e.1.id then record (srcDrawer r.slot) 0x0011 e.1.id s
    else s) s
  updSlot r.slot (fun sl => { sl with clamped := now, horizonHits := (sl.horizonHits + now.length) % 4294967296 }) s

/-- The object that FS21 names: the lowest ID, then the lowest slot (08 R204). -/
def lowestObject (l : List (Nat × Nat)) : Option (Nat × Nat) :=
  match l with
  | [] => none
  | a :: as => some (as.foldl (fun m x => if x.1 < m.1 ∨ (x.1 = m.1 ∧ x.2 < m.2) then x else m) a)

/-- The active cores that contain a STUCK pixel (08 R203). -/
def stuckCores (f : CompFrame) : List (Nat × Nat) :=
  let stuck := f.map.filter fun e => decide (e.2 = 3)
  (f.cores.filter fun c => stuck.any fun e =>
    let uv := viewOf f.mirrorX f.mirrorY (e.1 % 2048) (e.1 / 2048)
    coreCovers c.2 uv.1 uv.2).map fun c => (c.2.id, c.1)

/-- FS21 at the first frame in which a STUCK pixel lies inside an active core (08 R203, R204). -/
def stuckCheck (f : CompFrame) (s : State) : State :=
  let before := s.comp.stuckUnder
  match lowestObject (stuckCores f) with
  | some o =>
    let s := { s with comp := { s.comp with stuckUnder := true } }
    if before then s else assertSource 21 (o.1 + 64 * o.2 + 16384) false s
  | none => { s with comp := { s.comp with stuckUnder := false } }

/-- Chest activations due at frame `m` (07 R183). -/
def applyChests (m : Nat) (s : State) : State :=
  match (s.comp.chestNext.filter fun x => decide (x.2.2 ≤ m)).getLast? with
  | some (img, ref, _) =>
    { s with comp := { s.comp with chest := img, chestRef := ref, chestNext := s.comp.chestNext.filter fun x => !decide (x.2.2 ≤ m) } }
  | none => s

/-- A VIDEO drawer that gets new buffers with this frame counts its stale deadline from this frame's cut-off (06 R160). -/
def startStale (fresh : List Nat) (s : State) : State :=
  fresh.foldl (fun s n =>
    if (descIn s.drw.table n).type = 0 then updSlot n (fun sl => { sl with staleFrom := some s.sched.lastCut.toNat }) s else s) s

/-- What arrived by the cut-off and reached the module's queue only after it still counts for the frame (01 R28, 06 R149, R160): at the
frame boundary the VIDEO drawers of the set that the frame has now are judged at its cut-off once more. -/
def recut (fresh : List Nat) (s : State) : State :=
  (s.drw.table.filter fun r => decide (r.desc.type = 0) && !fresh.contains r.slot).foldl
    (fun s r => cutSlot s.sched.lastCut s.sched.prevCut r s) s

/-- The compositor still reinitialises: a composition start less than 1,000 tk after the assertion composes nothing (15 R365). -/
def reinitialising (s : State) (c : Int) : Bool := s.sched.reinitAt.elim false fun t0 => decide (c < (t0 : Int) + 1000)

/-- The frame boundary C(m). -/
def composeFrame (m : Nat) (s : State) : State :=
  let s := if s.sched.cutDone = some m then s else contentCut m s
  let s := applyChange m s
  let s := match s.sched.fbNote with
    | some v => record srcGov 0x0005 v { s with sched := { s.sched with fbNote := none } }
    | none => s
  let fresh := freshSlots s m
  let c := compAt s.sched m
  let held := reinitialising s c
  let s := applyDue m s
  let s := recut fresh (startStale fresh (if held then s else retireDue (some m) s))
  let s := monitorBoundary m (applyChests m s)
  let s := { s with sched := { s.sched with tLed := tLedNow s } }
  let f := newFrame m s
  let f := if held then { f with layers := [], cores := [], withheld := true, checked := true } else f
  let g := s.sched
  let s := { s with sched := { g with
    shown := gridShown g, swapTsc := swapOf g g.nextSwap, cur := some f, nextComp := m + 1, cutDone := none, dropNext := if held then g.dropNext else [],
    frame := if held then g.frame else m, composed := if held then g.composed else m, ownWithheld := if held then m :: g.ownWithheld else g.ownWithheld } }
  let s := if held then s
    else
      let s := cvuStart 0 true (noteFetches f { s with comp := { s.comp with frame := m } })
      let s := (shadeRows s.drw.table).foldl (fun s r => noteHorizon f.swapTsc r s) s
      monitorStart f (stuckCheck f s)
  if throttled s && !s.sched.skip then beginThrottle s else s

end Sys2Proof.Machine
end

