-- ==== Sys2Proof/Machine/SwapOps.lean ====
section
/-!
DEFINITION. The decision at swap − 1,000 tk (05 R112, R113, 09 R228, R229), the swap itself (05 R111, R115, 03 R81), and the governor
(04 R94 to R103).
-/

namespace Sys2Proof.Machine

/-! ### The decision -/

/-- The level sources that are asserted with reaction WITHHOLD (15 R353). -/
def withholders (s : State) : BitVec 64 :=
  (List.range 48).foldl (fun b n =>
    if isLevel n && unshadowed s n && decide (carriedOut s n (s.flt.datas.getD n 0) = 3) then withBit b n else b) 0

/-- A recovery may complete: it is accepted, no FATAL bit is set, no Safe-Dim demand is in force and FS39 is not asserted (01 Table 1.9,
15 R350). -/
def mayRecover (s : State) : Bool := s.mode.op = .safe && s.flt.recovering.isSome && !anyFatal s && !s.dim.demand && !isAsserted s 39

/-- The gap of 15 R370 is over at the TSC `x`. -/
def gapOver (s : State) (x : Int) : Bool := s.flt.recovering.elim false fun t0 => decide (((t0 + 10000 : Nat) : Int) ≤ x)

/-- SAFE_KIND HOLD withholds the swap of frame `n`; during a recovery until the gap of 15 R370 has passed (09 R229). -/
def holds (s : State) (n : Nat) : Bool :=
  s.mode.op = .safe && decide (s.mode.safeKind = 1) && !(mayRecover s && gapOver s (swapOf s.sched n))

/-- Frame `n` was sent in full to the backplane. -/
def sentInFull (s : State) (n : Nat) : Bool := decide (s.sched.sent = some n)

/-- WRDONE for frame `n` is raised in time for its swap (05 R112, 01 R28). -/
def wrdoneFor (s : State) (n : Nat) : Bool :=
  s.arr.wrdone && decide (s.arr.writeFrame = n % 16) && decide ((s.arr.wrdoneAt : Int) ≤ swapOf s.sched n - 1000)

/-- While a level source withholds, each swap that R228 chooses next is withheld too (15 R353). -/
def followWithhold (s : State) : State := if s.flt.withholding = 0 then s else addWithhold s

/-- The swap of the next frame is executed or withheld (R112, R113). WITHHELD counts a frame without WRDONE or stopped by the module itself
(R113), HOLD_WITHHELD one that R228 or R229 withholds. FS11 is for a frame sent in full whose WRDONE has not come. -/
def decideSwap (s : State) : State :=
  if s.sched.decided.isSome then s
  else
    let n := s.sched.nextSwap
    let demanded := holds s n || s.sched.withhold.contains n
    let own := s.sched.ownWithheld.contains n
    let done := wrdoneFor s n
    let ok := done && !demanded && !own
    let sch := { s.sched with decided := some ok, holdWithheld := if demanded then incr32 s.sched.holdWithheld else s.sched.holdWithheld }
    let s := { s with sched := sch, sync := { s.sync with withheld := if done && !own then s.sync.withheld else incr32 s.sync.withheld } }
    let s := followWithhold s
    if !done && !demanded && !own && sentInFull s n then assertSource 11 (n % 65536) false s else s

/-- The schedule goes on after the swap instant of the next frame: W of the frame that follows is the execution, or the instant of a
withheld swap (09 Table 9.3). The vertical gap is over, and SL_TRIM in force (14 R338). -/
def passSwap (executed : Option Nat) (s : State) : State :=
  let g := s.sched
  let n := g.nextSwap
  let next := match g.cur with
    | some f => if n < f.frame then f.frame else g.nextComp
    | none => g.nextComp
  let s := takeSlTrim (updMon n (fun x => if x.shown.isNone then { x with shown := some false } else x) s)
  { s with sched := { g with
      nextSwap := max next (n + 1), decided := none, writeStart := executed.getD (swapOf g n).toNat,
      withhold := g.withhold.filter fun w => decide (n < w), ownWithheld := g.ownWithheld.filter fun w => decide (n < w) } }

/-- At a swap instant an island head counts the frame it drives, and after the confirmation it leaves the chain to the upstream head; FS24
ends at the swap instant that follows (05 R135). -/
def islandSwap (s : State) : State :=
  if s.sync.role = .islandHead then
    let s := { s with sync := { s.sync with driven := s.sync.driven + 1 } }
    if s.sync.confirmed then
      record srcSync 0x000B (sat16 s.sync.driven)
        { s with sync := { s.sync with role := .member, driven := 0, upHead := false, upEnum := false, confirmed := false, rejoining := true } }
    else s
  else if s.sync.rejoining then endSource 24 { s with sync := { s.sync with rejoining := false } }
  else s

/-- A withheld swap whose instant, and the deadline of its SLUICE, are over. -/
def passWithheld (s : State) : State :=
  if s.sched.running ∧ s.sched.decided = some false ∧ swapOf s.sched s.sched.nextSwap + 101 < tsc s then islandSwap (passSwap none s) else s

/-! ### The swap -/

/-- Recovery completes: FULL, with the re-arm (15 R370). A level source that is still asserted with reaction WITHHOLD withholds from now
on (15 R353). -/
def recovered (s : State) : State :=
  followWithhold <| rakeUpdate
    { s with
      mode := { s.mode with op := .full, safeKind := 0, calLimited := false },
      flt := { rearmCollector s.flt with reaction := 0, recovering := none, alive := true, heldByReaction := false,
                                         withholding := withholders s },
      dim := { s.dim with heldByDemand := false } }

/-- The gap of R370 has passed. -/
def gapPassed (s : State) : Bool := mayRecover s && gapOver s (tsc s)

/-- Effective budget of the frame in a bank. -/
def bankBudget (a : PixelArray) : Bank → Nat
  | .a => a.budgetA
  | .b => a.budgetB

/-- The light after a fresh swap: in FULL it is that of the bank (R81); otherwise it stays. The VLED target of the frame is in force from
now on, unless the settle source is selected (04 R101). -/
def swapLight (s : State) : State :=
  let a := s.arr
  let left := decide (s.mode.op = .full) && a.srcSettle
  let a := if s.mode.op = .full then { a with srcSettle := false, drvEn := true } else a
  let a := if a.srcSettle then a else setVled (bankVled a a.bankSel) (tsc s) a
  { s with arr := { a with droopFrom := if a.drvEn && !a.srcSettle then some (tsc s) else none },
           dim := { s.dim with settleTo := if left then tsc s / 100000 else s.dim.settleTo } }

/-- PROFILE_APPLIED at the swap of frame k (R109). DESIGN CHOICE: when that swap is withheld, it is recorded at the next one executed (log
entry 26). -/
def noteProfiles (n : Nat) (s : State) : State :=
  (s.sched.profileFrames.filter fun x => decide (x.1 ≤ n)).foldl (fun s x => record srcGov 0x0004 x.2 s)
    { s with sched := { s.sched with profileFrames := s.sched.profileFrames.filter fun x => decide (n < x.1) } }

/-- The trim of the reference whose bank is handed over comes into force (14 R338). -/
def takeIrefTrim (s : State) : State :=
  match s.arr.bankSel with
  | .a => { s with arr := { s.arr with trimA := calS s.conv.cal 34 2 } }
  | .b => { s with arr := { s.arr with trimB := calS s.conv.cal 36 2 } }

/-- The swap of the next frame is executed (R111): BANK_SEL toggles, the references hand over; FS10 when the readback differs (R115). -/
def executeSwap (readback : Bool) (s : State) : State :=
  let n := s.sched.nextSwap
  let t := tsc s
  let s := { s with arr := { s.arr with bankSel := s.arr.bankSel.other, wrdone := false },
                    sync := { s.sync with lastFrame := some n, executed := incr32 s.sync.executed, lastExec := t } }
  let s := takeIrefTrim s
  let s := if gapPassed s then recovered s else s
  let s := swapLight s
  let b := bankBudget s.arr s.arr.bankSel
  let s := { s with gov := { s.gov with inForce := b, windowMax := if s.arr.srcSettle then s.gov.windowMax else max s.gov.windowMax b } }
  let s := updMon n (fun x => { x with shown := some (bankLit s) }) s
  let s := noteProfiles n s
  let s := passSwap (some t) s
  if readback then s else assertSource 10 0 false s

/-! ### The governor -/

/-- The profile budget, mA. -/
def profileBudget (g : GovConfig) (profile : Nat) : Nat :=
  match profile with
  | 0 => g.precise
  | 1 => g.balanced
  | 2 => g.swift
  | _ => g.cool

/-- The effective budget B in µA (R96). -/
def effectiveBudget (s : State) (profile : Nat) : Nat :=
  let p := profileBudget s.cfg.gov profile
  let b := if s.gov.step = 0 then 1000 * p else 100 * p * (10 - s.gov.step)
  if isAsserted s 34 then min b 4000000 else b

/-- The terms of R94: host or floor, budget, power, Safe-Dim. -/
structure GovTerms where
  base : Int
  budget : Int
  power : Int
  cap : Int
  v : Nat
deriving DecidableEq, Repr

/-- The terms for a frame. -/
def govTerms (s : State) (f : CompFrame) : GovTerms :=
  let b := effectiveBudget s f.profile
  let base := max s.cfg.gov.hostScale f.scaleFloor
  let sb := scaleFor f.sum b
  let s0 := min (base : Int) sb
  let v := vledTarget s.gov.vfModel s0.toNat f.codeMax
  { base := base, budget := sb, power := scaleFor f.sum (31000000000 / v), cap := sdimCap s f.sum f.swapTsc, v := v }

/-- The scale before it is raised to 0. -/
def GovTerms.least (t : GovTerms) : Int := min (min t.base t.budget) (min t.power t.cap)

/-- LIMITER (Table 4.4). -/
def limiterOf (host : Nat) (t : GovTerms) : Nat :=
  let x := t.least
  if t.base = x then (if t.base = host then 0 else 1)
  else if t.budget = x then 2
  else if t.power = x then 3
  else 4

/-- IREF, sum, prediction, budget and VLED target of the frame in the inactive bank. -/
def setInactive (scale sum budget vled : Nat) (a : PixelArray) : PixelArray :=
  let pred := predicted scale sum
  match a.bankSel.other with
  | .a => { a with irefA := scale, sumA := sum, predA := pred, budgetA := budget, vledA := vled }
  | .b => { a with irefB := scale, sumB := sum, predB := pred, budgetB := budget, vledB := vled }

/-- A VLED target: a higher one is commanded at once, a lower one at the SLUICE edge of its frame; while SRC_SEL is at settle VLED is held
(R101). -/
def commandVled (v t : Nat) (a : PixelArray) : PixelArray := if a.srcSettle || decide (v ≤ a.vled) then a else setVled v t a

/-- A target commanded during a test pulse takes effect at the end of the pulse, 600 ns after its start (16 R385). -/
def vledFrom (s : State) : Nat := s.dim.pulsedAt.elim (tsc s) fun p => max (tsc s) (p + 60)

/-- Conflict frames and their events (R99). -/
def noteConflict (scale floor : Nat) (s : State) : State :=
  if scale < floor then
    let first := decide (s.gov.conflictRun = 0)
    let s := { s with gov := { s.gov with conflicts := incr32 s.gov.conflicts, conflictRun := s.gov.conflictRun + 1 } }
    if first then record srcGov 0x0001 (floor - scale) s else s
  else if s.gov.conflictRun = 0 then s
  else record srcGov 0x0002 (sat16 s.gov.conflictRun) { s with gov := { s.gov with conflictRun := 0 } }

/-- POWER_LIMIT when the power term starts or stops to set s (Table 4.2). -/
def notePower (set : Bool) (s : State) : State :=
  if s.gov.powerSet = set then s else record srcGov 0x0006 (bit set) { s with gov := { s.gov with powerSet := set } }

/-- The governor latch of a frame (R94, R95, R99, R105). DESIGN CHOICE: BUDGET is rounded down to whole mA, for which R105 states no
rounding (log entry 48). -/
def governFrame (f : CompFrame) (s : State) : State :=
  let t := govTerms s f
  let x := t.least.toNat
  let lim := limiterOf s.cfg.gov.hostScale t
  let b := effectiveBudget s f.profile
  let s := { s with
    sched := { s.sched with cur := some { f with scale := some x } },
    arr := commandVled t.v (vledFrom s) (setInactive x f.sum b t.v s.arr),
    gov := { s.gov with scale := x, scaleBudget := t.budget.toNat, scaleFloor := f.scaleFloor, budget := b / 1000, pred := predicted x f.sum,
                        vledTarget := t.v, frameStep := s.gov.step, limiter := lim, profile := f.profile, frame := f.frame } }
  notePower (decide (lim = 3)) (noteConflict x f.scaleFloor (updMon f.frame (fun m => { m with scale := x }) s))

end Sys2Proof.Machine
end

