-- ==== Sys2Proof/Machine/Frames.lean ====
section
/-! DEFINITION. The commands of frames: composition, scan-out, governor, swap, droop, settle latches and the monitor stream. -/

namespace Sys2Proof.Machine

/-- CONTENT_CUTOFF (06 R160, 08 R197): at C(m) − 4,000 tk of the next frame, once. -/
def execContentCutoff (t : Nat) (s : State) : Out :=
  let s := advance t s
  let m := s.sched.nextComp
  if s.sched.running && decide (s.sched.cutDone ≠ some m) && decide (cutoffAt s.sched m ≤ tsc s) then .next (contentCut m s) else .next s

/-- COMPOSITION_START (09 R223): at C(m). -/
def execCompositionStart (t : Nat) (s : State) : Out :=
  let s := advance t s
  if !s.sched.running then .next s
  else
    let s := applyHostChange s
    let m := s.sched.nextComp
    if compAt s.sched m ≤ tsc s then .next (composeFrame m s) else .next s

/-! ### Rows -/

/-- The frame being composed, changed. -/
def updCur (f : CompFrame → CompFrame) (s : State) : State := { s with sched := { s.sched with cur := s.sched.cur.map f } }

/-- What a late fetch does (09 R225): the slots it switches off, with VIA_CABINET, or the cause of FS13. -/
def lateEffect (f : CompFrame) (base : List Nat) (l : LateFetch) : List (Nat × Bool) × Option Nat :=
  match l with
  | .correction => ([], some 1)
  | .chest => ([], some 2)
  | .drawer slot =>
    if !f.layers.any (fun x => x.slot = slot && x.buf.isSome && x.cabinet.isNone && !x.off) then ([], none)
    else if base.contains slot then ([], some 0)
    else ([(slot, false)], none)
  | .cabinet e =>
    let ms := (f.layers.filter fun x => x.cabinet = some e && !x.off).map (·.slot)
    if ms = [] then ([], none)
    else if ms.any base.contains then ([], some 0)
    else (ms.map fun m => (m, true), none)

/-- A layer is switched off: FS12 (R225, R227). -/
def layerLate (e : Nat × Bool) (s : State) : State :=
  let s := updCur (fun f => { f with layerOff := true, layers := f.layers.map fun l => if l.slot = e.1 then { l with off := true } else l }) s
  let s := { s with sched := { s.sched with layerOffs := incr32 s.sched.layerOffs } }
  let s := match s.sched.cur with
    | some f => updMon f.frame (fun m => { m with layerOff := true }) s
    | none => s
  assertSource 12 (e.1 + (if e.2 then 256 else 0)) false s

/-- FS13: the frame is withheld (R226). -/
def underrun (row cause : Nat) (s : State) : State :=
  let s := cvuAbandon 0 (withholdCurrent s)
  assertSource 13 (row + 1024 * cause) false { s with sched := { s.sched with underruns := incr32 s.sched.underruns } }

/-- One late fetch takes effect; a drawer that it would switch off once more is off already. The causes of FS13 are gathered. -/
def lateFetch (base : List Nat) (acc : State × List Nat) (l : LateFetch) : State × List Nat :=
  match acc.1.sched.cur with
  | some f =>
    let e := lateEffect f base l
    (e.1.foldl (fun s x => layerLate x s) acc.1, acc.2 ++ e.2.toList)
  | none => acc

/-- A late fetch that names a thing the module does not have. -/
def lateImpossible (l : LateFetch) : Bool :=
  match l with
  | .drawer slot => decide (256 ≤ slot)
  | .cabinet e => decide (4 ≤ e)
  | _ => false

/-- ROW_LATE_POINT (R225): at L(r) of the next row, which is not complete; `late` lists what is outstanding for it. -/
def execRowLatePoint (t row : Nat) (late : List LateFetch) (s : State) : Out :=
  let s := advance t s
  if 640 ≤ row ∨ late.any lateImpossible then .fault .impossibleOperand
  else
    match s.sched.cur with
    | some f =>
      if f.withheld ∨ f.nextRow ≠ row ∨ !((lateAt s.sched f row).elim false fun x => decide (x ≤ tsc s)) then .next s
      else
        let r := late.foldl (lateFetch (baseSlots s)) (s, [])
        match r.2.min? with
        | some cause => .next (underrun row cause r.1)
        | none => .next r.1
    | none => .next s

/-- The watermark follows one level of the line buffer: URGENT from a level of 3 or less until one of 5, while a row of the frame is still
incomplete; whether it was raised is carried along (R224). -/
def watermark (row : Nat) (acc : Bool × Bool) (level : Nat) : Bool × Bool :=
  if level ≤ 3 ∧ row + level < 640 then (true, acc.2 || !acc.1) else if 5 ≤ level then (false, acc.2) else acc

/-- The levels the line buffer has had since the transfer before, the one at this transfer last: URGENT, LB_MIN and URGENT_FRAMES, of which
the latter two count from D(0) on (R224, Table 9.10). -/
def noteLevels (row : Nat) (levels : List Nat) (f : CompFrame) (s : State) : State :=
  let w := levels.foldl (watermark row) (f.urgentNow, false)
  let raised := w.2 && decide (row ≠ 0)
  let last := levels.getLastD 0
  let s := updCur (fun f => { f with urgentNow := w.1, urgent := f.urgent || raised }) s
  { s with sched := { s.sched with lbMin := if row = 0 then last else levels.foldl min s.sched.lbMin,
                                   urgentFrames := if raised && !f.urgent then incr32 s.sched.urgentFrames else s.sched.urgentFrames } }

/-- The bank a row is meant for: the one that is inactive after the swap before it. -/
def targetBank (s : State) (f : CompFrame) : Bank :=
  if s.sched.nextSwap < f.frame ∧ s.sched.decided ≠ some false then s.arr.bankSel else s.arr.bankSel.other

/-- Codes packed least significant bit first: four of 14 bits into seven bytes, four of 2 bits into one (03 Table 3.5). -/
def packCodes (kind : Nat) : List Nat → List Byte
  | a :: b :: c :: d :: cs =>
    (if kind = 0 then toLE 7 (a + 2 ^ 14 * b + 2 ^ 28 * c + 2 ^ 42 * d) else toLE 1 (a + 4 * b + 16 * c + 64 * d)) ++ packCodes kind cs
  | _ => []

/-- The header and the data of a row packet as bytes, bit 0 first (03 Table 3.5). -/
def packetBytes (p : RowPacket) : List Byte :=
  toLE 8 (p.row + 1024 * (match p.bank with | .a => 0 | .b => 1) + 2048 * p.kind + 4096 * p.frame) ++ packCodes p.kind p.codes

/-- The packet with its CRC-32 over header and data (03 R69). -/
def sealed (p : RowPacket) : SealedRow := { packet := p, crc := crc32 (packetBytes p) }

/-- The CRC of a packet is good (03 R69). -/
def crcGood (p : RowPacket) (crc : Nat) : Bool := decide (crc = crc32 (packetBytes p))

/-- A monitor frame is left out of the stream: it is not sent in part (07 R189). -/
def dropMonitor (frame : Nat) (s : State) : State :=
  cvuAbandon 1 { s with mon := { s.mon with ring := s.mon.ring.filter (fun x => x.frame ≠ frame), skipped := incr32 s.mon.skipped } }

/-- Array row `row` of the tapped values; one that was not composed, since the frame was withheld before, holds free values (07 R191). -/
def tapRow (x : MonFrame) (row : Nat) : List Nat :=
  if row < x.rows.length then x.rows.getD row []
  else (List.range 2048).map fun c => Config.monitorRest x.frame (2048 * row + c) % (if x.tap = 2 then 16384 else 65536)

/-- Pixels of a monitor row, by blocks (07 R189). -/
def monitorRow (x : MonFrame) (row : Nat) : List Nat :=
  let k := blockSide x.mode
  if k = 1 then tapRow x row
  else
    (List.range (2048 / k)).map fun c =>
      let block := (List.range k).flatMap fun i => ((tapRow x (k * row + i)).drop (k * c)).take k
      if x.downOp = 1 then block.foldl max 0 else (block.foldl (· + ·) 0 + k * k / 2) / (k * k)

/-- The payload of a monitor frame in transmission order. -/
def monitorPayload (x : MonFrame) : List Byte := (List.range (monitorRows x.mode)).flatMap fun r => (monitorRow x r).flatMap u16

/-- CVU1 delivers the check value of a monitor frame: its last row is composed, or will not be (20 R453). -/
def monitorChecked (x : MonFrame) (s : State) : State :=
  if x.crc.isSome then s
  else
    let crc := crc32 (monitorPayload x)
    cvuJob 1 crc none (updMon x.frame (fun y => { y with crc := some crc }) s)

/-- A composed row reaches the monitor frame, which is left out when the ring is full (07 R189). -/
def monitorTake (frame : Nat) (values codes : List Nat) (s : State) : State :=
  let s := updMon frame (fun m => { m with rows := m.rows ++ [if m.tap = 2 then codes else values] }) s
  if ringFull s.mon.ring frame then dropMonitor frame s
  else
    match s.mon.ring.find? fun x => x.frame = frame with
    | some x => if 640 ≤ x.rows.length then monitorChecked x s else s
    | none => s

/-- Row `r` is composed and moved over the link (R226, 04 R92, R93, 08 R202). -/
def sendRow (f : CompFrame) (r : Nat) (s : State) : State :=
  let out := composeRow s f r
  let codes := out.map (·.code)
  let br := out.foldl (fun acc o => acc ++ o.breaches.filter fun b => !acc.contains b) f.breaches
  let s := monitorTake f.frame (out.map (·.dv)) codes s
  updCur (fun f =>
    { f with nextRow := r + 1, sum := f.sum + codes.foldl (· + ·) 0, codeMax := codes.foldl max f.codeMax,
             scaleFloor := (out.map (·.need)).foldl max f.scaleFloor, breaches := br })
    { s with sched := { s.sched with link := some (sealed { row := r, bank := targetBank s f, kind := 0, frame := f.frame % 16, codes := codes }),
                                     sent := if r = 639 then some f.frame else s.sched.sent } }

/-- ROW_TRANSFER_START (R224, R226): at D(r). `complete`: row r is complete in the line buffer; `levels`: the complete rows waiting, from the
transfer before to this one. The buffer holds 8 rows; at 8 the compositor waits. -/
def execRowTransferStart (t row : Nat) (complete : Bool) (levels : List Nat) (s : State) : Out :=
  let s := advance t s
  if 640 ≤ row ∨ levels = [] ∨ levels.any (fun l => decide (8 < l)) then .fault .impossibleOperand
  else
    match s.sched.cur with
    | some f =>
      if f.withheld ∨ f.nextRow ≠ row ∨ !((transferAt s.sched f row).elim false fun x => decide (x ≤ tsc s)) then .next s
      else if complete then .next (sendRow (((noteLevels row levels f s).sched.cur).getD f) row (noteLevels row levels f s))
      else .next (underrun row 3 s)
    | none => .next s

/-- The backplane rejects a row: FS45, and the frame is withheld at that row (03 R71, 09 R226). -/
def rejectRow (row : Nat) (s : State) : State :=
  assertSource 45 (row % 1024) false (cvuAbandon 0 (withholdCurrent { s with arr := { s.arr with writeBad := true } }))

/-- A drive row stored in the inactive bank. -/
def storeRow (row : Nat) (codes : List Nat) (a : PixelArray) : PixelArray :=
  match a.bankSel.other with
  | .a => { a with bankA := memWriteList 0 a.bankA (2048 * row) codes }
  | .b => { a with bankB := memWriteList 0 a.bankB (2048 * row) codes }

/-- The frame in the inactive bank is driven from now on: its droop counts from here (03 R73). -/
def noteDriven (t : Nat) (a : PixelArray) : PixelArray :=
  match a.bankSel.other with
  | .a => { a with drivenA := t }
  | .b => { a with drivenB := t }

/-- WRDONE is raised, and the vertical gap begins, from which SL_TRIM is in force (14 R338); it ends the shadow of a reinitialisation (03 R70, 15
Table 15.6). -/
def raiseWrdone (s : State) : State :=
  let s := takeSlTrim s
  let s := { s with arr := { s.arr with wrdone := true, wrdoneAt := tsc s } }
  if s.sched.reinitAt.isSome then endShadow .compReinit { s with sched := { s.sched with reinitAt := none } } else s

/-- A drive-row packet that a backplane can receive (03 Table 3.5). -/
def drivePacketOk (p : RowPacket) : Bool :=
  decide (p.kind = 0) && decide (p.codes.length = 2048) && p.codes.all (fun c => decide (c < 16384)) && decide (p.frame < 16) && decide (p.row < 1024)

/-- Row 0 starts a frame: it comes after a complete frame, or with another FRAME than the frame being written. Any other row is in order when
it is the next one (03 R70, R71). -/
def inOrder (a : PixelArray) (p : RowPacket) : Bool :=
  if p.row = 0 then decide (a.writeRow = 0) || decide (640 ≤ a.writeRow) || decide (p.frame ≠ a.writeFrame)
  else decide (p.row = a.writeRow) && decide (p.row < 640)

/-- The backplane takes a packet: its CRC is good, it names the inactive bank and it is in order (03 R69, R71). -/
def rowGood (s : State) (p : RowPacket) (crc : Nat) : Bool := crcGood p crc && decide (p.bank ≠ s.arr.bankSel) && inOrder s.arr p

/-- The packet has arrived and the bank it is for is free: the row starts to be driven; a row that is `stored` is so when its sampling
switches open (09 R220). A packet of another frame than the one being composed has no such instant. -/
def rowDue (s : State) (p : RowPacket) (stored : Bool) : Bool :=
  match s.sched.cur with
  | some f =>
    if p.frame = f.frame % 16 ∧ p.row < 640 then
      (if stored then openAt s.sched f p.row else driveAt s.sched f p.row).elim false fun x => decide (x ≤ tsc s)
    else true
  | none => true

/-- A good row is stored; WRDONE follows row 639 of a frame whose rows all were good and named the same FRAME (03 R70). -/
def takeRow (p : RowPacket) (s : State) : State :=
  let a := storeRow p.row p.codes s.arr
  let a := if p.row = 0 then noteDriven (tsc s) { a with writeFrame := p.frame, writeBad := false, wrdone := false }
    else { a with writeBad := a.writeBad || decide (p.frame ≠ a.writeFrame) }
  let s := { s with arr := { a with writeRow := p.row + 1 } }
  if p.row = 639 ∧ !s.arr.writeBad then raiseWrdone s else s

/-- ROW_PACKET (03 R69 to R71, 09 R220): the backplane has received a drive-row packet, checks it and writes the row. -/
def execRowPacket (t : Nat) (p : RowPacket) (crc : Nat) (s : State) : Out :=
  let s := advance t s
  if !drivePacketOk p then .fault .impossibleOperand
  else if !s.sched.running ∨ !rowDue s p (rowGood s p crc) then .next s
  else if rowGood s p crc then .next (takeRow p s)
  else .next (rejectRow p.row s)

/-! ### Checks and governor -/

/-- The shade-breach comparison: FS21, and the frame is withheld (08 R202, R204). -/
def breachCheck (f : CompFrame) (s : State) : State :=
  match lowestObject f.breaches with
  | some o =>
    let s := (nub (f.breaches.map (·.2))).foldl (fun s n => updSlot n (fun sl => { sl with breaches := incr32 sl.breaches }) s) s
    assertSource 21 (o.1 + 64 * o.2) false (withholdCurrent s)
  | none => s

/-- The Chest comparison: FS08, and the frame is withheld (07 R182). -/
def chestCheck (f : CompFrame) (crc : Nat) (s : State) : State :=
  let s := cvuJob 0 crc (some f.chestRef) { s with comp := { s.comp with chestLast := crc } }
  if crc = f.chestRef then s
  else
    let s := withholdCurrent { s with comp := { s.comp with chestFails := incr32 s.comp.chestFails } }
    assertSource 8 (f.frame % 65536) false (updMon f.frame (fun m => { m with chestFail := true }) (updCur (fun f => { f with chestFail := true }) s))

/-- CHEST_CHECK_COMPLETE (07 R182, 08 R202): every code of the frame has left stage 5. `crc` is the value over the applied envelope. -/
def execChestCheckComplete (t crc : Nat) (s : State) : Out :=
  let s := advance t s
  if 4294967296 ≤ crc then .fault .impossibleOperand
  else
    match s.sched.cur with
    | some f =>
      if f.withheld ∨ f.checked ∨ f.nextRow ≠ 640 then .next s
      else .next (chestCheck f crc (breachCheck f (updCur (fun f => { f with checked := true }) s)))
    | none => .next s

/-- GOVERNOR_LATCH (04 R95): every code of the frame has left stage 5. -/
def execGovernorLatch (t : Nat) (s : State) : Out :=
  let s := advance t s
  match s.sched.cur with
  | some f =>
    if f.withheld ∨ f.scale.isSome ∨ f.nextRow ≠ 640 ∨ s.sched.nextSwap ≠ f.frame then .next s else .next (governFrame f s)
  | none => .next s

/-- WRDONE_DEADLINE (05 R112, R113, 09 R228): at swap − 1,000 tk. -/
def execWrdoneDeadline (t : Nat) (s : State) : Out :=
  let s := passWithheld (advance t s)
  if s.sched.running && s.sched.decided.isNone && decide (swapOf s.sched s.sched.nextSwap - 1000 ≤ tsc s) then .next (decideSwap s) else .next s

/-! ### The swap -/

/-- The module drives the chain. -/
def drives (s : State) : Bool := s.sync.role = .head || s.sync.role = .islandHead

/-- The swap instant of a command: the swap is executed, or passes withheld (05 R112, R113). -/
def takeSwap (readback : Bool) (s : State) : State :=
  let s := decideSwap s
  if s.sched.decided = some true then executeSwap readback s else passSwap none s

/-- The execution instant of a driving node, in units of 2.5 ns: the swap instant, and later by (d − L + 1) × 12.5 ns at a depth d ≥ L (05
R121, R129). -/
def drivenAt (s : State) : Int := 4 * swapOf s.sched s.sched.nextSwap + 5 * ((s.sync.depth + 1 - s.sync.len : Nat) : Int)

/-- A SLUICE ends the run of missed ones (05 R132, R133). -/
def noMiss (s : State) : State := { s with sync := { s.sync with armed := none, missed := 0, timedRun := false, mismatchNoted := false } }

/-- SLUICE_EXECUTE (05 R111): the chain execution instant of the SLUICE sent or received. -/
def execSluiceExecute (t : Nat) (readback : Bool) (s : State) : Out :=
  let s := advance t s
  let n := s.sched.nextSwap
  if !s.sched.running then .next s
  else if drives s then
    if s.sync.sluiceSent = some n ∧ drivenAt s / 4 ≤ tsc s then .next (islandSwap (takeSwap readback (noMiss s))) else .next s
  else
    match s.sync.armed with
    | some (f, x) =>
      if f = n % 65536 ∧ x / 4 ≤ tsc s then
        .next (islandSwap (takeSwap readback (noMiss s)))
      else .next s
    | none => .next s

/-- The condition of R133 at a missed SLUICE. -/
def upstreamGone (s : State) : Bool :=
  isAsserted s 23 || !s.sync.headRun || s.sync.headTsc.elim true fun h => decide (h + 1000 < tsc s)

/-- A member promotes itself (05 R133). -/
def promote (s : State) : State :=
  assertSource 24 s.sync.depth false
    { s with sync := { s.sync with role := .islandHead, driven := 0, missed := 0, upHead := false, upEnum := false, confirmed := false, rejoining := false, sluiceSent := none } }

/-- TIMED_SWAP (05 R132, R133): no SLUICE has arrived by swap + 100 tk. -/
def execTimedSwap (t : Nat) (readback : Bool) (s : State) : Out :=
  let s := advance t s
  let n := s.sched.nextSwap
  if !s.sched.running ∨ drives s ∨ s.sync.armed.isSome ∨ !decide (swapOf s.sched n + 100 < tsc s) then .next s
  else
    let s := decideSwap s
    let go := decide (s.sched.decided = some true)
    let first := go && !s.sync.timedRun
    let s := { s with sync := { s.sync with missed := s.sync.missed + 1, timedRun := s.sync.timedRun || go,
                                            timedSwaps := if go then incr32 s.sync.timedSwaps else s.sync.timedSwaps } }
    let s := if first then record srcSync 0x0008 (n % 65536) s else s
    let s := islandSwap (if go then executeSwap readback s else passSwap none s)
    .next (if s.sync.role = .member ∧ 2 ≤ s.sync.missed ∧ upstreamGone s then promote s else s)

/-- DROOP_TIMER (03 R74): no fresh swap by the deadline; FS22. -/
def execDroopTimer (t : Nat) (s : State) : Out :=
  let s := advance t s
  if s.arr.droopFrom.elim false (fun t0 => decide (t0 + 2000000 < tsc s)) && bankLit s then
    .next (assertSource 22 0 false { s with arr := { s.arr with droopFrom := none } })
  else .next s

/-! ### Settle latches -/

/-- The vertical gap in which a latch cycle may start now: the frame it follows (03 R77, 09 R222). -/
def latchGap (s : State) : Option Nat :=
  match s.sched.cur with
  | none => if (tsc s : Int) + 200 ≤ swapAt s.sched (s.sched.nextComp - 1) - pitchAt s.sched s.sched.nextComp then some (s.sched.nextComp - 1) else none
  | some f =>
    if s.sched.nextSwap < f.frame then
      if (tsc s : Int) + 200 ≤ f.prevSwap - f.pitch then some s.sched.nextSwap else none
    else if (windowEnd s.sched f).elim false (fun w => decide (w + 100 ≤ tsc s)) ∧
        (tsc s : Int) + 200 ≤ f.swapTsc - pitchAt s.sched s.sched.nextComp then some f.frame
    else none

/-- A row of latch codes. -/
def latchRowOf (m : Mem Nat) (row : Nat) : List Nat := memReadList 0 m (2048 * row) 2048

/-- The latches of a row hold what is read back from them. -/
def setLatchRow (row : Nat) (codes : List Nat) (a : PixelArray) : PixelArray := { a with latches := memWriteList 0 a.latches (2048 * row) codes }

/-- Readback of a row: 2,048 codes of 2 bits. -/
def readbackOk (l : List Nat) : Bool := decide (l.length = 2048) && l.all fun c => decide (c < 4)

/-- The beam's VLED follows the levels in use while it is shown (04 R101). -/
def followBeam (s : State) : State := if s.arr.srcSettle then { s with arr := { s.arr with vled := settleVled s } } else s

/-- The update goes on to the next row. -/
def nextLatchRow (a : PixelArray) : PixelArray :=
  if a.latchRow = 639 then { a with latchBusy := false, latchRow := 0, latchRetry := false }
  else { a with latchRow := a.latchRow + 1, latchRetry := false }

/-- A settle-latch row packet that the backplane can receive (03 R69, KIND 1). -/
def latchPacketOk (p : RowPacket) : Bool :=
  decide (p.kind = 1) && decide (p.codes.length = 2048) && p.codes.all (fun c => decide (c < 4)) && decide (p.frame = 0) && decide (p.row < 1024)

/-- The backplane takes a settle-latch row packet: its CRC is good, and it is the row the update has come to (03 R69, R71). -/
def latchGood (a : PixelArray) (p : SealedRow) : Bool := crcGood p.packet p.crc && decide (p.packet.row = a.latchRow)

/-- The end of an update, from the state `old` to `s`: windows that it held back may start (13 R308). -/
def latchDone (old s : State) : State := if old.arr.latchBusy && !s.arr.latchBusy then shiftWindows s else s

/-- LATCH_ROW_CYCLE (03 R69, R77 to R79): the packet of the next row of an update reaches the backplane, which writes the row and reads it
back, or rejects the packet. -/
def execLatchRowCycle (t : Nat) (p : SealedRow) (readback : List Nat) (s : State) : Out :=
  let s := advance t s
  if !readbackOk readback || !latchPacketOk p.packet then .fault .impossibleOperand
  else
    let gap := if s.sched.running then latchGap s else some 0
    let used := if s.sched.running ∧ gap = some s.arr.gapFrame then s.arr.gapCycles else 0
    match gap with
    | none => .next s
    | some g =>
      if !s.arr.latchBusy ∨ 32 ≤ used then .next s
      else
        let row := s.arr.latchRow
        let s := { s with arr := { s.arr with gapFrame := g, gapCycles := if s.sched.running then used + 1 else 0,
                                              levels := if row = 0 then s.arr.newLevels else s.arr.levels } }
        if !latchGood s.arr p then
          let again := s.arr.latchRetry
          let s' := { s with arr := if again then nextLatchRow s.arr
            else { s.arr with latchRetry := true, gapCycles := if s.sched.running then 32 else 0 } }
          let s' := assertSource 45 (row + 1024) false (followBeam s')
          .next (latchDone s (if again then assertSource 9 row false s' else s'))
        else
          let bad := decide (readback ≠ latchRowOf s.arr.pattern row)
          let s' := followBeam { s with arr := nextLatchRow (setLatchRow row readback s.arr) }
          .next (latchDone s (if bad then assertSource 9 row false s' else s'))

/-- LATCH_READBACK_CHECK (03 R78): one row per vertical gap, or per millisecond without a schedule; FS09 on a difference. -/
def execLatchReadbackCheck (t : Nat) (readback : List Nat) (s : State) : Out :=
  let s := advance t s
  if !readbackOk readback then .fault .impossibleOperand
  else
    let due := if s.sched.running then
        match latchGap s with
        | some g => decide (s.arr.gapFrame ≠ g) || decide (s.arr.gapCycles = 0)
        | none => false
      else s.arr.checkedAt.elim true fun x => decide (x / 100000 < tsc s / 100000)
    if s.arr.latchBusy ∨ !arrayUp s ∨ !due then .next s
    else
      let row := s.arr.checkRow
      let bad := decide (readback ≠ latchRowOf s.arr.pattern row)
      let a := setLatchRow row readback s.arr
      let s := { s with arr := { a with checkRow := (row + 1) % 640, checkedAt := some (tsc s),
                                        gapFrame := if s.sched.running then (latchGap s).getD 0 else a.gapFrame,
                                        gapCycles := if s.sched.running then 1 else 0 } }
      .next (if bad then assertSource 9 row false s else s)

/-! ### Monitor stream -/

/-- Rows of the array that a monitor row needs. -/
def rowsNeeded (mode row : Nat) : Nat :=
  match mode with
  | 0 => row + 1
  | 1 => 2 * row + 2
  | _ => 4 * row + 4

/-- A BRINE header of the monitor stream (10 R245). -/
def brineHeader (s : State) (kind frame row x count : Nat) : List Byte :=
  u8 kind ++ u8 1 ++ u16 0 ++ u32 frame ++ u16 row ++ u16 x ++ u16 count ++ u8 0 ++ u8 0 ++ u16 (nodeField s) ++ u16 0 ++ u32 0

/-- The next monitor packet of a frame (10 R248). -/
def monitorPacket (s : State) (x : MonFrame) : List Byte :=
  let per := packetsPerRow x.mode
  let row := x.sent / per
  let x0 := 724 * (x.sent % per)
  let px := ((monitorRow x row).drop x0).take 724
  brineHeader s 2 x.frame row x0 px.length ++ px.flatMap u16

/-- The rest of the frame will not be composed: the frame was withheld before (07 R191). -/
def monitorEnded (s : State) (x : MonFrame) : Bool :=
  decide (x.rows.length < 640) && s.sched.cur.elim true fun f => decide (f.frame ≠ x.frame) || f.withheld

/-- A monitor frame that cannot be sent in whole (R189). -/
def skipMonitor (rest : List MonFrame) (s : State) : State :=
  cvuAbandon 1 { s with mon := { s.mon with ring := rest, skipped := incr32 s.mon.skipped } }

/-- The frame of the stream that carries a UDP payload: its headers (10 R242 to R244). -/
def monitorHeader (s : State) (x : MonFrame) : SentIp :=
  datagram s.link .a x.pcp (s.link.ip.getD 0) s.link.inForce.monDestIp 50112 s.link.inForce.monDestPort

/-- A packet of the stream fits the transmit queue of port A (R189, 10 R239). -/
def monitorRoom (s : State) (x : MonFrame) (payload : List Byte) : Bool :=
  let h := monitorHeader s x
  egressRoom (tsc s) (egressQueue h.tag) (udpFrame h.tag payload.length) .a s.link

/-- A packet of the stream is handed to port A. -/
def monitorSend (x : MonFrame) (payload : List Byte) (s : State) : State :=
  let h := monitorHeader s x
  { s with mon := { s.mon with out := some (h, payload) }, link := joinQueue (tsc s) (egressQueue h.tag) (udpFrame h.tag payload.length) .a s.link }

/-- Port A sends nothing of the frame: it is down, the packet finds its queue full, or the module has no address (R189, 10 R240). -/
def monitorStops (s : State) (x : MonFrame) (payload : List Byte) : Bool :=
  decide (s.link.aState ≠ 2) || s.link.ip.isNone || !monitorRoom s x payload

/-- MONITOR_PACKET_SEND (07 R189): port A takes the next payload packet from the ring. -/
def execMonitorPacketSend (t : Nat) (s : State) : Out :=
  let s := advance t s
  match s.mon.ring with
  | x :: rest =>
    if monitorPackets x.mode ≤ x.sent then .next s
    else if rowsNeeded x.mode (x.sent / packetsPerRow x.mode) ≤ x.rows.length ∨ monitorEnded s x then
      let p := monitorPacket s x
      if monitorStops s x p then .next (skipMonitor rest s)
      else .next (monitorSend x p { s with mon := { s.mon with ring := { x with sent := x.sent + 1 } :: rest } })
    else if s.link.aState ≠ 2 then .next (skipMonitor rest s)
    else .next s
  | [] => .next s

/-- The trailer (Table 7.10). -/
def trailerBytes (x : MonFrame) (crc : Nat) : List Byte :=
  u32 x.frame ++ u8 x.tap ++ u8 x.mode
    ++ u8 (bits [x.shown.getD false, x.mirrorX, x.mirrorY, decide (x.downOp = 1), x.layerOff, x.chestFail])
    ++ u8 0 ++ u16 x.scale ++ u16 0 ++ u32 (monitorBytes x.mode) ++ u64 x.swapTsc ++ u32 crc ++ u32 0

/-- MONITOR_TRAILER (07 R189): after the swap instant and the last payload packet the trailer is sent. -/
def execMonitorTrailer (t : Nat) (s : State) : Out :=
  let s := passWithheld (advance t s)
  match s.mon.ring with
  | x :: rest =>
    if x.sent < monitorPackets x.mode ∨ (x.shown.isNone ∧ s.sched.running) then .next s
    else
      let s := monitorChecked x s
      let crc := (s.mon.ring.head?.bind (·.crc)).getD 0
      let p := brineHeader s 3 x.frame 0 0 0 ++ trailerBytes x crc
      if monitorStops s x p then .next (skipMonitor rest s)
      else .next (monitorSend x p { s with mon := { s.mon with ring := rest, sent := incr32 s.mon.sent } })
  | [] => .next s

end Sys2Proof.Machine
end

