-- ==== Sys2Proof/Machine/Brine.lean ====
section
/-! DEFINITION. BRINE video and its reception (10 R245 to R247, 06 R153), and the end of a buffer move (06 R159). -/

namespace Sys2Proof.Machine

/-- The data bytes that COUNT and FORMAT give (R245). -/
def brineDataLen (format count : Nat) : Nat :=
  match format with
  | 0 => 2 * count
  | 1 => 3 * ((count + 1) / 2)
  | 4 => (count + 7) / 8
  | _ => count

/-- X and COUNT keep the alignment of the format; a packet that ends the row may end it odd (R245). -/
def brineAligned (d : Descriptor) (x count : Nat) : Bool :=
  match d.format with
  | 1 => decide (x % 2 = 0) && (decide (count % 2 = 0) || decide (x + count = d.srcW))
  | 4 => decide (x % 8 = 0) && (decide (count % 8 = 0) || decide (x + count = d.srcW))
  | _ => true

/-- Why a packet is rejected (R246). -/
def brineBad (d : Descriptor) (raw : List Byte) : Bool :=
  let x := le raw 10 2
  let count := le raw 12 2
  decide (le raw 1 1 ≠ 1) || decide (le raw 14 1 ≠ d.format) || decide (d.srcH ≤ le raw 8 2) || decide (d.srcW < x + count)
    || decide (raw.length ≠ 24 + brineDataLen d.format count) || !brineAligned d x count

/-- The byte of a stored row at which pixel `x` begins; `x` keeps the alignment of the format. -/
def pixelOffset (format x : Nat) : Nat :=
  match format with
  | 0 => 2 * x
  | 1 => 3 * (x / 2)
  | 4 => x / 8
  | _ => x

/-- Serial comparison modulo 2³²: `a` is newer than `b`. -/
def newerSeq (a b : Nat) : Bool :=
  let d := (a + 4294967296 - b) % 4294967296
  decide (0 < d) && decide (d < 2147483648)

/-- The buffer that takes a new video buffer (R153): neither fetched now nor the latest complete one; of those that qualify, the one
completed longest ago. DESIGN CHOICE: from the cut-off of a frame on, the buffer chosen for it is not received into either, latest or not
(log entry 50). -/
def receiveInto (fetched : Option Nat) (cutTaken : Bool) (sl : Slot) : Option Nat :=
  let free := (sl.buffers.zipIdx).filter fun e =>
    decide (fetched ≠ some e.2) && decide (sl.latest ≠ some e.2) && !(cutTaken && decide (sl.chosen = some e.2))
  (free.foldl (fun (best : Option (Nat × Option Nat)) e =>
    match best with
    | none => some (e.2, e.1.completed)
    | some (_, none) => best
    | some (_, some a) =>
      match e.1.completed with
      | none => some (e.2, none)
      | some c => if c < a then some (e.2, some c) else best) none).map (·.1)

/-- The buffer of a drawer that the frame being composed fetches (R153). -/
def fetchedNow (s : State) (slot : Nat) : Option Nat :=
  s.sched.cur.bind fun f => (f.layers.find? fun l => l.slot = slot).bind (·.buf)

/-- The reception of a new buffer starts; a partial one is abandoned (R247, R153). -/
def startReception (seq slot : Nat) (s : State) : State :=
  let sl := slotAt s slot
  let partly := sl.rx.elim false fun r => !r.complete && r.buf.isSome
  let s := if partly then { s with link := { s.link with abandoned := incr32 s.link.abandoned } } else s
  let cutTaken := s.sched.running && decide (s.sched.cutDone = some s.sched.nextComp)
  match receiveInto (fetchedNow s slot) cutTaken sl with
  | some b =>
    updSlot slot (fun sl => { sl with
      rx := some { seq := seq, buf := some b }, overrunRun := false,
      buffers := listUpdate sl.buffers b fun x => { x with completed := none } }) s
  | none =>
    let s := if sl.overrunRun then s else record (srcDrawer slot) 0x0004 0 s
    updSlot slot (fun sl => { sl with rx := some { seq := seq, buf := none }, overrun := incr32 sl.overrun, overrunRun := true }) s

/-- Every row has reached SRC_W. -/
def rowsComplete (d : Descriptor) (rows : Mem Nat) : Bool :=
  (List.range d.srcH).all fun r => decide (memRead 0 rows r = d.srcW)

/-- The data of an accepted packet goes into the buffer in reception; the last packet completes it (R247). -/
def storePacket (r : TableRow) (raw : List Byte) (s : State) : State :=
  match (slotAt s r.slot).rx with
  | none => s
  | some rx =>
    match rx.buf with
    | none => s
    | some b =>
      let row := le raw 8 2
      let x := le raw 10 2
      let rows := memWrite 0 rx.rows row (x + le raw 12 2)
      let done := rowsComplete r.desc rows
      let now := tsc s
      updSlot r.slot (fun sl =>
        let sl := { sl with
          buffers := listUpdate sl.buffers b (fun buf =>
            { buf with data := memWriteList 0 buf.data (row * rowBytes r.desc.format r.desc.srcW + pixelOffset r.desc.format x) (raw.drop 24) }),
          rx := some { rx with rows := rows, complete := done } }
        if done then
          { sl with buffers := listUpdate sl.buffers b (fun buf => { buf with completed := some now }), latest := some b,
                    arrived := incr32 sl.arrived, lastArrival := now, everArrived := true }
        else sl) s

/-- A packet that breaks the order is counted (R247). -/
def countOrder (s : State) : State := { s with link := { s.link with badOrder := incr32 s.link.badOrder } }

/-- A packet of the buffer in reception: it must start where its row stands. -/
def takePacket (r : TableRow) (raw : List Byte) (s : State) : State :=
  match (slotAt s r.slot).rx with
  | none => s
  | some rx =>
    if rx.buf.isNone then s
    else if memRead 0 rx.rows (le raw 8 2) ≠ le raw 10 2 then countOrder s
    else if rx.complete then s
    else storePacket r raw s

/-- A packet reaches one drawer (R246, R247). -/
def deliverPacket (r : TableRow) (raw : List Byte) (s : State) : State :=
  if brineBad r.desc raw then { s with link := { s.link with badFormat := incr32 s.link.badFormat } }
  else
    let seq := le raw 4 4
    match (slotAt s r.slot).rx with
    | none => takePacket r raw (startReception seq r.slot s)
    | some rx =>
      if rx.seq = seq then takePacket r raw s
      else if newerSeq seq rx.seq then takePacket r raw (startReception seq r.slot s)
      else countOrder s

/-- The PLACED drawers with the descriptor their buffers have: that of the frame set, or the one they were placed with. -/
def placedRows (s : State) : List TableRow :=
  (s.drw.slots.zipIdx.filter fun e => decide (e.1.st = .placed)).map fun e =>
    (rowOf s.drw.table e.2).getD { slot := e.2, desc := e.1.desc, params := e.1.params }

/-- The VIDEO drawers a packet is delivered to (R246). -/
def boundRows (s : State) (raw : List Byte) : List TableRow :=
  if raw.length < 24 ∨ le raw 0 1 ≠ 1 then []
  else (placedRows s).filter fun r => decide (r.desc.type = 0) && decide (r.desc.stream = le raw 2 2)

/-- BRINE_VIDEO_PACKET (R241, R246, R247): a datagram for port 50111 with its UDP payload. One that the internal port does not accept is
discarded; a packet that reaches no drawer is counted. -/
def execBrineVideoPacket (t : Nat) (d : Datagram) (s : State) : Out :=
  let s := advance t s
  if !arrayUp s || !ipAccepted s d.ip || decide (d.ip.dstPort ≠ 50111) then .next s
  else
    let rows := boundRows s d.payload
    if rows = [] then .next { s with link := { s.link with unbound := incr32 s.link.unbound } }
    else .next (rows.foldl (fun s r => deliverPacket r d.payload s) s)

/-- BUFFER_MOVE_COMPLETE (R159): the copy of an item between pools, or a Cabinet build, is complete. -/
def execBufferMoveComplete (t item : Nat) (s : State) : Out :=
  let s := advance t s
  .next { s with drw := { s.drw with moves := s.drw.moves.filter (· ≠ item) } }

end Sys2Proof.Machine
end

