-- ==== Sys2Proof/Machine/Faults.lean ====
section
/-!
DEFINITION. The commands of the fault collector (chapter 15): assertions, ends, shadows, re-arm, the watchdog and the MP restart, and
the clock monitor (01 R20).
-/

namespace Sys2Proof.Machine

/-- The effects that follow the conditions of FS29 and FS32 (04 R97, R108, 18 R424), after a change that started from `s`. -/
def heatEdges (s s' : State) : State :=
  dieEdge (hasBit s.flt.cond 32) (throttleEdge (hasBit s.flt.cond 29) s')

/-- The HOLD rail (converter input 3) is among the rails that FS37 watches only once it has been ready (02 R52). -/
def unwatched (s : State) (src data : Nat) : Bool := decide (src = 37) && decide (data = 3) && !s.pwr.holdWatched

/-- FAULT_ASSERT (R349 to R356): a source asserts its error line. Sources 48 and up do not exist. -/
def execFaultAssert (t src data : Nat) (s : State) : Out :=
  let s := advance t s
  if 48 ≤ src then .fault .impossibleOperand
  else if unwatched s src data then .next s
  else .next (heatEdges s (assertSource src data false s))

/-- FAULT_LEVEL_END (R350): the condition of a level source ends. -/
def execFaultLevelEnd (t src : Nat) (s : State) : Out :=
  let s := advance t s
  if 48 ≤ src then .fault .impossibleOperand else .next (heatEdges s (endSource src s))

/-- The shadow period of an action is over (Table 15.6). -/
def shadowOver (a : Action) (s : State) : Bool :=
  match a with
  | .mpRestart => s.mp.restarting.isNone && decide (s.mp.endedAt + 1000000 ≤ tsc s)
  | .compReinit => s.sched.reinitAt.elim true fun t0 => decide (t0 + 3 * s.sched.period ≤ tsc s)
  | .cutoff => !s.arr.switchOpen && decide (s.arr.switchClosedAt + 10000 ≤ tsc s)
  | .moduleReset | .brownoutSave => false

/-- SHADOW_END (R363, R364): the shadow of an action ends. -/
def execShadowEnd (t : Nat) (action : Action) (s : State) : Out :=
  let s := advance t s
  if s.flt.shadows.contains action && shadowOver action s then .next (endShadow action s) else .next s

/-- The re-arm of FULL and IDLE is due (R361). -/
def rearmDue (s : State) : Bool :=
  (s.mode.op = .full || s.mode.op = .idle) && decide (s.flt.lastAssert + 100000000 ≤ tsc s) && !anyFatal s
    && !((List.range 48).any fun n => isLevel n && !isCorrected n && unshadowed s n)

/-- REARM (R361). In IDLE a pulse source that held the switch open releases it (R359). -/
def execRearm (t : Nat) (s : State) : Out :=
  let s := advance t s
  if rearmDue s then .next (releaseHold { s with flt := rearmCollector s.flt }) else .next s

/-- The MP runs its image: loader or firmware, and no restart is in progress. -/
def mpRuns (s : State) : Bool := (s.mode.op = .loader || isFw s.mode.op) && s.mp.restarting.isNone

/-- MP_WATCHDOG_SERVICE (R357). -/
def execMpWatchdogService (t : Nat) (s : State) : Out :=
  let s := advance t s
  if mpRuns s then .next { s with mp := { s.mp with serviced := tsc s } } else .next s

/-- MP_WATCHDOG_EXPIRY (R357, 11 R278): 5,000,000 tk have passed since the latest service. `inHand`: the latest reply, of a message
already applied, was not yet handed over. -/
def execMpWatchdogExpiry (t : Nat) (inHand : Bool) (s : State) : Out :=
  let s := advance t s
  if mpRuns s && decide (s.mp.serviced + 5000000 < tsc s) then
    .next (assertSource 1 0 false (if inHand && !isShadowed s 1 0 then dataLost s else s))
  else .next s

/-- MP_RESTART_END (01 R16): the restart has ended in time, and messages are served again. -/
def execMpRestartEnd (t : Nat) (s : State) : Out :=
  let s := advance t s
  match s.mp.restarting with
  | some t0 =>
    if tsc s ≤ t0 + 15000000 then
      .next { s with mp := { s.mp with restarting := none, second := false, endedAt := tsc s, serviced := tsc s } }
    else .next s
  | none => .next s

/-- MP_RESTART_OVERRUN (R357): FS01 with DATA 1; a second restart, and after that the module reset. -/
def execMpRestartOverrun (t : Nat) (s : State) : Out :=
  let s := advance t s
  match s.mp.restarting with
  | some t0 => if t0 + 15000000 < tsc s then .next (assertSource 1 1 false s) else .next s
  | none => .next s

/-- CLOCK_MON (01 R20): a clock deviates by more than ±2 % or stops; FS40 names it. -/
def execClockMon (t clock : Nat) (s : State) : Out :=
  if 8 ≤ clock then .fault .impossibleOperand else .next (assertSource 40 clock false (advance t s))

end Sys2Proof.Machine
end

