-- ==== Sys2Proof/Machine/TimeBase.lean ====
section
/-! DEFINITION. The commands of the time base: TSC steps (01 R23, 21 R462) and gPTP (10 R249 to R251). -/

namespace Sys2Proof.Machine

/-! ### A step moves running durations (R462) -/

/-- A TSC moved by a step. -/
def moveTsc (d : Int) (x : Nat) : Nat := ((x : Int) + d).toNat

/-- A TSC that is 0 while its duration has not started. -/
def moveStarted (d : Int) (x : Nat) : Nat := if x = 0 then 0 else moveTsc d x

/-- Rake: the intervals of R309, the snapshot period, the period of R320. -/
def moveRake (d : Int) (r : Rake) : Rake :=
  { r with lastProbe := r.lastProbe.map (fun e => (e.1, moveStarted d e.2)), resumedAt := moveStarted d r.resumedAt,
           window := r.window.map fun w => { w with start := moveTsc d w.start }, vfAt := moveStarted d r.vfAt, snapFrom := moveTsc d r.snapFrom }

/-- Safe-Dim: the proof window, the tick a of R381, the disagreement of R380, the ramps. -/
def moveDim (d : Int) (x : SafeDim) : SafeDim :=
  { x with disagree := x.disagree.map (moveTsc d), proofFrom := x.proofFrom.map (moveTsc d), bothFrom := x.bothFrom.map (moveTsc d),
           retestAt := x.retestAt.map (moveTsc d), pulsedAt := x.pulsedAt.map (moveTsc d), differs := x.differs.map (moveTsc d),
           t0 := if x.demand || x.state = .ramp then moveTsc d x.t0 else x.t0,
           tEnd := if x.demand || x.state = .ramp then moveTsc d x.tEnd else x.tEnd,
           idleRamp := x.idleRamp.map fun r => (moveTsc d r.1, moveTsc d r.2.1, r.2.2), rampWindow := none,
           settleFrom := moveStarted d (x.settleFrom * 100000) / 100000, settleTo := moveStarted d (x.settleTo * 100000) / 100000 }

/-- A session: what counts from the arrival of its messages (R275, R264). The number of its delivery window is at most that of the new TSC,
whose windows end at multiples (R281). -/
def moveSession (d : Int) (w : Nat) (x : Session) : Session :=
  let f := fun (m : Msg) => { m with arrival := moveTsc d m.arrival }
  { x with lastArrival := moveTsc d x.lastArrival, high := x.high.map f, norm := x.norm.map f, bulk := x.bulk.map f, evWindow := min x.evWindow w }

/-- The gate: its sessions, the openings that wait, the window of R274. -/
def moveGate (d : Int) (w : Nat) (g : Gate) : Gate :=
  { g with sessions := g.sessions.map (moveSession d w), authWindow := min g.authWindow w,
           openings := g.openings.map fun m => { m with arrival := moveTsc d m.arrival } }

/-- gPTP: the times of the messages it waits for. -/
def moveGptp (d : Int) (b : TimeBase) : TimeBase :=
  { b with pdelayA := b.pdelayA.map (moveTsc d), pdelayB := b.pdelayB.map (moveTsc d), syncAt := b.syncAt.map fun x => (moveTsc d x.1, x.2),
           annA := b.annA.map fun x => { x with arrived := moveTsc d x.arrived }, annB := b.annB.map fun x => { x with arrived := moveTsc d x.arrived } }

/-- An egress port: its transmission in progress and what waits. -/
def moveEgress (d : Int) (e : Egress) : Egress :=
  { waiting := e.waiting.map fun f => { f with joined := moveTsc d f.joined }, busyUntil := ((e.busyUntil : Int) + 100 * d).toNat }

/-- Every TSC that the module holds as the start or the deadline of a running duration (R462). No schedule runs, so no TSC of the
schedule is one. -/
def moveRunning (d : Int) (s : State) : State :=
  { s with
    arr := { s.arr with switchClosedAt := moveTsc d s.arr.switchClosedAt, vledRose := s.arr.vledRose.map (moveTsc d),
                        vledLow := s.arr.vledLow.map (moveTsc d), vledHigh := s.arr.vledHigh.map (moveTsc d) },
    gov := { s.gov with stepFrom := moveTsc d s.gov.stepFrom, windowsDone := 0 },
    sync := { s.sync with windowEnd := moveTsc d s.sync.windowEnd, lastSym := moveTsc d s.sync.lastSym, headTsc := s.sync.headTsc.map (moveTsc d),
                          epochSeen := s.sync.epochSeen.map (moveTsc d), slotAt := s.sync.slotAt.map (moveTsc d) },
    flt := { s.flt with lastAssert := moveTsc d s.flt.lastAssert, recovering := s.flt.recovering.map (moveTsc d) },
    dim := moveDim d s.dim,
    rake := moveRake d s.rake,
    conv := { s.conv with urgentUntil := s.conv.urgentUntil.map (moveTsc d), timedAt := moveStarted d s.conv.timedAt,
                          selfAt := s.conv.selfAt.map (moveTsc d), passFrom := s.conv.passFrom.map (moveTsc d) },
    link := { s.link with aDown := s.link.aDown.map (moveTsc d), bDown := s.link.bDown.map (moveTsc d),
                          egressA := moveEgress d s.link.egressA, egressB := moveEgress d s.link.egressB },
    time := moveGptp d s.time,
    can := { s.can with rx := s.can.rx.map fun r => { r with last := moveTsc d r.last },
                        sending := s.can.sending.map fun x => { x with since := moveTsc d x.since } },
    gate := moveGate d (tsc s / 100000000) s.gate,
    mp := { s.mp with restarting := s.mp.restarting.map (moveTsc d), endedAt := moveTsc d s.mp.endedAt, serviced := moveTsc d s.mp.serviced, loadAt := moveTsc d s.mp.loadAt },
    dram := { s.dram with trainFailed := s.dram.trainFailed.map (moveTsc d), queue := s.dram.queue.map fun r => { r with arrival := moveTsc d r.arrival },
                          windowFrom := s.dram.windowFrom.map (moveTsc d),
                          driftAt := s.dram.driftAt.map (Option.map (moveTsc d)) },
    pwr := { s.pwr with belowFrom := s.pwr.belowFrom.map (moveTsc d), blindUntil := s.pwr.blindUntil.map (moveTsc d) },
    upd := { s.upd with loaderWait := s.upd.loaderWait.map (moveTsc d) } }

/-- The next step number (R468). -/
def nextStep (n : Nat) : Nat := n % 65535 + 1

/-- The servo is MP work (R250). -/
def servoRuns (s : State) : Bool := s.mode.op ≠ .brownoutSave && s.mp.restarting.isNone

/-- The TSC may be stepped: BOOT, LOADER, PROOF_PENDING or IDLE, while the servo runs (R23, Table 1.2). -/
def stepAllowed (s : State) : Bool :=
  servoRuns s && match s.mode.op with
    | .boot | .loader | .proofPending | .idle => true
    | _ => false

/-- TSC_STEP (R23, R462, R468): the TSC takes the measured offset, in ns, while no schedule runs. -/
def execTscStep (t : Nat) (offset : Int) (s : State) : Out :=
  let s := advance t s
  if !stepAllowed s then .next s
  else
    let n := nextStep s.time.step
    let old := tsc s
    let s := recordAt old srcTime 0x0001 n { s with time := { s.time with acc := ((s.time.acc : Int) + offset * 4294967296).toNat, step := n } }
    .next (moveRunning ((tsc s : Int) - old) (record srcTime 0x0002 n s))

/-- TSC_JUMP (R23): the offset has stayed above 1 ms for more than 1 s while a schedule runs; FS43. -/
def execTscJump (t : Nat) (s : State) : Out :=
  let s := advance t s
  if s.sched.running && s.time.highFrom.elim false (fun t0 => decide (t0 + 100000000 < tsc s)) then .next (assertSource 43 0 false s)
  else .next s

/-! ### gPTP -/

/-- The link of a port is up. -/
def linkUpOn (s : State) : Port → Bool
  | .a => decide (s.link.aState = 2)
  | .b => decide (s.link.bState = 2)

/-- The other link port. -/
def otherPort : Port → Port
  | .a => .b
  | .b => .a

/-- A gPTP frame of the module leaves on a port with link, untagged and in the highest queue (R239, R249). PRESUMED: its bytes are those of
the standard's messages (log entry 51). -/
def gptpSend (bytes : Nat) (g : GptpOut) (s : State) : State :=
  if linkUpOn s g.port then
    { s with time := { s.time with gptpOut := some g }, link := joinQueue (tsc s) 3 bytes g.port s.link }
  else s

/-- A frame that carries nothing to relay. -/
def gptpPlain (p : Port) (kind : Nat) : GptpOut := { port := p, kind := kind, correction := 0, rate := 0, hops := 0 }

/-- An interval of 2^k seconds in tk. -/
def gptpInterval (k : Int) : Nat := if k < 0 then 100000000 / 2 ^ (-k).toNat else 100000000 * 2 ^ k.toNat

/-- What the peer-delay mechanism has measured on a port (R249). -/
def propOf (b : TimeBase) : Port → Option (Nat × Int)
  | .a => b.propA
  | .b => b.propB

/-- The latest Announce on a port. -/
def announceOf (b : TimeBase) : Port → Option Announced
  | .a => b.annA
  | .b => b.annB

/-- The port exchanges time: it has link, and its measured delay is within neighborPropDelayThresh, 800 ns (R249). -/
def asCapable (s : State) (p : Port) : Bool := linkUpOn s p && (propOf s.time p).elim false fun d => decide (d.1 ≤ 800)

/-- The comparison of the BMCA: the first number that differs decides, the lower one is better (R249). -/
def betterVector : List Nat → List Nat → Bool
  | a :: as, b :: bs => if a < b then true else if b < a then false else betterVector as bs
  | [], _ :: _ => true
  | _, [] => false

/-- The numbers that the BMCA compares, in order. -/
def masterVector (x : Announced) : List Nat := x.identity ++ [x.hops, x.source]

/-- The Announce that counts on a port. -/
def candidate (s : State) (p : Port) : Option Announced := if asCapable s p then announceOf s.time p else none

/-- The port on which the best master is reached, and its Announce; port A on a tie (R249). -/
def bestMaster (s : State) : Option (Port × Announced) :=
  match candidate s .a, candidate s .b with
  | some x, some y => if betterVector (masterVector y) (masterVector x) then some (.b, y) else some (.a, x)
  | some x, none => some (.a, x)
  | none, some y => some (.b, y)
  | none, none => none

/-- FS43 and its duration follow a new offset (01 R23). -/
def followOffset (s : State) : State :=
  if s.sched.running && highOffset s.time then
    { s with time := { s.time with highFrom := some (s.time.highFrom.getD (tsc s)) } }
  else endSource 43 { s with time := { s.time with highFrom := none } }

/-- The servo takes a measured offset: TSC_TRIM, and the lock (R251, 01 R21, R24). -/
def servo (offset trim : Int) (s : State) : State :=
  let b := s.time
  let good := if offset.natAbs ≤ 1000 then b.good + 1 else 0
  let b := { b with trim := clampTrim trim, offset := max (-2147483647) (min 2147483647 offset), good := good }
  let s :=
    if b.gptp = 2 then
      if 10000 < offset.natAbs then assertSource 27 0 false { s with time := { b with gptp := 3, good := 0 } } else { s with time := b }
    else if 8 ≤ good then endSource 27 { s with time := { b with gptp := 2 } }
    else { s with time := { b with gptp := if b.gptp = 0 then 1 else b.gptp } }
  followOffset s

/-- The BMCA has selected a grandmaster, with its stepsRemoved, or none qualifies (R249). -/
def selectMaster (s : State) : State :=
  match bestMaster s with
  | some (_, x) => { s with time := { s.time with gptp := if s.time.gptp = 0 then 1 else s.time.gptp, hops := x.hops % 256 } }
  | none =>
    let locked := decide (s.time.gptp = 2)
    let s := followOffset { s with time := { s.time with gptp := 0, good := 0, syncAt := none } }
    if locked then assertSource 27 0 false s else s

/-- The Announce of a port, set or forgotten. -/
def setAnnounce (p : Port) (x : Option Announced) (b : TimeBase) : TimeBase :=
  match p with
  | .a => { b with annA := x }
  | .b => { b with annB := x }

/-- The measured delay of a port, set. -/
def setProp (p : Port) (x : Nat × Int) (b : TimeBase) : TimeBase :=
  match p with
  | .a => { b with propA := some x }
  | .b => { b with propB := some x }

/-- The correctionField of a relayed Sync: what it was, with the delay of the link it came on and the residence time in grandmaster time
(R250). -/
def relayCorrection (correction rate : Int) (delay residence : Nat) : Int :=
  correction + ((delay + residence : Nat) : Int) * 65536 * (2199023255552 + rate) / 2199023255552

/-- A Sync of the selected master goes on to the other port with residence time and rate ratio corrected (R250). -/
def relaySync (port : Port) (correction rate : Int) (residence : Nat) (s : State) : State :=
  let d := (propOf s.time port).getD (0, 0)
  let r := rate + d.2
  if hasLinkB s then
    gptpSend 158 { port := otherPort port, kind := 2, correction := relayCorrection correction r d.1 residence, rate := r, hops := 0 } s
  else s

/-- A Sync of domain 0 with logSyncInterval −7 to 0 from the selected master: relayed, and taken by the servo (R249 to R251). -/
def takeSync (port : Port) (logInterval offset trim correction rate : Int) (residence : Nat) (s : State) : State :=
  if (bestMaster s).elim false (fun x => x.1 = port) then
    let s := relaySync port correction rate residence { s with time := { s.time with syncAt := some (tsc s, gptpInterval logInterval) } }
    if servoRuns s then servo offset trim s else s
  else s

/-- An Announce of domain 0: the BMCA selects, and the one of the selected master goes on with stepsRemoved one more (R249). -/
def takeAnnounce (port : Port) (x : Announced) (s : State) : State :=
  if 255 ≤ x.hops then s
  else
    let s := { s with time := setAnnounce port (some x) s.time }
    let s := if hasLinkB s && (bestMaster s).elim false (fun y => y.1 = port) then
        gptpSend 94 { port := otherPort port, kind := 3, correction := 0, rate := 0, hops := x.hops + 1 } s
      else s
    if servoRuns s then selectMaster s else s

/-- GPTP_MESSAGE (R249, R250): a gPTP frame at a port with link. Sync and Announce of the selected master are relayed, a peer-delay request
is answered, and its response gives the delay and the rate ratio of the link. -/
def execGptpMessage (t : Nat) (port : Port) (msg : GptpMsg) (s : State) : Out :=
  let s := advance t s
  if !clockRuns s || !linkUpOn s port then .next s
  else
    match msg with
    | .sync domain logInterval offset trim correction rate residence =>
      if domain = 0 ∧ -7 ≤ logInterval ∧ logInterval ≤ 0 then .next (takeSync port logInterval offset trim correction rate residence s) else .next s
    | .pdelayReq => .next (gptpSend 140 (gptpPlain port 1) s)
    | .pdelayResp delay rate => .next { s with time := setProp port (delay, rate) s.time }
    | .announce domain logInterval identity hops source =>
      if domain = 0 then
        .next (takeAnnounce port { identity := identity, hops := hops, source := source, arrived := tsc s, interval := gptpInterval logInterval } s)
      else .next s

/-- A receipt timeout of 3 intervals has expired (R249, 01 R28). -/
def receiptOver (now : Nat) (x : Nat × Nat) : Bool := decide (x.1 + 3 * x.2 < now)

/-- SYNC_RECEIPT_TIMEOUT (R249, R251): no Sync for 3 intervals; lock is lost. -/
def execSyncReceiptTimeout (t : Nat) (s : State) : Out :=
  let s := advance t s
  if !(s.time.syncAt.elim false (receiptOver (tsc s))) then .next s
  else
    let lost := decide (s.time.gptp = 2)
    let s := { s with time := { s.time with good := 0, syncAt := none, gptp := if lost then 3 else s.time.gptp } }
    .next (if lost then assertSource 27 0 false s else s)

/-- The latest peer-delay request on a port. -/
def pdelayOf (b : TimeBase) : Port → Option Nat
  | .a => b.pdelayA
  | .b => b.pdelayB

/-- PDELAY_REQUEST (R249): on each port with link, once per second (logPdelayReqInterval 0). -/
def execPdelayRequest (t : Nat) (port : Port) (s : State) : Out :=
  let s := advance t s
  if clockRuns s && linkUpOn s port && (pdelayOf s.time port).elim true fun x => decide (x + 100000000 ≤ tsc s) then
    let b := match port with
      | .a => { s.time with pdelayA := some (tsc s) }
      | .b => { s.time with pdelayB := some (tsc s) }
    .next (gptpSend 72 (gptpPlain port 0) { s with time := b })
  else .next s

/-- ANNOUNCE_RECEIPT_TIMEOUT (R249): no Announce on a port for 3 intervals; the BMCA selects afresh. -/
def execAnnounceReceiptTimeout (t : Nat) (port : Port) (s : State) : Out :=
  let s := advance t s
  if (announceOf s.time port).elim false fun x => receiptOver (tsc s) (x.arrived, x.interval) then
    let s := { s with time := setAnnounce port none s.time }
    .next (if servoRuns s then selectMaster s else s)
  else .next s

end Sys2Proof.Machine
end

