-- ==== Sys2Proof/Machine/LinkPorts.lean ====
section
/-! DEFINITION. The commands of the link ports (10 R236 to R244), of host silence (R252) and of the service port (R253 to R255). -/

namespace Sys2Proof.Machine

/-! ### Link status (R236) -/

/-- A port that this variant has (10 R237, 00 R7). -/
def hasPort (s : State) (p : Port) : Bool := decide (p = .a) || hasLinkB s

/-- The fault source of a port's loss. -/
def linkSource : Port → Nat
  | .a => 25
  | .b => 26

/-- The monitor frame that is being sent when port A goes down is skipped (R261). -/
def cutMonitor (s : State) : State :=
  match s.mon.ring with
  | x :: rest => if 0 < x.sent then skipMonitor rest s else s
  | [] => s

/-- LINK_DOWN (R236): a port that has been up since BOOT starts its deadline. A port that is not up only starts or stops to train. DESIGN
CHOICE: frames that wait for a port that goes down are lost (log entry 51). -/
def execLinkDown (t : Nat) (x : LinkLoss) (s : State) : Out :=
  if !hasPort s x.port then .fault .impossibleOperand
  else
    let s := advance t s
    if !linkUpOn s x.port then
      if !arrayUp s then .next s
      else
        match x.port with
        | .a => .next { s with link := { s.link with aState := bit x.training } }
        | .b => .next { s with link := { s.link with bState := bit x.training } }
    else
      match x.port with
      | .a => .next (cutMonitor { s with link := { s.link with aState := bit x.training, aSpeed := 0, egressA := {}, aDown := some (tsc s) } })
      | .b => .next { s with link := { s.link with bState := bit x.training, bSpeed := 0, egressB := {}, bDown := some (tsc s) } }

/-- The speed and the PHY role that LINK_CONFIG in force lets a port have: any under AUTO, else the fixed ones (R234, R258). -/
def phyAllowed (c : LinkConfig) (port : Port) (speed : Nat) (master : Bool) : Bool :=
  let fixed := match port with | .a => c.speedA | .b => c.speedB
  let role := match port with | .a => decide (c.phyRole % 2 = 1) | .b => decide (c.phyRole / 2 % 2 = 1)
  decide (fixed = 0) || (decide (fixed = speed) && (role == master))

/-- LINK_UP (R234, R236): the port is up at a speed of Table 10.12 and in a PHY role; FS25 or FS26 clears, and a gratuitous ARP that waited is
sent (R240). At another speed or in another role than the fixed ones no link comes up. -/
def execLinkUp (t : Nat) (port : Port) (mode : LinkMode) (s : State) : Out :=
  if !hasPort s port || !between mode.speed 1 3 then .fault .impossibleOperand
  else
    let s := advance t s
    if !arrayUp s || !phyAllowed s.link.inForce port mode.speed mode.master then .next s
    else
      let l := match port with
        | .a => { s.link with aState := 2, aSpeed := mode.speed, aMaster := mode.master, aDown := none }
        | .b => { s.link with bState := 2, bSpeed := mode.speed, bMaster := mode.master, bDown := none }
      let l := if l.arpDue then sendArp (tsc s) port true { l with arpDue := false } else l
      .next (endSource (linkSource port) { s with link := l })

/-- LINK_DOWN_TIMEOUT (R236): the port has not come up by t + 10,000 tk. -/
def execLinkDownTimeout (t : Nat) (port : Port) (s : State) : Out :=
  if !hasPort s port then .fault .impossibleOperand
  else
    let s := advance t s
    let down := match port with
      | .a => s.link.aDown
      | .b => s.link.bDown
    if down.elim false fun t0 => decide (t0 + 10000 < tsc s) then .next (assertSource (linkSource port) 0 false s) else .next s

/-! ### The switch (R237 to R243) -/

/-- 01-80-C2-00-00-00. -/
def reservedMac : Nat := 0x0180C2000000

/-- A group address: the least significant bit of the first octet is set. -/
def isGroup (mac : Nat) : Bool := decide (mac / 1099511627776 % 2 = 1)

/-- Forwarded to the other link port, delivered to the internal port (Table 10.3). -/
def frameRoute (own dst : Nat) : Bool × Bool :=
  if dst = reservedMac + 14 then (false, true)
  else if reservedMac ≤ dst ∧ dst ≤ reservedMac + 15 then (false, false)
  else if isGroup dst then (true, true)
  else if dst = own then (false, true)
  else (true, false)

/-- The sender of an accepted packet is reached over the port it came in on (R244). -/
def learnPeer (ip : Nat) (p : Port) (l : Links) : Links := { l with peers := (ip, p) :: l.peers.filter fun e => e.1 ≠ ip }

/-- The frame travels cut-through: its ingress speed is at least its egress speed, and the egress port is idle (R238). -/
def cutsThrough (s : State) (f : EthFrame) : Bool :=
  decide (portSpeed s.link f.port ≤ portSpeed s.link (otherPort f.port))
    && egressIdle (tsc s) (egressNow (tsc s) (otherPort f.port) s.link)

/-- A frame on its way through the switch at once: the egress port is busy for its length. -/
def cutThrough (f : EthFrame) (l : Links) (now : Nat) : Links :=
  let out := otherPort f.port
  setEgress out { waiting := [], busyUntil := 100 * now + (f.bytes + 20) * byteTime (portSpeed l out) }
    { l with forwarded := some { port := out, frame := f, cutThrough := true } }

/-- A frame is forwarded: cut-through, or stored, unless it finds its queue of 24 KiB full, which is counted (R238, R239). A frame with a bad
FCS goes on only where it is cut-through: it is ended with a bad FCS (Table 10.3). -/
def forwardFrame (f : EthFrame) (s : State) : State :=
  let out := otherPort f.port
  let now := tsc s
  if !hasLinkB s || !linkUpOn s out then s
  else if cutsThrough s f then { s with link := cutThrough f s.link now }
  else if !f.fcsOk then s
  else
    let l := if egressRoom now (egressQueue f.tag) f.bytes out s.link then { s.link with forwarded := some { port := out, frame := f, cutThrough := false } }
      else s.link
    { s with link := joinQueue now (egressQueue f.tag) f.bytes out l }

/-- A frame reaches the internal port: what it accepts is delivered. -/
def deliverFrame (f : EthFrame) (s : State) : State :=
  if !tagAccepted s f then s
  else
    match f.ip with
    | none => { s with link := { s.link with delivered := some f } }
    | some i => if ipAccepted s i then { s with link := learnPeer f.srcIp f.port { s.link with delivered := some f } } else s

/-- ETHERNET_FRAME (R237 to R244): a frame arrives at a link port that is up. -/
def execEthernetFrame (t : Nat) (f : EthFrame) (s : State) : Out :=
  if !hasPort s f.port then .fault .impossibleOperand
  else
    let s := advance t s
    if !arrayUp s || !linkUpOn s f.port then .next s
    else
      let s := if f.fcsOk then s else { s with link := { s.link with fcsErrors := incr32 s.link.fcsErrors } }
      if f.pause || decide (1522 < f.bytes) then .next s
      else
        let route := frameRoute s.fuse.mac f.dst
        let s := if route.1 then forwardFrame f s else s
        .next (if route.2 && f.fcsOk then deliverFrame f s else s)

/-- ARP_REQUEST (R241): a request for the module's own address is answered. -/
def execArpRequest (t : Nat) (port : Port) (target : Nat) (s : State) : Out :=
  if !hasPort s port then .fault .impossibleOperand
  else
    let s := advance t s
    if arrayUp s && linkUpOn s port && decide (s.link.ip = some target) then .next { s with link := sendArp (tsc s) port false s.link }
    else .next s

/-- HOST_SILENT (R252): nothing has arrived by the deadline. -/
def execHostSilent (t : Nat) (s : State) : Out :=
  let s := advance t s
  if s.sched.running && decide (s.link.silenceFrom + 100000 * s.cfg.link.hostTimeout < tsc s) then .next (assertSource 46 0 false s)
  else .next s

/-! ### Service port (R253 to R255) -/

/-- A segmentation error: counted, and the reception in progress ends (R255). -/
def isoError (c : CanPort) : CanPort := { c with isoErrors := incr32 c.isoErrors, rx := none }

/-- A flow-control frame of the module: BS 0, STmin 0 (Table 10.9). -/
def flowControl (status : Nat) : List Byte := [BitVec.ofNat 8 (0x30 + status), 0x00, 0x00]

/-- A new reception ends the one in progress, which is an error if there was one. -/
def isoRestart (c : CanPort) : CanPort := if c.rx.isSome then isoError c else c

/-- A byte of a frame. -/
def byteAt (data : List Byte) (n : Nat) : Nat := (data.getD n 0).toNat

/-- A single frame: 8 bytes or less carry their length in the first byte, longer ones in the second. -/
def isoSingle (data : List Byte) (c : CanPort) : CanPort :=
  let short := decide (data.length ≤ 8)
  let dl := if short then byteAt data 0 else byteAt data 1
  let body := data.drop (if short then 1 else 2)
  let c := isoRestart c
  if dl = 0 ∨ (!short ∧ byteAt data 0 ≠ 0) ∨ body.length < dl then isoError c else { c with complete := some (body.take dl) }

/-- A first frame: the length in 12 bits, or in the 32 bits that follow when these are 0. A message above 1,472 bytes is answered
OVFLW. -/
def isoFirst (now txId : Nat) (data : List Byte) (c : CanPort) : CanPort :=
  let dl12 := byteAt data 0 % 16 * 256 + byteAt data 1
  let long := decide (dl12 = 0)
  let dl := if long then ((data.drop 2).take 4).foldl (fun acc b => 256 * acc + b.toNat) 0 else dl12
  let body := data.drop (if long then 6 else 2)
  let c := isoRestart c
  if 1472 < dl then canEmit now txId (flowControl 2) c
  else if dl ≤ body.length then isoError c
  else canEmit now txId (flowControl 0) { c with rx := some { total := dl, bytes := body, next := 1, last := now } }

/-- A consecutive frame: it carries the next sequence number and completes the message when its length is reached. -/
def isoConsecutive (now : Nat) (data : List Byte) (c : CanPort) : CanPort :=
  match c.rx with
  | none => c
  | some r =>
    if byteAt data 0 % 16 ≠ r.next then isoError c
    else
      let bytes := r.bytes ++ data.drop 1
      if r.total ≤ bytes.length then { c with rx := none, complete := some (bytes.take r.total) }
      else { c with rx := some { r with bytes := bytes, next := (r.next + 1) % 16, last := now } }

/-- N_Cr has expired: the reception is aborted and counted (R255). -/
def isoExpire (now : Nat) (c : CanPort) : CanPort :=
  if c.rx.elim false fun r => decide (r.last + 100000000 < now) then isoError c else c

/-- A frame on the request identifier (R253, R255). -/
def isoFrame (now : Nat) (f : CanFrame) (c : CanPort) : CanPort :=
  let txId := f.id + 1
  let c := sendExpire now txId (isoExpire now c)
  if !f.fd then { c with isoErrors := incr32 c.isoErrors }
  else
    match byteAt f.data 0 / 16 with
    | 0 => isoSingle f.data c
    | 1 => isoFirst now txId f.data c
    | 2 => isoConsecutive now f.data c
    | 3 => hostFlow now txId f.data c
    | _ => c

/-- CAN_FRAME (R253 to R255): a frame on the service port. A frame with another identifier is not for the module. -/
def execCanFrame (t : Nat) (f : CanFrame) (s : State) : Out :=
  if 64 < f.data.length then .fault .impossibleOperand
  else
    let s := advance t s
    if arrayUp s && !s.can.busOff && decide (canReqId s = some f.id) then .next { s with can := isoFrame (tsc s) f s.can }
    else .next s

/-- ISOTP_TIMEOUT (R255): N_Cr or N_Bs expires. -/
def execIsotpTimeout (t : Nat) (s : State) : Out :=
  let s := advance t s
  .next { s with can := sendExpire (tsc s) ((canTxId s).getD 0) (isoExpire (tsc s) s.can) }

/-- What waited for the controller leaves. -/
def canResume (s : State) : CanPort :=
  if s.can.sending.isSome then s.can else canFlush (tsc s) ((canTxId s).getD 0) s.can.sendq s.can

/-- CAN_BUS_OFF (R253): the controller goes bus-off, which is counted, or is not bus-off, error-passive or error-active (Table 10.12). -/
def execCanBusOff (t : Nat) (st : CanErr) (s : State) : Out :=
  let s := advance t s
  if st = .busOff then
    .next { s with can := { s.can with busOff := true, errPassive := false, busOffs := if s.can.busOff then s.can.busOffs else incr32 s.can.busOffs } }
  else .next { s with can := { canResume s with busOff := false, errPassive := decide (st = .passive) } }

end Sys2Proof.Machine
end

