-- ==== Sys2Proof/Machine/Mail.lean ====
section
/-!
DEFINITION. How the MP serves messages: the service order (11 R275), the common checks (12 R288 to R290), and the one way every message
is answered (11 R271, R272).
-/

namespace Sys2Proof.Machine

/-! ### Service order (R275) -/

/-- A message at the head of a queue: class 0 HIGH, 1 NORM, 2 BULK. -/
structure Head where
  cls : Nat
  msg : Msg
deriving DecidableEq, Repr

/-- The class in which a waiting message is served: NORM counts as HIGH after 1,500,000 tk, BULK after 15,000,000 tk. -/
def classOf (now queue arrival : Nat) : Nat :=
  if queue = 1 ∧ 1500000 < now - arrival then 0
  else if queue = 2 ∧ 15000000 < now - arrival then 0
  else queue

/-- The head of one queue. -/
def headOf (now queue : Nat) (q : List Msg) : List Head :=
  match q with
  | m :: _ => [{ cls := classOf now queue m.arrival, msg := m }]
  | [] => []

/-- The opening requests of one queue (19 R433). -/
def openingsOf (s : State) (queue : Nat) : List Msg := s.gate.openings.filter fun m => msgQueue m = queue

/-- The heads of all queues. -/
def heads (s : State) : List Head :=
  let now := tsc s
  headOf now 0 (openingsOf s 0) ++ headOf now 1 (openingsOf s 1) ++ headOf now 2 (openingsOf s 2)
    ++ s.gate.sessions.flatMap fun x => headOf now 0 x.high ++ headOf now 1 x.norm ++ headOf now 2 x.bulk

/-- Lower class first, then the older arrival, then the lower session number. -/
def headBefore (a b : Head) : Bool :=
  if a.cls ≠ b.cls then decide (a.cls < b.cls)
  else if a.msg.arrival ≠ b.msg.arrival then decide (a.msg.arrival < b.msg.arrival)
  else decide (a.msg.session < b.msg.session)

/-- The head that is served first. -/
def firstHead : List Head → Option Head
  | [] => none
  | h :: hs =>
    match firstHead hs with
    | none => some h
    | some b => if headBefore b h then some b else some h

/-- The message the MP serves next. -/
def nextToServe (s : State) : Option Msg := (firstHead (heads s)).map (·.msg)

/-- A served message leaves its queue. -/
def dequeue (m : Msg) (s : State) : State :=
  if m.session = 0 then { s with gate := { s.gate with openings := s.gate.openings.erase m } }
  else
    updSession m.session (fun x =>
      match msgQueue m with
      | 0 => { x with high := x.high.drop 1 }
      | 1 => { x with norm := x.norm.drop 1 }
      | _ => { x with bulk := x.bulk.drop 1 }) s

/-! ### Common checks (R288 to R290) -/

/-- What a row of Tables 12.5 to 12.13 states for every request of its opcode. -/
structure Row where
  opcode : Nat
  domain : Domain
  /-- legal states (Table 12.1, R290) -/
  states : OpState → Bool
  /-- LENGTH, CONTEXT and the queue are as R288 and the row state -/
  shape : Msg → Bool
  /-- two rows of the table share an opcode: which of its messages are this row's -/
  mine : Msg → Bool := fun _ => true

/-- The set ANY of Table 12.1. -/
def isAny (o : OpState) : Bool := isFw o || decide (o = .loader)

/-- LENGTH is `n` and CONTEXT is 0. -/
def plainShape (n : Nat) (m : Msg) : Bool := decide (m.length = n) && decide (m.context = 0)

/-- LENGTH is `n` and CONTEXT holds a handle. -/
def handleShape (n : Nat) (m : Msg) : Bool := decide (m.length = n) && decide (m.context < 65536)

/-- The domain of the session a message came on. -/
def sessionDomain (s : State) (m : Msg) : Domain := (findSession s m.session).elim .info (·.domain)

/-- Steps 2, 4 and 5 of R289; step 3, a unit that is absent, stands between as `absent`. FLAGS [7:3] and the reserved field of the header
must be 0 (R265, R266). -/
def commonCheck (r : Row) (absent : Bool) (m : Msg) (s : State) : Check :=
  firstFail [
    require (r.domain = .info || r.domain = sessionDomain s m) eDomain,
    require (!absent) eAbsent,
    require (r.states s.mode.op) eState,
    inRange (r.shape m && decide (m.flags < 8) && decide (m.reserved = 0)) 0xFFFF ]

/-- What the work of a message comes to: OK with DATA and the state it leaves, or a status with DETAIL. -/
inductive Answer where
  | ok (data : List Byte) (s : State)
  | fail (status detail : Nat)
  /-- A status with the state that the counters named in R271 leave. -/
  | failIn (status detail : Nat) (s : State)

/-- The checks of step 6, then the work. -/
def checked (cs : List Check) (work : Answer) : Answer :=
  match firstFail cs with
  | some e => .fail e.1 e.2
  | none => work

/-- The check of a CRC that a message carries, on CVU3 (20 R452, R457): E_CRC on a mismatch, which the unit counts. -/
def crcGuard (value expected : Nat) (work : State → Answer) (s : State) : Answer :=
  let s := cvuJob 3 value (some expected) s
  if value = expected then work s else .failIn eCrc 0 s

/-- A message is answered; a session whose freshness is used up ends after the reply (R264). -/
def answered (m : Msg) (status detail : Nat) (data : List Byte) (s : State) : State :=
  freshEnd (decide (m.freshness = 0xFFFFFFFF)) m.session
    (noteServed m status ((findSession s m.session).map (·.kMh)) s (replyTo m status detail data s))

/-- The opcodes of the catalogue (12 R293). -/
def catalogue : List Nat :=
  [0x0101, 0x0102, 0x0103, 0x0104, 0x0105, 0x0106, 0x0107, 0x0108,
   0x0201, 0x0202, 0x0203, 0x0204, 0x0205, 0x0206, 0x0207, 0x0208, 0x0209, 0x020A, 0x020B,
   0x0301, 0x0302, 0x0303, 0x0401, 0x0402, 0x0403, 0x0404, 0x0501, 0x0502, 0x0503, 0x0504,
   0x0601, 0x0602, 0x0603, 0x0604, 0x0605, 0x0606, 0x0607, 0x0608, 0x0609, 0x060A, 0x060B, 0x060C, 0x060D,
   0x0701, 0x0702, 0x0703, 0x0704, 0x0705, 0x0706, 0x0707,
   0x0801, 0x0802, 0x0803, 0x0901, 0x0902, 0x0A01, 0x0A02, 0x0A03, 0x0A04,
   0x0B01, 0x0B02, 0x0B03, 0x0B04, 0x0B05]

/-- Messages of unknown opcodes that are next in the order of R275 are answered E_OPCODE (R289 step 1), at most `n` of them. -/
def serveUnknowns : Nat → State → State
  | 0, s => s
  | n + 1, s =>
    match nextToServe s with
    | some m => if mpRuns s && !catalogue.contains m.opcode then serveUnknowns n (answered m eOpcode 0 [] (dequeue m s)) else s
    | none => s

/-- The MP serves every message of an unknown opcode that is next. No command of the table serves them, so they are answered around the
commands that arrive and serve the others. -/
def serveUnknown (s : State) : State :=
  serveUnknowns (s.gate.sessions.foldl (fun n x => n + x.high.length + x.norm.length + x.bulk.length) 0) s

/-- The message is the one the MP serves now, under the opcode of the row. -/
def isServed (r : Row) (m : Msg) (s : State) : Bool :=
  mpRuns s && decide (nextToServe s = some m) && decide (m.opcode = r.opcode) && r.mine m

/-- A message that waits for service is taken from its queue, checked and answered; a non-zero status leaves the state unchanged
(R271). `after` is what an OK does once the reply has been handed over. A message that is not next in the order of R275 is not served:
the step only advances the clock. -/
def serveThen (t : Nat) (r : Row) (absent : State → Bool) (m : Msg) (body : State → Answer) (after : State → State) (s : State) : Out :=
  let s := serveUnknown (advance t s)
  if !isServed r m s then .next s
  else
    let s := dequeue m s
    match commonCheck r (absent s) m s with
    | some e => .next (serveUnknown (answered m e.1 e.2 [] s))
    | none =>
      match body s with
      | .ok data s' => .next (serveUnknown (after (answered m eOk 0 data s')))
      | .fail st d => .next (serveUnknown (answered m st d [] s))
      | .failIn st d s' => .next (serveUnknown (answered m st d [] s'))

/-- A message is served; nothing follows its reply. -/
def serve (t : Nat) (r : Row) (absent : State → Bool) (m : Msg) (body : State → Answer) (s : State) : Out :=
  serveThen t r absent m body id s

/-- No unit is needed. -/
def unitFree (_ : State) : Bool := false

/-! ### Drawers named by a message -/

/-- E_HANDLE for a handle that is not valid. -/
def handleCheck (s : State) (m : Msg) : Check := require (handleValid s (msgHandle m)) eHandle

/-- The slot a message names. -/
def msgSlot (m : Msg) : Nat := msgHandle m % 256

/-- E_BUSY for a RETIRING drawer. -/
def retiringCheck (s : State) (m : Msg) : Check := require (decide ((slotAt s (msgSlot m)).st ≠ .retiring)) eBusy

/-- E_BUSY for a drawer with pending changes of another session (R148). -/
def pendCheck (s : State) (m : Msg) : Check :=
  require ((slotAt s (msgSlot m)).pend.elim true fun p => decide (p.session = m.session)) eBusy

/-! ### Long operations (R291) -/

/-- A long operation starts. -/
def startLong (m : Msg) (s : State) : State := { s with mp := { s.mp with long := s.mp.long ++ [{ opcode := m.opcode, arrival := m.arrival }] } }

end Sys2Proof.Machine
end

