-- ==== Sys2Proof/Machine/Gate.lean ====
section
/-! DEFINITION. The mailbox gate (chapter 11): arrival of messages, E_AUTH windows, session loss, MP load, event messages. -/

namespace Sys2Proof.Machine

/-! ### E_AUTH windows (R274) -/

/-- The number of a window of 100,000,000 tk. -/
def windowOf (t : Nat) : Nat := t / 100000000

/-- The counting window that has ended is closed: the mute ends, and FS41 clears at the end of a window at or below the limit; a window
without any message between counts as 0. -/
def rollAuth (s : State) : State :=
  let w := windowOf (tsc s)
  if w ≤ s.gate.authWindow then s
  else
    let calm := decide (s.gate.authCount ≤ s.cfg.mailbox.authBurst) || decide (s.gate.authWindow + 1 < w)
    let s := { s with gate := { s.gate with authCount := 0, authWindow := w, muted := false } }
    if calm then endSource 41 s else s

/-- An E_AUTH rejection: counted in its window; above the limit FS41 is raised and no E_AUTH reply is sent until the window ends. -/
def rejectAuth (m : Msg) (s : State) : State :=
  let s := rollAuth s
  let n := s.gate.authCount + 1
  let s := { s with gate := { s.gate with authCount := n, authRejects := incr32 s.gate.authRejects } }
  let s := if s.cfg.mailbox.authBurst < n then assertSource 41 (sat16 n) false { s with gate := { s.gate with muted := true } } else s
  if s.gate.muted then s else replyUntagged m eAuth 0 s

/-- AUTH_WINDOW_END (R274). -/
def execAuthWindowEnd (t : Nat) (s : State) : Out := .next (rollAuth (advance t s))

/-! ### Checks (R269, Table 11.5) -/

/-- Step 3 (R268): LENGTH is at most 1,440 and equals the bytes received between header and tag. -/
def lengthOk (m : Msg) (n : Nat) : Bool := decide (m.length ≤ 1440) && decide (m.length = n)

/-- The last accepted FRESHNESS of a queue. -/
def lastFresh (x : Session) (queue : Nat) : Nat :=
  match queue with
  | 0 => x.freshHigh
  | 1 => x.freshNorm
  | _ => x.freshBulk

/-- The last accepted FRESHNESS of a queue set. -/
def setFresh (queue v : Nat) (x : Session) : Session :=
  match queue with
  | 0 => { x with freshHigh := v }
  | 1 => { x with freshNorm := v }
  | _ => { x with freshBulk := v }

/-- The waiting messages of a queue. -/
def queueOf (x : Session) (queue : Nat) : List Msg :=
  match queue with
  | 0 => x.high
  | 1 => x.norm
  | _ => x.bulk

/-- The depth of a queue (R275). -/
def queueDepth (queue : Nat) : Nat := if queue = 2 then 32 else 64

/-- A message put into its queue. -/
def enqueue (m : Msg) (x : Session) : Session :=
  match msgQueue m with
  | 0 => { x with high := x.high ++ [m] }
  | 1 => { x with norm := x.norm ++ [m] }
  | _ => { x with bulk := x.bulk ++ [m] }

/-- What acceptance does for the module: an arrival for host silence, which clears FS46 (R270, 10 R252). -/
def hostArrival (s : State) : State :=
  endSource 46 { s with link := { s.link with lastHost := tsc s, silenceFrom := tsc s } }

/-- What acceptance does for the session (R270). -/
def acceptMsg (m : Msg) (s : State) : State :=
  hostArrival (updSession m.session (fun x =>
    { setFresh (msgQueue m) m.freshness x with lastArrival := m.arrival, accepted := incr32 x.accepted, evEp := m.ep }) s)

/-- A message came over the transport and from the endpoint of the session (R262). -/
def fromEndpoint (x : Session) (m : Msg) : Bool := decide (x.ep = m.ep)

/-- Steps 6 to 10 for a session whose tag has verified. A message that passes is queued, whatever its opcode. -/
def gateTrusted (m : Msg) (x : Session) (s : State) : State :=
  let q := msgQueue m
  let reject := fun (st d : Nat) (g : Gate) => freshEnd false m.session (replyTagged m st d [] { s with gate := g })
  if q = 3 then reject eRange 0xFFFF { s.gate with queueRejects := incr32 s.gate.queueRejects }
  else if m.freshness ≤ lastFresh x q then reject eFresh 0 { s.gate with freshRejects := incr32 s.gate.freshRejects }
  else if m.opcode / 256 = 0x0B ∧ !m.ep.viaCan then reject eDomain 0 { s.gate with domRejects := incr32 s.gate.domRejects }
  else if s.mp.restarting.isSome then
    busyReply m (acceptMsg m s)
  else if queueDepth q ≤ (queueOf x q).length then reject eFull 0 { s.gate with fullRejects := incr32 s.gate.fullRejects }
  else updSession m.session (enqueue m) (acceptMsg m s)

/-! ### The opening exchange (19 R433) -/

/-- DOMAIN of an opening request. -/
def openDomain (m : Msg) : Nat := if m.payload = [] then 4 else le m.payload 0 1

/-- A domain key; none when the Locker is zeroised. -/
def domainKey (s : State) (d : Nat) : Option (List Byte) :=
  if s.fuse.zeroised ∨ 4 ≤ d then none else s.fuse.keys[d]?

/-- SERIAL as it enters a key derivation. -/
def serialBytes (s : State) : List Byte := u64 s.fuse.serial

/-- K_OPEN of a domain (Table 19.3). -/
def openKey (s : State) (key : List Byte) : List Byte := kdf key labelOpn (serialBytes s)

/-- E_AUTH on SESSION 0 counts by domain (Table 19.10). -/
def countOpenReject (m : Msg) (s : State) : State :=
  { s with upd := { s.upd with openRejects := listUpdate s.upd.openRejects (openDomain m) incr32 } }

/-- Steps 6 to 10 for an opening request whose tag has verified. -/
def openTrusted (m : Msg) (d : Nat) (s : State) : State :=
  let q := msgQueue m
  let accept := fun (s : State) =>
    hostArrival { s with gate := { s.gate with openFresh := s.gate.openFresh.set d m.freshness } }
  if q = 3 then replyUntagged m eRange 0xFFFF { s with gate := { s.gate with queueRejects := incr32 s.gate.queueRejects } }
  else if m.freshness ≤ s.gate.openFresh.getD d 0 then
    replyUntagged m eFresh 0 { s with gate := { s.gate with freshRejects := incr32 s.gate.freshRejects } }
  else if s.mp.restarting.isSome then busyReply m (accept s)
  else if queueDepth q ≤ (openingsOf s q).length then
    replyUntagged m eFull 0 { s with gate := { s.gate with fullRejects := incr32 s.gate.fullRejects } }
  else
    let s := accept s
    { s with gate := { s.gate with openings := s.gate.openings ++ [m] } }

/-- Steps 4 and 5 on SESSION 0: only SESSION_OPEN, under K_OPEN of its domain. -/
def gateOpening (m : Msg) (signed tag : List Byte) (s : State) : State :=
  if m.opcode ≠ 0x0A01 then rejectAuth m s
  else
    match domainKey s (openDomain m) with
    | none => rejectAuth m (countOpenReject m s)
    | some k => if tagOf (openKey s k) signed = tag then openTrusted m (openDomain m) s else rejectAuth m (countOpenReject m s)

/-- Steps 1 to 5 of Table 11.5, then the rest. -/
def gateCheck (ep : Endpoint) (raw : List Byte) (s : State) : State :=
  if raw.length < 32 then { s with gate := { s.gate with runts := incr32 s.gate.runts } }
  else
    let m := parseMsg ep (tsc s) raw
    let n := raw.length - 32
    if m.version ≠ 1 then replyUntagged m eVersion 0 { s with gate := { s.gate with verRejects := incr32 s.gate.verRejects } }
    else if !lengthOk m n then
      replyUntagged m eLength (min n 0xFFFE) { s with gate := { s.gate with lenRejects := incr32 s.gate.lenRejects } }
    else
      let signed := raw.take (raw.length - 8)
      let tag := raw.drop (raw.length - 8)
      if m.session = 0 then gateOpening m signed tag s
      else
        match findSession s m.session with
        | none => rejectAuth m s
        | some x => if fromEndpoint x m && decide (tagOf x.kHm signed = tag) then gateTrusted m x s else rejectAuth m s

/-- The module receives messages from an endpoint: the state accepts them (Table 1.8); over a link port it has an address (10 R240); over
the service port the identifier is its own (10 R254). -/
def receives (s : State) (ep : Endpoint) : Bool :=
  isAny s.mode.op && (if ep.viaCan then decide (canReqId s = some ep.port) && !s.can.busOff else s.link.ip.isSome)

/-- PSIFER_MESSAGE (R269): a complete message reaches the gate. -/
def execPsiferMessage (t : Nat) (ep : Endpoint) (raw : List Byte) (s : State) : Out :=
  let s := advance t s
  if receives s ep then .next (serveUnknown (gateCheck ep raw s)) else .next s

/-! ### Sessions -/

/-- SESSION_IDLE_LOST (R264): no accepted message for SESSION_IDLE. -/
def execSessionIdleLost (t session : Nat) (s : State) : Out :=
  let s := advance t s
  match findSession s session with
  | some x =>
    if x.lastArrival + 100000000 * s.cfg.mailbox.sessionIdle < tsc s then
      .next (countLost (loseSession session (record srcGate 0x0003 session s)))
    else .next s
  | none => .next s

/-- The MP's second measure of R276: the time in tk it needs for every queued message, as a share of the window in percent, saturated at
100. -/
def queueShare (need : Nat) (s : State) : Nat := if (nextToServe s).isNone then 0 else min 100 (need / 10000)

/-- MP_LOAD_WINDOW (R276): a window has ended. DESIGN CHOICE: windows follow one another from the start of the MP, and shares are rounded down
(log entry 53). -/
def execMpLoadWindow (t : Nat) (w : LoadWindow) (s : State) : Out :=
  if 100 < w.busy then .fault .impossibleOperand
  else
    let s := advance t s
    if !mpRuns s || decide (tsc s < s.mp.loadAt + 1000000) then .next s
    else
      let load := max w.busy (queueShare w.need s)
      let s := { s with mp := { s.mp with load := load, loadAt := tsc s } }
      if 80 ≤ load ∧ !s.mp.loadHigh then .next (record srcGate 0x0005 load { s with mp := { s.mp with loadHigh := true } })
      else if load < 70 ∧ s.mp.loadHigh then .next (record srcGate 0x0006 load { s with mp := { s.mp with loadHigh := false } })
      else .next s

/-! ### Event messages (R280 to R282) -/

/-- A record in the layout of Table 1.4. -/
def recordBytes (r : EventRec) : List Byte := u64 r.tsc ++ u16 r.node ++ u16 r.source ++ u16 r.code ++ u16 r.data

/-- The records written since BOOT, in the order of R27. -/
def bootRecords (l : Log) : List LogRec := l.recs.filter fun e => decide (l.base ≤ e.num)

/-- The log sequence number of the oldest record that the log holds since BOOT (12, Diagnostics group). -/
def oldestRecord (l : Log) : Nat := l.written - (bootRecords l).length

/-- The records written since BOOT with their log sequence numbers. DEDUCED: these count the records as the log holds them, in the order of
R27, so that reads from one number to the next leave none out (log entry 52). -/
def numberedRecords (l : Log) : List (Nat × EventRec) :=
  ((bootRecords l).map (·.event)).zipIdx.map fun e => (oldestRecord l + e.2, e.1)

/-- A record is due to a session: its source passes the filter, and it has not been delivered or passed. -/
def isDue (x : Session) (e : LogRec) : Bool :=
  decide (x.evNext ≤ e.num) && !x.evDone.contains e.num && (decide (0x148 < e.event.source) || x.filter.getLsbD e.event.source)

/-- The records that wait for a session, in the order of R27. -/
def waitingRecords (s : State) (x : Session) : List LogRec := (bootRecords s.log).filter (isDue x)

/-- Records overwritten before the session received them (R282). -/
def overwritten (s : State) (x : Session) : Nat := (s.log.gone.filter (isDue x)).length

/-- A 32-bit count that saturates. -/
def sat32 (n : Nat) : Nat := min n 0xFFFFFFFF

/-- An event message (Table 11.9) is handed to the transport; it takes the session's next FRESHNESS and SEQUENCE. -/
def sendEvent (x : Session) (loss : Nat) (recs : List EventRec) (s : State) : State :=
  let fresh := x.freshOut + 1
  let body := u16 recs.length ++ u16 0 ++ u32 (sat32 loss) ++ recs.flatMap recordBytes
  let hdr := headerBytes 1 16 0x8E01 x.id x.evSeq fresh body.length 0 0
  freshEnd false x.id (pushReply (hdr ++ body)
    { ep := x.evEp, tsc := tsc s, flags := 16, opcode := 0x8E01, session := x.id, sequence := x.evSeq, freshness := fresh, context := 0,
      status := 0, detail := 0, data := body, tag := tagOf x.kMh (hdr ++ body) }
    (updSession x.id (fun x => { x with freshOut := fresh, evSeq := (x.evSeq + 1) % 65536 }) s))

/-- The delivery window of a session brought to now (R281). -/
def rollEvents (now : Nat) (x : Session) : Session :=
  if x.evWindow < windowOf now then { x with evWindow := windowOf now, evCount := 0 } else x

/-- The MP delivers events: it runs and is not restarting (R282). -/
def delivers (s : State) : Bool := mpRuns s

/-- An event message is due: 89 records wait, or 100,000 tk have passed since the oldest waiting one. -/
def eventDue (now : Nat) (w : List LogRec) : Bool :=
  decide (89 ≤ w.length) || w.any fun e => decide (e.event.tsc + 100000 ≤ now)

/-- What was overwritten is counted as lost, and the session has passed it. -/
def countGone (s : State) (x : Session) : Session :=
  let n := overwritten s x
  { x with loss := sat32 (x.loss + n), eventLoss := (x.eventLoss + n) % 4294967296, evNext := max x.evNext (firstHeld s.log) }

/-- The session is past every record but those in `rest`; `done` are numbers it has received or passed. -/
def passRecords (total : Nat) (done : List Nat) (rest : List LogRec) (x : Session) : Session :=
  let next := (rest.map (·.num)).min?.getD total
  { x with evNext := next, evDone := (x.evDone ++ done).filter fun n => decide (next < n) }

/-- Overwritten records that every session has passed are forgotten. -/
def trimGone (s : State) : State :=
  { s with log := { s.log with gone := s.log.gone.filter fun e => s.gate.sessions.any fun x => decide (x.evNext ≤ e.num) } }

/-- The waiting records are delivered, at most 89, and at most 2,000 in the window; those beyond it are not delivered and count as loss. -/
def deliverEvents (x : Session) (w : List LogRec) (s : State) : State :=
  let chunk := w.take 89
  let give := chunk.take (2000 - x.evCount)
  let missed := chunk.length - give.length
  let y := passRecords (logTotal s.log) (chunk.map (·.num)) (w.drop 89)
    { x with evCount := x.evCount + give.length, loss := if give = [] then sat32 (x.loss + missed) else missed,
             eventLoss := (x.eventLoss + missed) % 4294967296 }
  let s' := trimGone (updSession x.id (fun _ => y) s)
  if give = [] then s' else sendEvent x x.loss (give.map (·.event)) s'

/-- EVENT_MESSAGE (R280 to R282): an event message of a session, when it is due. -/
def execEventMessage (t session : Nat) (s : State) : Out :=
  let s := advance t s
  match findSession s session with
  | some x =>
    let w := waitingRecords s x
    if delivers s && eventDue (tsc s) w then .next (deliverEvents (countGone s (rollEvents (tsc s) x)) w s) else .next s
  | none => .next s

/-- A session at the start of a window: an event message with COUNT 0 reports what was lost (R281). -/
def windowEvent (s : State) (id : Nat) : State :=
  match findSession s id with
  | some x =>
    if windowOf (tsc s) ≤ x.evWindow then s
    else
      let y := countGone s (rollEvents (tsc s) x)
      let s := updSession id (fun _ => { y with loss := 0 }) s
      if y.loss = 0 then s else sendEvent y y.loss [] s
  | none => s

/-- EVENT_WINDOW_END (R281). -/
def execEventWindowEnd (t : Nat) (s : State) : Out :=
  let s := advance t s
  if delivers s then .next ((s.gate.sessions.map (·.id)).foldl windowEvent s) else .next s

/-! ### Opening a session (R262, 19 R433, R434) -/

/-- The next session number: above the one issued last, skipping 0 and numbers in use. -/
def nextSessionId (s : State) : Nat :=
  (((List.range 9).map fun k => (s.gate.lastId + k) % 65535 + 1).find? fun n => (findSession s n).isNone).getD 1

/-- The context of a session key: SERIAL, SESSION and the two nonces. -/
def keyContext (s : State) (id : Nat) (hostNonce nonce : List Byte) : List Byte := serialBytes s ++ u16 id ++ hostNonce ++ nonce

/-- The domain of a number. -/
def domainOf (d : Nat) : Domain :=
  match d with
  | 0 => .info
  | 1 => .light
  | 2 => .safety
  | _ => .service

/-- The checks of SESSION_OPEN by the MP, in the order of R433. -/
def openChecks (m : Msg) (s : State) : Check :=
  let d := openDomain m
  firstFail [
    require (isAny s.mode.op) eState,
    inRange (plainShape 20 m && decide (m.flags < 8) && decide (m.reserved = 0)) 0xFFFF,
    inRange (decide (le m.payload 1 3 = 0)) 1,
    require (decide (d ≠ 3) || m.ep.viaCan) eState,
    require (decide (s.mode.op ≠ .loader) || decide (d = 0) || decide (d = 3)) eState,
    require (decide (s.gate.sessions.length < 8)) eCapacity ]

/-- The session opens and the reply, under the new K_MH, carries FRESHNESS 1. -/
def openSession (m : Msg) (key nonce : List Byte) (s : State) : State :=
  let id := nextSessionId s
  let ctx := keyContext s id ((m.payload.drop 4).take 16) nonce
  let kMh := kdf key labelM2h ctx
  let data := u16 id ++ u16 0 ++ nonce
  let flags := msgQueue m
  let body := u16 eOk ++ u16 0 ++ data
  let hdr := headerBytes 1 flags 0x8A01 0 m.sequence 1 body.length 0 m.context
  let x : Session :=
    { id := id, domain := domainOf (openDomain m), ep := m.ep, evEp := m.ep, freshOut := if msgNoReply m then 0 else 1,
      lastArrival := m.arrival, opened := tsc s, kHm := kdf key labelH2m ctx, kMh := kMh, evNext := logTotal s.log,
      evWindow := windowOf (tsc s) }
  let s := { s with gate := { s.gate with sessions := s.gate.sessions ++ [x], lastId := id },
                    upd := { s.upd with opens := incr32 s.upd.opens } }
  let s := record srcGate 0x0001 id s
  if msgNoReply m then noteServed m eOk none s s
  else
    noteServed m eOk (some kMh) s <| pushReply (hdr ++ body)
      { ep := m.ep, tsc := tsc s, flags := flags, opcode := 0x8A01, session := 0, sequence := m.sequence, freshness := 1,
        context := m.context, status := eOk, detail := 0, data := data, tag := tagOf kMh (hdr ++ body) } s

/-- SESSION_OPEN (19 R433): the MP serves an opening request; `nonce` is MODULE_NONCE. On an open session the request names the wrong
session in its header. -/
def execSessionOpen (t : Nat) (m : Msg) (nonce : List Byte) (s : State) : Out :=
  if nonce.length ≠ 16 then .fault .impossibleOperand
  else
    let s := serveUnknown (advance t s)
    if !(mpRuns s && decide (nextToServe s = some m) && decide (m.opcode = 0x0A01)) then .next s
    else
      let s := dequeue m s
      if m.session ≠ 0 then .next (serveUnknown (answered m eRange 0xFFFF [] s))
      else
        match openChecks m s with
        | some e => .next (serveUnknown (noteServed m e.1 none s (replyUntagged m e.1 e.2 s)))
        | none =>
          match domainKey s (openDomain m) with
          | none => .next (serveUnknown (noteServed m eAuth none s (replyUntagged m eAuth 0 s)))
          | some k => .next (serveUnknown (openSession m k nonce s))

def rowSessionClose : Row := { opcode := 0x0A02, domain := .info, states := isAny, shape := plainShape 0 }

/-- SESSION_CLOSE (11 R264): answered under the session's key; the session is lost once the reply has been handed over. -/
def execSessionClose (t : Nat) (m : Msg) (s : State) : Out :=
  serveThen t rowSessionClose unitFree m
    (fun s => .ok [] s) (fun s => if (findSession s m.session).isSome then loseSession m.session (record srcGate 0x0002 m.session s) else s) s

end Sys2Proof.Machine
end

