-- ==== Sys2Proof/Machine/System.lean ====
section
/-! DEFINITION. The system group but READ_WORD (12 Table 12.5). -/

namespace Sys2Proof.Machine

/-! ### CAPS and PING -/

/-- An Ethernet address in transmission order. -/
def macBytes (mac : Nat) : List Byte := (List.range 6).map fun k => BitVec.ofNat 8 (mac / 2 ^ (8 * (5 - k)))

/-- FW_VERSION of CAPS: in LOADER that of the image in the slot, 0 when none is valid (Table 12.3). -/
def capsVersion (s : State) : Nat :=
  if s.mode.op = .loader then (if s.upd.loaderCause = 0 then 0 else s.flash.control.fwVersion) else s.upd.fwVersion

/-- The CAPS reply (Table 12.3). -/
def capsData (s : State) : List Byte :=
  u32 (unitsPresent s) ++ macBytes s.fuse.mac ++ u8 s.fuse.lifecycle ++ u8 1 ++ u32 (capsVersion s) ++ u32 s.fuse.loaderVersion
    ++ u16 8 ++ u16 s.fuse.rollback ++ u64 s.fuse.serial

def rowCaps : Row := { opcode := 0x0101, domain := .info, states := isAny, shape := plainShape 0 }

/-- CAPS (R294, Table 12.3). -/
def execCaps (t : Nat) (m : Msg) (s : State) : Out := serve t rowCaps unitFree m (fun s => .ok (capsData s) s) s

/-- The PING reply (Table 12.14). -/
def pingData (s : State) : List Byte := u64 (tsc s) ++ u16 (moduleState s) ++ u16 0

def rowPing : Row := { opcode := 0x0103, domain := .info, states := isAny, shape := plainShape 0 }

/-- PING. -/
def execPing (t : Nat) (m : Msg) (s : State) : Out := serve t rowPing unitFree m (fun s => .ok (pingData s) s) s

/-! ### RESET (R292) -/

/-- KIND of RESET. -/
def resetKind (m : Msg) : Nat := le m.payload 0 1

/-- The fields of RESET (Table 12.14), then E_STATE for KIND 1 in LOADER. -/
def resetChecks (m : Msg) (s : State) : List Check :=
  [ inRange (decide (resetKind m ≤ 1)) 0, inRange (decide (le m.payload 1 3 = 0)) 1,
    require (decide (resetKind m = 0) || decide (s.mode.op ≠ .loader)) eState ]

def rowResetModule : Row :=
  { opcode := 0x0104, domain := .service, states := isAny, shape := plainShape 4, mine := fun m => decide (resetKind m ≠ 1) }

/-- RESET with KIND 0 (R292): the reply is handed over first, then the module resets. -/
def execResetModule (t : Nat) (m : Msg) (boot : BootInputs) (s : State) : Out :=
  serveThen t rowResetModule unitFree m (fun s => checked (resetChecks m s) (.ok [] s)) (warmStart boot) s

def rowResetMp : Row :=
  { opcode := 0x0104, domain := .service, states := isAny, shape := plainShape 4, mine := fun m => decide (resetKind m = 1) }

/-- RESET with KIND 1: the MP restarts alone (01 R16), after its reply. -/
def execResetMpOnly (t : Nat) (m : Msg) (s : State) : Out :=
  serveThen t rowResetMp unitFree m (fun s => checked (resetChecks m s) (.ok [] s)) (beginMpRestart false false) s

/-! ### SETTINGS_STORE (R291) -/

/-- E_BUSY while the same long operation runs. -/
def busyLong (s : State) (opcode : Nat) : Check := require (!isRunning s opcode) eBusy

/-- E_TEMP while the flash interlock forbids flash work (18 R425). -/
def tempCheck (s : State) : Check := require s.pwr.flashAllowed eTemp

def rowSettingsStore : Row := { opcode := 0x0105, domain := .service, states := isFw, shape := plainShape 0 }

/-- SETTINGS_STORE: the settings are taken, and the store starts. -/
def execSettingsStore (t : Nat) (m : Msg) (s : State) : Out :=
  serve t rowSettingsStore unitFree m (fun s =>
    checked [busyLong s 0x0105, tempCheck s] (.ok [] (startLong m { s with mp := { s.mp with storeSettings := s.cfg } }))) s

/-- The outcome of a store (R291): E_TEMP before the first erase while the interlock forbids flash work, a pause after it, else the
work. -/
def storeOutcome (opcode : Nat) (erased : Bool) (work : State → State) (s : State) : State :=
  if !isRunning s opcode then s
  else if s.pwr.flashAllowed then endLong opcode eOk (work s)
  else if erased then s
  else endLong opcode eTemp s

/-- SETTINGS_STORE_OUTCOME: the record in the settings ring is written. -/
def execSettingsStoreOutcome (t : Nat) (erased : Bool) (s : State) : Out :=
  .next (storeOutcome 0x0105 erased (fun s => writeSettings (imgSettingsFormat s) s.mp.storeSettings s) (advance t s))

/-! ### Configuration writes -/

/-- A unicast IPv4 address. -/
def isUnicast (ip : Nat) : Bool := between (ip / 16777216) 1 223

/-- The fields of LINK_CONFIG in a payload (Table 10.10); HOST_TIMEOUT is kept. -/
def linkConfigOf (p : List Byte) (old : LinkConfig) : LinkConfig :=
  { speedA := le p 0 1, speedB := le p 1 1, phyRole := le p 2 1, addrMode := le p 3 1, ipAddr := ipAt p 4, ipBase := ipAt p 8,
    prefixLen := le p 12 1, psiferPcp := le p 13 1, vlanId := le p 14 2, monDestIp := ipAt p 16, monDestPort := le p 20 2,
    hostTimeout := old.hostTimeout, mcastGroup := ipAt p 24 }

/-- PREFIX is in its range; the host bits of IP_BASE are those it leaves. -/
def prefixOk (c : LinkConfig) : Bool := between c.prefixLen 8 (if c.addrMode = 1 then 22 else 30)

/-- The ranges of Table 10.10. -/
def linkConfigChecks (c : LinkConfig) (reserved : Nat) : List Check :=
  [ inRange (decide (c.speedA ≤ 3)) 0, inRange (decide (c.speedB ≤ 3)) 1, inRange (decide (c.phyRole ≤ 3)) 2,
    inRange (decide (c.addrMode ≤ 1)) 3, inRange (decide (c.addrMode = 1) || isUnicast c.ipAddr) 4,
    inRange (!prefixOk c || decide (c.ipBase % 2 ^ (32 - c.prefixLen) = 0)) 8,
    inRange (prefixOk c) 12, inRange (decide (c.psiferPcp ≤ 7)) 13,
    inRange (decide (c.vlanId ≤ 4094)) 14, inRange (isUnicast c.monDestIp) 16, inRange (decide (1024 ≤ c.monDestPort)) 20,
    inRange (decide (c.mcastGroup = 0) || between (c.mcastGroup / 16777216) 224 239) 24, inRange (decide (reserved = 0)) 28 ]

def rowLinkConfig : Row := { opcode := 0x0106, domain := .service, states := isFw, shape := plainShape 32 }

/-- LINK_CONFIG_WRITE (10 R258): applies at the next BOOT. -/
def execLinkConfigWrite (t : Nat) (m : Msg) (s : State) : Out :=
  serve t rowLinkConfig unitFree m (fun s =>
    let c := linkConfigOf m.payload s.cfg.link
    checked (linkConfigChecks c (le m.payload 28 4)) (.ok [] { s with cfg := { s.cfg with link := c } })) s

/-- The fields of CAN_CONFIG (Table 10.11). -/
def canConfigOf (p : List Byte) : CanConfig :=
  { nominal := le p 0 1, dataRate := le p 1 1, base := le p 2 2, indexMode := le p 4 1, index := le p 6 2 }

/-- The ranges of Table 10.11. -/
def canConfigChecks (c : CanConfig) (reserved : Nat) : List Check :=
  [ inRange (decide (c.nominal ≤ 1)) 0, inRange (decide (c.dataRate ≤ 2)) 1, inRange (decide (c.base ≤ 0x7FE) && decide (c.base % 2 = 0)) 2,
    inRange (decide (c.indexMode ≤ 1)) 4, inRange (decide (reserved = 0)) 5, inRange (decide (c.index ≤ 1023)) 6 ]

def rowCanConfig : Row := { opcode := 0x0107, domain := .service, states := isFw, shape := plainShape 8 }

/-- CAN_CONFIG_WRITE (10 R259): applies at the next BOOT. -/
def execCanConfigWrite (t : Nat) (m : Msg) (s : State) : Out :=
  serve t rowCanConfig unitFree m (fun s =>
    let c := canConfigOf m.payload
    checked (canConfigChecks c (le m.payload 5 1)) (.ok [] { s with cfg := { s.cfg with can := c } })) s

def rowMailboxConfig : Row := { opcode := 0x0108, domain := .service, states := isFw, shape := plainShape 8 }

/-- MAILBOX_CONFIG_WRITE (11 R283): takes effect at once. -/
def execMailboxConfigWrite (t : Nat) (m : Msg) (s : State) : Out :=
  serve t rowMailboxConfig unitFree m (fun s =>
    let c : MailboxConfig := { sessionIdle := le m.payload 0 2, authBurst := le m.payload 2 2 }
    checked [inRange (between c.sessionIdle 1 3600) 0, inRange (between c.authBurst 16 1024) 2, inRange (decide (le m.payload 4 4 = 0)) 4]
      (.ok [] { s with cfg := { s.cfg with mailbox := c } })) s

end Sys2Proof.Machine
end

