-- ==== Sys2Proof/Machine/DrawerMsgs.lean ====
section
/-! DEFINITION. The drawer group but COMMIT (12 Table 12.6): CREATE, CONFIGURE, PLACE, RELEASE, DESTROY, FLIP, ABORT, the uploads. -/

namespace Sys2Proof.Machine

/-! ### Which drawer -/

/-- A handle of a fixed drawer (R142). -/
def isFixed (m : Msg) : Bool := decide (msgHandle m = 0x0100) || decide (msgHandle m = 0x0101)

/-- E_DOMAIN for a fixed drawer (12 R295). -/
def generalCheck (m : Msg) : Check := require (!isFixed m) eDomain

/-- E_HANDLE, E_DOMAIN, and E_BUSY for RETIRING or another session's pending changes, in this order. -/
def drawerChecks (s : State) (m : Msg) : List Check := [handleCheck s m, generalCheck m, retiringCheck s m, pendCheck s m]

/-- A pending change added to a drawer. -/
def addPending (m : Msg) (f : Pending → Pending) (s : State) : State :=
  updSlot (msgSlot m) (fun sl => { sl with pend := some (f (sl.pend.getD { session := m.session })) }) s

/-! ### CREATE (R141, R144, R147) -/

/-- The lowest FREE general slot. -/
def freeSlot (s : State) : Option Nat := ((List.range 256).drop 2).find? fun n => (slotAt s n).st = .free

/-- The fields and the named slot of CREATE, in the order of the row. -/
def createChecks (m : Msg) (s : State) : List Check :=
  let ty := le m.payload 0 1
  let given := decide (le m.payload 1 1 = 1)
  let n := le m.payload 2 1
  let st := (slotAt s n).st
  [ require (!(decide (ty = 2) && !hasShade s) && !(decide (ty = 3) && !hasGlyph s)) eAbsent,
    inRange (decide (ty ≤ 4)) 0, inRange (decide (le m.payload 1 1 ≤ 1)) 1, inRange (given || decide (n = 0)) 2,
    inRange (decide (le m.payload 3 1 = 0)) 3,
    require (!given || decide (2 ≤ n) && decide (st ≠ .opened) && decide (st ≠ .placed)) eState,
    require (!given || decide (st ≠ .retiring)) eBusy,
    require (given || (freeSlot s).isSome) eCapacity ]

/-- The slot CREATE takes. -/
def createSlot (m : Msg) (s : State) : Nat := if le m.payload 1 1 = 1 then le m.payload 2 1 else (freeSlot s).getD 0

/-- A FREE slot is taken: OPEN, with the next generation and a descriptor of zeros but for its type (R141, Table 6.5). -/
def openSlot (n ty : Nat) (s : State) : State :=
  updSlot n (fun sl => { gen := sl.gen % 255 + 1, st := .opened, desc := { type := ty } }) s

def rowCreate : Row := { opcode := 0x0201, domain := .light, states := isFw, shape := plainShape 4 }

/-- CREATE. -/
def execCreate (t : Nat) (m : Msg) (s : State) : Out :=
  serve t rowCreate unitFree m (fun s =>
    let n := createSlot m s
    let s' := openSlot n (le m.payload 0 1) s
    checked (createChecks m s) (.ok (u16 (handleOf s' n) ++ u16 0) s')) s

/-! ### CONFIGURE (R145, R173, R192) -/

/-- A descriptor from its bytes (Table 6.4). -/
def descriptorOf (p : List Byte) : Descriptor :=
  { type := le p 0 1, format := le p 1 1, tier := le p 2 1, operator := le p 3 1, isStatic := decide (le p 4 1 % 2 = 1),
    mirrorX := decide (le p 4 1 / 2 % 2 = 1), mirrorY := decide (le p 4 1 / 4 % 2 = 1), stalePolicy := le p 5 1, staleLimit := le p 6 2,
    srcW := le p 8 2, srcH := le p 10 2, cropX := le p 12 2, cropY := le p 14 2, cropW := le p 16 2, cropH := le p 18 2,
    dstX := leS p 20 2, dstY := leS p 22 2, dstW := le p 24 2, dstH := le p 26 2, vtaps := le p 28 1, buffers := le p 29 1,
    curve := le p 30 1, stream := le p 32 2 }

/-- MUL is allowed: FORMAT A8 of a buffered drawer, or a SHADE drawer (Table 6.4). -/
def mulAllowed (d : Descriptor) : Bool := decide (d.type = 2) || hasBuffers d && decide (d.format = 3)

/-- An operator the drawer may carry: SHADE only MIN or MUL, GLYPH only MAX or ADD (R192). -/
def operatorOk (d : Descriptor) (op : Nat) : Bool :=
  decide (op ≤ 4) && (decide (op ≠ 2) || mulAllowed d)
    && (match d.type with
      | 2 => decide (op = 2) || decide (op = 3)
      | 3 => decide (op ≤ 1)
      | _ => true)

/-- A scale of 0.25 to 8. -/
def ratioOk (dst crop : Nat) : Bool := between dst 1 8192 && decide (crop ≤ 4 * dst) && decide (dst ≤ 8 * crop)

/-- The ranges of Table 6.4 with R173 and R192, in the order of the fields; `ty` is the drawer's type. -/
def descriptorChecks (ty : Nat) (p : List Byte) : List Check :=
  let d := descriptorOf p
  let buf := hasBuffers d
  let video := decide (d.type = 0)
  [ inRange (decide (d.type = ty)) 0,
    inRange (if buf then decide (d.format ≤ 4) else decide (d.format = 0)) 1,
    inRange (operatorOk d d.operator) 3,
    inRange (decide (le p 4 1 ≤ 7) && (!d.isStatic || decide (ty = 1) || decide (ty = 4))
      && (!(d.mirrorX || d.mirrorY) || !(decide (ty = 2) || decide (ty = 3)))) 4,
    inRange (decide (d.stalePolicy ≤ (if video then 2 else 0))) 5,
    inRange (if video then between d.staleLimit 1 1000 else decide (d.staleLimit = 0)) 6,
    inRange (between d.srcW 1 6144) 8, inRange (between d.srcH 1 2560) 10,
    inRange (if buf then decide (d.cropX < d.srcW) else decide (d.cropX = 0)) 12,
    inRange (if buf then decide (d.cropY < d.srcH) else decide (d.cropY = 0)) 14,
    inRange (if buf then between d.cropW 1 (d.srcW - d.cropX) else decide (d.cropW = d.srcW)) 16,
    inRange (if buf then between d.cropH 1 (d.srcH - d.cropY) else decide (d.cropH = d.srcH)) 18,
    inRange (decide (-4096 ≤ d.dstX) && decide (d.dstX ≤ 2047)) 20, inRange (decide (-2560 ≤ d.dstY) && decide (d.dstY ≤ 639)) 22,
    inRange (ratioOk d.dstW d.cropW && (buf || decide (d.dstW = d.cropW))) 24,
    inRange (ratioOk d.dstH d.cropH && (buf || decide (d.dstH = d.cropH))) 26,
    inRange (if buf then [2, 4, 6].contains d.vtaps || decide (d.vtaps = 0) && !isScaled d else decide (d.vtaps = 0)) 28,
    inRange (if video then between d.buffers 2 3 else decide (d.buffers = 0)) 29,
    inRange (decide (d.curve ≤ (if buf && decide (d.format = 2) then 7 else 0))) 30, inRange (decide (le p 31 1 = 0)) 31,
    inRange (decide (video = decide (d.stream ≠ 0))) 32, inRange (decide (le p 34 2 = 0)) 34 ]

/-- The parameter block of a type (Tables 7.3 and 8.1), at offset 36. -/
def paramsOf (ty : Nat) (p : List Byte) : Params :=
  match ty with
  | 4 =>
    { kind := le p 36 1, originX := leS p 38 2, originY := leS p 40 2, dirX := leS p 42 2, dirY := leS p 44 2, length := le p 46 2,
      profile := (List.range 17).map fun k => le p (50 + 2 * k) 2 }
  | 2 => { horizon := le p 36 2 }
  | _ => {}

/-- The ranges of the parameter block. -/
def paramsChecks (ty : Nat) (p : List Byte) : List Check :=
  let q := paramsOf ty p
  match ty with
  | 4 =>
    let linear := decide (q.kind = 1)
    [ inRange (decide (q.kind ≤ 2)) 36, inRange (decide (le p 37 1 = 0)) 37,
      inRange (if linear then decide (q.dirX ≠ 0) || decide (q.dirY ≠ 0) else decide (q.dirX = 0)) 42,
      inRange (linear || decide (q.dirY = 0)) 44, inRange (decide (1 ≤ q.length)) 46, inRange (decide (le p 48 2 = 0)) 48 ]
  | 2 => [ inRange (between q.horizon 1 1000) 36, inRange (decide (le p 38 2 = 0)) 38 ]
  | _ => []

/-- LENGTH of CONFIGURE for a type. -/
def configureLength (ty : Nat) : Nat :=
  match ty with
  | 4 => 84
  | 2 => 40
  | _ => 36

def rowConfigure : Row :=
  { opcode := 0x0202, domain := .light, states := isFw, shape := fun m => [36, 40, 84].contains m.length && decide (m.context < 65536) }

/-- A CONFIGURE of 40 bytes writes SHADE parameters, which a module without the shade engine answers E_ABSENT (00 R4, 08 R210). -/
def configureAbsent (m : Msg) (s : State) : Bool := decide (m.length = 40) && !hasShade s

/-- LENGTH fits the type of the drawer that a valid handle names (12 R289, step 5). -/
def configureFits (s : State) (m : Msg) : Check :=
  if handleValid s (m.context % 65536) && !isFixed m then inRange (decide (m.length = configureLength (slotAt s (msgSlot m)).desc.type)) 0xFFFF else none

/-- CONFIGURE: a pending change. -/
def execConfigure (t : Nat) (m : Msg) (s : State) : Out :=
  serve t rowConfigure (configureAbsent m) m (fun s =>
    let ty := (slotAt s (msgSlot m)).desc.type
    checked (configureFits s m :: drawerChecks s m ++ descriptorChecks ty m.payload ++ paramsChecks ty m.payload)
      (.ok [] (addPending m (fun p => { p with configure := some (descriptorOf m.payload, paramsOf ty m.payload) }) s))) s

/-! ### PLACE, RELEASE, DESTROY -/

/-- E_STATE unless the drawer is in the state. -/
def stateCheck (s : State) (m : Msg) (st : SlotState) : Check := require (decide ((slotAt s (msgSlot m)).st = st)) eState

def rowPlace : Row := { opcode := 0x0203, domain := .light, states := isFw, shape := handleShape 0 }

/-- PLACE: a pending change of an OPEN drawer. -/
def execPlace (t : Nat) (m : Msg) (s : State) : Out :=
  serve t rowPlace unitFree m (fun s =>
    checked (drawerChecks s m ++ [stateCheck s m .opened]) (.ok [] (addPending m (fun p => { p with place := true }) s))) s

/-- E_HANDLE, E_STATE for a fixed drawer (12 R295), E_BUSY. -/
def takeOutChecks (s : State) (m : Msg) : List Check :=
  [handleCheck s m, require (!isFixed m) eState, retiringCheck s m, pendCheck s m]

def rowRelease : Row := { opcode := 0x0204, domain := .light, states := isFw, shape := handleShape 0 }

/-- RELEASE: a pending change of a PLACED drawer. -/
def execRelease (t : Nat) (m : Msg) (s : State) : Out :=
  serve t rowRelease unitFree m (fun s =>
    checked (takeOutChecks s m ++ [stateCheck s m .placed]) (.ok [] (addPending m (fun p => { p with release := true }) s))) s

def rowDestroy : Row := { opcode := 0x0205, domain := .light, states := isFw, shape := handleShape 0 }

/-- DESTROY: a pending change. -/
def execDestroy (t : Nat) (m : Msg) (s : State) : Out :=
  serve t rowDestroy unitFree m (fun s =>
    checked (takeOutChecks s m) (.ok [] (addPending m (fun p => { p with destroy := true }) s))) s

/-! ### FLIP (R154, R209) -/

/-- The bytes of a back buffer or back table. -/
def backBytes (sl : Slot) : List Byte :=
  if sl.desc.type = 3 then memReadList 0 sl.glyphBack 0 (le (memReadList 0 sl.glyphBack 8 4) 0 4)
  else memReadList 0 (sl.buffers.getD (backIndex sl) {}).data 0 (bufferBytes sl.desc)

/-- The back buffer or table may be flipped: a PLACED STILL drawer, or a PLACED GLYPH drawer with a sealed table. -/
def flippable (sl : Slot) : Bool :=
  decide (sl.st = .placed) && (decide (sl.desc.type = 1) || decide (sl.desc.type = 3) && sl.sealed)

def rowFlip : Row := { opcode := 0x0206, domain := .light, states := isFw, shape := handleShape 8 }

/-- The checks of FLIP: its fields, then those of the row. -/
def flipChecks (m : Msg) (s : State) : List Check :=
  let flags := le m.payload 0 1
  let sl := slotAt s (msgSlot m)
  [ inRange (decide (flags ≤ 1)) 0, inRange (decide (le m.payload 1 3 = 0)) 1, inRange (decide (flags = 1) || decide (le m.payload 4 4 = 0)) 4 ]
    ++ drawerChecks s m
    ++ [require sl.flipUntil.isNone eBusy, require (flippable sl) eState]

/-- The flip becomes a pending change. -/
def flipWork (m : Msg) (s : State) : Answer := .ok [] (addPending m (fun p => { p with flip := true }) s)

/-- FLIP: with CHECK set, only when the CRC of the back buffer or table agrees. -/
def execFlip (t : Nat) (m : Msg) (s : State) : Out :=
  serve t rowFlip unitFree m (fun s =>
    checked (flipChecks m s)
      (if le m.payload 0 1 = 0 then flipWork m s
       else crcGuard (crc32 (backBytes (slotAt s (msgSlot m)))) (le m.payload 4 4) (flipWork m) s)) s

/-! ### ABORT -/

/-- Pending changes of a session: drawers, curve tables, blend program. -/
def pendingCount (s : State) (id : Nat) : Nat :=
  (s.drw.slots.filter fun sl => sl.pend.elim false fun p => decide (p.session = id)).length
    + (s.drw.pendCurves.filter fun c => decide (c.1 = id)).length
    + (if s.drw.pendBlend.elim false fun b => decide (b.1 = id) then 1 else 0)

def rowAbort : Row := { opcode := 0x0208, domain := .light, states := isFw, shape := plainShape 0 }

/-- ABORT (R148). -/
def execAbort (t : Nat) (m : Msg) (s : State) : Out :=
  serve t rowAbort unitFree m (fun s => .ok (u16 (pendingCount s m.session) ++ u16 0) (dropPending m.session s)) s

/-! ### Uploads -/

/-- Offset of CHUNK_WRITE: CONTEXT [47:16]. -/
def chunkOffset (m : Msg) : Nat := m.context / 65536

/-- Where a chunk may be written: the length of the back buffer or back table. -/
def backLength (sl : Slot) : Nat := if sl.desc.type = 3 then 16384 else bufferBytes sl.desc

/-- A flip that is pending or accepted holds the back buffer (R154). -/
def flipHolds (sl : Slot) : Bool := sl.flipUntil.isSome || sl.pend.elim false (·.flip)

/-- The checks of CHUNK_WRITE. -/
def chunkChecks (m : Msg) (s : State) : List Check :=
  let sl := slotAt s (msgSlot m)
  [ handleCheck s m, generalCheck m,
    require (decide (sl.desc.type = 3) || decide (sl.desc.type = 1) && decide (sl.st = .placed)) eState,
    require (!flipHolds sl) eBusy, inRange (decide (chunkOffset m + m.length ≤ backLength sl)) 0xFFFF ]

/-- The chunk written; a glyph table is unsealed by it (R209). -/
def writeChunk (off : Nat) (data : List Byte) (sl : Slot) : Slot :=
  if sl.desc.type = 3 then { sl with glyphBack := memWriteList 0 sl.glyphBack off data, sealed := false, backSegs := 0 }
  else { sl with buffers := listUpdate sl.buffers (backIndex sl) fun b => { b with data := memWriteList 0 b.data off data } }

def rowChunkWrite : Row :=
  { opcode := 0x0209, domain := .light, states := isFw, shape := fun m => between m.length 1 1440 && decide (m.context < 2 ^ 48) }

/-- CHUNK_WRITE (12 R296). -/
def execChunkWrite (t : Nat) (m : Msg) (s : State) : Out :=
  serve t rowChunkWrite unitFree m (fun s =>
    checked (chunkChecks m s) (.ok [] (updSlot (msgSlot m) (writeChunk (chunkOffset m) m.payload) s))) s

def rowCurveWrite : Row := { opcode := 0x020A, domain := .light, states := isFw, shape := fun m => decide (m.length = 512) && decide (m.context < 8) }

/-- CURVE_WRITE (R169): a pending change. -/
def execCurveWrite (t : Nat) (m : Msg) (s : State) : Out :=
  serve t rowCurveWrite unitFree m (fun s =>
    let table := m.context
    let others := s.drw.pendCurves.filter fun c => decide (c.2.1 ≠ table)
    checked [require (!s.drw.pendCurves.any fun c => decide (c.2.1 = table) && decide (c.1 ≠ m.session)) eBusy]
      (.ok [] { s with drw := { s.drw with pendCurves := others ++ [(m.session, table, (List.range 256).map fun k => le m.payload (2 * k) 2)] } })) s

/-! ### BLEND_PROGRAM_WRITE (R176) -/

/-- A step from its 12 bytes (Table 7.5). -/
def blendStepOf (p : List Byte) (k : Nat) : BlendStep :=
  let o := 4 + 12 * k
  { handle := le p o 2, operator := le p (o + 2) 1, regionEn := decide (le p (o + 3) 1 % 2 = 1), x0 := le p (o + 4) 2, y0 := le p (o + 6) 2,
    x1 := le p (o + 8) 2, y1 := le p (o + 10) 2 }

/-- The steps of a program. -/
def blendSteps (p : List Byte) : List BlendStep := (List.range (le p 0 1)).map (blendStepOf p)

/-- The descriptor a drawer has or is about to have. -/
def nextDesc (s : State) (n : Nat) : Descriptor :=
  let sl := slotAt s n
  (sl.pend.bind (·.configure)).elim sl.desc (·.1)

/-- The checks of step `k`: a handle named twice, an operator the drawer may not carry, flags, the region. -/
def blendStepChecks (s : State) (p : List Byte) (k : Nat) : List Check :=
  let o := 4 + 12 * k
  let b := blendStepOf p k
  let named := handleValid s b.handle
  [ inRange (!(List.range k).any fun j => decide ((blendStepOf p j).handle = b.handle)) o,
    inRange (decide (b.operator ≤ 4) && (!named || operatorOk (nextDesc s (b.handle % 256)) b.operator)) (o + 2),
    inRange (decide (le p (o + 3) 1 ≤ 1)) (o + 3),
    inRange (if b.regionEn then decide (b.x0 ≤ 2047) && decide (b.x0 ≤ b.x1) else decide (b.x0 = 0)) (o + 4),
    inRange (if b.regionEn then decide (b.y0 ≤ 639) && decide (b.y0 ≤ b.y1) else decide (b.y0 = 0)) (o + 6),
    inRange (if b.regionEn then decide (b.x1 ≤ 2047) else decide (b.x1 = 0)) (o + 8),
    inRange (if b.regionEn then decide (b.y1 ≤ 639) else decide (b.y1 = 0)) (o + 10) ]

/-- The checks of a program. -/
def blendChecks (m : Msg) (s : State) : List Check :=
  let n := le m.payload 0 1
  [ inRange (decide (n ≤ 32)) 0, inRange (decide (le m.payload 1 3 = 0)) 1 ]
    ++ (List.range (min n 32)).flatMap (blendStepChecks s m.payload)
    ++ [require (s.drw.pendBlend.elim true fun b => decide (b.1 = m.session)) eBusy]

def rowBlendProgram : Row :=
  { opcode := 0x020B, domain := .light, states := isFw,
    shape := fun m => decide (4 ≤ m.length) && decide (m.length = 4 + 12 * le m.payload 0 1) && decide (m.context = 0) }

/-- BLEND_PROGRAM_WRITE: a pending change. -/
def execBlendProgramWrite (t : Nat) (m : Msg) (s : State) : Out :=
  serve t rowBlendProgram unitFree m (fun s =>
    checked (blendChecks m s) (.ok [] { s with drw := { s.drw with pendBlend := some (m.session, blendSteps m.payload) } })) s

end Sys2Proof.Machine
end

