-- ==== Sys2Proof/Machine/CommitMsg.lean ====
section
/-! DEFINITION. COMMIT (06 R149 to R159, R467, Table 6.6). -/

namespace Sys2Proof.Machine

/-! ### What the session commits -/

/-- The drawers with pending changes of a session: slot and changes. -/
def sessionPending (s : State) (id : Nat) : List (Nat × Pending) :=
  (s.drw.slots.zipIdx).filterMap fun e =>
    match e.1.pend with
    | some p => if p.session = id then some (e.2, p) else none
    | none => none

/-- The drawer leaves or does not enter the frame set. -/
def takesOut (p : Pending) : Bool := p.release || p.destroy

/-- The row a drawer has after its changes. -/
def rowAfter (s : State) (n : Nat) (p : Pending) : TableRow :=
  let sl := slotAt s n
  match p.configure with
  | some c => { slot := n, desc := c.1, params := c.2 }
  | none => { slot := n, desc := sl.desc, params := sl.params }

/-- The frame set after the changes of one drawer. -/
def tableAfter (s : State) (table : List TableRow) (e : Nat × Pending) : List TableRow :=
  let others := table.filter fun r => r.slot ≠ e.1
  if takesOut e.2 then others
  else if e.2.place || table.any (fun r => r.slot = e.1) then others ++ [rowAfter s e.1 e.2]
  else table

/-- A CONFIGURE of a PLACED VIDEO or STILL drawer gives it new buffers (R467). -/
def reshapes (s : State) (e : Nat × Pending) : Bool :=
  let sl := slotAt s e.1
  match e.2.configure with
  | some c =>
    decide (sl.st = .placed) && hasBuffers sl.desc && !takesOut e.2
      && (decide (c.1.format ≠ sl.desc.format) || decide (c.1.srcW ≠ sl.desc.srcW) || decide (c.1.srcH ≠ sl.desc.srcH)
        || decide (c.1.buffers ≠ sl.desc.buffers))
  | none => false

/-- The flip is carried out: not with RELEASE or DESTROY (R165), nor with new buffers. -/
def flips (s : State) (e : Nat × Pending) : Bool := e.2.flip && !takesOut e.2 && !reshapes s e

/-- The whole commit: what it changes and what it leaves. -/
structure Proposal where
  changes : List (Nat × Pending)
  table : List TableRow
  curves : List (Nat × List Nat)
  newBlend : Bool
  blend : List BlendStep
deriving DecidableEq, Repr

/-- The proposal of a session, on the set that the earlier accepted COMMITs leave. -/
def proposal (s : State) (id : Nat) : Proposal :=
  let ch := sessionPending s id
  let nb := s.drw.pendBlend.filter fun b => b.1 = id
  { changes := ch, table := ch.foldl (tableAfter s) (lastTable s),
    curves := (s.drw.pendCurves.filter fun c => c.1 = id).map fun c => (c.2.1, c.2.2),
    newBlend := nb.isSome, blend := nb.elim (lastBlend s) (·.2) }

/-- The commit holds nothing. -/
def Proposal.isEmpty (p : Proposal) : Bool := p.changes = [] && p.curves = [] && !p.newBlend

/-! ### Checks (Table 6.6) -/

/-- A drawer has had a CONFIGURE applied, or has one in this commit. -/
def everConfigured (s : State) (p : Proposal) (r : TableRow) : Bool :=
  (slotAt s r.slot).configured || p.changes.any fun e => decide (e.1 = r.slot) && e.2.configure.isSome

/-- FRONT_SEGMENTS a GLYPH drawer will have: of the back table when a flip is accepted or in this commit. -/
def segmentsAfter (s : State) (p : Proposal) (r : TableRow) : Nat :=
  let sl := slotAt s r.slot
  if r.desc.type ≠ 3 then 0
  else if p.changes.any (fun e => decide (e.1 = r.slot) && flips s e) || s.drw.commits.any (fun c => c.flips.contains r.slot) then sl.backSegs
  else sl.frontSegs

/-- A blend step names a drawer of the set. -/
def stepNames (s : State) (table : List TableRow) (b : BlendStep) : Bool :=
  table.any (fun r => r.slot = b.handle % 256) && handleValid s b.handle

/-- The checks of Table 6.6 before placement. -/
def commitChecks (s : State) (p : Proposal) : List Check :=
  let n := fun (ty : Nat) => (p.table.filter fun r => r.desc.type = ty).length
  let scaled := p.table.filter fun r => isScaled r.desc
  [ require (p.table.all (everConfigured s p)) eState,
    require (decide (p.table.length ≤ 32) && decide (scaled.length ≤ 4) && decide (n 2 ≤ 8) && decide (n 3 ≤ 4)
      && decide ((p.table.map (segmentsAfter s p)).foldl (· + ·) 0 ≤ 8192)) eCapacity,
    require (scaled.all fun r => decide (r.desc.cropW * r.desc.vtaps ≤ 12288)) eLinebuf,
    require (p.blend.all (stepNames s p.table)) eHandle ]

/-! ### Effective frame and placement -/

/-- The drawers changed: by their pending changes, or through a curve table they use (R169). -/
def touchedBy (p : Proposal) : List Nat :=
  let direct := p.changes.map (·.1)
  direct ++ ((p.table.filter fun r => decide (r.desc.format = 2) && hasBuffers r.desc && p.curves.any (fun c => c.1 = r.desc.curve)
    && !direct.contains r.slot).map (·.slot))

/-- The frame period a frame uses; without a schedule that of TIMING_CONFIG. -/
def periodFor (s : State) (m : Nat) : Nat := if s.sched.running then periodAt s.sched m else s.cfg.timing.period

/-- A placement: its items, and the time its moves take. -/
structure Placing where
  status : Nat
  items : List Item
  moved : List Item
deriving DecidableEq, Repr

/-- The set placed at a period (R156), and what has to be copied or built (R159, R179). New buffers have no content to copy. -/
def placing (s : State) (p : Proposal) (period : Nat) : Placing :=
  let r := placeSet s s.cfg.mon p.table p.blend period
  let fresh := (p.changes.filter (reshapes s)).map (·.1)
  let touched := if p.newBlend then p.table.map (·.slot) else touchedBy p
  { status := r.1, items := r.2, moved := (movedItems (lastItems s) r.2 touched).filter fun i => !fresh.contains i.key }

/-- The first frame that meets R149 for a message that arrived at `arrival` with EFFECT_TSC `eff`, when moves of the given time start
now. -/
def frameFor (s : State) (eff arrival moveTk : Nat) : Nat :=
  let earlier := ((s.drw.commits.getLast?).elim 0 (·.frame))
  effectiveFrame s.sched eff (if moveTk = 0 then arrival else max arrival (tsc s + moveTk)) earlier

/-- Effective frame and placement; the commit is placed at the period the frame uses (R165). -/
def settleFrame (s : State) (p : Proposal) (eff arrival : Nat) : Nat × Placing :=
  if !s.sched.running then (0, placing s p (periodFor s 0))
  else
    let m0 := frameFor s eff arrival 0
    let a := placing s p (periodFor s m0)
    let m := frameFor s eff arrival (moveTime a.moved)
    if periodFor s m = periodFor s m0 then (m, a)
    else
      let b := placing s p (periodFor s m)
      (max m (frameFor s eff arrival (moveTime b.moved)), b)

/-! ### Acceptance -/

/-- A drawer after the acceptance of its changes (Table 6.5); `m` is the effective frame. -/
def acceptSlot (s : State) (m : Nat) (e : Nat × Pending) (sl : Slot) : Slot :=
  let p := e.2
  let sl := { sl with pend := none }
  let sl := match p.configure with
    | some c => { sl with desc := c.1, params := c.2, configured := true }
    | none => sl
  if takesOut p then
    { sl with st := .retiring, destroyed := p.destroy, retireAt := some (if sl.st = .opened then m else m + 1) }
  else
    let sl := if p.place then { fromPlace (freshBuffers sl.desc sl) with st := .placed } else sl
    if flips s e then
      let old := if sl.desc.type = 3 then sl.glyphFront.isSome else sl.latest.isSome && !s.drw.commits.any (·.fresh.contains e.1)
      { sl with flipUntil := some (if old then m + 1 else m), oldFront := old }
    else sl

/-- Memory of the old placement that a commit leaves to retire: drawers taken out, and buffers replaced under R467. -/
def retiredItems (s : State) (p : Proposal) (m : Nat) : List Retiring :=
  (lastItems s).filterMap fun i =>
    match p.changes.find? (fun e => e.1 = i.key) with
    | some e =>
      if takesOut e.2 then some { frame := m + 1, slot := i.key, bytes := i.memory, inSram := i.inSram, bufferOnly := false }
      else if reshapes s e then some { frame := m + 1, slot := i.key, bytes := i.memory, inSram := i.inSram, bufferOnly := true }
      else none
    | none => none

/-- A COMMIT accepted with its effective frame and placement. -/
def acceptCommit (p : Proposal) (id m : Nat) (pl : Placing) (s : State) : State :=
  let fresh := (p.changes.filter (reshapes s)).map (·.1)
  let gone := fresh ++ (p.changes.filter fun e => takesOut e.2).map (·.1)
  let touched := if p.newBlend then p.table.map (·.slot) else touchedBy p
  let old := (lastItems s).filter fun i => !gone.contains i.key
  let c : Commit :=
    { frame := m, seq := some (s.drw.issued + 1), table := p.table, curves := p.curves, blend := p.blend, items := pl.items,
      touched := touchedBy p, flips := (p.changes.filter (flips s)).map (·.1), fresh := fresh }
  let retire := retiredItems s p m ++ oldCopies old pl.items touched (m + 1)
  let s' := p.changes.foldl (fun s1 e => updSlot e.1 (acceptSlot s m e) s1) s
  { s' with drw := { s'.drw with
      commits := s'.drw.commits ++ [c], issued := s'.drw.issued + 1, retiring := s'.drw.retiring ++ retire,
      moves := s'.drw.moves ++ pl.moved.map (·.key), pendCurves := s'.drw.pendCurves.filter (fun x => x.1 ≠ id),
      pendBlend := s'.drw.pendBlend.filter (fun x => x.1 ≠ id) } }

/-- Without a frame schedule the accepted COMMIT applies at once, and what it replaces retires at once (R149, R150). -/
def applyNow (s : State) : State :=
  if s.sched.running then s
  else
    let s := retireDue none (applyDue 0 s)
    { s with drw := { s.drw with moves := [] } }

/-- The COMMIT reply (Table 12.14). -/
def commitData (m seq : Nat) : List Byte := u64 m ++ u32 seq ++ u32 0

def rowCommit : Row := { opcode := 0x0207, domain := .light, states := isFw, shape := plainShape 8 }

/-- The work of COMMIT, in the order of Table 6.6. -/
def commitBody (m : Msg) (s : State) : Answer :=
  let p := proposal s m.session
  if s.mode.op = .proofPending ∧ p.changes.any (fun e => e.2.place || e.2.flip) then .fail eProof 0
  else if p.isEmpty then .ok (commitData 0 s.drw.seq) s
  else
    let fp := settleFrame s p (le m.payload 0 8) m.arrival
    checked (commitChecks s p ++ [require (decide (fp.2.status = eOk)) fp.2.status])
      (.ok (commitData fp.1 (s.drw.issued + 1)) (applyNow (acceptCommit p m.session fp.1 fp.2 s)))

/-- COMMIT. -/
def execCommit (t : Nat) (m : Msg) (s : State) : Out := serve t rowCommit unitFree m (commitBody m) s

end Sys2Proof.Machine
end

