-- ==== Sys2Proof/Machine/ShadeMsgs.lean ====
section
/-! DEFINITION. The shade and glyph group (12 Table 12.7, chapter 08). -/

namespace Sys2Proof.Machine

/-! ### Shade objects (R195, R196) -/

/-- An object from its 40 bytes at `o` (Table 8.2). -/
def shadeObjOf (p : List Byte) (o : Nat) : ShadeObj :=
  { id := le p o 1, active := decide (le p (o + 1) 1 % 2 = 1), edge := le p (o + 2) 1, ceil := le p (o + 4) 2, validTsc := leS p (o + 8) 8,
    vx := leS p (o + 16) 2, vy := leS p (o + 18) 2,
    verts := (List.range 4).map fun k => (leS p (o + 24 + 4 * k) 2, leS p (o + 26 + 4 * k) 2) }

/-- The checks of an object: its fields, then convexity. -/
def shadeObjChecks (p : List Byte) (o : Nat) : List Check :=
  let x := shadeObjOf p o
  [ inRange (decide (x.id ≤ 63)) o, inRange (decide (le p (o + 1) 1 ≤ 1)) (o + 1), inRange (decide (x.edge ≤ 15)) (o + 2),
    inRange (decide (le p (o + 3) 1 = 0)) (o + 3), inRange (decide (le p (o + 6) 2 = 0)) (o + 6), inRange (decide (le p (o + 20) 4 = 0)) (o + 20),
    inRange (convex x.verts) (o + 24) ]

/-- The object replaces the one in its place; ACTIVE 0 removes it. -/
def putObject (objs : List ShadeObj) (x : ShadeObj) : List ShadeObj :=
  let others := objs.filter fun y => y.id ≠ x.id
  if x.active then others ++ [x] else others

/-- The first frame whose content cut-off is at or after now; 0 without a schedule (R197). -/
def firstContaining (s : State) : Nat :=
  if s.sched.running then firstFrame s.sched (cutoffAt s.sched) (tsc s) s.sched.nextComp else 0

/-- The objects after a handoff wait for the first cut-off at or after it; one at the very TSC of a cut-off already taken joins that frame,
and without a schedule they are latched at once (R197). -/
def handObjects (now : Nat) (latch : Bool) (objs : List ShadeObj) (sl : Slot) : Slot :=
  if latch then { sl with objects := objs, latched := objs } else { sl with objects := objs, handed := sl.handed ++ [(now, objs)] }

/-- A handoff to the shade engine (R196, Table 8.8). -/
def handOff (slot count : Nat) (f : List ShadeObj → List ShadeObj) (s : State) : State :=
  let frame := firstContaining s
  let now := tsc s
  let latch := !s.sched.running || (decide (s.sched.cutDone = some s.sched.nextComp) && decide (frame = s.sched.nextComp))
  updSlot slot (fun sl => { handObjects now latch (f sl.objects) sl with
    updates := (sl.updates + count) % 4294967296, updateFrame := frame, lastHandoff := now }) s

/-- The FRAME reply of an update: the first frame that contains it, and the handoff. -/
def shadeReply (s : State) : List Byte := u64 (firstContaining s) ++ u64 (tsc s)

/-- E_HANDLE, E_STATE, E_BUSY in the order of the rows. -/
def shadeChecks (s : State) (m : Msg) : List Check :=
  [handleCheck s m, require (!isFixed m && decide ((slotAt s (msgSlot m)).desc.type = 2)) eState, retiringCheck s m]

/-- A module without the shade engine (R210). -/
def noShade (s : State) : Bool := !hasShade s

def rowShadeUpdate : Row :=
  { opcode := 0x0301, domain := .light, states := isFw,
    shape := fun m => between m.length 40 1440 && decide (m.length % 40 = 0) && decide (m.context < 65536) }

/-- SHADE_UPDATE (R196): the objects of one message reach the shade engine together. -/
def execShadeUpdate (t : Nat) (m : Msg) (s : State) : Out :=
  serve t rowShadeUpdate noShade m (fun s =>
    let n := m.length / 40
    let objs := (List.range n).map fun k => shadeObjOf m.payload (40 * k)
    checked (shadeChecks s m ++ (List.range n).flatMap fun k => shadeObjChecks m.payload (40 * k))
      (.ok (shadeReply s) (handOff (msgSlot m) n (fun l => objs.foldl putObject l) s))) s

def rowShadeClear : Row := { opcode := 0x0302, domain := .light, states := isFw, shape := handleShape 0 }

/-- SHADE_CLEAR: all 64 objects are removed in one handoff. -/
def execShadeClear (t : Nat) (m : Msg) (s : State) : Out :=
  serve t rowShadeClear noShade m (fun s =>
    checked (shadeChecks s m) (.ok (shadeReply s) (handOff (msgSlot m) 64 (fun _ => []) s))) s

/-! ### GLYPH_SEAL (R205 to R209) -/

/-- A field of a glyph table. -/
def glyphField (t : Mem Byte) (off n : Nat) : Nat := le (memReadList 0 t off n) 0 n

/-- The corners of mesh cell (i, j) in order around it. -/
def meshCell (t : Mem Byte) (i j : Nat) : List Pt := [meshNode t i j, meshNode t (i + 1) j, meshNode t (i + 1) (j + 1), meshNode t i (j + 1)]

/-- Every cell is convex and shares the winding of cell (0, 0); DETAIL is the offset of the cell's first node. -/
def meshChecks (t : Mem Byte) : List Check :=
  let w0 := winding (meshCell t 0 0)
  (List.range 320).map fun k =>
    let i := k % 32
    let j := k / 32
    let c := meshCell t i j
    inRange (convex c && decide (winding c = w0)) (16 + 4 * (33 * j + i))

/-- NPTS of a primitive lies in the range of its kind. -/
def nptsOk (kind n : Nat) : Bool :=
  match kind with
  | 0 => between n 2 256
  | 1 => decide (n = 1)
  | _ => between n 3 256

/-- The points of a primitive lie in glyph space. -/
def pointChecks (t : Mem Byte) (o n w h : Nat) : List Check :=
  (List.range n).flatMap fun k =>
    let p := o + 4 * k
    [ inRange (decide (0 ≤ leS (memReadList 0 t p 2) 0 2) && decide (leS (memReadList 0 t p 2) 0 2 ≤ (16 * w : Nat))) p,
      inRange (decide (0 ≤ leS (memReadList 0 t (p + 2) 2) 0 2) && decide (leS (memReadList 0 t (p + 2) 2) 0 2 ≤ (16 * h : Nat))) (p + 2) ]

/-- The fields of a primitive at `o` (Table 8.7). -/
def primChecks (t : Mem Byte) (o w h : Nat) : List Check :=
  let kind := glyphField t o 1
  let flags := glyphField t (o + 1) 1
  let n := glyphField t (o + 2) 2
  let width := glyphField t (o + 6) 2
  let arc := decide (kind = 1)
  [ inRange (decide (kind ≤ 2)) o,
    inRange (decide (flags ≤ 3) && (decide (flags % 2 = 0) || decide (kind = 0)) && (decide (flags / 2 = 0) || arc)) (o + 1),
    inRange (nptsOk kind n) (o + 2),
    inRange (if kind = 2 then decide (width = 0) else between width 1 1024) (o + 6),
    inRange (decide (arc = decide (glyphField t (o + 8) 2 ≠ 0))) (o + 8), inRange (arc || decide (glyphField t (o + 10) 2 = 0)) (o + 10),
    inRange (arc || decide (glyphField t (o + 12) 2 = 0)) (o + 12), inRange (decide (glyphField t (o + 14) 2 = 0)) (o + 14) ]
    ++ pointChecks t (o + 16) (min n 256) w h

/-- The primitives in turn, with the end of the last and the sum of NPTS; a primitive must end within 16,384 bytes. -/
def primsChecks (t : Mem Byte) (w h : Nat) : Nat → Nat → Nat → Check × Nat × Nat
  | 0, o, pts => (none, o, pts)
  | n + 1, o, pts =>
    let npts := glyphField t (o + 2) 2
    match firstFail (primChecks t o w h ++ [inRange (decide (o + 16 + 4 * npts ≤ 16384)) (o + 2)]) with
    | some e => (some e, o, pts)
    | none => primsChecks t w h n (o + 16 + 4 * npts) (pts + npts)

/-- The validation of a back table (R205 to R207): the header, the mesh, the primitives, then the sums the header names. -/
def glyphTableCheck (t : Mem Byte) (w h : Nat) : Check :=
  let prims := glyphField t 0 2
  let mesh := glyphField t 4 1
  let bytes := glyphField t 8 4
  let head := firstFail ([ inRange (decide (prims ≤ 256)) 0, inRange (decide (glyphField t 2 2 ≤ 2048)) 2, inRange (decide (mesh ≤ 1)) 4,
    inRange (decide (glyphField t 5 1 = 0)) 5, inRange (decide (glyphField t 6 2 = 0)) 6, inRange (between bytes 16 16384) 8,
    inRange (decide (glyphField t 12 4 = 0)) 12 ] ++ (if mesh = 1 then meshChecks t else []))
  match head with
  | some e => some e
  | none =>
    let r := primsChecks t w h prims (16 + if mesh = 1 then 1452 else 0) 0
    firstFail [r.1, inRange (decide (r.2.2 = glyphField t 2 2)) 2, inRange (decide (r.2.1 = bytes)) 8]

/-- A module without the glyph unit (R210). -/
def noGlyph (s : State) : Bool := !hasGlyph s

def rowGlyphSeal : Row := { opcode := 0x0303, domain := .light, states := isFw, shape := handleShape 0 }

/-- The back table is validated against R205 to R207 and its segments counted; a failure leaves it unsealed, sealed before or not (R209). -/
def sealTable (slot : Nat) (s : State) : Answer :=
  let sl := slotAt s slot
  let d := nextDesc s slot
  let segs := glyphSegs sl.glyphBack d
  match firstFail [glyphTableCheck sl.glyphBack d.srcW d.srcH, require (decide (segs ≤ 8192)) eCapacity] with
  | some e => .failIn e.1 e.2 (updSlot slot (fun sl => { sl with sealed := false }) s)
  | none => .ok (u16 segs ++ u16 0) (updSlot slot (fun sl => { sl with sealed := true, backSegs := segs }) s)

/-- GLYPH_SEAL (R209). -/
def execGlyphSeal (t : Nat) (m : Msg) (s : State) : Out :=
  serve t rowGlyphSeal noGlyph m (fun s =>
    checked [handleCheck s m, require (!isFixed m && decide ((slotAt s (msgSlot m)).desc.type = 3)) eState, retiringCheck s m]
      (sealTable (msgSlot m) s)) s

end Sys2Proof.Machine
end

