-- ==== Sys2Proof/Machine/TimingMsgs.lean ====
section
/-! DEFINITION. The timing and profile group (12 Table 12.8): timing changes (09 R230), the anchor, HOST_SCALE, MONITOR_CONFIG. -/

namespace Sys2Proof.Machine

/-! ### Placement at a new period (06 R158) -/

/-- The committed placement fits the period. -/
def fitsPeriod (items : List Item) (period : Nat) : Bool := decide (dramFetch items ≤ 80 * period)

/-- The items of a set at a new period: kept when they fit, else placed again. -/
def replaced (s : State) (period : Nat) (table : List TableRow) (blend : List BlendStep) (items : List Item) : Option (List Item) :=
  if fitsPeriod items period then some items
  else
    let r := placeSet s s.cfg.mon table blend period
    if r.1 = eOk then some r.2 else none

/-- An accepted COMMIT placed for the period. -/
def recommit (s : State) (period : Nat) (c : Commit) : Option Commit :=
  (replaced s period c.table c.blend c.items).map fun i => { c with items := i }

/-- Every element has an image, or none is given. -/
def allSome {α β : Type} (f : α → Option β) : List α → Option (List β)
  | [] => some []
  | a :: as =>
    match f a, allSome f as with
    | some b, some bs => some (b :: bs)
    | _, _ => none

/-- What frame `k` finds when the COMMITs before it have applied: table, blend program, items. -/
def setBefore (s : State) (k : Nat) : List TableRow × List BlendStep × List Item :=
  match (s.drw.commits.filter fun c => decide (c.frame < k)).getLast? with
  | some c => (c.table, c.blend, c.items)
  | none => (s.drw.table, s.drw.blend, s.drw.items)

/-- A change of placement alone, at a frame. -/
def placementCommit (k : Nat) (table : List TableRow) (blend : List BlendStep) (items : List Item) : Commit :=
  { frame := k, seq := none, table := table, curves := [], blend := blend, items := items, touched := [], flips := [], fresh := [] }

/-- The commits from frame `k` on at the new period, with a placement of its own at `k` when the set in force has to move. -/
def commitsAt (s : State) (k period : Nat) : Option (List Commit) :=
  let before := s.drw.commits.filter fun c => decide (c.frame < k)
  let after := s.drw.commits.filter fun c => decide (k ≤ c.frame)
  let b := setBefore s k
  match replaced s period b.1 b.2.1 b.2.2, allSome (recommit s period) after with
  | some items, some cs => some (before ++ (if items = b.2.2 then [] else [placementCommit k b.1 b.2.1 items]) ++ cs)
  | _, _ => none

/-- The time of the moves that a new period needs from the set in force. -/
def periodMoves (s : State) (period : Nat) : List Item :=
  match replaced s period (lastTable s) (lastBlend s) (lastItems s) with
  | some items => if items = lastItems s then [] else movedItems (lastItems s) items []
  | none => []

/-- The commits of a timing change taken over. -/
def takeCommits (k : Nat) (cs : List Commit) (moved : List Item) (s : State) : State :=
  let b := setBefore s k
  let retire := match cs.find? (fun c => decide (c.frame = k) && c.seq.isNone && c.items ≠ b.2.2) with
    | some c => oldCopies b.2.2 c.items [] (k + 1)
    | none => []
  { s with drw := { s.drw with commits := cs, moves := s.drw.moves ++ moved.map (·.key), retiring := s.drw.retiring ++ retire } }

/-! ### TIMING_CHANGE (R109, R230, R231) -/

/-- The grid a change is judged on: the host's grid during the fallback, without an earlier change that it replaces (04 R110). -/
def changeGrid (s : State) : Sched :=
  if s.sched.fallback then { hostGrid s with change := none } else { s.sched with change := none }

/-- The content cut-off of frame `k` with the pitch of the new profile. -/
def newCutoff (s : State) (g : Sched) (profile k : Nat) : Int := gridSwap g (k - 1) - (5200 + 2 * rowPitch profile s.sched.skip : Nat)

/-- The lowest frame a change may name: one that is not composed yet. -/
def changeFloor (s : State) (g : Sched) : Nat := if s.sched.fallback then g.anchorFrame + 1 else g.nextComp

/-- The first frame whose previous swap is at or after EFFECT_TSC. -/
def firstByEffect (g : Sched) (eff lo : Nat) : Nat := lo + stepsTo (gridSwap g (lo - 1)) eff g.period

/-- k of R230; none where STRICT cannot be met. -/
def changeFrame (s : State) (profile eff ready : Nat) (strict : Bool) : Option Nat :=
  let g := changeGrid s
  let lo := changeFloor s g
  if strict && decide (eff ≠ 0) then
    let k := firstByEffect g eff (g.anchorFrame + 1)
    if lo ≤ k ∧ (ready : Int) ≤ newCutoff s g profile k then some k else none
  else
    some (max (firstByEffect g eff lo) (lo + stepsTo (newCutoff s g profile lo) ready g.period))

/-- The TIMING reply. -/
def timingData (k : Nat) (anchor : Int) : List Byte := u64 k ++ u64 anchor.toNat

/-- The change waits for frame `k`; a cut-off of `k` that now lies later is taken again. -/
def acceptChange (profile period k : Nat) (s : State) : State :=
  let g := { s.sched with change := some { profile := profile, period := period, frame := k } }
  let again := !g.fallback && decide (g.cutDone = some k) && decide ((tsc s : Int) ≤ cutoffAt g k)
  { s with sched := if again then { g with cutDone := none, lastCut := g.prevCut } else g }

/-- Without a schedule the change applies at once. -/
def changeNow (profile period : Nat) (s : State) : State :=
  let timing := { s.cfg.timing with profile := profile, period := period }
  { s with cfg := { s.cfg with timing := timing }, sched := { s.sched with profile := profile, period := period } }

/-- The fields of Table 9.8; a PERIOD outside the profile's range is E_TIMING. -/
def timingChecks (p : List Byte) : List Check :=
  [ inRange (decide (le p 0 1 ≤ 3)) 0, inRange (decide (le p 1 1 ≤ 1)) 1, inRange (decide (le p 2 2 = 0)) 2,
    require (periodOk (le p 0 1) (le p 4 4)) eTiming ]

/-- The work of TIMING_CHANGE once its fields are in range. -/
def timingBody (m : Msg) (s : State) : Answer :=
  let profile := le m.payload 0 1
  let strict := decide (le m.payload 1 1 = 1)
  let period := le m.payload 4 4
  let eff := le m.payload 8 8
  if !s.sched.running then
    match commitsAt s 0 period with
    | none => .fail eBandwidth 0
    | some cs => .ok (timingData 0 s.cfg.timing.anchorTsc) (applyNow (changeNow profile period (takeCommits 0 cs [] s)))
  else
    match changeFrame s profile eff m.arrival strict with
    | none => .fail eTiming 0
    | some k0 =>
      let moved := periodMoves s period
      let ready := if moved = [] then m.arrival else max m.arrival (tsc s + moveTime moved)
      match commitsAt s k0 period, changeFrame s profile eff ready strict with
      | none, _ => .fail eBandwidth 0
      | some _, none => .fail eTiming 0
      | some cs0, some k =>
        match (if k = k0 then some cs0 else commitsAt s k period) with
        | none => .fail eBandwidth 0
        | some cs => .ok (timingData k (gridSwap (changeGrid s) (k - 1))) (acceptChange profile period k (takeCommits k cs moved s))

def rowTimingChange : Row := { opcode := 0x0401, domain := .light, states := isFw, shape := plainShape 16 }

/-- TIMING_CHANGE. -/
def execTimingChange (t : Nat) (m : Msg) (s : State) : Out :=
  serve t rowTimingChange unitFree m (fun s => checked (timingChecks m.payload) (timingBody m s)) s

def rowTimingAnchor : Row := { opcode := 0x0402, domain := .light, states := isFw, shape := plainShape 16 }

/-- TIMING_ANCHOR (R216): only while no frame schedule runs. -/
def execTimingAnchor (t : Nat) (m : Msg) (s : State) : Out :=
  serve t rowTimingAnchor unitFree m (fun s =>
    let a := le m.payload 0 8
    let n := le m.payload 8 8
    checked [require (!s.sched.running) eState]
      (.ok [] { s with cfg := { s.cfg with timing := { s.cfg.timing with anchorTsc := a, anchorFrame := n } },
                       sched := { s.sched with anchorTsc := a, anchorFrame := n } })) s

def rowHostScale : Row := { opcode := 0x0403, domain := .light, states := isFw, shape := plainShape 2 }

/-- HOST_SCALE_WRITE (04 R104). -/
def execHostScaleWrite (t : Nat) (m : Msg) (s : State) : Out :=
  serve t rowHostScale unitFree m (fun s =>
    let v := le m.payload 0 2
    checked [inRange (decide (v ≤ 1023)) 0] (.ok [] { s with cfg := { s.cfg with gov := { s.cfg.gov with hostScale := v } } })) s

/-! ### MONITOR_CONFIG_WRITE (07 R187, R188) -/

/-- The fields of MONITOR_CONFIG (Table 7.9). -/
def monitorConfigOf (p : List Byte) : MonitorConfig :=
  { enable := decide (le p 0 1 = 1), tap := le p 1 1, mode := le p 2 1, downOp := le p 3 1, everyN := le p 4 1, pcp := le p 5 1 }

/-- The ranges of Table 7.9. -/
def monitorChecks (p : List Byte) : List Check :=
  let c := monitorConfigOf p
  [ inRange (decide (le p 0 1 ≤ 1)) 0, inRange (between c.tap 1 2) 1, inRange (decide (c.mode ≤ 2)) 2,
    inRange (decide (c.downOp ≤ (if c.mode = 0 then 0 else 1))) 3, inRange (between c.everyN 1 (if c.mode = 0 then 255 else 1)) 4,
    inRange (decide (c.pcp ≤ 7)) 5, inRange (decide (le p 6 2 = 0)) 6 ]

/-- The rate limit at the present period and line rate; no rate is present while port A is down. -/
def monitorRateOk (s : State) (c : MonitorConfig) : Bool :=
  !c.enable || decide (s.link.aSpeed = 0) || monitorFits s.link.aSpeed c.mode s.sched.period c.everyN

/-- The configuration in force without a schedule: at once. -/
def monitorNow (c : MonitorConfig) (m : Monitor) : Monitor := { m with inForce := c, small := none, waiting := [], effN := c.everyN }

/-- A write that leaves the ring as it is applies from the next composition start, and to the writes that wait (R187). -/
def monitorSmall (c : MonitorConfig) (s : State) : State :=
  let s := { s with cfg := { s.cfg with mon := c } }
  if s.sched.running then
    { s with mon := { s.mon with small := some c, waiting := s.mon.waiting.map fun x => (x.1, withSmall x.2 c) } }
  else { s with mon := monitorNow c s.mon }

/-- A write that changes the ring applies from frame `k`; at once without a schedule (R187). -/
def monitorFrom (c : MonitorConfig) (k : Nat) (s : State) : State :=
  let s := { s with cfg := { s.cfg with mon := c } }
  if s.sched.running then { s with mon := { s.mon with waiting := s.mon.waiting ++ [(k, c)] } }
  else { s with mon := monitorNow c s.mon }

/-- A change of the ring places the set again under R157, from the frame of R149. -/
def monitorPlace (m : Msg) (c : MonitorConfig) (s : State) : Answer :=
  let period := periodFor s s.sched.nextComp
  let r := placeSet s c (lastTable s) (lastBlend s) period
  if r.1 ≠ eOk then .fail eBandwidth 0
  else
    let moved := movedItems (lastItems s) r.2 []
    let k := if s.sched.running then frameFor s 0 m.arrival (moveTime moved) else 0
    let retire := oldCopies (lastItems s) r.2 [] (k + 1)
    let s' := { s with drw := { s.drw with
      commits := s.drw.commits ++ [placementCommit k (lastTable s) (lastBlend s) r.2], retiring := s.drw.retiring ++ retire,
      moves := s.drw.moves ++ moved.map (·.key) } }
    .ok [] (applyNow (monitorFrom c k s'))

def rowMonitorConfig : Row := { opcode := 0x0404, domain := .light, states := isFw, shape := plainShape 8 }

/-- MONITOR_CONFIG_WRITE. -/
def execMonitorConfigWrite (t : Nat) (m : Msg) (s : State) : Out :=
  serve t rowMonitorConfig unitFree m (fun s =>
    let c := monitorConfigOf m.payload
    checked (monitorChecks m.payload ++ [require (monitorRateOk s c) eBandwidth])
      (if monitorRing c = monitorRing s.cfg.mon then .ok [] (monitorSmall c s) else monitorPlace m c s)) s

end Sys2Proof.Machine
end

