-- ==== Sys2Proof/Machine/DiagMsgs.lean ====
section
/-! DEFINITION. The diagnostics group (12 Table 12.9). -/

namespace Sys2Proof.Machine

/-! ### LOG_READ -/

/-- The records LOG_READ returns: from the requested number on, in the order of R27, at most 89. -/
def logChunk (s : State) (first : Nat) : List (Nat × EventRec) := ((numberedRecords s.log).filter fun e => decide (first ≤ e.1)).take 89

/-- The LOG_READ reply (Table 12.14): FIRST_SEQ is the requested number, or that of the oldest record still held. -/
def logReadData (s : State) (first : Nat) : List Byte :=
  let recs := logChunk s first
  u32 (max first (oldestRecord s.log)) ++ u16 recs.length ++ u16 0 ++ (recs.map (·.2)).flatMap recordBytes

def rowLogRead : Row :=
  { opcode := 0x0501, domain := .info, states := isAny, shape := fun m => decide (m.length = 0) && decide (m.context < 2 ^ 32) }

/-- LOG_READ. -/
def execLogRead (t : Nat) (m : Msg) (s : State) : Out := serve t rowLogRead unitFree m (fun s => .ok (logReadData s m.context) s) s

/-! ### EVENT_FILTER -/

def rowEventFilter : Row := { opcode := 0x0502, domain := .info, states := isAny, shape := plainShape 48 }

/-- EVENT_FILTER: bit s delivers source s to the sending session, from its next event message. -/
def execEventFilter (t : Nat) (m : Msg) (s : State) : Out :=
  serve t rowEventFilter unitFree m (fun s =>
    .ok [] (updSession m.session (fun x => { x with filter := BitVec.ofNat 384 (le m.payload 0 48) }) s)) s

/-! ### FAULT_MAP_READ -/

/-- A byte of a map of 2-bit codes by pixel (R298, 13 R310). -/
def codeByte (map : Mem Nat) (o : Nat) : Byte :=
  BitVec.ofNat 8 ((List.range 4).foldl (fun acc k => acc + memRead 0 map (4 * o + k) % 4 * 4 ^ k) 0)

/-- The READ layout: COUNT 1–1,436 and a reserved field (Table 12.14). -/
def readChecks (p : List Byte) : List Check := [inRange (between (le p 0 2) 1 1436) 0, inRange (decide (le p 2 2 = 0)) 2]

/-- Bytes of the fault map. -/
def faultMapBytes (s : State) (off n : Nat) : List Byte := (List.range n).map fun k => codeByte s.rake.map (off + k)

def rowFaultMapRead : Row := { opcode := 0x0503, domain := .info, states := isFw, shape := fun m => decide (m.length = 4) }

/-- FAULT_MAP_READ. -/
def execFaultMapRead (t : Nat) (m : Msg) (s : State) : Out :=
  serve t rowFaultMapRead unitFree m (fun s =>
    let n := le m.payload 0 2
    checked (readChecks m.payload ++ [inRange (decide (m.context + n ≤ 327680)) 0xFFFF]) (.ok (faultMapBytes s m.context n) s)) s

/-! ### SCALER_COEFF_READ -/

/-- Taps of the filter CONTEXT names: 8 horizontally, else 2, 4 or 6. -/
def coeffTaps (ctx : Nat) : Nat := if ctx / 4 % 2 = 0 then 8 else 2 * (ctx / 8 % 4) + 2

/-- The coefficients of a set: 64 phases, tap 0 first (07 R466). -/
def coeffData (ctx : Nat) : List Byte :=
  (List.range 64).flatMap fun ph => (List.range (coeffTaps ctx)).flatMap fun k => s16 (coef (ctx % 4) (coeffTaps ctx) ph k)

def rowScalerCoeff : Row :=
  { opcode := 0x0504, domain := .info, states := isFw, shape := fun m => decide (m.length = 0) && decide (m.context < 32) }

/-- SCALER_COEFF_READ. -/
def execScalerCoeffRead (t : Nat) (m : Msg) (s : State) : Out :=
  serve t rowScalerCoeff unitFree m (fun s =>
    checked [inRange (decide (m.context % 4 ≠ 3) && decide (m.context / 8 ≠ 3)) 0xFFFF] (.ok (coeffData m.context) s)) s

end Sys2Proof.Machine
end

