-- ==== Sys2Proof/Machine/SafetyMsgs.lean ====
section
/-! DEFINITION. The Safety group's uploads and stores (12 Table 12.10, R297, R298): the Chest, the SETTLE beam, SAFETY_STORE. -/

namespace Sys2Proof.Machine

/-! ### CHEST_STAGE -/

/-- LENGTH of a staging write is 1–1,440; CONTEXT is the byte offset. -/
def stageShape (m : Msg) : Bool := between m.length 1 1440

/-- E_RANGE for a staging write beyond `size` bytes. -/
def stageRange (m : Msg) (size : Nat) : Check := inRange (decide (m.context + m.length ≤ size)) 0xFFFF

/-- Every message that waits in a queue. -/
def waitingMsgs (s : State) : List Msg := s.gate.openings ++ s.gate.sessions.flatMap fun x => x.high ++ x.norm ++ x.bulk

/-- An activation has arrived before this write and is not answered yet (R297). -/
def chestBusy (m : Msg) (s : State) : Bool :=
  s.comp.activation.isSome || (waitingMsgs s).any fun x => decide (x.opcode = 0x0602) && decide (x.arrival ≤ m.arrival)

def rowChestStage : Row := { opcode := 0x0601, domain := .safety, states := isFw, shape := stageShape }

/-- CHEST_STAGE. -/
def execChestStage (t : Nat) (m : Msg) (s : State) : Out :=
  serve t rowChestStage unitFree m (fun s =>
    checked [stageRange m 2568, require (!chestBusy m s) eBusy]
      (.ok [] { s with comp := { s.comp with chestStage := memWriteList 0 s.comp.chestStage m.context m.payload } })) s

/-! ### CHEST_ACTIVATE (R297, 07 R180) -/

/-- The fields of the staged header (07 Table 7.6); DETAIL is the staging offset. -/
def chestHeaderChecks (b : List Byte) : List Check :=
  [ inRange (decide (le b 1 1 = 0)) 1, inRange (decide (le b 4 2 ≤ le b 2 2)) 4, inRange (decide (le b 6 2 = 0)) 6 ]

/-- The vertices of the polygon at offset `o`. -/
def polygonVerts (b : List Byte) (o : Nat) : List (Int × Int) :=
  (List.range (le b o 1)).map fun k => ((le b (o + 8 + 4 * k) 2 : Int), (le b (o + 10 + 4 * k) 2 : Int))

/-- The fields of a staged polygon (07 Table 7.7), then convexity. -/
def polygonChecks (b : List Byte) (i : Nat) : List Check :=
  let o := 8 + 40 * i
  let n := le b o 1
  [ inRange (between n 3 8) o, inRange (decide (le b (o + 1) 1 = 0)) (o + 1), inRange (decide (le b (o + 4) 2 ≤ le b (o + 2) 2)) (o + 4),
    inRange (decide (le b (o + 6) 2 = 0)) (o + 6) ]
    ++ ((List.range 8).flatMap fun k =>
      [ inRange (decide (le b (o + 8 + 4 * k) 2 ≤ (if k < n then 32768 else 0))) (o + 8 + 4 * k),
        inRange (decide (le b (o + 10 + 4 * k) 2 ≤ (if k < n then 10240 else 0))) (o + 10 + 4 * k) ])
    ++ [inRange (convex (polygonVerts b o)) o]

/-- The staged image. -/
def stagedChest (b : List Byte) : ChestImage :=
  { defaultCeil := le b 2 2, defaultFloor := le b 4 2,
    polys := (List.range (le b 0 1)).map fun i =>
      { ceil := le b (10 + 40 * i) 2, floor := le b (12 + 40 * i) 2, verts := polygonVerts b (8 + 40 * i) } }

/-- The checks of R297 in their order; E_BUSY while an activation runs is the last. -/
def chestChecks (m : Msg) (s : State) : List Check :=
  let n := le m.payload 8 2
  let b := memReadList 0 s.comp.chestStage 0 2568
  [ inRange (between n 8 2568) 8, inRange (decide (le m.payload 10 6 = 0)) 10, inRange (decide (n = 8 + 40 * le b 0 1)) 0 ]
    ++ chestHeaderChecks b ++ (List.range (le b 0 1)).flatMap (polygonChecks b) ++ [require s.comp.activation.isNone eBusy]

def rowChestActivate : Row :=
  { opcode := 0x0602, domain := .safety, states := isFw, shape := fun m => plainShape 16 m && decide (msgQueue m = 2) }

/-- The activation starts: the staged image is copied, and CHEST_REF is formed in the background. Its reply waits for CHEST_REF. -/
def startActivation (m : Msg) (s : State) : State :=
  let img := stagedChest (memReadList 0 s.comp.chestStage 0 2568)
  cvuStart 3 false { s with comp := { s.comp with activation := some { image := img, effectTsc := le m.payload 0 8, msg := m } } }

/-- CHEST_ACTIVATE: refused at once, or started without a reply. -/
def execChestActivate (t : Nat) (m : Msg) (s : State) : Out :=
  let s := serveUnknown (advance t s)
  if !isServed rowChestActivate m s then .next s
  else
    let s := dequeue m s
    match firstFail [commonCheck rowChestActivate false m s, firstFail (chestChecks m s)] with
    | some e => .next (serveUnknown (answered m e.1 e.2 [] s))
    | none => .next (serveUnknown (startActivation m s))

/-- The image and its reference become those of the effective frame, or of the module at once without a schedule (07 R183). -/
def bindChest (img : ChestImage) (ref m : Nat) (s : State) : State :=
  let c := { s.comp with activation := none, chestAccepted := img }
  { s with comp := if s.sched.running then { c with chestNext := c.chestNext ++ [(img, ref, m)] } else { c with chest := img, chestRef := ref } }

/-- CHEST_REF_COMPLETE (07 R183): CHEST_REF is formed; its completion stands for the arrival of a COMMIT in R149. -/
def execChestRefComplete (t : Nat) (s : State) : Out :=
  let s := advance t s
  match s.comp.activation with
  | none => .next s
  | some a =>
    if !mpRuns s then .next s
    else
      let ref := formChestRef a.image s
      let f := if s.sched.running then frameFor s a.effectTsc (tsc s) 0 else 0
      .next (answered a.msg eOk 0 (u32 ref ++ u32 0 ++ u64 f) (bindChest a.image ref f (cvuEnd 3 ref s)))

/-! ### SETTLE (R298, 03 R75 to R79) -/

def rowSettleStage : Row := { opcode := 0x0603, domain := .safety, states := isFw, shape := stageShape }

/-- SETTLE_STAGE. -/
def execSettleStage (t : Nat) (m : Msg) (s : State) : Out :=
  serve t rowSettleStage unitFree m (fun s =>
    checked [stageRange m 327680, require (!latchBusyNow s.arr) eBusy]
      (.ok [] { s with comp := { s.comp with settleStage := memWriteList 0 s.comp.settleStage m.context m.payload } })) s

/-- LEVEL of SL1 to SL3 (03 Table 3.7). -/
def settleLevels (p : List Byte) : List Nat := [le p 0 2, le p 2 2, le p 4 2]

/-- The fields of SETTLE_ACTIVATE; bits [15:12] of each level are reserved. -/
def settleFields (p : List Byte) : List Check :=
  [ inRange (decide (le p 0 2 ≤ 4095)) 0, inRange (decide (le p 2 2 ≤ 4095)) 2, inRange (decide (le p 4 2 ≤ 4095)) 4,
    inRange (decide (le p 6 2 = 0)) 6 ]

/-- The total exceeds 4.0 A (03 R76). -/
def overSettleBudget (levels : List Nat) (codes : Mem Nat) : Bool :=
  decide (4000000 * 4095 < 48 * codes.foldl (fun acc e => acc + levelOf levels e.2) 0)

/-- The latch update starts with its first vertical gap; the pattern is the committed one from now on. -/
def startLatches (levels : List Nat) (codes : Mem Nat) (s : State) : State :=
  { s with
    arr := { s.arr with pattern := codes, newLevels := levels, latchBusy := true, latchRow := 0, latchRetry := false },
    comp := { s.comp with settleAccepted := { pattern := s.comp.settleStage, levels := levels } } }

/-- The work of SETTLE_ACTIVATE after its CRC. -/
def settleWork (m : Msg) (s : State) : Answer :=
  let levels := settleLevels m.payload
  let codes := patternCodes s.comp.settleStage
  let total := settleTotal levels codes
  if overSettleBudget levels codes then .failIn eBudget (min (total / 10000) 0xFFFE) s
  else if latchBusyNow s.arr then .failIn eBusy 0 s
  else .ok (u16 (total / 1000) ++ u16 0) (startLatches levels codes s)

def rowSettleActivate : Row := { opcode := 0x0604, domain := .safety, states := isFw, shape := plainShape 12 }

/-- SETTLE_ACTIVATE: E_CRC, E_BUDGET, E_BUSY in this order. -/
def execSettleActivate (t : Nat) (m : Msg) (s : State) : Out :=
  serve t rowSettleActivate unitFree m (fun s =>
    checked (settleFields m.payload)
      (crcGuard (crc32 (patternList s.comp.settleStage)) (le m.payload 8 4) (settleWork m) s)) s

/-! ### SAFETY_STORE -/

def rowSafetyStore : Row := { opcode := 0x0605, domain := .safety, states := isFw, shape := plainShape 0 }

/-- SAFETY_STORE takes the Chest and SETTLE data of the latest activations answered OK. -/
def execSafetyStore (t : Nat) (m : Msg) (s : State) : Out :=
  serve t rowSafetyStore unitFree m (fun s =>
    checked [busyLong s 0x0605, tempCheck s]
      (.ok [] (startLong m { s with mp := { s.mp with storeChest := s.comp.chestAccepted, storeSettle := s.comp.settleAccepted } }))) s

/-- SAFETY_STORE_OUTCOME: both copies of the flash safety area hold what the store has taken. -/
def execSafetyStoreOutcome (t : Nat) (erased : Bool) (s : State) : Out :=
  .next (storeOutcome 0x0605 erased (fun s =>
    let d := (s.mp.storeChest, s.mp.storeSettle)
    { s with flash := { s.flash with safety := [some d, some d] } }) (advance t s))

end Sys2Proof.Machine
end

