-- ==== Sys2Proof/Machine/ReactMsgs.lean ====
section
/-! DEFINITION. The Safety group's reactions and configuration (12 Table 12.10): HOLD, RECOVER, FAULT_FORCE, FAULT_CONFIG, the words. -/

namespace Sys2Proof.Machine

/-! ### HOLD and RECOVER -/

def rowHoldDemand : Row := { opcode := 0x0606, domain := .safety, states := fun o => decide (o = .full), shape := plainShape 0 }

/-- HOLD_DEMAND (Table 1.9, 09 R229): FULL goes to SAFE, SAFE_KIND HOLD. -/
def execHoldDemand (t : Nat) (m : Msg) (s : State) : Out := serve t rowHoldDemand unitFree m (fun s => .ok [] (goSafe 1 0 s)) s

/-- A CONTAINED level source whose unshadowed assertion asks for SETTLE or stronger (15 R369). -/
def blocksRecovery (s : State) (n : Nat) : Bool :=
  !isFatal n && !isCorrected n && isLevel n && unshadowed s n && decide (4 ≤ carriedOut s n (s.flt.datas.getD n 0))

/-- The conditions of R369 in order, with their DETAIL. -/
def recoverChecks (s : State) : List Check :=
  [ ((List.range 48).find? fun n => isFatal n && hasBit s.flt.status n).map fun n => (eState, n),
    if s.dim.demand || !s.dim.proofSeen then some (eState, 0x0100) else none,
    ((List.range 48).find? (blocksRecovery s)).map fun n => (eState, 0x0100 + n) ]

/-- The recovery starts (15 R370): an open switch closes at once; the gap counts from now. -/
def startRecovery (s : State) : State :=
  let s := { s with flt := { s.flt with recovering := some (tsc s) } }
  closeSwitch s

def rowRecover : Row := { opcode := 0x0607, domain := .safety, states := fun o => decide (o = .safe), shape := plainShape 0 }

/-- RECOVER (15 R369, R370). -/
def execRecover (t : Nat) (m : Msg) (s : State) : Out :=
  serve t rowRecover unitFree m (fun s => checked (recoverChecks s) (.ok [] (startRecovery s))) s

/-! ### FAULT_FORCE (15 R368) -/

/-- The DATA values of a source (15 Table 15.3): the first and their number. -/
def dataRange (src : Nat) : Nat × Nat :=
  match src with
  | 1 | 5 | 10 | 16 | 44 => (0, 2)
  | 2 => (0, 7)
  | 3 | 4 => (0, 16)
  | 6 | 24 => (0, 512)
  | 17 | 18 => (0, 3)
  | 28 | 29 | 30 => (10, 8)
  | 31 | 32 | 33 => (18, 2)
  | 37 => (3, 7)
  | 40 => (0, 8)
  | 45 => (0, 2048)
  | 47 => (0, 256)
  | 0 | 22 | 23 | 25 | 26 | 27 | 36 | 39 | 43 | 46 => (0, 1)
  | _ => (0, 65536)

/-- The DATA of a forced assertion: the spec states none, so it is free within the values of the source. -/
def forcedData (src : Nat) (s : State) : Nat := (dataRange src).1 + Config.forcedData src (tsc s) % (dataRange src).2

/-- The fields of FAULT_FORCE. -/
def forceChecks (p : List Byte) : List Check :=
  [inRange (decide (le p 0 1 ≤ 47)) 0, inRange (decide (le p 1 1 ≤ 1)) 1, inRange (decide (le p 2 2 = 0)) 2]

def rowForceSet : Row :=
  { opcode := 0x0608, domain := .safety, states := isFw, shape := plainShape 4, mine := fun m => decide (le m.payload 1 1 ≠ 0) }

/-- FAULT_FORCE with ACTION set: the source is asserted through its error line input. The message is the one in hand when FS01 restarts the
MP (11 R278). -/
def execFaultForceSet (t : Nat) (m : Msg) (s : State) : Out :=
  serveThen t rowForceSet unitFree m (fun s =>
      let src := le m.payload 0 1
      checked (forceChecks m.payload) (.ok [] (assertSource src (forcedData src s) true s)))
    (fun s => if s.mp.restarting.isSome then dataLost s else s) s

def rowForceClear : Row :=
  { opcode := 0x0608, domain := .safety, states := isFw, shape := plainShape 4, mine := fun m => decide (le m.payload 1 1 = 0) }

/-- FAULT_FORCE with ACTION clear: the force ends; a reaction it caused stays. -/
def execFaultForceClear (t : Nat) (m : Msg) (s : State) : Out :=
  serve t rowForceClear unitFree m (fun s => checked (forceChecks m.payload) (.ok [] (endForce (le m.payload 0 1) s))) s

/-! ### FAULT_CONFIG (15 R367) -/

/-- A raised reaction applies at once to a level source that is asserted. -/
def reactRaised (src : Nat) (s : State) : State :=
  if isLevel src && unshadowed s src then react src (s.flt.datas.getD src 0) (carriedOut s src (s.flt.datas.getD src 0)) s else s

/-- The reaction of a source configured; a lowered one never weakens the reaction in force. -/
def configureFault (src r : Nat) (s : State) : State :=
  let old := configured s src
  let s := { s with cfg := { s.cfg with faults := s.cfg.faults.set src r } }
  if old < r then reactRaised src s else s

/-- The fields of FAULT_CONFIG; a reaction below the least one is out of range. -/
def faultConfigChecks (p : List Byte) : List Check :=
  [ inRange (decide (le p 0 1 ≤ 47)) 0, inRange (decide (le p 1 1 ≤ 6)) 1, inRange (decide (le p 2 2 = 0)) 2,
    inRange (decide (leastReactions.getD (le p 0 1) 0 ≤ le p 1 1)) 1 ]

def rowFaultConfig : Row := { opcode := 0x0609, domain := .safety, states := isFw, shape := plainShape 4 }

/-- FAULT_CONFIG. -/
def execFaultConfig (t : Nat) (m : Msg) (s : State) : Out :=
  serve t rowFaultConfig unitFree m (fun s =>
    checked (faultConfigChecks m.payload) (.ok [] (configureFault (le m.payload 0 1) (le m.payload 1 1) s))) s

/-! ### Configuration words -/

def rowCompConfig : Row := { opcode := 0x060A, domain := .safety, states := isFw, shape := plainShape 4 }

/-- VIEW_MIRROR written; CHEST_REF is formed anew (07 R167), and so is that of an activation in progress. -/
def setMirror (v : Nat) (s : State) : State :=
  let s := { s with cfg := { s.cfg with comp := { mirrorX := decide (v % 2 = 1), mirrorY := decide (v / 2 % 2 = 1) } } }
  let ref := formChestRef s.comp.chest s
  let s := cvuJob 3 ref none { s with comp := { s.comp with chestRef := ref } }
  if s.comp.activation.isSome then cvuStart 3 false s else s

/-- COMP_CONFIG_WRITE: only while no frame schedule runs; E_STATE before the values (R289). -/
def execCompConfigWrite (t : Nat) (m : Msg) (s : State) : Out :=
  serve t rowCompConfig unitFree m (fun s =>
    checked [require (!s.sched.running) eState, inRange (decide (le m.payload 0 1 ≤ 3)) 0, inRange (decide (le m.payload 1 1 = 0)) 1,
        inRange (decide (le m.payload 2 2 = 0)) 2]
      (.ok [] (setMirror (le m.payload 0 1) s))) s

def rowGovBudget : Row := { opcode := 0x060B, domain := .safety, states := isFw, shape := plainShape 8 }

/-- GOV_BUDGET_WRITE (04 R104, Table 4.3 offsets 0 to 7). -/
def execGovBudgetWrite (t : Nat) (m : Msg) (s : State) : Out :=
  serve t rowGovBudget unitFree m (fun s =>
    let p := m.payload
    checked [inRange (between (le p 0 2) 100 8000) 0, inRange (between (le p 2 2) 100 8000) 2, inRange (between (le p 4 2) 100 8000) 4,
        inRange (between (le p 6 2) 100 8000) 6]
      (.ok [] { s with cfg := { s.cfg with gov :=
        { s.cfg.gov with precise := le p 0 2, balanced := le p 2 2, swift := le p 4 2, cool := le p 6 2 } } })) s

def rowHostTimeout : Row := { opcode := 0x060C, domain := .safety, states := isFw, shape := plainShape 2 }

/-- HOST_TIMEOUT_WRITE (10 R252): the deadline counts anew from the latest arrival. -/
def execHostTimeoutWrite (t : Nat) (m : Msg) (s : State) : Out :=
  serve t rowHostTimeout unitFree m (fun s =>
    let v := le m.payload 0 2
    checked [inRange (between v 50 10000) 0] (.ok [] { s with cfg := { s.cfg with link := { s.cfg.link with hostTimeout := v } } })) s

/-- The fields of SDIM_CONFIG (Table 12.14). -/
def sdimConfigOf (p : List Byte) : SdimConfig := { tDisc := le p 0 2, tRamp := le p 2 2, target := le p 4 1, proofWindow := le p 6 2 }

def rowSdimConfig : Row := { opcode := 0x060D, domain := .safety, states := isFw, shape := plainShape 8 }

/-- SDIM_CONFIG_WRITE: refused while a Safe-Dim demand is in force; E_STATE before the values (R289). -/
def execSdimConfigWrite (t : Nat) (m : Msg) (s : State) : Out :=
  serve t rowSdimConfig unitFree m (fun s =>
    let c := sdimConfigOf m.payload
    checked [require (!s.dim.demand) eState, inRange (between c.tDisc 5 500) 0, inRange (between c.tRamp 100 2000) 2,
        inRange (between c.target 1 3) 4, inRange (decide (le m.payload 5 1 = 0)) 5, inRange (between c.proofWindow 1000 30000) 6]
      (.ok [] { s with cfg := { s.cfg with sdim := c } })) s

end Sys2Proof.Machine
end

