-- ==== Sys2Proof/Machine/CalMsgs.lean ====
section
/-! DEFINITION. The calibration group (12 Table 12.11; 14 R337 to R345). -/

namespace Sys2Proof.Machine

/-- E_BUSY while CAL_RUN or CAL_STORE runs (14 R341, R343). -/
def calBusy (s : State) : Check := require (!isRunning s 0x0701 && !isRunning s 0x0704) eBusy

/-! ### CAL_RUN (14 R339 to R341) -/

def rowCalRun : Row := { opcode := 0x0701, domain := .service, states := fun o => decide (o = .idle), shape := plainShape 0 }

/-- The converters are held in WARM from the acknowledgement on (14 R339). -/
def holdWarm (s : State) : State :=
  { s with conv := { s.conv with aWarm := true, bWarm := hasConvB s, timedAt := tsc s, passes := [], passFrom := none } }

/-- CAL_RUN. -/
def execCalRun (t : Nat) (m : Msg) (s : State) : Out :=
  serve t rowCalRun unitFree m (fun s => checked [busyLong s 0x0701] (.ok [] (startLong m (holdWarm s)))) s

/-- A quotient rounded half away from zero. -/
def roundDiv (a : Int) (b : Nat) : Int :=
  if 0 ≤ a then (2 * a + b) / (2 * b) else -((2 * (-a) + b) / (2 * b))

/-- Two readings agree within ±2 LSB. -/
def lsbAgree (x y : CalReading) : Bool := decide ((x.value - y.value).natAbs ≤ 32)

/-- Two readings agree within ±0.05 % of the first. -/
def percentAgree (x y : CalReading) : Bool := decide (2000 * (x.value - y.value).natAbs ≤ x.value.natAbs)

/-- A REFCAL reading within 2 % of 1.25000 V: 2,500 LSB (14 R340). -/
def refPresent (x : CalReading) : Bool := decide ((x.value - 40000).natAbs ≤ 800)

/-- The raw reading, in 1/16 LSB, whose corrected result under the factory trim is `r` (R326, R339). -/
def rawOf (trim : CalData) (conv : Conv) (r : Int) : Int := convOffset trim conv + roundDiv (r * 16384) (convGain trim conv)

/-- The new OFFSET of a converter from the two readings of 0 V. -/
def newOffset (trim : CalData) (conv : Conv) (x y : Int) : Int := rawOf trim conv (roundDiv (x + y) 2)

/-- The new GAIN: the corrected REFCAL reading becomes 2,500.000 LSB. -/
def newGain (trim : CalData) (conv : Conv) (offset x y : Int) : Int :=
  roundDiv (40000 * 16384) (rawOf trim conv (roundDiv (x + y) 2) - offset).toNat

/-- A trim adjusted by the deviation of the mean current from its nominal of `microamps`, in 0.01 %. The readings are sums of 1,024 results in
1/16 LSB of 1 mV across R_CAL of `r` mΩ: the nominal of both together is N at 10⁶ times the scale. -/
def newTrim (old : Int) (microamps r : Nat) (x y : Int) : Int :=
  let n := 2 * microamps * r * 16384
  old - roundDiv (10000 * ((x + y) * 1000000 - n)) n

/-- The fields a run sets: offset in the working set, new value, range. -/
def runFields (s : State) (p q : CalPass) : List (Nat × Int × Int × Int) :=
  let c := s.conv.cal
  let f := s.flash.trim
  let r := calU c 20 4
  let offA := newOffset f .a p.offsetA.value q.offsetA.value
  let offB := newOffset f .b p.offsetB.value q.offsetB.value
  let trim := fun (off nominal : Nat) (x y : CalReading) => ((off, newTrim (calS c off 2) nominal r x.value y.value, -1000, 1000) : Nat × Int × Int × Int)
  [ (24, offA, -512, 512), (26, newGain f .a offA p.refA.value q.refA.value, 14746, 18022) ]
    ++ (if hasConvB s then
      [ (28, offB, -512, 512), (30, newGain f .b offB p.refB.value q.refB.value, 14746, 18022), (32, roundDiv (p.skew + q.skew) 2, -500, 500) ] else [])
    ++ [trim 34 48 p.irefA q.irefA, trim 36 48 p.irefB q.irefB]
    ++ ((p.sl.zip q.sl).zipIdx.map fun e => trim (38 + 2 * e.2) 48 e.1.1 e.1.2)
    ++ [trim 44 20 p.probe q.probe]

/-- The converter quantities agree. -/
def convAgree (s : State) (p q : CalPass) : Bool :=
  lsbAgree p.offsetA q.offsetA && lsbAgree p.refA q.refA
    && (!hasConvB s || (lsbAgree p.offsetB q.offsetB && lsbAgree p.refB q.refB && lsbAgree p.tone q.tone))

/-- The reference currents agree. -/
def currentsAgree (p q : CalPass) : Bool :=
  percentAgree p.irefA q.irefA && percentAgree p.irefB q.irefB && (List.zipWith percentAgree p.sl q.sl).all id && percentAgree p.probe q.probe

/-- The run is applied (R340). -/
def applyRun (fields : List (Nat × Int × Int × Int)) (s : State) : State :=
  let c := fields.foldl (fun c e => setCal e.1 (s16 e.2.1) c) s.conv.cal
  let n := (calCount c + 1) % 4294967296
  let c := setCal 8 (u64 (tsc s)) (setCal 4 (u32 n) (setCal 2 (u8 3 ++ u8 3) c))
  record srcCal 0x0001 n (endLong 0x0701 eOk (setCalData c s))

/-- The decision of R340 over two passes. -/
def judgeRun (p q : CalPass) (s : State) : State :=
  let fields := runFields s p q
  if !convAgree s p q then rejectRun 1 s
  else if !currentsAgree p q then rejectRun 2 s
  else if fields.all fun e => decide (e.2.2.1 ≤ e.2.1 ∧ e.2.1 ≤ e.2.2.2) then applyRun fields s
  else rejectRun 5 s

/-- The readings a pass takes (Table 14.6); on -E there is no CONV_B. -/
def passReadings (s : State) (p : CalPass) : List CalReading :=
  [p.offsetA, p.refA, p.irefA, p.irefB, p.probe] ++ p.sl ++ (if hasConvB s then [p.offsetB, p.refB, p.tone] else [])

/-- The flagged samples of a reading are those that were replaced. -/
def readingOk (r : CalReading) : Bool :=
  decide (r.taint ≤ r.replaced) && decide (r.ovr + r.unr ≤ r.replaced) && decide (r.replaced ≤ r.taint + r.ovr + r.unr)

/-- A pass reads SL1, SL2 and SL3. -/
def passOk (s : State) (p : CalPass) : Bool := decide (p.sl.length = 3) && (passReadings s p).all readingOk

/-- A pass starts, with every reference ready (R328) and no sweep window in progress (R332). -/
def startPass (s : State) : State :=
  if s.conv.passFrom.isNone ∧ s.conv.passes.length < 2 ∧ !reserved s then
    if convReady s .a && convReady s .b then { s with conv := { s.conv with passFrom := some (tsc s), timedAt := tsc s } } else refNotReady s
  else s

/-- A pass is over at the earliest when its six references have settled for 2,000,000 tk each (R339). -/
def passOver (s : State) : Bool := s.conv.passFrom.any fun t0 => decide (t0 + 12000000 ≤ tsc s)

/-- A pass ends. A quantity with more than 64 flagged samples stays incomplete (R339); REFCAL absent in the first pass ends the run (R340). -/
def endPass (p : CalPass) (s : State) : State :=
  let rs := passReadings s p
  let c := countFlags (rs.map (·.taint)).sum (rs.map (·.ovr)).sum (rs.map (·.unr)).sum s.conv
  let s := { s with conv := { c with passes := c.passes ++ [p], passFrom := none, timedAt := tsc s } }
  if rs.any fun r => decide (64 < r.replaced) then rejectRun 5 s
  else if s.conv.passes.length = 1 ∧ (!refPresent p.refA || (hasConvB s && !refPresent p.refB)) then rejectRun 3 s
  else s

/-- CAL_RUN_OUTCOME (R339, R340): a pass of the run starts, it ends with its readings, or the MP decides over two passes. -/
def execCalRunOutcome (t : Nat) (e : CalStep) (s : State) : Out :=
  let s := advance t s
  let running := isRunning s 0x0701
  match e with
  | .passStart => .next (if running then startPass s else s)
  | .passEnd p =>
    if !passOk s p then .fault .impossibleOperand
    else .next (if running && passOver s then endPass p s else s)
  | .outcome =>
    match s.conv.passes with
    | [p, q] => .next (if running then judgeRun p q s else s)
    | _ => .next s

/-! ### CAL_READ and CAL_WRITE (14 R337, R338) -/

def rowCalRead : Row := { opcode := 0x0702, domain := .info, states := isFw, shape := fun m => decide (m.length = 4) }

/-- CAL_READ. -/
def execCalRead (t : Nat) (m : Msg) (s : State) : Out :=
  serve t rowCalRead unitFree m (fun s =>
    let n := le m.payload 0 2
    checked (readChecks m.payload ++ [inRange (decide (m.context + n ≤ 512)) 0xFFFF])
      (.ok (memReadList 0 s.conv.cal.working m.context n) s)) s

/-- A field of Table 14.5: offset, size, signed, least and greatest value; none of the last two for a read-only field. -/
structure CalField where
  off : Nat
  size : Nat
  range : Option (Int × Int)
  sgn : Bool := true
deriving DecidableEq, Repr

/-- The fields of the working set in order. On a module without CONV_B, its fields hold fixed values. -/
def calFields (convB : Bool) : List CalField :=
  [ ⟨0, 2, none, true⟩, ⟨2, 1, none, true⟩, ⟨3, 1, none, true⟩, ⟨4, 4, none, true⟩, ⟨8, 8, none, true⟩, ⟨16, 4, none, true⟩, ⟨20, 4, none, true⟩,
    ⟨24, 2, some (-512, 512), true⟩, ⟨26, 2, some (14746, 18022), false⟩,
    ⟨28, 2, some (if convB then (-512, 512) else (0, 0)), true⟩, ⟨30, 2, some (if convB then (14746, 18022) else (16384, 16384)), false⟩,
    ⟨32, 2, some (if convB then (-500, 500) else (0, 0)), true⟩ ]
    ++ ((List.range 6).map fun k => ⟨34 + 2 * k, 2, some (-1000, 1000), true⟩)
    ++ [⟨46, 2, some (-3000, 0), true⟩]
    ++ ((List.range 16).map fun k => ⟨48 + 2 * k, 2, some (-1000, 1000), true⟩)
    ++ ((List.range 32).flatMap fun k => [⟨80 + 4 * k, 2, some (0, 2000), false⟩, ⟨82 + 4 * k, 2, some (16384, 65535), false⟩])
    ++ ((List.range 14).flatMap fun k => [⟨208 + 4 * k, 2, some (-1600, 1600), true⟩, ⟨210 + 4 * k, 2, some (14746, 18022), false⟩])
    ++ ((List.range 32).map fun k => ⟨264 + 2 * k, 2, some (-3277, 3277), true⟩)
    ++ ((List.range 184).map fun k => ⟨328 + k, 1, some (0, 0), false⟩)

/-- The DVF of an AGEING_CURVE point lies strictly between its neighbours; other fields pass. -/
def curveRises (c : CalData) (off : Nat) : Bool :=
  if 80 ≤ off ∧ off < 208 ∧ off % 4 = 0 then
    (decide (off = 80) || decide (calU c (off - 4) 2 < calU c off 2)) && (decide (off = 204) || decide (calU c off 2 < calU c (off + 4) 2))
  else true

/-- What a write makes of one field: `old` and `new` working sets, the write covers [a, b). DETAIL is the field's offset. -/
def fieldCheck (old new : CalData) (a b : Nat) (f : CalField) : Check :=
  if f.off + f.size ≤ a ∨ b ≤ f.off then none
  else
    let v : Int := if f.sgn then calS new f.off f.size else calU new f.off f.size
    let ok := decide (a ≤ f.off ∧ f.off + f.size ≤ b) && match f.range with
      | none => decide (calU new f.off f.size = calU old f.off f.size)
      | some r => decide (r.1 ≤ v ∧ v ≤ r.2) && curveRises new f.off
    inRange ok f.off

/-- The fields a write covers, in order (R338). -/
def calWriteChecks (m : Msg) (s : State) : List Check :=
  let new := setCal m.context m.payload s.conv.cal
  (calFields (hasConvB s)).map (fieldCheck s.conv.cal new m.context (m.context + m.length))

def rowCalWrite : Row := { opcode := 0x0703, domain := .service, states := isFw, shape := stageShape }

/-- CAL_WRITE. -/
def execCalWrite (t : Nat) (m : Msg) (s : State) : Out :=
  serve t rowCalWrite unitFree m (fun s =>
    checked (stageRange m 512 :: (calWriteChecks m s ++ [calBusy s]))
      (.ok [] (setCalData (markModified (setCal m.context m.payload s.conv.cal)) s))) s

/-! ### CAL_STORE (14 R342, R343) -/

def rowCalStore : Row := { opcode := 0x0704, domain := .service, states := isFw, shape := plainShape 0 }

/-- CAL_STORE copies the working set, the curves, the uniformity map and VF_BASE. -/
def execCalStore (t : Nat) (m : Msg) (s : State) : Out :=
  serve t rowCalStore unitFree m (fun s =>
    checked [busyLong s 0x0704, tempCheck s] (.ok [] (startLong m { s with mp := { s.mp with storeCal := s.conv.cal } }))) s

/-- What a slot holds from byte 12 on (Table 14.8). -/
def slotBytes (c : CalData) : List Byte :=
  memReadList 0 c.working 0 512
    ++ (List.range 4).flatMap (fun n => (List.range 1024).flatMap fun k => u16 (tcurveEntry (c.tcurves.getD n []) k))
    ++ (List.range pixels).flatMap (fun p => u16 (memRead 1024 c.uniformity p))
    ++ (List.range pixels).flatMap (fun p => u8 (memRead 0 c.vfBase p)) ++ List.replicate 1024 0

/-- One above the higher valid sequence; neither 0 nor 0xFFFFFFFF. -/
def nextCalSequence (s : State) : Nat :=
  match bestSlot (knownSlots s) with
  | some (_, x) => if x.sequence = 0xFFFFFFFE then 1 else x.sequence + 1
  | none => 1

/-- The target slot is written; FLAGS is stored as 0 (R343). -/
def writeSlot (s : State) : State :=
  let b := storeTarget s
  let q := nextCalSequence s
  let content := setCal 3 (u8 0) s.mp.storeCal
  let c := setCal 16 (u32 q) (setCal 3 (u8 (calFlags s.conv.cal / 2 * 2)) s.conv.cal)
  let s := cvuJob 3 (crc32 (slotBytes content)) none s
  let s := { s with flash := setSlot b (some { sequence := q, format := 1, content := content }) s.flash, conv := { s.conv with cal := c } }
  endSource 39 (record srcCal 0x0003 (bit b) s)

/-- CAL_STORE_OUTCOME. -/
def execCalStoreOutcome (t : Nat) (erased : Bool) (s : State) : Out := .next (storeOutcome 0x0704 erased writeSlot (advance t s))

/-! ### CORR_CHUNK (14 R345) -/

/-- The entries of a chunk. -/
def chunkEntries (m : Msg) : List Nat := (List.range ((m.length - 4) / 2)).map fun k => le m.payload (4 + 2 * k) 2

/-- One uniformity entry written, and the correction entry that follows from it (13 R319, 03 R87). -/
def setUniformity (s : State) (p u : Nat) (c : Converters) : Converters :=
  { c with cal := { c.cal with uniformity := memWrite 1024 c.cal.uniformity p u },
           corr := memWrite 1024 c.corr p (corrEntry u (factorOn c.ageing (memRead 0 s.rake.dvf p))) }

/-- The chunk in force; WORN_COUNT follows (03 R86). -/
def writeUniformity (first : Nat) (us : List Nat) (s : State) : State :=
  let c := us.zipIdx.foldl (fun c e => setUniformity s (first + e.2) e.1 c) s.conv
  { s with conv := c, rake := { s.rake with worn := wornCount c.corr } }

def rowCorrChunk : Row := { opcode := 0x0705, domain := .service, states := isFw, shape := fun m => between m.length 6 1440 }

/-- CORR_CHUNK: E_RANGE, E_CRC, E_BUSY in this order. -/
def execCorrChunk (t : Nat) (m : Msg) (s : State) : Out :=
  serve t rowCorrChunk unitFree m (fun s =>
    checked [inRange (decide (m.context % 2 = 0) && decide (m.length % 2 = 0) && decide (m.context + (m.length - 4) ≤ 2621440)) 0xFFFF]
      (crcGuard (crc32 (m.payload.drop 4)) (le m.payload 0 4)
        (fun s => match calBusy s with
          | some e => .failIn e.1 e.2 s
          | none => .ok [] (writeUniformity (m.context / 2) (chunkEntries m) s)) s)) s

/-! ### TCURVE_WRITE (03 R88) -/

/-- The fields of TCURVE_WRITE, then E_BUSY. -/
def tcurveChecks (m : Msg) (s : State) : List Check :=
  let n := (m.length - 4) / 2
  [ inRange (decide (le m.payload 0 1 ≤ 3)) 0, inRange (decide (le m.payload 1 1 ≤ 1)) 1,
    inRange (decide (le m.payload 2 2 ≤ 1023) && decide (le m.payload 2 2 + n ≤ 1024)) 2 ]
    ++ ((List.range n).map fun k => inRange (decide (le m.payload (4 + 2 * k) 2 ≤ 16383)) (4 + 2 * k)) ++ [calBusy s]

/-- The staging copy of a table written. -/
def stageCurve (m : Msg) (s : State) : State :=
  let first := le m.payload 2 2
  let t := (List.range ((m.length - 4) / 2)).foldl
    (fun t k => memWrite (linearCode (first + k)) t (first + k) (le m.payload (4 + 2 * k) 2)) (s.conv.tstage.getD (le m.payload 0 1) [])
  { s with conv := { s.conv with tstage := s.conv.tstage.set (le m.payload 0 1) t } }

/-- The entry at which a staged table breaks R88, in the order of Table 12.11. -/
def badEntry (t : Mem Nat) : Option Nat :=
  if tcurveEntry t 0 ≠ 0 then some 0
  else
    match ((List.range 1024).drop 1).find? fun k => decide (tcurveEntry t k < tcurveEntry t (k - 1)) with
    | some k => some k
    | none => if tcurveEntry t 1023 ≠ 16383 then some 1023 else none

/-- The staged table takes effect, or stays staged (Table 12.11). -/
def applyCurve (n : Nat) (s : State) : Answer :=
  let t := s.conv.tstage.getD n []
  match badEntry t with
  | some k => .failIn eRange (0x8000 + k) s
  | none => .ok [] { s with conv := { s.conv with cal := { s.conv.cal with tcurves := s.conv.cal.tcurves.set n t } } }

/-- LENGTH of TCURVE_WRITE: the header and up to 718 entries. -/
def tcurveShape (m : Msg) : Bool := between m.length 4 1440 && decide (m.length % 2 = 0) && decide (m.context = 0)

def rowTcurveWrite : Row :=
  { opcode := 0x0706, domain := .service, states := isFw, shape := tcurveShape, mine := fun m => decide (le m.payload 1 1 ≠ 1) }

/-- TCURVE_WRITE without APPLY. -/
def execTcurveWrite (t : Nat) (m : Msg) (s : State) : Out :=
  serve t rowTcurveWrite unitFree m (fun s => checked (tcurveChecks m s) (.ok [] (stageCurve m s))) s

def rowTcurveApply : Row :=
  { opcode := 0x0706, domain := .service, states := isFw, shape := tcurveShape, mine := fun m => decide (le m.payload 1 1 = 1) }

/-- TCURVE_WRITE with APPLY: the entries are staged, then the whole table is checked. -/
def execTcurveApply (t : Nat) (m : Msg) (s : State) : Out :=
  serve t rowTcurveApply unitFree m (fun s => checked (tcurveChecks m s) (applyCurve (le m.payload 0 1) (stageCurve m s))) s

/-! ### AGEING_CURVE_WRITE -/

/-- The 32 points: DVF 0–2000 and strictly increasing, FACTOR 16,384 and above. -/
def ageingChecks (p : List Byte) : List Check :=
  (List.range 32).flatMap fun k =>
    [ inRange (decide (le p (4 * k) 2 ≤ 2000) && (decide (k = 0) || decide (le p (4 * k - 4) 2 < le p (4 * k) 2))) (4 * k),
      inRange (decide (16384 ≤ le p (4 * k + 2) 2)) (4 * k + 2) ]

def rowAgeingCurve : Row := { opcode := 0x0707, domain := .service, states := isFw, shape := plainShape 128 }

/-- AGEING_CURVE_WRITE: used from the next completed sweep (13 R319). -/
def execAgeingCurveWrite (t : Nat) (m : Msg) (s : State) : Out :=
  serve t rowAgeingCurve unitFree m (fun s =>
    checked (ageingChecks m.payload ++ [calBusy s]) (.ok [] { s with conv := { s.conv with cal := markModified (setCal 80 m.payload s.conv.cal) } })) s

end Sys2Proof.Machine
end

