-- ==== Sys2Proof/Machine/Converters.lean ====
section
/-! DEFINITION. The commands of the converters and of heat: the scan, the self-test, urgent requests, the reference modes (14 R327 to R336),
the thermal thresholds and the flash interlock (18 R422 to R425), the thermal step (04 R97). -/

namespace Sys2Proof.Machine

/-! ### Results of the scan (R325, R326, R331, R335) -/

/-- A sample that is repeated: it carries TAINT, and neither OVR nor UNR (R331). An entry is one stream of a single converter. -/
def isRepeated (e : Sample × Bool) : Bool := e.2 && !isOut e.1

/-- The samples of one entry of `n`: `n`, and one more for each that is repeated, up to eight more (R331). -/
def entryOk (n : Nat) (l : List Sample) : Bool :=
  l.all sampleOk && decide (l.length = n + min 8 ((withTaint 2 l).filter isRepeated).length)

/-- The `n` samples that make the result: those that need no repeat first. -/
def entryUsed (n : Nat) (l : List Sample) : List (Sample × Bool) :=
  let w := withTaint 2 l
  ((w.filter fun e => !isRepeated e) ++ w.filter isRepeated).take n

/-- OVR, UNR and TAINT of a result (R331). -/
def anyOvr (used : List (Sample × Bool)) : Bool := used.any (·.1.ovr)
def anyUnr (used : List (Sample × Bool)) : Bool := used.any (·.1.unr)
def anyTaint (used : List (Sample × Bool)) : Bool := used.any isRepeated

/-- The mean code of the samples used, in 1/16 LSB; `n` is 8 or 16. -/
def meanCode (n : Nat) (used : List (Sample × Bool)) : Int := (16 / n : Nat) * (used.foldl (fun acc x => acc + x.1.code) 0 : Nat)

/-- The scaled result of a voltage input in its unit (Table 14.2), rounded half up (log entry 15). -/
def voltage (input : Nat) (x : Int) : Int :=
  match input with
  | 1 | 8 | 9 => (2 * x + 8) / 16
  | 2 => (x + 5) / 10
  | 3 => (4 * x + 8) / 16
  | _ => (x + 8) / 16

/-- The top and the bottom of an input's range in its unit (Table 14.2). -/
def rangeTop (input : Nat) : Int :=
  match input with
  | 1 | 8 | 9 => 8192
  | 2 => 6553
  | 3 => 16384
  | 4 | 5 | 6 | 7 => 4096
  | _ => 3070
def rangeBottom (input : Nat) : Int := if input < 10 then 0 else -1024

/-- The converter of the scan and of the urgent slot (Table 14.4). -/
def scanConv (s : State) : Conv := if hasConvB s then .b else .a

/-- The reading of an entry: a result that holds an OVR or UNR sample is the end of the range (R331). -/
def entryReading (c : CalData) (conv : Conv) (input : Nat) (l : List Sample) : Int :=
  let used := entryUsed 8 l
  if anyOvr used then rangeTop input
  else if anyUnr used then rangeBottom input
  else
    let x := scaled c input (corrected c conv (meanCode 8 used))
    if input < 10 then voltage input x else temperature c (input - 10) x

/-- The flags of a reading. -/
def entryFlags (n : Nat) (l : List Sample) : Nat :=
  let used := entryUsed n l
  bits [anyOvr used, anyUnr used, anyTaint used]

/-- TAINT_EXHAUSTED of one entry: counted, and recorded once per input until a clean result follows (R331). -/
def noteTaint (n input : Nat) (l : List Sample) (s : State) : State :=
  if anyTaint (entryUsed n l) then
    let s' := { s with conv := { s.conv with exhausted := incr32 s.conv.exhausted } }
    if s.conv.exhaustedNoted.contains input then s'
    else record srcCal 0x0007 input { s' with conv := { s'.conv with exhaustedNoted := s'.conv.exhaustedNoted ++ [input] } }
  else { s with conv := { s.conv with exhaustedNoted := s.conv.exhaustedNoted.filter (· ≠ input) } }

/-- One entry of `n` samples is counted: its flags, its repeats, TAINT_EXHAUSTED. -/
def countEntry (n input : Nat) (l : List Sample) (s : State) : State :=
  let c := countSamples 2 l s.conv
  noteTaint n input l { s with conv := { c with repeats := (c.repeats + (l.length - n)) % 4294967296 } }

/-- The entries of consecutive inputs from `first` on are counted. -/
def countEntries (n first : Nat) (entries : List (List Sample)) (s : State) : State :=
  entries.zipIdx.foldl (fun s e => countEntry n (first + e.2) e.1 s) s

/-- The readings of a scan are taken and counted. -/
def takeReadings (readings : List (List Sample)) (s : State) : State :=
  let conv := scanConv s
  countEntries 8 1 readings { s with conv := { s.conv with
    readings := readings.zipIdx.map (fun e => entryReading s.conv.cal conv (e.2 + 1) e.1),
    readingFlags := readings.map (entryFlags 8), lastScan := tsc s } }

/-! ### Heat (18 R422, R424, 04 R97) -/

/-- The hottest of the inputs `lo` to `hi`, the lowest of equals: its input and reading. -/
def hottest (readings : List Int) (lo hi : Nat) : Nat × Int :=
  (List.range (hi - lo)).foldl
    (fun b k => let v := readings.getD (lo + k) 0; if b.2 < v then (lo + k + 1, v) else b) (lo, readings.getD (lo - 1) 0)

/-- The group readings (R422). -/
def ledReading (s : State) : Nat × Int := hottest s.conv.readings 10 17
def dieReading (s : State) : Nat × Int := hottest s.conv.readings 18 19

/-- A threshold: source, entered at or above, left below, in 1/16 °C (Table 18.10). -/
def ledThresholds : List (Nat × Int × Int) := [(28, 2000, 1920), (29, 2160, 2080), (30, 2400, 2080)]
def dieThresholds : List (Nat × Int × Int) := [(31, 1760, 1680), (32, 1920, 1840), (33, 2160, 1920)]

/-- One threshold follows the group reading. -/
def followThreshold (r : Nat × Int) (x : Nat × Int × Int) (s : State) : State :=
  if x.2.1 ≤ r.2 then assertSource x.1 r.1 false s else if r.2 < x.2.2 then endSource x.1 s else s

/-- All six thresholds. -/
def followHeat (s : State) : State :=
  let led := ledReading s
  let die := dieReading s
  let wasLed := hasBit s.flt.cond 29
  let wasDie := hasBit s.flt.cond 32
  let s := throttleEdge wasLed (ledThresholds.foldl (fun s x => followThreshold led x s) s)
  dieEdge wasDie (dieThresholds.foldl (fun s x => followThreshold die x s) s)

/-- The flash interlock: both die sensors from −20 to +100 °C; allowed again from −18 to +98 °C (R425). -/
def followInterlock (s : State) : State :=
  let a := s.conv.readings.getD 17 0
  let b := s.conv.readings.getD 18 0
  let inside := fun (v lo hi : Int) => decide (lo ≤ v) && decide (v ≤ hi)
  if s.pwr.flashAllowed then
    if inside a (-320) 1600 && inside b (-320) 1600 then s
    else record srcPower 0x0008 1 { s with pwr := { s.pwr with flashAllowed := false } }
  else if s.flt.running && inside a (-288) 1568 && inside b (-288) 1568 then
    record srcPower 0x0008 0 { s with pwr := { s.pwr with flashAllowed := true } }
  else s

/-- The scan of the present period has not completed yet: it starts at a TSC multiple of 100,000 plus 5,000 (R335). -/
def scanDue (s : State) : Bool :=
  decide (5000 ≤ tsc s) && (decide (s.conv.lastScan < (tsc s - 5000) / 100000 * 100000 + 5000) || decide (tsc s < s.conv.lastScan))

/-- SCAN (R335): a scan of inputs 1 to 23 completes; the thresholds and the interlock are judged. It waits for the end of a sweep window or of
a calibration pass (R332). -/
def execScan (t : Nat) (readings : List (List Sample)) (s : State) : Out :=
  if readings.length ≠ 23 ∨ !readings.all (entryOk 8) then .fault .impossibleOperand
  else
    let s := advance t s
    if arrayUp s && scanDue s && !reserved s then .next (followInterlock (followHeat (takeReadings readings s))) else .next s

/-- THERMAL_STEP (04 R97): a full second in or out of throttle. -/
def execThermalStep (t : Nat) (s : State) : Out :=
  let s := advance t s
  if tsc s < s.gov.stepFrom + 100000000 then .next s
  else
    let n := if hasBit s.flt.cond 29 then min 8 (s.gov.step + 1) else s.gov.step - 1
    let changed := decide (n ≠ s.gov.step)
    let s := { s with gov := { s.gov with step := n, stepFrom := s.gov.stepFrom + 100000000 } }
    .next (if changed then record srcGov 0x0003 n s else s)

/-! ### Urgent requests (R333, 18 R423) -/

/-- The mode of a converter. -/
def isWarm (s : State) : Conv → Bool
  | .a => s.conv.aWarm
  | .b => s.conv.bWarm

/-- The corrected and scaled result of one sample, in 1/16 LSB; an out-of-range one is at the end of the range (R331). -/
def sampleResult (c : CalData) (conv : Conv) (input : Nat) (x : Sample) : Int :=
  if x.ovr then 65536 else if x.unr then 0 else scaled c input (corrected c conv (16 * (x.code : Int)))

/-- An urgent request: while the slot is occupied it is dropped. The slot is taken for the longest time of R333: 600 ns in WARM, 3.1 µs in
AUTO. A sweep window in progress loses the pixels it touches (R334). -/
def urgent (input : Nat) (x : Sample) (s : State) : State :=
  if s.conv.urgentUntil.elim false fun u => decide (tsc s < u) then
    let w := tsc s / 100000000
    let first := decide (s.conv.urgentWindow ≠ some w)
    let s := { s with conv := { s.conv with urgentDrop := incr32 s.conv.urgentDrop, urgentWindow := some w } }
    if first then record srcCal 0x0006 input s else s
  else
    let conv := scanConv s
    touchWindow { s with conv := { countSamples 2 [x] s.conv with
      urgentUntil := some (tsc s + if isWarm s conv then 60 else 310),
      urgentResult := some (input, sampleResult s.conv.cal conv input x) } }

/-- URGENT_REQUEST (R333): `x` is the sample it obtains. Inputs 30 and 31 are never selected. -/
def execUrgentRequest (t input : Nat) (x : Sample) (s : State) : Out :=
  if 30 ≤ input ∨ !sampleOk x then .fault .impossibleOperand
  else
    let s := advance t s
    .next (if arrayUp s then urgent input x s else s)

/-- SHUTDOWN_COMPARATOR (18 R423): the sensor of `input` crosses the shutdown threshold; FS30 or FS33, and an urgent request. -/
def execShutdownComparator (t input : Nat) (x : Sample) (s : State) : Out :=
  if input < 10 ∨ 20 ≤ input ∨ !sampleOk x then .fault .impossibleOperand
  else
    let s := advance t s
    .next (if arrayUp s then assertSource (if input < 18 then 30 else 33) input false (urgent input x s) else s)

/-! ### Self-test (R336) -/

/-- Nominal values of inputs 25 to 28, in 1/16 LSB. -/
def selfNominal : List Int := [1200 * 16, 2048 * 16, 0, 3840 * 16]

/-- The corrected result of one entry of the self-test, in 1/16 LSB (R331, R336). -/
def selfResult (c : CalData) (conv : Conv) (l : List Sample) : Int :=
  let used := entryUsed 16 l
  if anyOvr used then 65536 else if anyUnr used then 0 else corrected c conv (meanCode 16 used)

/-- The inputs of one converter whose corrected result lies more than 8 LSB from its nominal value. -/
def selfBad (results : List Int) : List Nat :=
  (results.zip selfNominal).zipIdx.filterMap fun e => if 128 < (e.1.1 - e.1.2).natAbs then some (25 + e.2) else none

/-- CONV_A and CONV_B differ by more than 6 LSB on input 26. -/
def selfDiffer (a b : List Int) : Bool := decide (96 < (a.getD 1 0 - b.getD 1 0).natAbs)

/-- The finding of a test: the DATA of FS38 when it fails, the first finding in the order A, B, difference. -/
def selfFinding (a b : List Int) (s : State) : Option Nat :=
  match selfBad a with
  | n :: _ => some n
  | [] =>
    if !hasConvB s then none
    else
      match selfBad b with
      | n :: _ => some (n + 32)
      | [] => if selfDiffer a b then some (26 + 32 * (Config.selfTestConv (tsc s) % 2)) else none

/-- The outcome of a test: FS38 is asserted while the latest two tests failed. -/
def selfOutcome (a b : List Int) (s : State) : State :=
  match selfFinding a b s with
  | some data =>
    let n := s.conv.selfRun + 1
    let s := { s with conv := { s.conv with selfFails := incr32 s.conv.selfFails, selfRun := n } }
    if 2 ≤ n then assertSource 38 data false s else s
  | none => endSource 38 { s with conv := { s.conv with selfRun := 0 } }

/-- The readings of a self-test are counted and judged. -/
def takeSelftest (a b : List (List Sample)) (s : State) : State :=
  let c := s.conv.cal
  let s := countEntries 16 25 a { s with conv := { s.conv with selfAt := some (tsc s) } }
  let s := if hasConvB s then countEntries 16 25 b s else s
  selfOutcome (a.map (selfResult c .a)) (b.map (selfResult c .b)) s

/-- SELFTEST (R336): `a` and `b` are the samples of inputs 25 to 28 on CONV_A and CONV_B; on -E, CONV_B does not exist. It waits for the end of a
sweep window or of a calibration pass (R332). -/
def execSelftest (t : Nat) (a b : List (List Sample)) (s : State) : Out :=
  let s := advance t s
  if a.length ≠ 4 ∨ (hasConvB s ∧ b.length ≠ 4) ∨ !(a ++ b).all (entryOk 16) then .fault .impossibleOperand
  else if arrayUp s && !reserved s && s.conv.selfAt.elim true (fun t0 => decide (t0 + 10000000 ≤ tsc s)) then .next (takeSelftest a b s)
  else .next s

/-! ### Reference modes (R327 to R329) -/

/-- The module has the converter. -/
def convPresent (s : State) : Conv → Bool
  | .a => true
  | .b => hasConvB s

/-- The sweep window of this frame or cadence is due within 4,000 tk. -/
def sweepNear (s : State) : Bool :=
  let s := freshBase s
  let st := windowStart s s.rake.rows
  sweepRuns s && !s.rake.swept && decide (s.rake.rows ≠ 0) && decide (tsc s ≤ st) && decide (st ≤ tsc s + 4000)

/-- The MP holds the converters in WARM: from 4,000 tk before a timed sequence until none has been due for 10,000,000 tk (R329), and through a
calibration run (R339). -/
def warmHeld (s : State) : Bool :=
  isRunning s 0x0701 || sweepNear s || (decide (s.conv.timedAt ≠ 0) && decide (tsc s < s.conv.timedAt + 10000000))

/-- REFERENCE_MODE_WARM: the MP enables the reference buffer. -/
def execReferenceModeWarm (t : Nat) (conv : Conv) (s : State) : Out :=
  let s := advance t s
  if !mpRuns s || !convPresent s conv || !warmHeld s then .next s
  else
    match conv with
    | .a => .next { s with conv := { s.conv with aWarm := true } }
    | .b => .next { s with conv := { s.conv with bWarm := true } }

/-- CONV_REF_READY: the reference of a converter in WARM has settled. -/
def execConvRefReady (t : Nat) (conv : Conv) (s : State) : Out :=
  let s := advance t s
  if !isWarm s conv then .next s
  else
    match conv with
    | .a => .next { s with conv := { s.conv with aReady := true } }
    | .b => .next { s with conv := { s.conv with bReady := true } }

/-- REFERENCE_MODE_AUTO: no timed sequence has been due for 10,000,000 tk (R329). -/
def execReferenceModeAuto (t : Nat) (conv : Conv) (s : State) : Out :=
  let s := advance t s
  if !mpRuns s || warmHeld s then .next s
  else
    match conv with
    | .a => .next { s with conv := { s.conv with aWarm := false, aReady := false } }
    | .b => .next { s with conv := { s.conv with bWarm := false, bReady := false } }

end Sys2Proof.Machine
end

