-- ==== Sys2Proof/Machine/Memories.lean ====
section
/-! DEFINITION. The commands of the DRAM controller and of the memory scrubbers (chapter 17). -/

namespace Sys2Proof.Machine

/-! ### Service order (R399 to R401) -/

/-- Rows of a bank (Table 17.1). -/
def dramRows (s : State) : Nat := if s.fuse.variant = .e then 32768 else 65536

/-- A bank's number over both channels. -/
def bankKey (r : DramReq) : Nat := r.channel * 8 + r.bank

/-- Blocks of 64 bytes of the usable capacity (R392): 1,792 MiB, on -E 896 MiB. -/
def dramBlocks (s : State) : Nat := if s.fuse.variant = .e then 14680064 else 29360128

/-- A request the controller can receive: consecutive 2 KiB alternate between the channels (R391), and only the compositor's requests are
URGENT (Table 17.3). -/
def dramReqOk (s : State) (r : DramReq) : Bool :=
  decide (r.channel = r.block / 32 % 2) && decide (r.block < dramBlocks s) && decide (r.bank < 8) && decide (r.row < dramRows s) && decide (r.owner < 256)
    && (r.composer || decide (r.urgency ≠ .urgent))

/-- The class of a request: a fetch of the compositor for the frame being composed carries that of the watermark (09 R224). -/
def fetchClass (s : State) (r : DramReq) : Urgency :=
  if r.composer then (if s.sched.cur.any (·.urgentNow) then .urgent else .normal) else r.urgency

/-- The requests of a channel, oldest first. -/
def channelQueue (s : State) (ch : Nat) : List DramReq := s.dram.queue.filter fun r => r.channel = ch

/-- The queued requests of a block that are older than position `i`. -/
def olderOn (q : List DramReq) (i : Nat) (write : Bool) : List DramReq :=
  (q.take i).filter fun x => decide (x.write = write) && decide ((q[i]?).map (·.block) = some x.block)

/-- A request may be served now: a read with an older write, and a write with an older read of its block, wait (R401). -/
def mayServe (q : List DramReq) (i : Nat) (r : DramReq) : Bool := (olderOn q i (!r.write)).isEmpty

/-- The write that a waiting read makes next: that of the oldest such read. -/
def hazardWrite (q : List DramReq) : Option DramReq :=
  q.zipIdx.findSome? fun e => if e.1.write then none else (olderOn q e.2 true).head?

/-- URGENT before NORMAL before BULK. -/
def urgencyRank : Urgency → Nat
  | .urgent => 0
  | .normal => 1
  | .bulk => 2

/-- The row of a request is open in its bank. -/
def rowOpen (s : State) (r : DramReq) : Bool := decide (memRead (dramRows s) s.dram.openRows (bankKey r) = r.row)

/-- The order of R399, for requests in the order of arrival: over-age first, then class, then open rows. -/
def dramBefore (s : State) (a b : DramReq) : Bool :=
  let old := fun (r : DramReq) => decide (r.arrival + 200 < tsc s)
  if old a || old b then old a && !old b
  else if urgencyRank a.urgency ≠ urgencyRank b.urgency then decide (urgencyRank a.urgency < urgencyRank b.urgency)
  else rowOpen s a && !rowOpen s b

/-- The first of a list in an order; of equals the earlier. -/
def firstBy {α : Type} (before : α → α → Bool) : List α → Option α
  | [] => none
  | x :: xs =>
    match firstBy before xs with
    | none => some x
    | some y => if before y x then some y else some x

/-- BULK accesses served in the present interval of 200 tk. -/
def bulkServed (s : State) (ch : Nat) : Nat :=
  let b := s.dram.bulk.getD ch (0, 0)
  if b.1 = tsc s / 200 then b.2 else 0

/-- BULK must be served now: an access takes 1 tk on its channel, and the rest of the interval is needed for the 32 of R400. -/
def bulkForced (s : State) (ch : Nat) : Bool := decide (200 - tsc s % 200 + bulkServed s ch ≤ 32)

/-- The request a channel serves next. -/
def nextDram (s : State) (ch : Nat) : Option DramReq :=
  let q := channelQueue s ch
  let free := (q.zipIdx.filter fun e => mayServe q e.2 e.1).map (·.1)
  let follow := (s.dram.follow.getD ch none).bind fun b => free.find? fun r => !r.write && decide (r.block = b)
  let forced := if bulkForced s ch then firstBy (dramBefore s) (free.filter fun r => r.urgency = .bulk) else none
  follow <|> hazardWrite q <|> forced <|> firstBy (dramBefore s) free

/-- A request joins the queue; a write merges with a write of its block that no read came after (R401). -/
def enqueueDram (r : DramReq) (s : State) : State :=
  let r := { r with arrival := tsc s, urgency := fetchClass s r }
  let last := (s.dram.queue.filter fun x => decide (x.channel = r.channel) && decide (x.block = r.block)).getLast?
  match last with
  | some x =>
    if x.write && r.write then
      { s with dram := { s.dram with queue := s.dram.queue.map fun y =>
          if y = x then { x with partialWord := x.partialWord || r.partialWord, ecc := r.ecc, draw := r.draw } else y } }
    else { s with dram := { s.dram with queue := s.dram.queue ++ [r] } }
  | none => { s with dram := { s.dram with queue := s.dram.queue ++ [r] } }

/-! ### Row disturb (R402, R403) -/

/-- Rows of a bank at the given distances that exist. -/
def neighbours (s : State) (row : Nat) (distances : List Nat) : List Nat :=
  distances.flatMap fun d => (if d ≤ row then [row - d] else []) ++ (if row + d < dramRows s then [row + d] else [])

/-- The entry a new row replaces in a full table: the lowest count, on a tie the lowest row. -/
def leastEntry (t : List (Nat × Nat)) : Option (Nat × Nat) :=
  firstBy (fun (a b : Nat × Nat) => decide (a.2 < b.2) || (decide (a.2 = b.2) && decide (a.1 < b.1))) t

/-- The counter table after an activate of a protected row (R402). -/
def countActivate (row : Nat) (t : List (Nat × Nat)) : List (Nat × Nat) :=
  if t.any (fun e => e.1 = row) then t.map fun e => if e.1 = row then (e.1, e.2 + 1) else e
  else if t.length < 64 then t ++ [(row, 1)]
  else
    match leastEntry t with
    | some x => t.map fun e => if e = x then (row, x.2 + 1) else e
    | none => t

/-- The neighbours of a row whose count has reached 4,096 are refreshed, and its count returns to 0. -/
def refreshRow (key row : Nat) (s : State) : State :=
  let t := memRead [] s.dram.tables key
  if t.any fun e => decide (e.1 = row) && decide (4096 ≤ e.2) then
    { s with dram := { s.dram with
        tables := memWrite [] s.dram.tables key (t.map fun e => if e.1 = row then (e.1, 0) else e),
        refreshed := some (key, neighbours s row [1, 2]) } }
  else s

/-- Every refresh that is due in a bank, before its next activate. -/
def refreshDue (key : Nat) (s : State) : State := (memRead [] s.dram.tables key).foldl (fun s e => refreshRow key e.1 s) s

/-- The row of a request is activated unless it is open. -/
def activate (r : DramReq) (s : State) : State :=
  if rowOpen s r then s
  else
    let key := bankKey r
    let s := refreshDue key s
    let s := { s with dram := { s.dram with openRows := memWrite (dramRows s) s.dram.openRows key r.row } }
    if r.prot then
      { s with dram := { s.dram with tables := memWrite [] s.dram.tables key (countActivate r.row (memRead [] s.dram.tables key)) } }
    else if r.draw = 0 then { s with dram := { s.dram with refreshed := some (key, neighbours s r.row [1]) } }
    else s

/-! ### ECC (R393, R394) -/

/-- The finding of a read of DRAM. -/
def dramEcc (ch owner : Nat) (ecc : Ecc) (s : State) : State :=
  match ecc with
  | .clean => s
  | .corrected => assertSource 5 ch false s
  | .uncorrectable => assertSource 6 (owner + 256 * ch) false s

/-- The cache of check lines after an access: a line covers 512 data bytes, and the 64 used most recently stay (R392). -/
def useCheckLine (block : Nat) (lines : List Nat) : List Nat := (block / 8 :: lines.filter (· ≠ block / 8)).take 64

/-- A request is served: it leaves the queue, its row is activated, and a read, or the read of a read-modify-write, is checked. -/
def serveDram (r : DramReq) (s : State) : State :=
  let q := channelQueue s r.channel
  let waits := r.write && q.any fun x => !x.write && decide (x.block = r.block)
  let n := bulkServed s r.channel + (if r.urgency = .bulk then 1 else 0)
  let s := { s with dram := { s.dram with
    queue := s.dram.queue.erase r, served := some r,
    checkLines := listUpdate s.dram.checkLines r.channel (useCheckLine r.block),
    follow := s.dram.follow.set r.channel (if waits then some r.block else none),
    bulk := s.dram.bulk.set r.channel (tsc s / 200, n) } }
  let s := activate r s
  if !r.write || r.partialWord then dramEcc r.channel r.owner r.ecc s else s

/-- DRAM_REQUEST (R398 to R403): a request may join the queue of its channel, and `channel` serves one. -/
def execDramRequest (t : Nat) (req : Option DramReq) (channel : Nat) (s : State) : Out :=
  if 2 ≤ channel ∨ req.any (fun r => !dramReqOk s r) then .fault .impossibleOperand
  else
    let s := advance t s
    if !clockRuns s then .next s
    else
      let s := match req with | some r => enqueueDram r s | none => s
      .next (match nextDram s channel with | some r => serveDram r s | none => s)

/-- DRAM_SCRUB (R393): the scrubber reads a word. -/
def execDramScrub (t channel owner : Nat) (ecc : Ecc) (s : State) : Out :=
  if 2 ≤ channel ∨ 256 ≤ owner then .fault .impossibleOperand
  else
    let s := advance t s
    .next (if clockRuns s then dramEcc channel owner ecc s else s)

/-! ### Drift, refresh (R397, R402) -/

/-- A write delay moved by one step, within the 64 steps. -/
def moveDelay (step : Int) (l : Lane) : Lane :=
  { l with writeDelay := if 0 < step then min 63 (l.writeDelay + 1) else if step < 0 then l.writeDelay - 1 else l.writeDelay }

/-- A refresh window starts in a channel: its counter tables are cleared (R402). -/
def startRefreshWindow (channel start : Nat) (d : Dram) : Dram :=
  { d with windowFrom := d.windowFrom.set channel start, tables := d.tables.filter fun e => decide (e.1 / 8 ≠ channel) }

/-- The refresh rate follows MR4; a change takes effect at once, with a new window (R397, Table 17.5). -/
def setRefresh (channel refresh now : Nat) (d : Dram) : Dram :=
  if d.refresh.getD channel 1 = refresh then d else startRefreshWindow channel now { d with refresh := d.refresh.set channel refresh }

/-- The interval oscillator of a channel and MR4 are read every 10,000,000 tk (R397). -/
def driftDue (channel : Nat) (s : State) : Bool := (s.dram.driftAt.getD channel none).elim true fun t0 => decide (t0 + 10000000 ≤ tsc s)

/-- DQS_DRIFT_CHECK (R397): the two lanes of a channel follow a drift of a full step; the refresh rate follows MR4. `steps` is the drift of
each lane in whole steps. -/
def execDqsDriftCheck (t channel : Nat) (steps : List Int) (refresh : Nat) (s : State) : Out :=
  if 2 ≤ channel ∨ steps.length ≠ 2 ∨ refresh = 0 then .fault .impossibleOperand
  else
    let s := advance t s
    if !clockRuns s || !driftDue channel s then .next s
    else
      .next { s with dram := setRefresh channel refresh (tsc s) { s.dram with
        driftAt := s.dram.driftAt.set channel (some (tsc s)),
        lanes := s.dram.lanes.zipIdx.map fun e => if e.2 / 2 = channel then moveDelay (steps.getD (e.2 % 2) 0) e.1 else e.1 } }

/-- NEIGHBOUR_REFRESH (R402). -/
def execNeighbourRefresh (t channel bank row : Nat) (s : State) : Out :=
  if 2 ≤ channel ∨ 8 ≤ bank ∨ dramRows s ≤ row then .fault .impossibleOperand
  else
    let s := advance t s
    .next (if clockRuns s then refreshRow (channel * 8 + bank) row s else s)

/-- The refresh window of a channel in tk: 32 ms at the base rate, less by the multiple in force (R397). -/
def refreshWindow (channel : Nat) (s : State) : Nat := 3200000 / s.dram.refresh.getD channel 1

/-- The window of a channel is over, and the one that runs now starts. -/
def nextRefreshWindow (channel : Nat) (s : State) : State :=
  let start := s.dram.windowFrom.getD channel 0
  let w := refreshWindow channel s
  if start + w ≤ tsc s then { s with dram := startRefreshWindow channel (start + (tsc s - start) / w * w) s.dram } else s

/-- REFRESH_WINDOW_START (R402): the counter tables of a channel whose window is over are cleared. -/
def execRefreshWindowStart (t : Nat) (s : State) : Out :=
  let s := advance t s
  .next (if clockRuns s then nextRefreshWindow 1 (nextRefreshWindow 0 s) else s)

/-! ### Pan SRAM (R406) -/

/-- PAN_SRAM_SCRUB: the scrubber reads a word of a bank. -/
def execPanSramScrub (t bank : Nat) (ecc : Ecc) (s : State) : Out :=
  if 16 ≤ bank then .fault .impossibleOperand
  else
    let s := advance t s
    if !clockRuns s then .next s
    else
      match ecc with
      | .clean => .next s
      | .corrected => .next (assertSource 3 bank false s)
      | .uncorrectable => .next (assertSource 4 bank false s)

end Sys2Proof.Machine
end

