-- ==== Sys2Proof/Machine/Rake.lean ====
section
/-! DEFINITION. The commands of Rake (chapter 13). -/

namespace Sys2Proof.Machine

/-- PROBE_WINDOW without measurements: the next probe window starts, when one is due and may start (R301, R305 to R308). -/
def startProbe (s : State) : State :=
  let s := freshBase s
  match windowSlot s with
  | some i => if mayStart s && decide (s.rake.windows ≤ i) && decide (i < s.rake.rows) then startWindow i s.rake.nextRow false false s else s
  | none => s

/-- The results of a probe window at its end (R303 to R314). -/
def endProbe (w : RakeWindow) (m : Probe) (s : State) : State :=
  let e := w.start + 400
  let s := checkCoverage w.row e (windowResults w.row m s)
  { s with rake := { s.rake with
    window := none, nextRow := (w.row + 1) % 640,
    passes := if w.row = 639 then incr32 s.rake.passes else s.rake.passes,
    lastPass := if w.row = 639 then e else s.rake.lastPass } }

/-- PROBE_WINDOW (R301 to R314): a probe window starts, or, 400 tk later, ends with what its phases have measured. -/
def execProbeWindow (t : Nat) (m : Option Probe) (s : State) : Out :=
  let s := advance t s
  match m with
  | none => .next (startProbe s)
  | some m => .next (match endedWindow s false with | some w => endProbe w m s | none => s)

/-- SWEEP_WINDOW without measurements: the sweep window of this frame or cadence starts. With a reference that is not ready it takes no sample
(14 R328); it does not overlap a calibration pass (14 R332). -/
def startSweep (s : State) : State :=
  let s := freshBase s
  if windowSlot s = some s.rake.rows ∧ s.rake.rows ≠ 0 ∧ !s.rake.swept ∧ mayStart s ∧ sweepRuns s ∧ !reserved s then
    let ready := convReady s .a && convReady s .b
    let s := { s with conv := { s.conv with timedAt := tsc s } }
    startWindow s.rake.rows (s.rake.cursor / (2048 / blockCols s)) true ready (if ready then s else refNotReady s)
  else s

/-- The results of a sweep window at its end. -/
def endSweep (w : RakeWindow) (m : Probe) (samples : List Sample) (s : State) : State :=
  sweepSamples w samples { windowResults w.row m s with rake := { (windowResults w.row m s).rake with window := none } }

/-- SWEEP_WINDOW (R316 to R319): the sweep window starts, or, 400 tk later, ends: the cursor's row has been probed, and its block sampled. -/
def execSweepWindow (t : Nat) (m : Option Probe) (samples : List Sample) (s : State) : Out :=
  let s := advance t s
  match m with
  | none => .next (startSweep s)
  | some m =>
    if !(samples.all sampleOk) then .fault .impossibleOperand
    else .next (match endedWindow s true with | some w => endSweep w m samples s | none => s)

/-- VF_MODEL_REWRITE (R320): at most once in 100,000,000 tk, by the MP. -/
def execVfModelRewrite (t : Nat) (s : State) : Out :=
  let s := advance t s
  if isFw s.mode.op && s.mp.restarting.isNone && s.conv.loaded && (s.rake.vfAt = 0 || decide (s.rake.vfAt + 100000000 ≤ tsc s)) then
    .next (rewriteModel s)
  else .next s

/-- The MP may program flash now. -/
def flashWork (s : State) : Bool := isFw s.mode.op && s.mp.restarting.isNone && s.pwr.flashAllowed

/-- FAULT_MAP_FLASH_WRITE (R315): the queued entries go to the delta log, as far as it has room. -/
def execFaultMapFlashWrite (t : Nat) (s : State) : Out :=
  let s := advance t s
  if flashWork s then
    let n := 32768 - s.flash.delta.length
    .next { s with flash := { s.flash with delta := s.flash.delta ++ s.rake.queue.take n }, rake := { s.rake with queue := s.rake.queue.drop n } }
  else .next s

/-- MAP_SNAPSHOT (R315): a snapshot goes into the slot with the older sequence, and the delta log is erased. -/
def execMapSnapshot (t : Nat) (s : State) : Out :=
  let s := advance t s
  let due := decide (s.rake.snapFrom + 8640000000 ≤ tsc s) || decide (24576 ≤ s.flash.delta.length)
  if flashWork s && s.rake.restored && due then
    let qa := s.flash.snapA.elim 0 (·.sequence)
    let qb := s.flash.snapB.elim 0 (·.sequence)
    let x : Snapshot := { sequence := max qa qb + 1, map := s.rake.map, dvf := s.rake.dvf, bridges := s.rake.bridges }
    let s := cvuJob 3 (Config.recordCrc ((s.cvus.getD 3 {}).jobs) % 4294967296) none s
    let s := { s with flash := { s.flash with delta := [] }, rake := { s.rake with snapFrom := tsc s } }
    .next (if qa ≤ qb then { s with flash := { s.flash with snapA := some x } } else { s with flash := { s.flash with snapB := some x } })
  else .next s

end Sys2Proof.Machine
end

