-- ==== Sys2Proof/Machine/SafeDimCmds.lean ====
section
/-! DEFINITION. The commands of Safe-Dim and the CUTOFF switch (chapter 16), and of the power stage's own measurements (04 R102, R103). -/

namespace Sys2Proof.Machine

/-! ### Inputs and filter (R372, R373) -/

/-- The filter runs: the collector runs, in every powered state but STANDBY and BROWNOUT_SAVE. -/
def filterRuns (s : State) : Bool := arrayUp s && s.flt.running

/-- One sample of the comparators at this TSC. A sample that does not follow the one before by 10,000 tk starts the ten anew. -/
def takeSample (a b : Bool) (s : State) : State :=
  let next := s.dim.sampledAt.elim false fun t0 => decide (t0 + 10000 = tsc s)
  { s with dim := { s.dim with samples := ((a, b) :: if next then s.dim.samples else []).take 10, sampledAt := some (tsc s) } }

/-- SDIM_SAMPLE (R372): at a TSC multiple of 10,000 the comparators are sampled, once. -/
def execSdimSample (t : Nat) (a b : Contact) (s : State) : Out :=
  let s := advance t s
  if filterRuns s && decide (tsc s % 10000 = 0) && decide (s.dim.sampledAt ≠ some (tsc s)) then
    .next (takeSample (sdimAsserted a) (sdimAsserted b) s)
  else .next s

/-- A filtered level: ten samples that agree decide it. -/
def filtered (old : Bool) (l : List Bool) : Bool := if l.all id then true else if l.all (!·) then false else old

/-! ### The demand (R374 to R376) -/

/-- I_S of Table 16.2. -/
def settleCurrent (s : State) : Nat := settleTotal s.arr.levels s.arr.latches

/-- I0 of Table 16.2: GOV_STATUS.I_PRED, in whole mA, of the bank on show; I_S while SRC_SEL is settle; 0 otherwise. -/
def rampStart (s : State) : Nat :=
  if s.arr.srcSettle then settleCurrent s
  else if s.arr.drvEn then bankPred s.arr s.arr.bankSel / 1000 * 1000
  else 0

/-- I_T of Table 16.2. -/
def rampTarget (s : State) (target : Nat) : Nat := if target = 1 then settleCurrent s else 0

/-- The kind of safe state the light on show has, as far as FULL, SAFE or a reaction carried out on the hardware make it one. -/
def shownKind (s : State) : Nat :=
  match s.mode.op with
  | .safe => s.mode.safeKind
  | .boot | .loader | .proofPending => max 2 (s.flt.reaction - 2)
  | _ => 0

/-- A demand starts with a ramp: the light on show is brighter than the target (Table 16.1). -/
def rampsFirst (s : State) (target : Nat) : Bool :=
  decide (s.mode.op ≠ .idle) && decide (shownKind s < settleOrDark s (target + 1))

/-- A demand starts at this tick (R374, Table 16.1); it interrupts a calibration run (14 R341). -/
def startDemand (a b : Bool) (s : State) : State :=
  let c := s.cfg.sdim
  let t0 := tsc s
  let ramp := rampsFirst s c.target
  let i0 := rampStart s
  let s := record srcSafeDim 0x0001 (bit a + 2 * bit b + 4 * c.target)
    { s with dim := { s.dim with
        demand := true, state := if ramp then .ramp else .applied, target := c.target, tDisc := c.tDisc, tRamp := c.tRamp,
        t0 := t0, tEnd := if ramp then t0 + 100000 * c.tRamp else t0, i0 := i0, iEnd := min i0 (rampTarget s c.target),
        demands := incr32 s.dim.demands, rampTripped := false } }
  let s := if s.mode.op = .idle then targetLight s else s
  rakeUpdate (interruptRun s)

/-- The light after the release of a target that was applied (R376). -/
def releaseLight (target : Nat) (held : Bool) (s : State) : State :=
  match s.mode.op with
  | .boot | .loader | .proofPending => if 3 ≤ settleOrDark s (target + 1) then restoreBeam s else s
  | .idle => if held && !s.flt.heldByReaction then closeSwitch s else s
  | _ => s

/-- Both channels are released: the ramp is withdrawn, or the target released. -/
def releaseDemand (s : State) : State :=
  let ramp := decide (s.dim.state = .ramp)
  let target := s.dim.target
  let held := s.dim.heldByDemand
  let ms := sat16 ((tsc s - s.dim.t0) / 100000)
  let s := { s with dim := { s.dim with
    demand := false, state := .quiet, target := 0, heldByDemand := false,
    withdrawn := if ramp then incr32 s.dim.withdrawn else s.dim.withdrawn } }
  let s := if ramp then record srcSafeDim 0x0002 ms s else releaseLight target held (record srcSafeDim 0x0004 0 s)
  rakeUpdate s

/-- t_end of the demand's ramp is reached. -/
def rampDue (s : State) : Bool := decide (s.dim.state = .ramp) && decide (s.dim.tEnd ≤ tsc s)

/-- The demand's ramp ends. -/
def endRamp (s : State) : State := if rampDue s then applyTarget s else s

/-! ### Discrepancy (R380) -/

/-- The channels still disagreed at the deadline, and this is a later tick. -/
def discrepancyDue (s : State) : Bool :=
  s.dim.disagree.elim false (fun ta => decide (ta + 100000 * s.dim.tDisc + 100000 ≤ tsc s)) && !hasBit s.flt.cond 16

/-- FS16. -/
def raiseDiscrepancy (s : State) : State :=
  if discrepancyDue s then
    assertSource 16 (if s.dim.a then 0 else 1) false { s with dim := { s.dim with discrepancies := incr32 s.dim.discrepancies } }
  else s

/-- The channels agree or disagree at this tick. -/
def followAgreement (s : State) : State :=
  if s.dim.a ≠ s.dim.b then { s with dim := { s.dim with disagree := some (s.dim.disagree.getD (tsc s)) } }
  else endSource 16 { s with dim := { s.dim with disagree := none } }

/-! ### The proof cycle (R381 to R383) -/

/-- The proof is not seen by the deadline, and this is a later tick. -/
def proofDue (s : State) : Bool :=
  s.dim.proofFrom.elim false (fun tp => decide ((tp + 100000 * s.dim.proofWindow) / 100000 * 100000 + 100000 ≤ tsc s))
    && !s.dim.proofSeen && !s.dim.proofLate && isFw s.mode.op

/-- The furthest stage reached (R382). -/
def proofStage (s : State) : Nat := if s.dim.everLong then 2 else if s.dim.everBoth then 1 else 0

/-- FS17. -/
def raiseProofMissing (s : State) : State :=
  if proofDue s then assertSource 17 (proofStage s) false { s with dim := { s.dim with proofLate := true } } else s

/-- The proof is seen at this tick: the transition out of PROOF_PENDING, unless calibration is still loading (14 R344). -/
def seeProof (s : State) : State :=
  let ms := sat16 ((tsc s - s.dim.proofFrom.getD 0) / 100000)
  let s := record srcSafeDim 0x0005 ms { s with dim := { s.dim with proofSeen := true, proofTsc := tsc s, bothFrom := none, bothLong := false } }
  let s := endSource 17 s
  if s.conv.loaded then proofTransition s else { s with dim := { s.dim with proofWaits := true } }

/-- The sequence of R381 at this tick; `oldA` and `oldB` are the filtered levels before it. -/
def followProof (oldA oldB : Bool) (s : State) : State :=
  let x := s.dim
  if x.proofFrom.isNone || x.proofSeen || !isFw s.mode.op then s
  else if x.a && x.b then
    let from_ := if oldA && oldB then x.bothFrom.getD (tsc s) else tsc s
    let long := decide (from_ + 1000000 ≤ tsc s)
    { s with dim := { x with bothFrom := some from_, bothLong := long, everBoth := true, everLong := x.everLong || long } }
  else if !x.bothLong || (x.a && !oldA) || (x.b && !oldB) then { s with dim := { x with bothFrom := none, bothLong := false } }
  else if x.a || x.b then s
  else seeProof s

/-! ### The filter tick -/

/-- What falls due at a tick before its levels are taken: the ramp's end, FS16, FS17. -/
def tickDue (s : State) : State := raiseProofMissing (raiseDiscrepancy (endRamp s))

/-- The filtered levels taken; a demand starts or ends; the agreement and the proof are followed. -/
def takeLevels (s : State) : State :=
  let oldA := s.dim.a
  let oldB := s.dim.b
  let a := filtered oldA (s.dim.samples.map (·.1))
  let b := filtered oldB (s.dim.samples.map (·.2))
  let s := { s with dim := { s.dim with a := a, b := b, valid := true } }
  let s := if !s.dim.demand && (a || b) then startDemand a b s else if s.dim.demand && !a && !b then releaseDemand s else s
  followProof oldA oldB (followAgreement s)

/-- The ten samples of the tick are there: those of tick − 90,000 tk to tick (R372). -/
def tenSamples (s : State) : Bool := decide (s.dim.samples.length = 10) && decide (s.dim.sampledAt = some (tsc s))

/-- SDIM_FILTER_TICK (R372 to R383): at a TSC multiple of 100,000 with ten samples behind it. -/
def execSdimFilterTick (t : Nat) (s : State) : Out :=
  let s := advance t s
  if !filterRuns s || decide (tsc s % 100000 ≠ 0) then .next s
  else
    let s := tickDue s
    if tenSamples s then .next (takeLevels s) else .next s

/-- SDIM_DISCREPANCY (R380). -/
def execSdimDiscrepancy (t : Nat) (s : State) : Out :=
  let s := advance t s
  if filterRuns s then .next (raiseDiscrepancy s) else .next s

/-- PROOF_MISSING (R382). -/
def execProofMissing (t : Nat) (s : State) : Out := .next (raiseProofMissing (advance t s))

/-! ### The ramp (R377 to R379) -/

/-- A ramp tick of a ramp from `t0` to `tEnd` falls now. -/
def rampTickNow (t0 tEnd now : Nat) : Bool := decide (t0 ≤ now) && decide (now < tEnd) && decide ((now - t0) % 10000 = 0)

/-- The ramps that have a tick now, as envelopes at a time (R378, 18 R408, R428). -/
def tickEnvelopes (s : State) (at_ : Nat) : List Nat :=
  let x := s.dim
  (if decide (x.state = .ramp) && rampTickNow x.t0 x.tEnd (tsc s) then [envAt x.t0 x.tEnd x.i0 x.iEnd at_] else [])
    ++ (match x.idleRamp with
      | some (t0, tEnd, i0) => if rampTickNow t0 tEnd (tsc s) then [envAt t0 tEnd i0 0 at_] else []
      | none => [])

/-- The least of a list, or a number above it. -/
def leastOr (d : Nat) (l : List Nat) : Nat := l.foldl min d

/-- The reference of the bank on show lowered to an envelope (R378); a write never raises it (03 R68). -/
def lowerShown (env : Nat) (s : State) : State :=
  if bankLit s then
    let shown := s.arr.bankSel
    let v := min (bankScale s.arr shown) (scaleFor (bankSum s.arr shown) env).toNat
    { s with arr := setBankScale shown v s.arr }
  else s

/-- RAMP_TICK. -/
def execRampTick (t : Nat) (s : State) : Out :=
  let s := advance t s
  match tickEnvelopes s (tsc s + 10000) with
  | [] => .next s
  | e :: es =>
    let now := match tickEnvelopes s (tsc s) with | [] => 0 | x :: xs => leastOr x xs
    .next (lowerShown (leastOr e es) { s with dim := { s.dim with envelope := now } })

/-- RAMP_END (R377, 18 R408): t_end applies the target, or takes the module to IDLE. -/
def execRampEnd (t : Nat) (s : State) : Out :=
  let s := endRamp (advance t s)
  if s.mode.op = .full && s.dim.idleRamp.elim false (fun r => decide (r.2.1 ≤ tsc s)) then .next (enterIdle s) else .next s

/-- The window from `tw` lies within a ramp, and the mean exceeds its limit (R379). -/
def overRamp (s : State) (tw mean t0 tEnd i0 iEnd : Nat) : Bool :=
  let e := envAt t0 tEnd i0 iEnd tw
  let e := if settleIn s (tw / 100000) then max e (settleCurrent s) else e
  decide (t0 ≤ tw) && decide (tw + 100000 ≤ tEnd) && decide (e + i0 / 20 + 110000 < mean)

/-- The demand's ramp is checked: it runs, or its end was reached without FS15 (R379). -/
def rampChecked (s : State) : Bool := s.dim.demand && decide (s.dim.t0 < s.dim.tEnd) && !s.dim.rampTripped

/-- RAMP_ENVELOPE (R379): the latest window of R103 that has ended, with its mean in µA; each is judged once. -/
def execRampEnvelope (t mean : Nat) (s : State) : Out :=
  let s := advance t s
  let tw := tsc s / 100000 * 100000 - 100000
  let above := (rampChecked s && overRamp s tw mean s.dim.t0 s.dim.tEnd s.dim.i0 s.dim.iEnd)
    || s.dim.idleRamp.elim false fun r => overRamp s tw mean r.1 r.2.1 r.2.2 0
  if decide (tsc s < 100000) || decide (s.dim.rampWindow = some (tw / 100000)) then .next s
  else
    let s := { s with dim := { s.dim with rampWindow := some (tw / 100000) } }
    if above then
      let s := { s with dim := { s.dim with rampTripped := true, state := if s.dim.state = .ramp then .applied else s.dim.state } }
      .next (assertSource 15 (sat16 (mean / 10000)) false s)
    else .next s

/-! ### The power stage (04 R102, R103) -/

/-- B_high over the window `k` and the one before, in µA: the effective budgets in force, 4.0 A while the settle source is selected. -/
def highBudget (s : State) (k : Nat) : Nat := max (max s.gov.prevBudget s.gov.windowMax) (if settleIn s k then 4000000 else 0)

/-- A mean exceeds 1.05 × B_high + 50 mA. -/
def overBudget (mean bHigh : Nat) : Bool := decide (21 * bHigh + 1000000 < 20 * mean)

/-- The next window starts: what this one held becomes the window before. -/
def rollWindow (k mean : Nat) (s : State) : State :=
  { s with
    gov := { s.gov with prevBudget := max s.gov.windowMax (if settleIn s k then 4000000 else 0),
                        windowMax := if s.arr.srcSettle then 0 else s.gov.inForce, windowsDone := k + 1 },
    dim := { s.dim with lastMean := mean } }

/-- GOVERNOR_ENVELOPE (R103): window k has ended with its mean in µA; FS14 when it and the window before both exceed the limit. -/
def execGovernorEnvelope (t mean : Nat) (s : State) : Out :=
  let s := advance t s
  let k := tsc s / 100000 - 1
  if !filterRuns s || decide (tsc s < 100000) || decide (k < s.gov.windowsDone) then .next s
  else
    let b := highBudget s k
    let above := decide (s.gov.windowsDone = k) && overBudget s.dim.lastMean b && overBudget mean b
    let s := rollWindow k mean s
    if above then .next (assertSource 14 (sat16 (mean / 10000)) false s) else .next s

/-- The VLED regulation monitor is blind: VIN lies below V_BO or rose above it less than 10,000 tk ago (02 R48). -/
def vledBlind (s : State) : Bool := s.pwr.belowFrom.isSome || s.pwr.blindUntil.elim false fun u => decide (tsc s < u)

/-- VLED is rising to a higher target: 30 µs from its command (R101). -/
def vledRising (s : State) : Bool := s.arr.vledRose.elim false fun t0 => decide (tsc s ≤ t0 + 3000)

/-- A CUTOFF test pulse is made, or VLED recovers from it until the recovery check 10 µs after its end (16 R385). -/
def pulseBlind (s : State) : Bool := s.dim.pulsedAt.elim false fun t0 => decide (tsc s ≤ t0 + 1060)

/-- The measurement `mv` lies in the band below the target in force that R102 watches, in the band above it; the exclusions of R102 apply. -/
def vledTooLow (mv : Nat) (s : State) : Bool := decide (mv + 100 < s.arr.vled) && !vledBlind s && !pulseBlind s && !vledRising s
def vledTooHigh (mv : Nat) (s : State) : Bool := decide (s.arr.vled + 300 < mv) && !vledBlind s && !pulseBlind s

/-- VLED_REGULATION (R102): the power stage measures VLED, in mV. FS44 follows once VLED has stayed more than 100 mV below the target in force
for more than 2,000 tk, or more than 300 mV above it for more than 10,000 tk; it ends when VLED is back in its band. -/
def execVledRegulation (t mv : Nat) (s : State) : Out :=
  let s := advance t s
  if !filterRuns s then .next s
  else
  let low := if vledTooLow mv s then some (s.arr.vledLow.getD (tsc s)) else none
  let high := if vledTooHigh mv s then some (s.arr.vledHigh.getD (tsc s)) else none
  let s := { s with arr := { s.arr with vledLow := low, vledHigh := high } }
  if low.elim false fun t0 => decide (t0 + 2000 < tsc s) then .next (assertSource 44 0 false s)
  else if high.elim false fun t0 => decide (t0 + 10000 < tsc s) then .next (assertSource 44 1 false s)
  else if low.isNone ∧ high.isNone then .next (endSource 44 s)
  else .next s

/-! ### The CUTOFF switch (R384 to R387) -/

/-- A pulse falls within 100 tk before a window of this frame or cadence, within one, or within 100 tk after it (13 R308): they follow one
another every 500 tk. DEDUCED: a window that a latch update holds back may start at any time, so no pulse is placed beside it (log entry
55). -/
def pulseInWindows (s : State) : Bool :=
  let s := freshBase s
  let n := s.rake.rows + (if sweepRuns s && decide (s.rake.rows ≠ 0) then 1 else 0)
  let waits := latchHolds s && decide (s.rake.windows < n) && decide (windowStart s s.rake.windows ≤ tsc s + 100)
  decide (s.rake.mode ≠ 0) && (decide (windowStart s 0 ≤ tsc s + 100) && decide (tsc s < windowStart s n) || waits)

/-- A pulse is deferred (R385). -/
def pulseDeferred (s : State) : Bool := pulseInWindows s || passRuns s || s.pwr.belowFrom.isSome

/-- A test pulse may be made in this state with the switch commanded closed. -/
def pulseState (s : State) : Bool := (isFw s.mode.op || decide (s.mode.op = .loader)) && !s.arr.switchOpen

/-- The instant of R385 that the TSC has reached now; a value it skips is acted on one tick later (01 R22). -/
def pulseInstant (s : State) : Option Nat :=
  let d := (tsc s - 50000) / 10000000 * 10000000 + 50000
  if 50000 ≤ tsc s ∧ tsc s ≤ d + 1 then some d else none

/-- A pulse is due now: at its instant, after a deferral, or as the repeat of a failed one. -/
def pulseDue (s : State) : Bool :=
  ((pulseInstant s).isSome && decide (s.dim.pulseAt ≠ pulseInstant s)) || s.dim.pulseWaits
    || s.dim.retestAt.elim false fun u => decide (u ≤ tsc s)

/-- The instant of the pulse made or deferred now: one that fell due before keeps the latest. -/
def pulseTaken (s : State) : Option Nat := (pulseInstant s).or s.dim.pulseAt

/-- The outcome of a pulse (R386). The recovery check is not made when the switch was opened for good during the pulse (R387). -/
def pulseOutcome (fallOk : Bool) (recoveryOk : Option Bool) (s : State) : State :=
  let again := s.dim.retest
  let s := { s with dim := { s.dim with pulseAt := pulseTaken s, pulseWaits := false, retestAt := none, retest := false,
                                        pulses := incr32 s.dim.pulses, pulsedAt := some (tsc s) } }
  if fallOk && recoveryOk.getD true then s
  else
    let d := if fallOk then 1 else 0
    let s := record srcSafeDim 0x0008 d { s with dim := { s.dim with pulseFails := incr32 s.dim.pulseFails } }
    if again then assertSource 18 d false s
    else { s with dim := { s.dim with retest := true, retestAt := some (tsc s + 100000) } }

/-- CUTOFF_TESTPULSE (R385 to R387): the pulse with its two checks; no recovery check when an opening of the switch arrives during the
pulse. -/
def execCutoffTestpulse (t : Nat) (fallOk : Bool) (recoveryOk : Option Bool) (s : State) : Out :=
  let s := advance t s
  if !pulseState s || !pulseDue s then .next s
  else if pulseDeferred s then
    if s.dim.pulseWaits then .next s
    else .next { s with dim := { s.dim with pulseAt := pulseTaken s, pulseWaits := true }, rake := { s.rake with deferred := incr32 s.rake.deferred } }
  else .next (pulseOutcome fallOk recoveryOk s)

/-- SWITCH_READBACK (R384): the position is read back; FS18 with DATA 2 once it has differed from the command for more than 5 µs. -/
def execSwitchReadback (t : Nat) (isOpen : Bool) (s : State) : Out :=
  let s := advance t s
  if isOpen = s.arr.switchOpen then .next { s with dim := { s.dim with differs := none, differsNoted := false } }
  else
    let t0 := s.dim.differs.getD (tsc s)
    if t0 + 500 < tsc s ∧ !s.dim.differsNoted then
      .next (assertSource 18 2 false { s with dim := { s.dim with differs := some t0, differsNoted := true } })
    else .next { s with dim := { s.dim with differs := some t0 } }

end Sys2Proof.Machine
end

