-- ==== Sys2Proof/Machine/Sync.lean ====
section
/-! DEFINITION. The commands of the sync chain (chapter 05). Times on the line are in units of 2.5 ns, one CLK_PIX cycle: 4 to the tk. -/

namespace Sys2Proof.Machine

/-! ### Symbols (R116, R117) -/

/-- The bits of a vector, least significant first. -/
def bitsOf {w : Nat} (v : BitVec w) : List Bool := (List.range w).map v.getLsbD

/-- CHECK of a symbol: over bits 8 to 35 in transmission order (Table 5.1). -/
def symCheck (type : BitVec 4) (payload : BitVec 24) : BitVec 4 := crc4 (bitsOf type ++ bitsOf payload)

/-- A symbol with its CHECK. -/
def mkSym (type : BitVec 4) (payload : BitVec 24) : Sym := { mark := 0x5C, type := type, payload := payload, check := symCheck type payload }

/-- A symbol without coding error (R118). -/
def symOk (x : Sym) : Bool :=
  decide (x.mark = 0x5C) && decide (1 ≤ x.type.toNat) && decide (x.type.toNat ≤ 4) && decide (x.check = symCheck x.type x.payload)

/-- A field of a payload. -/
def symField (x : Sym) (off n : Nat) : Nat := x.payload.toNat / 2 ^ off % 2 ^ n

/-- Payloads of Table 5.2. -/
def sluicePayload (frame : Nat) (bank : Bank) (fine : Nat) : BitVec 24 :=
  BitVec.ofNat 24 (frame % 65536 + 65536 * (match bank with | .a => 0 | .b => 1) + 131072 * (fine % 64))
def enumPayload (depth : Nat) (tooDeep : Bool) : BitVec 24 := BitVec.ofNat 24 (depth % 512 + 512 * bit tooDeep)
def headPayload (lenM1 origin epoch : Nat) (run : Bool) : BitVec 24 :=
  BitVec.ofNat 24 (lenM1 % 512 + 512 * (origin % 512) + 262144 * (epoch % 32) + 8388608 * bit run)

/-! ### Arrival of symbols -/

/-- A symbol at SYNC_IN: a valid one is an arrival, a coding error is not (R118, R131). DESIGN CHOICE: a coding error breaks the run of 16
consecutive valid symbols, a silence does not (log entry 49). -/
def symArrive (x : Sym) (s : State) : State :=
  if symOk x then
    { s with sync := { s.sync with
        carrier := s.sync.carrier || !s.sync.loss, heard := true,
        validRun := if s.sync.lastSym = tsc s ∧ s.sync.validRun ≠ 0 then s.sync.validRun else s.sync.validRun + 1, lastSym := tsc s } }
  else { s with sync := { s.sync with validRun := 0 } }

/-- The module ignores SYNC_IN in role FORCE_HEAD (R126). -/
def listens (s : State) : Bool := arrayUp s && !(s.sync.role = .head && decide (s.cfg.sync.role = 1))

/-! ### Emission -/

/-- The symbol of a slot of a driving node (R119, R120); the second component says that it is the SLUICE of the next swap. -/
def slotSymbol (s : State) (idx : Nat) : Sym × Bool :=
  let d := s.sync.depth
  let n := s.sched.nextSwap
  let k : Int := 5 * ((s.sync.len : Int) - 1 - d) + 60
  let x := 4 * swapOf s.sched n - k
  let e := x / 40 * 40
  if s.sched.running ∧ s.sync.sluiceSent ≠ some n ∧ e ≤ 40 * (idx : Int) then
    (mkSym 2 (sluicePayload n s.arr.bankSel.other (x - e).toNat), true)
  else if idx % 10 = 0 then
    (mkSym 4 (headPayload (s.sync.len - 1) d s.sync.epoch s.sched.running), false)
  else if idx % 10 = 5 then (mkSym 3 (enumPayload (d + 1) (decide (511 ≤ d))), false)
  else (mkSym 1 0, false)

/-- A slot ends now: the TSC is a multiple of 10 whose slot has not been sent (R119). -/
def slotDue (s : State) : Bool := arrayUp s && decide (tsc s % 10 = 0) && decide (s.sync.slotAt ≠ some (tsc s))

/-- SYMBOL_SLOT (R119, R125, R131): the slot that ends at a TSC multiple of 10. A driving node sends its symbol; a member sends IDLE
while it has nothing to repeat. -/
def execSymbolSlot (t : Nat) (s : State) : Out :=
  let s := advance t s
  if !slotDue s then .next s
  else
    let s := { s with sync := { s.sync with slotAt := some (tsc s) } }
    if drives s then
      let x := slotSymbol s (tsc s / 10)
      .next { s with sync := { s.sync with lineOut := some x.1, sluiceSent := if x.2 then some s.sched.nextSwap else s.sync.sluiceSent } }
    else if s.sync.carrier then .next s
    else .next { s with sync := { s.sync with lineOut := some (mkSym 1 0) } }

/-- What a member sends for a received symbol (R122, R129). -/
def repeated (s : State) (x : Sym) : Sym :=
  if symOk x ∧ x.type = 3 then mkSym 3 (enumPayload (s.sync.depth + 1) (decide (symField x 9 1 = 1) || decide (511 ≤ s.sync.depth))) else x

/-- SYMBOL_REPEAT (R122): a member repeats a symbol; a driving node, and a member during a loss, only take its arrival. -/
def execSymbolRepeat (t : Nat) (sym : Sym) (s : State) : Out :=
  let s := advance t s
  if !listens s then .next s
  else
    let s := symArrive sym s
    if drives s ∨ s.sync.loss then .next s else .next { s with sync := { s.sync with lineOut := some (repeated s sym) } }

/-! ### SLUICE received -/

/-- FRAME of the symbol is that of the latest executed swap (R114). DESIGN CHOICE: before the first executed swap, when LAST_FRAME reads 0,
no SLUICE is a duplicate (log entry 49). -/
def isDuplicate (sym : Sym) (s : State) : Bool := s.sync.lastFrame.elim false fun l => decide (l % 65536 = symField sym 0 16)

/-- A module compares BANK with its own inactive bank (R117). -/
def compareBank (sym : Sym) (s : State) : State :=
  if symField sym 16 1 = (match s.arr.bankSel.other with | .a => 0 | .b => 1) then s
  else { s with sync := { s.sync with bankMismatch := incr32 s.sync.bankMismatch } }

/-- A module takes a SLUICE: a duplicate is counted, BANK is compared, and a member whose schedule runs takes it for its next swap (R112,
R114, R117, R121). -/
def takeSluice (sym : Sym) (tEnd : Nat) (s : State) : State :=
  let frame := symField sym 0 16
  let n := s.sched.nextSwap
  if isDuplicate sym s then { s with sync := { s.sync with duplicates := incr32 s.sync.duplicates } }
  else
    let s := compareBank sym s
    if !s.sched.running ∨ s.sync.role ≠ .member then s
    else if frame ≠ n % 65536 then
      let noted := s.sync.mismatchNoted
      let s := { s with sync := { s.sync with frameMismatch := incr32 s.sync.frameMismatch, mismatchNoted := true } }
      if noted then s else record srcSync 0x0009 frame s
    else if s.sync.armed.isSome then { s with sync := { s.sync with duplicates := incr32 s.sync.duplicates } }
    else if swapOf s.sched n + 100 < tsc s then s
    else
      { s with sync := { s.sync with armed := some (frame, tEnd + 60 + symField sym 17 6 + 5 * (s.sync.len - 1 - s.sync.depth)) } }

/-- SLUICE_SYMBOL_RECEIVED (R121): `tEnd` is the end of the symbol at SYNC_IN in units of 2.5 ns. An island head ignores it (R133). -/
def execSluiceSymbolReceived (t : Nat) (sym : Sym) (tEnd : Nat) (s : State) : Out :=
  let s := advance t s
  if !listens s then .next s
  else
    let s := symArrive sym s
    .next (if symOk sym ∧ sym.type = 2 ∧ s.sync.role ≠ .islandHead then takeSluice sym tEnd s else s)

/-! ### HEAD and ENUM -/

/-- Both parts of the confirmation of R135 have come: the next swap, of this schedule or the next one, is the last that this node drives. -/
def confirmUpstream (s : State) : State :=
  if s.sync.upHead ∧ s.sync.upEnum then { s with sync := { s.sync with confirmed := true } } else s

/-- A member takes L, ORIGIN, EPOCH and RUN (R123, R129, R133). -/
def takeHead (sym : Sym) (s : State) : State :=
  let origin := symField sym 9 9
  let epoch := symField sym 18 5
  let first := s.sync.headTsc.isNone
  let fresh := first || decide (epoch ≠ s.sync.headEpoch)
  let moved := !first && decide (origin ≠ s.sync.origin)
  let s := { s with sync := { s.sync with
    len := symField sym 0 9 + 1, origin := origin, headEpoch := epoch, epoch := epoch,
    headRun := decide (symField sym 23 1 = 1), headTsc := some (tsc s),
    epochSeen := if fresh then some (tsc s) else s.sync.epochSeen,
    measuring := s.sync.measuring || (fresh && !s.sched.running) } }
  let s := if moved then record srcSync 0x000A origin s else s
  checkLen s

/-- HEAD_RECEIVED (R127, R129, R133, R135). -/
def execHeadReceived (t : Nat) (sym : Sym) (s : State) : Out :=
  let s := advance t s
  if !listens s then .next s
  else
    let s := symArrive sym s
    if !symOk sym ∨ sym.type ≠ 4 then .next s
    else
      match s.sync.role with
      | .head =>
        if s.sched.running then .next s
        else .next (takeHead sym (record srcSync 0x0002 (symField sym 9 9) { s with sync := { s.sync with role := .member } }))
      | .islandHead =>
        let good := !s.sync.loss && decide (symField sym 9 9 < s.sync.depth) && decide (symField sym 23 1 = 1)
          && decide (symField sym 0 9 + 1 = s.sync.len)
        .next (if good then confirmUpstream { s with sync := { s.sync with upHead := true } } else s)
      | _ => .next (takeHead sym s)

/-- A depth that disagrees while the depth is frozen (R128, R135). DESIGN CHOICE: a later ENUM that agrees with the frozen depth leaves
DEPTH_PENDING and the pending depth as they are (log entry 49). -/
def pendDepth (depth : Nat) (s : State) : State :=
  let noted := s.sync.depthPending
  let s := { s with sync := { s.sync with depthPending := true, pendingDepth := depth } }
  if noted then s else record srcSync 0x0004 depth s

/-- A depth is taken (R128). -/
def takeDepth (depth : Nat) (s : State) : State :=
  let changed := decide (s.sync.depth ≠ depth) || decide (s.sync.role = .unenumerated)
  let s := { s with sync := { s.sync with role := .member, depth := depth, depthPending := false } }
  checkLen (readdress (if changed then record srcSync 0x0003 depth s else s))

/-- OVER 1: the module takes no depth, nor one that was pending (R129). -/
def unenumerate (s : State) : State :=
  readdress (record srcSync 0x0006 0 { s with sync := { s.sync with role := .unenumerated, armed := none, depthPending := false, lenShort := false } })

/-- ENUM_RECEIVED (R128 to R130, R135). -/
def execEnumReceived (t : Nat) (sym : Sym) (s : State) : Out :=
  let s := advance t s
  if !listens s then .next s
  else
    let s := symArrive sym s
    let depth := symField sym 0 9
    let tooDeep := decide (symField sym 9 1 = 1)
    if !symOk sym ∨ sym.type ≠ 3 ∨ (depth = 0 ∧ !tooDeep) then .next s
    else
      match s.sync.role with
      | .head => .next s
      | .islandHead =>
        if tooDeep ∨ s.sync.loss then .next s
        else if depth = s.sync.depth then .next (confirmUpstream { s with sync := { s.sync with upEnum := true } })
        else .next (pendDepth depth s)
      | .member =>
        if tooDeep then .next (unenumerate s)
        else if s.sched.running then .next (if depth = s.sync.depth then s else pendDepth depth s)
        else .next (takeDepth depth s)
      | .unenumerated => if tooDeep ∨ s.sched.running then .next s else .next (takeDepth depth s)

/-! ### Roles, loss, measurement -/

/-- The module becomes head with depth 0 and starts an epoch (R126, R127, R130). -/
def becomeHead (s : State) : State :=
  readdress { s with sync := { s.sync with
    role := .head, depth := 0, epoch := (s.sync.epoch + 1) % 32, len := s.cfg.sync.chainLen, depthPending := false, lenShort := false,
    measuring := true, sluiceSent := none } }

/-- START_WINDOW_END (R126): 2 ms after the collector started. -/
def execStartWindowEnd (t : Nat) (s : State) : Out :=
  let s := advance t s
  if !arrayUp s ∨ s.sync.started ∨ tsc s ≤ s.sync.windowEnd then .next s
  else
    let heard := s.sync.heard
    let s := { s with sync := { s.sync with started := true } }
    if heard then .next s
    else
      let s := becomeHead s
      .next (record srcSync 0x0001 s.sync.epoch s)

/-- Loss detection is suspended while the upstream node measures its interconnect: 20 µs from 10 µs after a new EPOCH (R123). DESIGN CHOICE:
after the suspension the deadline still counts from the last symbol before it (log entry 49). -/
def lossSuspended (s : State) : Bool :=
  s.sync.epochSeen.elim false fun e => decide (e + 1000 ≤ tsc s) && decide (tsc s ≤ e + 3000)

/-- SYNC_LOSS (R131): no valid symbol by the deadline of 30 tk; FS23. DESIGN CHOICE: FLAGS.CARRIER of a driving node, which expects no
symbol, keeps its last value (log entry 49). -/
def execSyncLoss (t : Nat) (s : State) : Out :=
  let s := advance t s
  if arrayUp s && !drives s && s.sync.carrier && !s.sync.loss && decide (s.sync.lastSym + 30 < tsc s) && !lossSuspended s then
    .next (assertSource 23 0 false { s with sync := { s.sync with loss := true, carrier := false, validRun := 0 } })
  else .next s

/-- SYNC_LOSS_END (R131): 16 consecutive valid symbols. -/
def execSyncLossEnd (t : Nat) (s : State) : Out :=
  let s := advance t s
  if s.sync.loss ∧ 16 ≤ s.sync.validRun then .next (endSource 23 { s with sync := { s.sync with loss := false, carrier := true } })
  else .next s

/-- LINK_DELAY_MEASURE (R123): the measurement after a new epoch, in units of 1/64 ns. -/
def execLinkDelayMeasure (t delay : Nat) (s : State) : Out :=
  let s := advance t s
  if s.sync.measuring && !s.sched.running && arrayUp s then
    let long := decide (480 < delay)
    let s := { s with sync := { s.sync with measuring := false, linkDelay := sat16 delay, linkLong := long } }
    .next (if long then record srcSync 0x0007 (sat16 delay) s else s)
  else .next s

end Sys2Proof.Machine
end

