-- ==== Sys2Proof/Machine/PowerMsgs.lean ====
section
/-! DEFINITION. The power, sync and security groups but the sessions (12 Table 12.12): chapters 18, 05 and 19. -/

namespace Sys2Proof.Machine

/-! ### IDLE and the way back (18 R408, R410) -/

/-- The ramp of an accepted IDLE_REQUEST; one that runs already stays as it is. -/
def startIdleRamp (s : State) : State :=
  if s.dim.idleRamp.isSome then s
  else { s with dim := { s.dim with idleRamp := some (tsc s, tsc s + 100000 * s.cfg.sdim.tRamp, rampStart s) } }

def rowIdle : Row := { opcode := 0x0801, domain := .light, states := fun o => decide (o = .full), shape := plainShape 0 }

/-- IDLE_REQUEST (18 R408). -/
def execIdleRequest (t : Nat) (m : Msg) (s : State) : Out := serve t rowIdle unitFree m (fun s => .ok [] (startIdleRamp s)) s

/-- The FRAME reply of Table 12.14: the first frame of the schedule and its swap. -/
def firstFrameData (s : State) : List Byte := u64 s.sched.first ++ u64 (swapOf s.sched s.sched.first).toNat

/-- IDLE is left for FULL; a calibration run is interrupted (14 R341). -/
def wakeToLight (s : State) : State := enterFull (interruptRun s)

def rowWake : Row := { opcode := 0x0802, domain := .light, states := fun o => decide (o = .idle), shape := plainShape 0 }

/-- WAKE_TO_LIGHT (18 R410). -/
def execWakeToLight (t : Nat) (m : Msg) (s : State) : Out :=
  serve t rowWake unitFree m (fun s => .ok (firstFrameData (wakeToLight s)) (wakeToLight s)) s

/-! ### STANDBY (18 R411 to R413) -/

def standbyRetain (m : Msg) : Nat := le m.payload 0 2
def standbyWake (m : Msg) : Nat := le m.payload 2 1
def standbyFlags (m : Msg) : Nat := le m.payload 3 1
def standbyTimer (m : Msg) : Nat := le m.payload 4 4

/-- The sources a WAKE field selects (Table 18.3). -/
def wakeSources (wake : Nat) : List WakeSrc :=
  (if wake % 2 = 1 then [.contact] else []) ++ (if wake / 2 % 2 = 1 then [.timer] else []) ++ (if wake / 4 % 2 = 1 then [.canPattern] else [])

/-- The fields of STANDBY_REQUEST (Table 12.14). -/
def standbyChecks (m : Msg) : List Check :=
  [ inRange (decide (standbyRetain m < 32)) 0, inRange (between (standbyWake m) 1 7) 2, inRange (decide (standbyFlags m ≤ 1)) 3,
    inRange (decide (standbyTimer m ≤ 31536000) && (decide (1 ≤ standbyTimer m) || decide (standbyWake m / 2 % 2 = 0))) 4 ]

/-- A session over a link port is open. -/
def linkSession (s : State) : Bool := s.gate.sessions.any fun x => !x.ep.viaCan

/-- The refusers of Table 18.1 that apply, in ascending ID. -/
def refusers (m : Msg) (s : State) : List (Nat × Bool) :=
  [ (1, s.dim.demand),
    (2, isRunning s 0x0105 || isRunning s 0x0605 || isRunning s 0x0704 || decide (s.rake.queue ≠ []) || (s.pwr.slotWanted && s.pwr.flashAllowed)),
    (3, isRunning s 0x0701),
    (4, s.mode.unconfirmed || between s.flash.control.stage 1 4),
    (5, decide (wakeSources (standbyWake m) = [.canPattern]) && decide (standbyFlags m = 0)),
    (6, linkSession s) ]

/-- The first refuser that applies. -/
def refuser (m : Msg) (s : State) : Option Nat := ((refusers m s).find? (·.2)).map (·.1)

/-- A refusal is counted and recorded (R412). -/
def refuse (id : Nat) (s : State) : State :=
  record srcPower 0x0003 id { s with pwr := { s.pwr with refusals := listUpdate s.pwr.refusals (id - 1) incr32 } }

/-- What stays powered in STANDBY: flash and fuses, the always-on domain, and the retained banks 0 to 4 (Table 18.2 step 4, R404). -/
def dropPower (retain : Nat) (s : State) : State :=
  let has := fun (n : Nat) => decide (retain / 2 ^ n % 2 = 1)
  { State.reset with
    mode := { op := .standby },
    flash := s.flash, fuse := s.fuse, pending := s.pending,
    cfg := if has 4 then s.cfg else {},
    log := if has 1 then s.log else {},
    drw := { slots := s.drw.slots.map bootSlot, bank0 := has 0 },
    conv := if has 2 then { cal := { s.conv.cal with uniformity := [], vfBase := [] } } else {},
    rake := keepRake s.rake (if has 3 then { map := s.rake.map, bridges := s.rake.bridges, cands := s.rake.cands, queue := s.rake.queue } else {}),
    gate := { outbox := s.gate.outbox },
    pwr := { retain := retain, signatures := (List.range 5).map fun n => if has n then Config.bankSignature n % 4294967296 else 0,
             wakeSel := s.pwr.wakeSel, timer := s.pwr.timer, wakeAtEntry := s.pwr.wakeAtEntry,
             belowFrom := s.pwr.belowFrom } }

/-- The entry to STANDBY (Table 18.2); the first selected source that the main latch has seen wakes the module at once. -/
def enterStandby (m : Msg) (e : EntryWatch) (s : State) : State :=
  let sel := wakeSources (standbyWake m)
  let s := openSwitch 3 (loseAllSessions s)
  let s := rakeUpdate { s with mode := { s.mode with op := .standby } }
  let s := record srcPower 0x0004 (standbyRetain m) s
  dropPower (standbyRetain m)
    { s with pwr := { s.pwr with wakeSel := sel, timer := standbyTimer m, wakeAtEntry := sel.find? fun x => e.latched.contains x || (decide (x = .contact) && wakeAsserted e.pin) } }

def rowStandby : Row := { opcode := 0x0803, domain := .service, states := fun o => decide (o = .idle), shape := plainShape 8 }

/-- STANDBY_REQUEST (18 R411 to R413): the reply precedes the entry. -/
def execStandbyRequest (t : Nat) (m : Msg) (e : EntryWatch) (s : State) : Out :=
  serveThen t rowStandby unitFree m (fun s =>
    checked (standbyChecks m) (match refuser m s with | some id => .failIn eBusy id (refuse id s) | none => .ok [] s)) (enterStandby m e) s

/-! ### The sync group (05 R137, R127) -/

/-- A head that was a member or an island head leaves their faults behind. -/
def headNow (s : State) : State :=
  let s := becomeHead { s with sync := { s.sync with started := true, loss := false, missed := 0, confirmed := false, rejoining := false, upHead := false, upEnum := false } }
  endSource 24 (endSource 23 s)

/-- SYNC_CONFIG is written: a head starts an epoch, and FORCE_HEAD makes any module a head (Table 5.6). -/
def writeSync (c : SyncConfig) (s : State) : State :=
  let s := { s with cfg := { s.cfg with sync := c } }
  if c.role = 1 ∨ s.sync.role = .head then headNow s else s

def rowSyncConfig : Row := { opcode := 0x0901, domain := .light, states := isFw, shape := plainShape 4 }

/-- SYNC_CONFIG_WRITE: E_STATE before the values (R137). -/
def execSyncConfigWrite (t : Nat) (m : Msg) (s : State) : Out :=
  serve t rowSyncConfig unitFree m (fun s =>
    let c : SyncConfig := { chainLen := le m.payload 0 2, role := le m.payload 2 1 }
    checked [require (!s.sched.running) eState, inRange (between c.chainLen 1 512) 0, inRange (decide (c.role ≤ 1)) 2,
        inRange (decide (le m.payload 3 1 = 0)) 3]
      (.ok [] (writeSync c s))) s

def rowSyncEnumerate : Row := { opcode := 0x0902, domain := .light, states := isFw, shape := plainShape 0 }

/-- SYNC_ENUMERATE (R127): the reply carries the new EPOCH. -/
def execSyncEnumerate (t : Nat) (m : Msg) (s : State) : Out :=
  serve t rowSyncEnumerate unitFree m (fun s =>
    checked [require (decide (s.sync.role = .head) && !s.sched.running) eState]
      (.ok (u8 (becomeHead s).sync.epoch ++ [0, 0, 0]) (becomeHead s))) s

/-! ### Lifecycle and zeroisation (19 R430, R446) -/

/-- SERIAL [31:0], which CONFIRM repeats. -/
def serialLow (s : State) : Nat := s.fuse.serial % 4294967296

/-- Every domain key is present in the Locker. -/
def keysPresent (s : State) : Bool := !s.fuse.zeroised && decide (s.fuse.keys.length = 4) && s.fuse.keys.all fun k => k.any (· ≠ 0)

/-- Zeroisation (R446): the light and the operating state do not change. -/
def zeroise (s : State) : State :=
  let s := loseAllSessions { s with fuse := { s.fuse with
    keys := List.replicate 4 (List.replicate 16 0), imgPub := List.replicate 2 (List.replicate 64 0), zeroised := true } }
  record srcUpdate 0x0008 0 { s with fuse := { s.fuse with lifecycle := 3 } }

/-- The advance to the next lifecycle state is recorded; that to FIELD blows the debug-enable fuse. -/
def advanceTo (target : Nat) (s : State) : State :=
  record srcUpdate 0x0007 target { s with fuse := { s.fuse with lifecycle := target, debugBlown := s.fuse.debugBlown || decide (2 ≤ target) } }

/-- LIFECYCLE_ADVANCE: its fields, the next state, and the keys an advance to PROVISIONED needs. -/
def lifecycleChecks (p : List Byte) (s : State) : List Check :=
  [ inRange (between (le p 0 1) 1 3) 0, inRange (decide (le p 1 3 = 0)) 1, inRange (decide (le p 4 4 = serialLow s)) 4,
    require (decide (le p 0 1 = s.fuse.lifecycle + 1)) eState, require (decide (le p 0 1 ≠ 1) || keysPresent s) eState ]

def rowLifecycle : Row := { opcode := 0x0A03, domain := .service, states := isFw, shape := plainShape 8 }

/-- LIFECYCLE_ADVANCE (R430): answered once the fuses are blown; the advance to SCRAPPED is answered first and then zeroises. -/
def execLifecycleAdvance (t : Nat) (m : Msg) (s : State) : Out :=
  serveThen t rowLifecycle unitFree m (fun s =>
      let target := le m.payload 0 1
      checked (lifecycleChecks m.payload s) (.ok [] (if target = 3 then s else advanceTo target s)))
    (fun s => if le m.payload 0 1 = 3 then zeroise (advanceTo 3 s) else s) s

def rowZeroise : Row := { opcode := 0x0A04, domain := .service, states := isAny, shape := plainShape 4 }

/-- ZEROISE (R446): the reply is handed over first. -/
def execZeroise (t : Nat) (m : Msg) (s : State) : Out :=
  serveThen t rowZeroise unitFree m (fun s => checked [inRange (decide (le m.payload 0 4 = serialLow s)) 0] (.ok [] s)) zeroise s

end Sys2Proof.Machine
end

