-- ==== Sys2Proof/Machine/ReadWord.lean ====
section
/-! DEFINITION. READ_WORD (12 R294, Table 12.4): every configuration and status word in its own layout. -/

namespace Sys2Proof.Machine

/-! ### Words of state (01, 03) -/

/-- ARRAY_STATE (03 Table 3.3). -/
def arrayState (s : State) : List Byte :=
  u16 (bits [decide (s.arr.bankSel = .b), s.arr.srcSettle, s.arr.drvEn, s.arr.wrdone, latchBusyNow s.arr])

/-! ### Configuration words -/

/-- GOV_CONFIG (04 Table 4.3). -/
def govConfigWord (c : GovConfig) : List Byte := u16 c.precise ++ u16 c.balanced ++ u16 c.swift ++ u16 c.cool ++ u16 c.hostScale ++ u16 0

/-- SYNC_CONFIG (05 Table 5.9). -/
def syncConfigWord (c : SyncConfig) : List Byte := u16 c.chainLen ++ u8 c.role ++ u8 0

/-- COMP_CONFIG (07 Table 7.1). -/
def compConfigWord (c : CompConfig) : List Byte := u8 (bits [c.mirrorX, c.mirrorY]) ++ u8 0 ++ u16 0

/-- MONITOR_CONFIG (07 Table 7.9). -/
def monitorConfigWord (c : MonitorConfig) : List Byte :=
  u8 (bit c.enable) ++ u8 c.tap ++ u8 c.mode ++ u8 c.downOp ++ u8 c.everyN ++ u8 c.pcp ++ u16 0

/-- TIMING_CONFIG (09 Table 9.1). -/
def timingConfigWord (c : TimingConfig) : List Byte := u8 c.profile ++ u8 0 ++ u16 0 ++ u32 c.period ++ u64 c.anchorTsc ++ u64 c.anchorFrame

/-- LINK_CONFIG (10 Table 10.10). -/
def linkConfigWord (c : LinkConfig) : List Byte :=
  u8 c.speedA ++ u8 c.speedB ++ u8 c.phyRole ++ u8 c.addrMode ++ ipBytes c.ipAddr ++ ipBytes c.ipBase ++ u8 c.prefixLen ++ u8 c.psiferPcp
    ++ u16 c.vlanId ++ ipBytes c.monDestIp ++ u16 c.monDestPort ++ u16 c.hostTimeout ++ ipBytes c.mcastGroup ++ u32 0

/-- CAN_CONFIG (10 Table 10.11). -/
def canConfigWord (c : CanConfig) : List Byte := u8 c.nominal ++ u8 c.dataRate ++ u16 c.base ++ u8 c.indexMode ++ u8 0 ++ u16 c.index

/-- MAILBOX_CONFIG (11 Table 11.10). -/
def mailboxConfigWord (c : MailboxConfig) : List Byte := u16 c.sessionIdle ++ u16 c.authBurst ++ u32 0

/-- SDIM_CONFIG (12 Table 12.14). -/
def sdimConfigWord (c : SdimConfig) : List Byte := u16 c.tDisc ++ u16 c.tRamp ++ u8 c.target ++ u8 0 ++ u16 c.proofWindow

/-! ### Drawers (06, 07, 08) -/

/-- The drawer descriptor (06 Table 6.4). -/
def descriptorWord (d : Descriptor) : List Byte :=
  u8 d.type ++ u8 d.format ++ u8 d.tier ++ u8 d.operator ++ u8 (bits [d.isStatic, d.mirrorX, d.mirrorY]) ++ u8 d.stalePolicy ++ u16 d.staleLimit
    ++ u16 d.srcW ++ u16 d.srcH ++ u16 d.cropX ++ u16 d.cropY ++ u16 d.cropW ++ u16 d.cropH ++ s16 d.dstX ++ s16 d.dstY ++ u16 d.dstW
    ++ u16 d.dstH ++ u8 d.vtaps ++ u8 d.buffers ++ u8 d.curve ++ u8 0 ++ u16 d.stream ++ u16 0

/-- The parameter block of a type that has one (07 Table 7.3, 08 Table 8.1). -/
def paramsWord (type : Nat) (p : Params) : List Byte :=
  match type with
  | 4 => u8 p.kind ++ u8 0 ++ s16 p.originX ++ s16 p.originY ++ s16 p.dirX ++ s16 p.dirY ++ u16 p.length ++ u16 0
      ++ (List.range 17).flatMap fun k => u16 (p.profile.getD k 0)
  | 2 => u16 p.horizon ++ u16 0
  | _ => []

/-- The committed descriptor of a slot; of the fixed drawers only TYPE is given (06 R142). -/
def slotDescriptor (s : State) (n : Nat) : Descriptor := if n < 2 then { type := 5 + n } else (slotAt s n).desc

/-- Word 0x08. -/
def drawerWord (s : State) (n : Nat) : List Byte :=
  descriptorWord (slotDescriptor s n) ++ paramsWord (slotDescriptor s n).type (slotAt s n).params

/-- STATE of DRAWER_STATUS. The fixed drawers are never FREE, placed or retired (06 R142). -/
def slotCode (s : State) (n : Nat) : Nat :=
  if n < 2 then 1
  else
    match (slotAt s n).st with
    | .free => 0
    | .opened => 1
    | .placed => 2
    | .retiring => 3

/-- PENDING of DRAWER_STATUS. -/
def pendingBits (sl : Slot) : Nat := sl.pend.elim 0 fun p => bits [p.configure.isSome, p.place, p.release, p.destroy, p.flip]

/-- STALE of DRAWER_STATUS: VIDEO drawers only. -/
def staleCode (sl : Slot) : Nat :=
  if sl.st ≠ .placed ∨ sl.desc.type ≠ 0 then 0 else if sl.everArrived then bit sl.isStale else 2

/-- The fetch cost of a drawer as it is placed: a flattened member costs 0 (06 R156, R162). -/
def placedCost (s : State) (n : Nat) : Nat :=
  if (slotAt s n).place = 0 ∨ (slotAt s n).place = 3 then 0 else drawerCost (descIn s.drw.table n)

/-- DRAWER_STATUS (06 Table 6.9). -/
def drawerStatus (s : State) (n : Nat) : List Byte :=
  let sl := slotAt s n
  u16 (handleOf s n) ++ u8 (slotCode s n) ++ u8 sl.place ++ u8 (sl.cabinet.getD 255) ++ u8 (pendingBits sl) ++ u8 (sl.current.getD 255)
    ++ u8 (staleCode sl) ++ u32 (placedCost s n) ++ u32 sl.arrived ++ u32 sl.overrun
    ++ u64 sl.lastArrival ++ u32 sl.lastFrame

/-- Scalers in use. -/
def scalersUsed (s : State) : Nat := (s.drw.table.filter fun r => hasBuffers r.desc && isScaled r.desc).length

/-- Bytes of the placement in Pan SRAM, with the monitor ring. -/
def sramUsed (s : State) : Nat :=
  s.drw.items.foldl (fun acc i => if i.inSram then acc + i.memory else acc) 0 + retiringBytes s true
    + max (monitorRing s.cfg.mon) (monitorRing s.mon.inForce)

/-- PLACEMENT_STATUS (06 Table 6.10). -/
def placementStatus (s : State) : List Byte :=
  let items := s.drw.items
  u32 (sramUsed s) ++ u32 (dramMemory items + retiringBytes s false) ++ u32 (dramFetch items) ++ u32 (80 * s.sched.period)
    ++ u8 (s.drw.slots.filter fun sl => sl.st = .placed).length ++ u8 (scalersUsed s)
    ++ u8 (items.filter fun i => between i.key 256 259).length ++ u8 0 ++ u32 s.drw.seq ++ u32 s.drw.effectFrame

/-- COMP_STATUS (07 Table 7.11). -/
def compStatus (s : State) : List Byte :=
  u8 (bit (decide (s.drw.blend ≠ []))) ++ u8 s.drw.blend.length ++ u8 (bits [s.cfg.comp.mirrorX, s.cfg.comp.mirrorY]) ++ u8 (scalersUsed s)
    ++ u32 s.comp.chestRef ++ u32 s.comp.chestLast ++ u32 s.comp.chestFails ++ u32 s.mon.sent ++ u32 s.mon.skipped ++ u8 s.mon.effN ++ u8 0
    ++ u16 0 ++ u32 s.comp.frame

/-- SHADE_STATUS (08 Table 8.8). -/
def shadeStatus (s : State) (n : Nat) : List Byte :=
  let sl := slotAt s n
  u16 (handleOf s n) ++ u8 (sl.objects.filter (·.active)).length ++ u8 0 ++ u32 sl.updates ++ u32 sl.breaches ++ u32 sl.horizonHits
    ++ u32 sl.updateFrame ++ u32 0 ++ u64 sl.lastHandoff

/-- GLYPH_STATUS (08 Table 8.9). -/
def glyphStatus (s : State) (n : Nat) : List Byte :=
  let sl := slotAt s n
  u16 (handleOf s n) ++ u8 (bit sl.sealed) ++ u8 0 ++ u16 sl.frontSegs ++ u16 (if sl.sealed then sl.backSegs else 0) ++ u32 sl.flips

/-! ### Links and mailboxes (10, 11) -/

/-- A number saturated to a signed 32-bit field, symmetrically. -/
def sat31 (v : Int) : Int := max (-2147483647) (min 2147483647 v)

/-- LINK_STATUS (10 Table 10.12). -/
def linkStatus (s : State) : List Byte :=
  let l := s.link
  u8 l.aState ++ u8 l.aSpeed ++ u8 (if hasLinkB s then l.bState else 3) ++ u8 (if hasLinkB s then l.bSpeed else 0) ++ u8 s.time.gptp ++ u8 s.time.hops
    ++ u16 (bits [s.can.busOff, s.can.errPassive, (canReqId s).isNone]) ++ ipBytes (l.ip.getD 0) ++ toLES 4 (sat31 s.time.offset)
    ++ u32 l.fcsErrors ++ u32 l.egressDrop ++ u32 l.unbound ++ u32 l.badFormat ++ u32 l.badOrder ++ u32 l.abandoned ++ u32 s.can.busOffs
    ++ u32 s.can.isoErrors ++ u64 l.lastHost

/-- MAILBOX_STATUS (11 Table 11.11). -/
def mailboxStatus (s : State) : List Byte :=
  let g := s.gate
  u8 s.mp.load ++ u8 g.sessions.length ++ u8 (bits [s.mp.restarting.isSome, s.mp.loadHigh, g.muted]) ++ u8 0 ++ u32 g.runts ++ u32 g.verRejects
    ++ u32 g.lenRejects ++ u32 g.authRejects ++ u32 g.queueRejects ++ u32 g.freshRejects ++ u32 g.domRejects ++ u32 g.busyReplies
    ++ u32 g.fullRejects ++ u32 g.lost

/-- The number of a domain. -/
def domainCode : Domain → Nat
  | .info => 0
  | .light => 1
  | .safety => 2
  | .service => 3

/-- SESSION_STATUS (11 Table 11.12). -/
def sessionStatus (x : Session) : List Byte :=
  u16 x.id ++ u8 (domainCode x.domain) ++ u8 (bit x.ep.viaCan) ++ ipBytes (if x.ep.viaCan then 0 else x.ep.ip) ++ u16 x.ep.port
    ++ u8 x.high.length ++ u8 x.norm.length ++ u8 x.bulk.length ++ u8 0 ++ u16 0 ++ u32 x.freshHigh ++ u32 x.freshNorm ++ u32 x.freshBulk
    ++ u32 x.freshOut ++ u32 x.eventLoss ++ u32 x.accepted ++ u64 x.lastArrival ++ u64 x.opened

/-! ### Power, security, check values (18, 19, 20) -/

/-- The highest threshold in force of a group (18 Table 18.12): three sources from the warning up. -/
def heatLevel (s : State) (warn : Nat) : Nat :=
  if hasBit s.flt.cond (warn + 2) then 3 else if hasBit s.flt.cond (warn + 1) then 2 else bit (hasBit s.flt.cond warn)

/-- Power status (18 Table 18.12). -/
def powerStatus (s : State) : List Byte :=
  let p := s.pwr
  u8 (bits [p.holdReady, isAsserted s 34, isAsserted s 35, p.flashAllowed, s.arr.switchOpen, s.dim.idleRamp.isSome])
    ++ u8 (heatLevel s 28 + 4 * heatLevel s 31) ++ u16 p.wakeReport ++ u16 p.retain ++ u8 p.lgResult ++ u8 0
    ++ (List.range 6).flatMap (fun k => u32 (p.refusals.getD k 0)) ++ u64 p.lgTsc ++ s16 (ledReading s).2 ++ s16 (dieReading s).2 ++ u32 p.standbyS

/-- Update status (19 Table 19.9). -/
def updateStatus (s : State) : List Byte :=
  let c := s.flash.control
  u8 c.stage ++ u8 c.boots ++ u8 (bits [s.upd.verifiedOk, isRunning s 0x0B03, s.pwr.flashAllowed]) ++ u8 s.upd.loaderCause ++ u32 c.imageBytes
    ++ u32 (if s.mode.op = .loader then s.upd.expected else c.nextOffset) ++ u32 c.fwVersion ++ u16 s.upd.lastResult ++ u16 0 ++ u32 0
    ++ u64 s.upd.lastTsc ++ c.digest

/-- Security status (19 Table 19.10). -/
def securityStatus (s : State) : List Byte :=
  let f := s.fuse
  u8 f.lifecycle ++ u8 (bits [decide (f.lifecycle = 0) && !f.debugBlown, keyAccepted f.lifecycle 1, keysPresent s, f.zeroised]) ++ u8 f.rollback ++ u8 0
    ++ u32 f.loaderVersion ++ u32 s.upd.fwVersion ++ u32 s.upd.opens ++ (List.range 4).flatMap fun k => u32 (s.upd.openRejects.getD k 0)

/-- A parameter set (20 Table 20.2). -/
def paramBytes (p : CheckParams) : List Byte :=
  u8 p.width ++ u8 (bits [p.refin, p.refout]) ++ u16 0 ++ u32 p.poly ++ u32 p.init ++ u32 p.xorout

/-- One block of the check-value status (20 Table 20.4). -/
def cvuBlock (s : State) (n : Nat) : List Byte :=
  let u := s.cvus.getD n {}
  u8 n ++ u8 (bit u.running) ++ u8 (bits [u.selftestOk, u.lastMismatch, u.compare]) ++ u8 0 ++ paramBytes u.param
    ++ u32 u.jobs ++ u32 u.mismatches ++ u32 u.lastValue ++ u64 u.lastTsc

/-- Check-value status: four blocks (20 R459). -/
def cvuStatus (s : State) : List Byte := (List.range 4).flatMap (cvuBlock s)

/-! ### READ_WORD -/

/-- The word ID and the argument (R294). -/
def wordId (m : Msg) : Nat := m.context % 256
def wordArg (m : Msg) : Nat := m.context / 256

/-- The word with an ID and an argument (Table 12.4). -/
def wordData (id arg : Nat) (s : State) : List Byte :=
  match id with
  | 0x01 => u16 (moduleState s)
  | 0x02 => u32 (unitsPresent s)
  | 0x03 => arrayState s
  | 0x04 => govConfigWord s.cfg.gov
  | 0x05 => govStatus s
  | 0x06 => syncConfigWord s.cfg.sync
  | 0x07 => syncStatus s
  | 0x08 => drawerWord s (arg % 256)
  | 0x09 => drawerStatus s arg
  | 0x0A => placementStatus s
  | 0x0B => compConfigWord s.cfg.comp
  | 0x0C => monitorConfigWord s.cfg.mon
  | 0x0D => compStatus s
  | 0x0E => shadeStatus s (arg % 256)
  | 0x0F => glyphStatus s (arg % 256)
  | 0x10 => timingConfigWord s.cfg.timing
  | 0x11 => timingStatus s
  | 0x12 => linkConfigWord s.cfg.link
  | 0x13 => canConfigWord s.cfg.can
  | 0x14 => linkStatus s
  | 0x15 => mailboxConfigWord s.cfg.mailbox
  | 0x16 => mailboxStatus s
  | 0x17 => (findSession s arg).elim [] sessionStatus
  | 0x18 => faultStatus s
  | 0x19 => rakeStatus s
  | 0x1A => convStatus s
  | 0x1B => dimStatus s
  | 0x1C => powerStatus s
  | 0x1D => updateStatus s
  | 0x1E => securityStatus s
  | 0x1F => cvuStatus s
  | 0x20 => sdimConfigWord s.cfg.sdim
  | _ => []

/-- Words that LOADER answers. -/
def inLoader (id : Nat) : Bool := [0x01, 0x02, 0x12, 0x13, 0x14, 0x15, 0x16, 0x17, 0x1D, 0x1E].contains id

/-- An argument in the range of its word. -/
def argOk (id arg : Nat) (s : State) : Bool :=
  match id with
  | 0x08 | 0x0E | 0x0F => true
  | 0x09 => decide (arg ≤ 255)
  | 0x17 => (findSession s arg).isSome
  | _ => decide (arg = 0)

/-- The word takes a handle. -/
def takesHandle (id : Nat) : Bool := id = 0x08 || id = 0x0E || id = 0x0F

/-- The checks of R294 in their order. -/
def wordChecks (id arg : Nat) (s : State) : List Check :=
  [ inRange (between id 0x01 0x20) 0xFFFF,
    require (!((decide (id = 0x0E) && !hasShade s) || (decide (id = 0x0F) && !hasGlyph s))) eAbsent,
    require (decide (s.mode.op ≠ .loader) || inLoader id) eState,
    inRange (argOk id arg s) 0xFFFF,
    require (!takesHandle id || handleValid s arg) eHandle,
    require ((decide (id ≠ 0x0E) || decide ((slotDescriptor s (arg % 256)).type = 2))
      && (decide (id ≠ 0x0F) || decide ((slotDescriptor s (arg % 256)).type = 3))) eState ]

def rowReadWord : Row :=
  { opcode := 0x0102, domain := .info, states := isAny, shape := fun m => decide (m.length = 0) && decide (m.context < 16777216) }

/-- READ_WORD (R294). -/
def execReadWord (t : Nat) (m : Msg) (s : State) : Out :=
  serve t rowReadWord unitFree m (fun s => checked (wordChecks (wordId m) (wordArg m) s) (.ok (wordData (wordId m) (wordArg m) s) s)) s

end Sys2Proof.Machine
end

