-- ==== Sys2Proof/Machine/UpdateMsgs.lean ====
section
/-! DEFINITION. The update group (12 Table 12.13, 19 R438 to R445). -/

namespace Sys2Proof.Machine

/-! ### UPDATE_INTENT -/

/-- Record STAGE INTENT (Table 19.6). -/
def recordIntent (bytes : Nat) (s : State) : State := writeControl (fun c => { c with stage := 1, boots := 0, imageBytes := bytes, nextOffset := 0 }) s

def rowIntent : Row := { opcode := 0x0B01, domain := .service, states := isFw, shape := plainShape 8 }

/-- UPDATE_INTENT: record, reply, module reset (12 R292). -/
def execUpdateIntent (t : Nat) (m : Msg) (boot : BootInputs) (s : State) : Out :=
  serveThen t rowIntent unitFree m (fun s =>
      let bytes := le m.payload 0 4
      checked [inRange (between bytes 1 10485760) 0, inRange (decide (le m.payload 4 4 = 0)) 4, require (!s.mode.unconfirmed) eState, tempCheck s]
        (.ok [] (recordIntent bytes s)))
    (warmStart boot) s

/-! ### UPDATE_BLOCK (R442) -/

/-- The size of a flash block. -/
def blockBytes : Nat := 65536

/-- The start of the block in progress; with every byte received, that of the last block. -/
def blockStart (s : State) : Nat :=
  match s.upd.block with
  | some b => b.1
  | none =>
    if s.upd.expected = s.flash.control.imageBytes then (s.flash.control.imageBytes - 1) / blockBytes * blockBytes else s.upd.expected

/-- The bytes of a 64 KiB block of the slot erased. -/
def eraseBlock (start : Nat) (image : Mem Byte) : Mem Byte := image.filter fun e => decide (e.1 < start) || decide (start + blockBytes ≤ e.1)

/-- A block is begun: its first byte has arrived, so it is erased. Unless the record says so already, a record of RECEIVING with the block
as NEXT_OFFSET comes first, and a verify is void. -/
def beginBlock (start : Nat) (s : State) : State :=
  let s := if s.flash.control.stage = 2 ∧ s.flash.control.nextOffset = start then s else writeControl (fun c => { c with stage := 2, nextOffset := start, fwVersion := 0 }) s
  { s with flash := { s.flash with image := eraseBlock start s.flash.image },
           upd := { s.upd with block := some (start, []), expected := start, verifiedOk := false } }

/-- Bytes put into the buffer of the block in progress. -/
def fillBlock (bs : List Byte) (s : State) : State :=
  match s.upd.block with
  | some (start, buf) =>
    { s with upd := { s.upd with block := some (start, memWriteList 0 buf s.upd.expected bs), expected := s.upd.expected + bs.length } }
  | none => s

/-- The block is programmed when its last byte, or that of the image, has arrived; a record follows. -/
def programBlock (s : State) : State :=
  match s.upd.block with
  | some (start, buf) =>
    let stop := min (start + blockBytes) s.flash.control.imageBytes
    if s.upd.expected < stop then s
    else
      writeControl (fun c => { c with nextOffset := stop })
        { s with flash := { s.flash with image := memWriteList 0 s.flash.image start (memReadList 0 buf start (stop - start)) },
                 upd := { s.upd with block := none } }
  | none => s

/-- The bytes of a message written at `at_`; they reach into at most one further block. -/
def writeBytes (at_ : Nat) (bs : List Byte) (s : State) : State :=
  let s := if at_ = blockStart s then beginBlock at_ s else s
  let room := blockStart s + blockBytes - at_
  let s := programBlock (fillBlock (bs.take room) s)
  if bs.length ≤ room then s else programBlock (fillBlock (bs.drop room) (beginBlock s.upd.expected s))

/-- The checks of UPDATE_BLOCK. -/
def blockChecks (m : Msg) (s : State) : List Check :=
  [ require (between s.flash.control.stage 1 3) eState,
    inRange (decide (m.context = s.upd.expected) || decide (m.context = blockStart s)) 0xFFFF,
    inRange (decide (m.context + m.length ≤ s.flash.control.imageBytes)) 0xFFFF, tempCheck s ]

def rowBlock : Row :=
  { opcode := 0x0B02, domain := .service, states := fun o => decide (o = .loader), shape := fun m => between m.length 1 1440 }

/-- UPDATE_BLOCK: the reply is the expected next offset. -/
def execUpdateBlock (t : Nat) (m : Msg) (s : State) : Out :=
  serve t rowBlock unitFree m (fun s =>
    let s' := writeBytes m.context (m.payload.take m.length) s
    checked (blockChecks m s) (.ok (u32 s'.upd.expected) s')) s

/-! ### UPDATE_VERIFY -/

def rowVerify : Row := { opcode := 0x0B03, domain := .service, states := fun o => decide (o = .loader), shape := plainShape 0 }

/-- UPDATE_VERIFY (long): in RECEIVING the image must be complete. -/
def execUpdateVerify (t : Nat) (m : Msg) (s : State) : Out :=
  serve t rowVerify unitFree m (fun s =>
    let c := s.flash.control
    checked [busyLong s 0x0B03, require (decide (c.stage ≠ 2) || decide (c.nextOffset = c.imageBytes)) eState] (.ok [] (startLong m s))) s

/-- The outcome of R437 over the slot: E_VERSION for an unknown format, an image below the anti-rollback count or one that needs a later
loader; E_SIGNATURE for a signature that fails or a key that is not accepted. In INTENT the image's own IMAGE_BYTES count; in CONFIRMED
and ACTIVATED the recorded DIGEST must hold. -/
def verifyStatus (v : ImageVerdict) (s : State) : Nat :=
  let c := s.flash.control
  if c.stage = 2 ∧ c.nextOffset ≠ c.imageBytes then eSignature
  else if imgField s 0 4 ≠ 0x31545053 ∨ imgField s 4 2 ≠ 1 then eVersion
  else if (c.stage ≠ 1 ∧ imgBytes s ≠ c.imageBytes) ∨ !keyAccepted s.fuse.lifecycle (imgKeyId s) ∨ s.fuse.zeroised ∨ !v.sigOk then eSignature
  else if (c.stage = 0 ∨ c.stage = 4) ∧ v.digest ≠ c.digest then eSignature
  else if !imageAllowed s then eVersion
  else eOk

/-- The verify has a record to write, and the interlock forbids it: it waits (18 R425, 12 Table 12.2; log entry 54). -/
def verifyWaits (v : ImageVerdict) (s : State) : Bool :=
  decide (verifyStatus v s = eOk) && decide (s.flash.control.stage ≠ 0) && !s.pwr.flashAllowed

/-- The verify ends: OK writes VERIFIED with DIGEST and FW_VERSION (Table 19.6). -/
def verifyOutcome (v : ImageVerdict) (s : State) : State :=
  let st := verifyStatus v s
  let s := { s with upd := { s.upd with lastResult := st, lastTsc := tsc s, verifiedOk := decide (st = eOk) && decide (s.flash.control.stage ≠ 0) } }
  let s := if st = eSignature ∨ st = eVersion then record srcUpdate 0x0003 1 s else s
  let s :=
    if st = eOk ∧ s.flash.control.stage ≠ 0 then
      let n := if s.flash.control.stage = 1 then imgBytes s else s.flash.control.imageBytes
      writeControl (fun c => { c with stage := 3, imageBytes := n, nextOffset := n, fwVersion := imgVersion s, digest := v.digest })
        { s with upd := { s.upd with expected := n, block := none } }
    else s
  endLong 0x0B03 st s

/-- UPDATE_VERIFY_OUTCOME. -/
def execUpdateVerifyOutcome (t : Nat) (v : ImageVerdict) (s : State) : Out :=
  let s := advance t s
  if isRunning s 0x0B03 && !verifyWaits v s then .next (verifyOutcome v s) else .next s

/-! ### UPDATE_ACTIVATE and UPDATE_CONFIRM -/

def rowActivate : Row := { opcode := 0x0B04, domain := .service, states := fun o => decide (o = .loader), shape := plainShape 0 }

/-- UPDATE_ACTIVATE: record ACTIVATED with BOOTS 0, reply, module reset (12 R292). -/
def execUpdateActivate (t : Nat) (m : Msg) (boot : BootInputs) (s : State) : Out :=
  serveThen t rowActivate unitFree m (fun s =>
      checked [require (s.upd.verifiedOk && decide (s.flash.control.stage = 3)) eState, tempCheck s]
        (.ok [] (writeControl (fun c => { c with stage := 4, boots := 0 }) s)))
    (warmStart boot) s

/-- The anti-rollback fuses after a confirmation (R438, Table 19.1). -/
def raisedRollback (s : State) : Nat :=
  if s.fuse.lifecycle = 1 ∨ s.fuse.lifecycle = 2 then min 64 (max s.fuse.rollback (imgRollback s)) else s.fuse.rollback

/-- The image is confirmed: fuses, record, UPDATE_CONFIRMED. -/
def confirmImage (s : State) : State :=
  let s := writeControl (fun c => { c with stage := 0 }) { s with fuse := { s.fuse with rollback := raisedRollback s } }
  record srcUpdate 0x0005 s.fuse.rollback { s with mode := { s.mode with unconfirmed := false } }

def rowConfirm : Row := { opcode := 0x0B05, domain := .service, states := isFw, shape := plainShape 0 }

/-- UPDATE_CONFIRM. -/
def execUpdateConfirm (t : Nat) (m : Msg) (s : State) : Out :=
  serve t rowConfirm unitFree m (fun s => checked [require s.mode.unconfirmed eState, tempCheck s] (.ok [] (confirmImage s))) s

end Sys2Proof.Machine
end

