-- ==== Sys2Proof/Machine/Dispatch.lean ====
section
/-! DEFINITION. The effect of each command: one arm per constructor, each a call of its meaning. -/

namespace Sys2Proof.Machine
open Host

/-- The effect of a command on everything but the queue of waiting commands. -/
def exec (i : Instr) (s : State) : Host.Outcome State Fault Refusal :=
  match i with
  | .vinRise vin boot => Sys2Proof.Machine.execVinRise vin boot s
  | .trainingRetry t attempts => Sys2Proof.Machine.execTrainingRetry t attempts s
  | .imageCheckComplete t v draws => Sys2Proof.Machine.execImageCheckComplete t v draws s
  | .loaderCheckRetry t ok => Sys2Proof.Machine.execLoaderCheckRetry t ok s
  | .calLoadComplete t => Sys2Proof.Machine.execCalLoadComplete t s
  | .mapRestoreComplete t => Sys2Proof.Machine.execMapRestoreComplete t s
  | .vinBelowVbo t => Sys2Proof.Machine.execVinBelowVbo t s
  | .vinAboveVbo t => Sys2Proof.Machine.execVinAboveVbo t s
  | .brownout t => Sys2Proof.Machine.execBrownout t s
  | .lastgaspSaveComplete t above vin boot => Sys2Proof.Machine.execLastgaspSaveComplete t above vin boot s
  | .vledBlindWindowEnd t => Sys2Proof.Machine.execVledBlindWindowEnd t s
  | .vinLow t low vin => Sys2Proof.Machine.execVinLow t low vin s
  | .vinHigh t high vin => Sys2Proof.Machine.execVinHigh t high vin s
  | .holdReady t ready => Sys2Proof.Machine.execHoldReady t ready s
  | .faultAssert t src data => Sys2Proof.Machine.execFaultAssert t src data s
  | .faultLevelEnd t src => Sys2Proof.Machine.execFaultLevelEnd t src s
  | .shadowEnd t action => Sys2Proof.Machine.execShadowEnd t action s
  | .rearm t => Sys2Proof.Machine.execRearm t s
  | .moduleReset t boot => Sys2Proof.Machine.execModuleReset t boot s
  | .mpWatchdogService t => Sys2Proof.Machine.execMpWatchdogService t s
  | .mpWatchdogExpiry t inHand => Sys2Proof.Machine.execMpWatchdogExpiry t inHand s
  | .mpRestartEnd t => Sys2Proof.Machine.execMpRestartEnd t s
  | .mpRestartOverrun t => Sys2Proof.Machine.execMpRestartOverrun t s
  | .clockMon t clock => Sys2Proof.Machine.execClockMon t clock s
  | .tscStep t offset => Sys2Proof.Machine.execTscStep t offset s
  | .tscJump t => Sys2Proof.Machine.execTscJump t s
  | .gptpMessage t port msg => Sys2Proof.Machine.execGptpMessage t port msg s
  | .syncReceiptTimeout t => Sys2Proof.Machine.execSyncReceiptTimeout t s
  | .compositionStart t => Sys2Proof.Machine.execCompositionStart t s
  | .contentCutoff t => Sys2Proof.Machine.execContentCutoff t s
  | .rowLatePoint t row late => Sys2Proof.Machine.execRowLatePoint t row late s
  | .rowTransferStart t row complete levels => Sys2Proof.Machine.execRowTransferStart t row complete levels s
  | .rowPacket t p crc => Sys2Proof.Machine.execRowPacket t p crc s
  | .chestCheckComplete t crc => Sys2Proof.Machine.execChestCheckComplete t crc s
  | .governorLatch t => Sys2Proof.Machine.execGovernorLatch t s
  | .wrdoneDeadline t => Sys2Proof.Machine.execWrdoneDeadline t s
  | .sluiceExecute t readback => Sys2Proof.Machine.execSluiceExecute t readback s
  | .timedSwap t readback => Sys2Proof.Machine.execTimedSwap t readback s
  | .droopTimer t => Sys2Proof.Machine.execDroopTimer t s
  | .latchRowCycle t p readback => Sys2Proof.Machine.execLatchRowCycle t p readback s
  | .latchReadbackCheck t readback => Sys2Proof.Machine.execLatchReadbackCheck t readback s
  | .probeWindow t m => Sys2Proof.Machine.execProbeWindow t m s
  | .sweepWindow t m samples => Sys2Proof.Machine.execSweepWindow t m samples s
  | .vfModelRewrite t => Sys2Proof.Machine.execVfModelRewrite t s
  | .faultMapFlashWrite t => Sys2Proof.Machine.execFaultMapFlashWrite t s
  | .mapSnapshot t => Sys2Proof.Machine.execMapSnapshot t s
  | .monitorPacketSend t => Sys2Proof.Machine.execMonitorPacketSend t s
  | .monitorTrailer t => Sys2Proof.Machine.execMonitorTrailer t s
  | .symbolSlot t => Sys2Proof.Machine.execSymbolSlot t s
  | .symbolRepeat t sym => Sys2Proof.Machine.execSymbolRepeat t sym s
  | .sluiceSymbolReceived t sym tEnd => Sys2Proof.Machine.execSluiceSymbolReceived t sym tEnd s
  | .headReceived t sym => Sys2Proof.Machine.execHeadReceived t sym s
  | .enumReceived t sym => Sys2Proof.Machine.execEnumReceived t sym s
  | .startWindowEnd t => Sys2Proof.Machine.execStartWindowEnd t s
  | .syncLoss t => Sys2Proof.Machine.execSyncLoss t s
  | .syncLossEnd t => Sys2Proof.Machine.execSyncLossEnd t s
  | .linkDelayMeasure t delay => Sys2Proof.Machine.execLinkDelayMeasure t delay s
  | .brineVideoPacket t d => Sys2Proof.Machine.execBrineVideoPacket t d s
  | .bufferMoveComplete t item => Sys2Proof.Machine.execBufferMoveComplete t item s
  | .chestRefComplete t => Sys2Proof.Machine.execChestRefComplete t s
  | .linkDown t x => Sys2Proof.Machine.execLinkDown t x s
  | .linkUp t port mode => Sys2Proof.Machine.execLinkUp t port mode s
  | .linkDownTimeout t port => Sys2Proof.Machine.execLinkDownTimeout t port s
  | .ethernetFrame t f => Sys2Proof.Machine.execEthernetFrame t f s
  | .arpRequest t port target => Sys2Proof.Machine.execArpRequest t port target s
  | .hostSilent t => Sys2Proof.Machine.execHostSilent t s
  | .canFrame t f => Sys2Proof.Machine.execCanFrame t f s
  | .isotpTimeout t => Sys2Proof.Machine.execIsotpTimeout t s
  | .canBusOff t st => Sys2Proof.Machine.execCanBusOff t st s
  | .psiferMessage t ep raw => Sys2Proof.Machine.execPsiferMessage t ep raw s
  | .sessionIdleLost t session => Sys2Proof.Machine.execSessionIdleLost t session s
  | .authWindowEnd t => Sys2Proof.Machine.execAuthWindowEnd t s
  | .mpLoadWindow t w => Sys2Proof.Machine.execMpLoadWindow t w s
  | .eventMessage t session => Sys2Proof.Machine.execEventMessage t session s
  | .eventWindowEnd t => Sys2Proof.Machine.execEventWindowEnd t s
  | .caps t m => Sys2Proof.Machine.execCaps t m s
  | .readWord t m => Sys2Proof.Machine.execReadWord t m s
  | .ping t m => Sys2Proof.Machine.execPing t m s
  | .resetModule t m boot => Sys2Proof.Machine.execResetModule t m boot s
  | .resetMpOnly t m => Sys2Proof.Machine.execResetMpOnly t m s
  | .settingsStore t m => Sys2Proof.Machine.execSettingsStore t m s
  | .settingsStoreOutcome t erased => Sys2Proof.Machine.execSettingsStoreOutcome t erased s
  | .linkConfigWrite t m => Sys2Proof.Machine.execLinkConfigWrite t m s
  | .canConfigWrite t m => Sys2Proof.Machine.execCanConfigWrite t m s
  | .mailboxConfigWrite t m => Sys2Proof.Machine.execMailboxConfigWrite t m s
  | .create t m => Sys2Proof.Machine.execCreate t m s
  | .configure t m => Sys2Proof.Machine.execConfigure t m s
  | .place t m => Sys2Proof.Machine.execPlace t m s
  | .release t m => Sys2Proof.Machine.execRelease t m s
  | .destroy t m => Sys2Proof.Machine.execDestroy t m s
  | .flip t m => Sys2Proof.Machine.execFlip t m s
  | .commit t m => Sys2Proof.Machine.execCommit t m s
  | .abort t m => Sys2Proof.Machine.execAbort t m s
  | .chunkWrite t m => Sys2Proof.Machine.execChunkWrite t m s
  | .curveWrite t m => Sys2Proof.Machine.execCurveWrite t m s
  | .blendProgramWrite t m => Sys2Proof.Machine.execBlendProgramWrite t m s
  | .shadeUpdate t m => Sys2Proof.Machine.execShadeUpdate t m s
  | .shadeClear t m => Sys2Proof.Machine.execShadeClear t m s
  | .glyphSeal t m => Sys2Proof.Machine.execGlyphSeal t m s
  | .timingChange t m => Sys2Proof.Machine.execTimingChange t m s
  | .timingAnchor t m => Sys2Proof.Machine.execTimingAnchor t m s
  | .hostScaleWrite t m => Sys2Proof.Machine.execHostScaleWrite t m s
  | .monitorConfigWrite t m => Sys2Proof.Machine.execMonitorConfigWrite t m s
  | .logRead t m => Sys2Proof.Machine.execLogRead t m s
  | .eventFilter t m => Sys2Proof.Machine.execEventFilter t m s
  | .faultMapRead t m => Sys2Proof.Machine.execFaultMapRead t m s
  | .scalerCoeffRead t m => Sys2Proof.Machine.execScalerCoeffRead t m s
  | .chestStage t m => Sys2Proof.Machine.execChestStage t m s
  | .chestActivate t m => Sys2Proof.Machine.execChestActivate t m s
  | .settleStage t m => Sys2Proof.Machine.execSettleStage t m s
  | .settleActivate t m => Sys2Proof.Machine.execSettleActivate t m s
  | .safetyStore t m => Sys2Proof.Machine.execSafetyStore t m s
  | .safetyStoreOutcome t erased => Sys2Proof.Machine.execSafetyStoreOutcome t erased s
  | .holdDemand t m => Sys2Proof.Machine.execHoldDemand t m s
  | .recover t m => Sys2Proof.Machine.execRecover t m s
  | .faultForceSet t m => Sys2Proof.Machine.execFaultForceSet t m s
  | .faultForceClear t m => Sys2Proof.Machine.execFaultForceClear t m s
  | .faultConfig t m => Sys2Proof.Machine.execFaultConfig t m s
  | .compConfigWrite t m => Sys2Proof.Machine.execCompConfigWrite t m s
  | .govBudgetWrite t m => Sys2Proof.Machine.execGovBudgetWrite t m s
  | .hostTimeoutWrite t m => Sys2Proof.Machine.execHostTimeoutWrite t m s
  | .sdimConfigWrite t m => Sys2Proof.Machine.execSdimConfigWrite t m s
  | .calRun t m => Sys2Proof.Machine.execCalRun t m s
  | .calRunOutcome t e => Sys2Proof.Machine.execCalRunOutcome t e s
  | .calRead t m => Sys2Proof.Machine.execCalRead t m s
  | .calWrite t m => Sys2Proof.Machine.execCalWrite t m s
  | .calStore t m => Sys2Proof.Machine.execCalStore t m s
  | .calStoreOutcome t erased => Sys2Proof.Machine.execCalStoreOutcome t erased s
  | .corrChunk t m => Sys2Proof.Machine.execCorrChunk t m s
  | .tcurveWrite t m => Sys2Proof.Machine.execTcurveWrite t m s
  | .tcurveApply t m => Sys2Proof.Machine.execTcurveApply t m s
  | .ageingCurveWrite t m => Sys2Proof.Machine.execAgeingCurveWrite t m s
  | .idleRequest t m => Sys2Proof.Machine.execIdleRequest t m s
  | .wakeToLight t m => Sys2Proof.Machine.execWakeToLight t m s
  | .standbyRequest t m e => Sys2Proof.Machine.execStandbyRequest t m e s
  | .syncConfigWrite t m => Sys2Proof.Machine.execSyncConfigWrite t m s
  | .syncEnumerate t m => Sys2Proof.Machine.execSyncEnumerate t m s
  | .sessionOpen t m nonce => Sys2Proof.Machine.execSessionOpen t m nonce s
  | .sessionClose t m => Sys2Proof.Machine.execSessionClose t m s
  | .lifecycleAdvance t m => Sys2Proof.Machine.execLifecycleAdvance t m s
  | .zeroise t m => Sys2Proof.Machine.execZeroise t m s
  | .updateIntent t m boot => Sys2Proof.Machine.execUpdateIntent t m boot s
  | .updateBlock t m => Sys2Proof.Machine.execUpdateBlock t m s
  | .updateVerify t m => Sys2Proof.Machine.execUpdateVerify t m s
  | .updateVerifyOutcome t v => Sys2Proof.Machine.execUpdateVerifyOutcome t v s
  | .updateActivate t m boot => Sys2Proof.Machine.execUpdateActivate t m boot s
  | .updateConfirm t m => Sys2Proof.Machine.execUpdateConfirm t m s
  | .scan t readings => Sys2Proof.Machine.execScan t readings s
  | .selftest t a b => Sys2Proof.Machine.execSelftest t a b s
  | .urgentRequest t input x => Sys2Proof.Machine.execUrgentRequest t input x s
  | .referenceModeAuto t conv => Sys2Proof.Machine.execReferenceModeAuto t conv s
  | .shutdownComparator t input x => Sys2Proof.Machine.execShutdownComparator t input x s
  | .thermalStep t => Sys2Proof.Machine.execThermalStep t s
  | .sdimFilterTick t => Sys2Proof.Machine.execSdimFilterTick t s
  | .rampTick t => Sys2Proof.Machine.execRampTick t s
  | .rampEnd t => Sys2Proof.Machine.execRampEnd t s
  | .rampEnvelope t mean => Sys2Proof.Machine.execRampEnvelope t mean s
  | .sdimDiscrepancy t => Sys2Proof.Machine.execSdimDiscrepancy t s
  | .proofMissing t => Sys2Proof.Machine.execProofMissing t s
  | .cutoffTestpulse t fallOk recoveryOk => Sys2Proof.Machine.execCutoffTestpulse t fallOk recoveryOk s
  | .switchReadback t isOpen => Sys2Proof.Machine.execSwitchReadback t isOpen s
  | .governorEnvelope t mean => Sys2Proof.Machine.execGovernorEnvelope t mean s
  | .vledRegulation t mv => Sys2Proof.Machine.execVledRegulation t mv s
  | .dramRequest t req channel => Sys2Proof.Machine.execDramRequest t req channel s
  | .dramScrub t channel owner ecc => Sys2Proof.Machine.execDramScrub t channel owner ecc s
  | .dqsDriftCheck t channel steps refresh => Sys2Proof.Machine.execDqsDriftCheck t channel steps refresh s
  | .neighbourRefresh t channel bank row => Sys2Proof.Machine.execNeighbourRefresh t channel bank row s
  | .panSramScrub t bank ecc => Sys2Proof.Machine.execPanSramScrub t bank ecc s
  | .wakeSource e lost seconds vin boot => Sys2Proof.Machine.execWakeSource e lost seconds vin boot s
  | .lastgaspSlotErase t => Sys2Proof.Machine.execLastgaspSlotErase t s
  | .sdimSample t a b => Sys2Proof.Machine.execSdimSample t a b s
  | .refreshWindowStart t => Sys2Proof.Machine.execRefreshWindowStart t s
  | .referenceModeWarm t conv => Sys2Proof.Machine.execReferenceModeWarm t conv s
  | .convRefReady t conv => Sys2Proof.Machine.execConvRefReady t conv s
  | .pdelayRequest t port => Sys2Proof.Machine.execPdelayRequest t port s
  | .announceReceiptTimeout t port => Sys2Proof.Machine.execAnnounceReceiptTimeout t port s

end Sys2Proof.Machine
end

