-- ==== Sys2Proof/WellFormed.lean ====
section
/-!
DEFINITION. When a command is well formed: every operand lies in the range of its field or line. An ill-formed command names something the
module does not have or a value that no wire carries.
-/

namespace Sys2Proof

def byteOk (v : Nat) : Bool := decide (v < 256)
def u16Ok (v : Nat) : Bool := decide (v < 65536)
def u32Ok (v : Nat) : Bool := decide (v < 4294967296)

/-- A TSC is a 64-bit count (R21). -/
def timeOk (t : Nat) : Bool := decide (t < 18446744073709551616)

/-- A sender: an IPv4 address and a UDP port, or REQ_ID (R262). -/
def endpointOk (e : Endpoint) : Bool := u32Ok e.ip && u16Ok e.port

/-- The header fields of a message fit their widths, and LENGTH is the payload's (Table 11.2). -/
def msgOk (m : Msg) : Bool :=
  endpointOk m.ep && timeOk m.arrival && byteOk m.version && byteOk m.flags && u16Ok m.opcode && u16Ok m.session && u16Ok m.sequence
    && u32Ok m.freshness && u16Ok m.length && u16Ok m.reserved && timeOk m.context && decide (m.payload.length = m.length)

/-- One to three trainings of four byte lanes (R395, R396). -/
def trainingsOk (l : List (List LaneSweep)) : Bool := decide (1 ≤ l.length) && decide (l.length ≤ 3) && l.all fun w => decide (w.length = 4)

/-- What a boot finds: trainings, and one result of each check-value unit (R458). -/
def bootOk (b : BootInputs) : Bool :=
  trainingsOk b.training && decide (b.cvu.length = 4) && b.cvu.all u32Ok && b.latchBad.all fun r => decide (r < 640)

/-- A row packet: its fields fit their widths (Table 3.5). -/
def packetOk (p : RowPacket) : Bool :=
  decide (p.row < 1024) && decide (p.kind < 2) && decide (p.frame < 16) && decide (p.codes.length = 2048)
    && p.codes.all fun c => decide (c < if p.kind = 0 then 16384 else 4)

/-- A row of latch codes (R77). -/
def rowCodesOk (l : List Nat) : Bool := decide (l.length = 2048) && l.all fun c => decide (c < 4)

/-- Measured columns lie on the row (R301). -/
def probeOk (p : Probe) : Bool := (p.leak ++ p.vf ++ p.held2a ++ p.held2b ++ p.sense3).all fun c => decide (c.1 < 2048)

/-- A 12-bit sample with at most one range flag (R330). -/
def samplesOk (x : Sample) : Bool := decide (x.code < 4096) && !(x.ovr && x.unr)

/-- A DRAM request names a bank and a row (Table 17.1). -/
def dramOk (r : DramReq) : Bool :=
  decide (r.channel = r.block / 32 % 2) && decide (r.bank < 8) && decide (r.row < 65536) && byteOk r.owner && (r.composer || decide (r.urgency ≠ .urgent))

/-- A frame on the service port: an 11-bit identifier and at most 64 bytes (R253). -/
def canOk (f : CanFrame) : Bool := decide (f.id < 2048) && decide (f.data.length ≤ 64)

/-- An Ethernet frame: 48-bit addresses, a priority and a VID (R237, R243). -/
def ethOk (f : EthFrame) : Bool :=
  decide (f.dst < 281474976710656) && decide (f.src < 281474976710656) && f.tag.all fun x => decide (x.1 < 8) && decide (x.2 < 4096)

/-- A command is well formed. -/
def Instr.wf : Instr → Bool
  | .vinRise vin boot => bootOk boot && u32Ok vin
  | .trainingRetry t attempts => timeOk t && trainingsOk attempts
  | .imageCheckComplete t v draws => timeOk t && decide (v.digest.length = 32) && draws.all byteOk
  | .loaderCheckRetry t _ | .calLoadComplete t | .mapRestoreComplete t | .vinBelowVbo t | .vinAboveVbo t | .brownout t
  | .vledBlindWindowEnd t | .holdReady t _ | .shadowEnd t _ | .rearm t | .mpWatchdogService t | .mpWatchdogExpiry t _
  | .mpRestartEnd t | .mpRestartOverrun t | .tscStep t _ | .tscJump t | .gptpMessage t _ _ | .syncReceiptTimeout t
  | .compositionStart t | .contentCutoff t | .governorLatch t | .wrdoneDeadline t | .sluiceExecute t _ | .timedSwap t _
  | .droopTimer t | .vfModelRewrite t | .faultMapFlashWrite t | .mapSnapshot t | .monitorPacketSend t | .monitorTrailer t
  | .symbolSlot t | .symbolRepeat t _ | .headReceived t _ | .enumReceived t _ | .startWindowEnd t | .syncLoss t | .syncLossEnd t
  | .brineVideoPacket t _ | .chestRefComplete t | .linkDown t _ | .linkDownTimeout t _ | .hostSilent t | .isotpTimeout t
  | .canBusOff t _ | .authWindowEnd t | .eventWindowEnd t | .settingsStoreOutcome t _ | .safetyStoreOutcome t _
  | .calRunOutcome t _ | .calStoreOutcome t _ | .referenceModeAuto t _ | .thermalStep t | .sdimFilterTick t | .rampTick t
  | .rampEnd t | .rampEnvelope t _ | .sdimDiscrepancy t | .proofMissing t | .cutoffTestpulse t _ _ | .switchReadback t _
  | .governorEnvelope t _ | .lastgaspSlotErase t | .sdimSample t _ _ | .refreshWindowStart t
  | .referenceModeWarm t _ | .convRefReady t _ | .pdelayRequest t _ | .announceReceiptTimeout t _ => timeOk t
  | .lastgaspSaveComplete t _ vin boot => timeOk t && bootOk boot && u32Ok vin
  | .vinLow t _ vin | .vinHigh t _ vin | .vledRegulation t vin => timeOk t && u32Ok vin
  | .faultAssert t src data => timeOk t && decide (src < 48) && decide (data < 65536)
  | .faultLevelEnd t src => timeOk t && decide (src < 48)
  | .moduleReset t boot => timeOk t && bootOk boot
  | .clockMon t clock => timeOk t && decide (clock < 8)
  | .rowLatePoint t row _ => timeOk t && decide (row < 640)
  | .rowTransferStart t row _ levels => timeOk t && decide (row < 640) && decide (levels ≠ []) && levels.all fun l => decide (l ≤ 8)
  | .rowPacket t p crc => timeOk t && packetOk p && decide (p.kind = 0) && u32Ok crc
  | .chestCheckComplete t crc => timeOk t && u32Ok crc
  | .latchRowCycle t p readback => timeOk t && packetOk p.packet && decide (p.packet.kind = 1) && u32Ok p.crc && rowCodesOk readback
  | .latchReadbackCheck t readback => timeOk t && rowCodesOk readback
  | .probeWindow t m => timeOk t && m.all probeOk
  | .sweepWindow t m samples => timeOk t && m.all probeOk && samples.all samplesOk
  | .sluiceSymbolReceived t _ tEnd => timeOk t && decide (tEnd < 4 * 18446744073709551616)
  | .linkDelayMeasure t delay => timeOk t && u32Ok delay
  | .bufferMoveComplete t item => timeOk t && decide (item ≤ 512)
  | .linkUp t _ mode => timeOk t && decide (1 ≤ mode.speed) && decide (mode.speed ≤ 3)
  | .ethernetFrame t f => timeOk t && ethOk f
  | .arpRequest t _ target => timeOk t && u32Ok target
  | .canFrame t f => timeOk t && canOk f
  | .psiferMessage t ep _ => timeOk t && endpointOk ep
  | .sessionIdleLost t session | .eventMessage t session => timeOk t && u16Ok session
  | .mpLoadWindow t w => timeOk t && decide (w.busy ≤ 100)
  | .caps t m | .readWord t m | .ping t m | .resetMpOnly t m | .settingsStore t m | .linkConfigWrite t m | .canConfigWrite t m
  | .mailboxConfigWrite t m | .create t m | .configure t m | .place t m | .release t m | .destroy t m | .flip t m | .commit t m
  | .abort t m | .chunkWrite t m | .curveWrite t m | .blendProgramWrite t m | .shadeUpdate t m | .shadeClear t m | .glyphSeal t m
  | .timingChange t m | .timingAnchor t m | .hostScaleWrite t m | .monitorConfigWrite t m | .logRead t m | .eventFilter t m
  | .faultMapRead t m | .scalerCoeffRead t m | .chestStage t m | .chestActivate t m | .settleStage t m | .settleActivate t m
  | .safetyStore t m | .holdDemand t m | .recover t m | .faultForceSet t m | .faultForceClear t m | .faultConfig t m
  | .compConfigWrite t m | .govBudgetWrite t m | .hostTimeoutWrite t m | .sdimConfigWrite t m | .calRun t m | .calRead t m
  | .calWrite t m | .calStore t m | .corrChunk t m | .tcurveWrite t m | .tcurveApply t m | .ageingCurveWrite t m | .idleRequest t m
  | .wakeToLight t m | .standbyRequest t m _ | .syncConfigWrite t m | .syncEnumerate t m | .sessionClose t m
  | .lifecycleAdvance t m | .zeroise t m | .updateBlock t m | .updateVerify t m | .updateConfirm t m => timeOk t && msgOk m
  | .resetModule t m boot | .updateIntent t m boot | .updateActivate t m boot => timeOk t && msgOk m && bootOk boot
  | .sessionOpen t m nonce => timeOk t && msgOk m && decide (nonce.length = 16)
  | .updateVerifyOutcome t v => timeOk t && decide (v.digest.length = 32)
  | .scan t readings => timeOk t && decide (readings.length = 23) && readings.all fun l => decide (8 ≤ l.length) && decide (l.length ≤ 16) && l.all samplesOk
  | .selftest t a b => timeOk t && decide (a.length = 4) && decide (b.length = 0 ∨ b.length = 4) && (a ++ b).all fun l => l.all samplesOk
  | .urgentRequest t input x => timeOk t && decide (input < 30) && samplesOk x
  | .shutdownComparator t input x => timeOk t && decide (10 ≤ input) && decide (input < 20) && samplesOk x
  | .dramRequest t req channel => timeOk t && req.all dramOk && decide (channel < 2)
  | .dramScrub t channel owner _ => timeOk t && decide (channel < 2) && byteOk owner
  | .dqsDriftCheck t channel steps refresh => timeOk t && decide (channel < 2) && decide (steps.length = 2) && decide (refresh ≠ 0)
  | .neighbourRefresh t channel bank row => timeOk t && decide (channel < 2) && decide (bank < 8) && decide (row < 65536)
  | .panSramScrub t bank _ => timeOk t && decide (bank < 16)
  | .wakeSource e _ seconds vin boot => bootOk boot && decide (e.pins.length ≤ 4) && u32Ok vin && u32Ok seconds

end Sys2Proof
end

