-- ==== Sys2Proof/Safety.lean ====
section
/-!
DEFINITION. The words in which statements about runs are made: a message that the MP takes, its acceptance by the common checks,
the rows that share them, and the invariants that every step keeps.
-/

namespace Sys2Proof.Machine

/-! ### Answers -/

/-- The command completes in a state that `P` describes. -/
def NextIs (o : Out) (P : State → Prop) : Prop := ∃ u, o = .next u ∧ P u

/-! ### Messages -/

/-- The state at TSC `t` before the MP turns to a message: messages of unknown opcodes that come first are answered (12 R289 step 1). -/
def ready (t : Nat) (s : State) : State := serveUnknown (advance t s)

/-- The state in which the MP works on a message at TSC `t`: the message has left its queue. -/
def taken (t : Nat) (m : Msg) (s : State) : State := dequeue m (ready t s)

/-- The message is the next to be served at `t`, it carries the row's opcode, and it passes steps 2 to 5 of R289. -/
def admitted (t : Nat) (r : Row) (absent : State → Bool) (m : Msg) (s : State) : Bool :=
  isServed r m (ready t s) && (commonCheck r (absent (taken t m s)) m (taken t m s)).isNone

/-- The end of the service of a message: its answer, and then those of the messages of unknown opcodes that come next. -/
def done (m : Msg) (status detail : Nat) (data : List Byte) (s : State) : State := serveUnknown (answered m status detail data s)

/-- The message rows that share the common checks: the TSC, the message, the row, and the unit whose absence is E_ABSENT. -/
def messageRow (i : Instr) : Option (Nat × Msg × Row × (State → Bool)) :=
  match i with
  | .caps t m => some (t, m, rowCaps, unitFree)
  | .readWord t m => some (t, m, rowReadWord, unitFree)
  | .ping t m => some (t, m, rowPing, unitFree)
  | .resetModule t m _ => some (t, m, rowResetModule, unitFree)
  | .resetMpOnly t m => some (t, m, rowResetMp, unitFree)
  | .settingsStore t m => some (t, m, rowSettingsStore, unitFree)
  | .linkConfigWrite t m => some (t, m, rowLinkConfig, unitFree)
  | .canConfigWrite t m => some (t, m, rowCanConfig, unitFree)
  | .mailboxConfigWrite t m => some (t, m, rowMailboxConfig, unitFree)
  | .create t m => some (t, m, rowCreate, unitFree)
  | .configure t m => some (t, m, rowConfigure, configureAbsent m)
  | .place t m => some (t, m, rowPlace, unitFree)
  | .release t m => some (t, m, rowRelease, unitFree)
  | .destroy t m => some (t, m, rowDestroy, unitFree)
  | .flip t m => some (t, m, rowFlip, unitFree)
  | .commit t m => some (t, m, rowCommit, unitFree)
  | .abort t m => some (t, m, rowAbort, unitFree)
  | .chunkWrite t m => some (t, m, rowChunkWrite, unitFree)
  | .curveWrite t m => some (t, m, rowCurveWrite, unitFree)
  | .blendProgramWrite t m => some (t, m, rowBlendProgram, unitFree)
  | .shadeUpdate t m => some (t, m, rowShadeUpdate, noShade)
  | .shadeClear t m => some (t, m, rowShadeClear, noShade)
  | .glyphSeal t m => some (t, m, rowGlyphSeal, noGlyph)
  | .timingChange t m => some (t, m, rowTimingChange, unitFree)
  | .timingAnchor t m => some (t, m, rowTimingAnchor, unitFree)
  | .hostScaleWrite t m => some (t, m, rowHostScale, unitFree)
  | .monitorConfigWrite t m => some (t, m, rowMonitorConfig, unitFree)
  | .logRead t m => some (t, m, rowLogRead, unitFree)
  | .eventFilter t m => some (t, m, rowEventFilter, unitFree)
  | .faultMapRead t m => some (t, m, rowFaultMapRead, unitFree)
  | .scalerCoeffRead t m => some (t, m, rowScalerCoeff, unitFree)
  | .chestStage t m => some (t, m, rowChestStage, unitFree)
  | .chestActivate t m => some (t, m, rowChestActivate, unitFree)
  | .settleStage t m => some (t, m, rowSettleStage, unitFree)
  | .settleActivate t m => some (t, m, rowSettleActivate, unitFree)
  | .safetyStore t m => some (t, m, rowSafetyStore, unitFree)
  | .holdDemand t m => some (t, m, rowHoldDemand, unitFree)
  | .recover t m => some (t, m, rowRecover, unitFree)
  | .faultForceSet t m => some (t, m, rowForceSet, unitFree)
  | .faultForceClear t m => some (t, m, rowForceClear, unitFree)
  | .faultConfig t m => some (t, m, rowFaultConfig, unitFree)
  | .compConfigWrite t m => some (t, m, rowCompConfig, unitFree)
  | .govBudgetWrite t m => some (t, m, rowGovBudget, unitFree)
  | .hostTimeoutWrite t m => some (t, m, rowHostTimeout, unitFree)
  | .sdimConfigWrite t m => some (t, m, rowSdimConfig, unitFree)
  | .calRun t m => some (t, m, rowCalRun, unitFree)
  | .calRead t m => some (t, m, rowCalRead, unitFree)
  | .calWrite t m => some (t, m, rowCalWrite, unitFree)
  | .calStore t m => some (t, m, rowCalStore, unitFree)
  | .corrChunk t m => some (t, m, rowCorrChunk, unitFree)
  | .tcurveWrite t m => some (t, m, rowTcurveWrite, unitFree)
  | .tcurveApply t m => some (t, m, rowTcurveApply, unitFree)
  | .ageingCurveWrite t m => some (t, m, rowAgeingCurve, unitFree)
  | .idleRequest t m => some (t, m, rowIdle, unitFree)
  | .wakeToLight t m => some (t, m, rowWake, unitFree)
  | .standbyRequest t m _ => some (t, m, rowStandby, unitFree)
  | .syncConfigWrite t m => some (t, m, rowSyncConfig, unitFree)
  | .syncEnumerate t m => some (t, m, rowSyncEnumerate, unitFree)
  | .sessionClose t m => some (t, m, rowSessionClose, unitFree)
  | .lifecycleAdvance t m => some (t, m, rowLifecycle, unitFree)
  | .zeroise t m => some (t, m, rowZeroise, unitFree)
  | .updateIntent t m _ => some (t, m, rowIntent, unitFree)
  | .updateBlock t m => some (t, m, rowBlock, unitFree)
  | .updateVerify t m => some (t, m, rowVerify, unitFree)
  | .updateActivate t m _ => some (t, m, rowActivate, unitFree)
  | .updateConfirm t m => some (t, m, rowConfirm, unitFree)
  | _ => none

/-! ### Commands that may change what no other command changes -/

/-- Power is applied, taken away, or returns: BANK_SEL and TSC_TRIM may go back to their reset values. -/
def movesPower (i : Instr) : Bool :=
  match i with
  | .vinRise _ _ => true
  | .lastgaspSaveComplete _ _ _ _ => true
  | .moduleReset _ _ => true
  | .standbyRequest _ _ _ => true
  | .wakeSource _ _ _ _ _ => true
  | _ => false

/-- The commands at which the swap of a frame may be executed. -/
def maySwap (i : Instr) : Bool :=
  match i with
  | .sluiceExecute _ _ => true
  | .timedSwap _ _ => true
  | _ => false

/-- The commands that may blow a fuse. -/
def mayBlow (i : Instr) : Bool :=
  match i with
  | .lifecycleAdvance _ _ => true
  | .zeroise _ _ => true
  | .updateConfirm _ _ => true
  | _ => false

/-! ### Invariants -/

/-- The fuses read as the lifecycle allows (19 R430, R438, R446): a legal state, at most 64 rollback fuses, no key and no public key once
zeroised. -/
def FuseOk (f : Fuses) : Prop :=
  f.lifecycle ≤ 3 ∧ f.rollback ≤ 64
    ∧ (f.zeroised = true → f.keys = List.replicate 4 (List.replicate 16 0) ∧ f.imgPub = List.replicate 2 (List.replicate 64 0))

/-- The fuses of `u` are those of `s` or further blown. -/
def FuseForward (s u : Fuses) : Prop :=
  s.lifecycle ≤ u.lifecycle ∧ s.rollback ≤ u.rollback ∧ (s.zeroised = true → u.zeroised = true) ∧ (s.debugBlown = true → u.debugBlown = true)
    ∧ u.variant = s.variant ∧ u.mac = s.mac ∧ u.serial = s.serial ∧ u.loaderVersion = s.loaderVersion

/-- TSC_TRIM lies in its range (01 R21). -/
def TrimOk (s : State) : Prop := -8589934 ≤ s.time.trim ∧ s.time.trim ≤ 8589934

end Sys2Proof.Machine
end

