-- ==== Sys2Proof/Certificates/Slice0/Obligations.lean ====
section
/-!
DEFINITION. The statements about the block: its queue, its invariants, the message rows and the events, family by family.
-/

section Statements

open Sys2Proof Sys2Proof.Machine

/-! ### The block as a whole -/

/-- A step runs the command at the front of the queue, with the queue's rest. -/
def Obligations.StepRunsFront : Prop :=
  ∀ (c : Instr) (rest : List Instr) (s : State), s.pending = c :: rest → step s = exec c { s with pending := rest }

/-- On an empty queue the clock takes one edge of 10 ns plus TSC_TRIM in every state with a clock, and nothing else changes (a choice of the
model, log entry 1). -/
def Obligations.IdleStepTicks : Prop :=
  ∀ s : State, s.pending = [] →
    (s.mode.op ≠ .off → s.mode.op ≠ .standby →
      step s = .next { s with time := { s.time with acc := ((s.time.acc : Int) + 42949672960 + s.time.trim).toNat } })
    ∧ (s.mode.op = .off ∨ s.mode.op = .standby → step s = .next s)

/-- No command touches the queue of waiting commands. Every step keeps the 256 drawer slots. -/
def Obligations.QueueKept : Prop :=
  (∀ (c : Instr) (s u : State), exec c s = .next u → u.pending = s.pending)
  ∧ (State.reset.drw.slots.length = 256 ∧ (∀ s u : State, s.drw.slots.length = 256 → step s = .next u → u.drw.slots.length = 256))

/-- The module as shipped: without power, in PROVISIONED, DRV_EN low, no fault, no session, no drawer beside the fixed ones, and no schedule,
demand or waiting command. The values that the spec does not state (log entry 3) are not part of the statement. The invariants of the
fuses and of TSC_TRIM hold at reset. -/
def Obligations.ResetAsShipped : Prop :=
  (State.reset.mode.op = .off ∧ State.reset.fuse.lifecycle = 1 ∧ State.reset.fuse.zeroised = false ∧ State.reset.arr.drvEn = false
     ∧ State.reset.flt.running = false ∧ State.reset.flt.status = 0 ∧ State.reset.gate.sessions = [] ∧ State.reset.drw.table = []
     ∧ State.reset.sched.running = false ∧ State.reset.dim.demand = false ∧ State.reset.pending = []
     ∧ (∀ n, (slotAt State.reset n).st = .free))
  ∧ (FuseOk State.reset.fuse ∧ TrimOk State.reset)

/-- Every step keeps the fuses legal and only moves them forward: the lifecycle never goes back, a blown rollback fuse stays blown, a zeroised
Locker and a blown debug fuse stay so, and variant, MAC, serial and loader version are fixed. No command but LIFECYCLE_ADVANCE, ZEROISE and
UPDATE_CONFIRM blows a fuse. -/
def Obligations.FusesOnlyForward : Prop :=
  (∀ s u : State, FuseOk s.fuse → step s = .next u → FuseOk u.fuse ∧ FuseForward s.fuse u.fuse)
  ∧ (∀ (c : Instr) (s u : State), mayBlow c = false → exec c s = .next u → u.fuse = s.fuse)

/-- A row write never changes the bank on show, an executed swap toggles BANK_SEL, and no other command toggles it; a command that applies or
removes power may return it to its reset value. -/
def Obligations.OnlyASluiceTogglesBankSel : Prop :=
  (∀ (t : Nat) (p : RowPacket) (crc : Nat) (s u : State), exec (.rowPacket t p crc) s = .next u →
      u.arr.bankSel = s.arr.bankSel ∧ (s.arr.bankSel = .a → u.arr.bankA = s.arr.bankA) ∧ (s.arr.bankSel = .b → u.arr.bankB = s.arr.bankB))
  ∧ (∀ (readback : Bool) (s : State), (executeSwap readback s).arr.bankSel = s.arr.bankSel.other)
  ∧ (∀ (c : Instr) (s u : State), maySwap c = false → movesPower c = false → exec c s = .next u → u.arr.bankSel = s.arr.bankSel)
  ∧ (∀ (c : Instr) (s u : State), maySwap c = true → exec c s = .next u →
      u.arr.bankSel = s.arr.bankSel ∨ (u.arr.bankSel = s.arr.bankSel.other ∧ u.sync.executed = incr32 s.sync.executed))

/-- TSC_TRIM stays within ±8,589,934 in every step, and a write beyond it is clamped to the nearest limit: the write that the gPTP servo makes
for a Sync of the selected master. -/
def Obligations.TrimClamped : Prop :=
  (∀ s u : State, TrimOk s → step s = .next u → TrimOk u)
  ∧ (∀ (t : Nat) (port : Port) (k offset trim correction rate : Int) (residence : Nat) (x : Announced) (s : State),
      clockRuns s = true → linkUpOn s port = true → servoRuns s = true → -7 ≤ k → k ≤ 0 → bestMaster s = some (port, x) →
      NextIs (exec (.gptpMessage t port (.sync 0 k offset trim correction rate residence)) s) fun u =>
        u.time.trim = if trim < -8589934 then -8589934 else if 8589934 < trim then 8589934 else trim)

/-! ### Messages: what every row shares -/

/-- A message that the MP does not serve now (the MP is restarting or does not run, another message comes first in the service order, or the
message is another row's) stays where it is: the clock moves, and messages of unknown opcodes that come first are answered. -/
def Obligations.MessageWaits : Prop :=
  ∀ (i : Instr) (t : Nat) (m : Msg) (r : Row) (ab : State → Bool) (s : State),
    messageRow i = some (t, m, r, ab) → isServed r m (ready t s) = false →
    exec i s = .next (ready t s)
    ∧ (∀ n : Msg, nextToServe (advance t s) = some n → catalogue.contains n.opcode = true → exec i s = .next (advance t s))
    ∧ (mpRuns (advance t s) = false → exec i s = .next (advance t s))

/-- The common checks of every message row, in their order: E_DOMAIN, E_ABSENT, E_STATE, then E_RANGE for LENGTH, CONTEXT or QUEUE, FLAGS
[7:3] and the reserved field. The first that fails answers the message, and nothing but its reply happens. -/
def Obligations.CommonChecksInOrder : Prop :=
  ∀ (i : Instr) (t : Nat) (m : Msg) (r : Row) (ab : State → Bool) (s : State),
    messageRow i = some (t, m, r, ab) → isServed r m (ready t s) = true →
    let a := taken t m s
    let inDomain := r.domain = .info ∨ r.domain = sessionDomain a m
    let wellMade := r.shape m = true ∧ m.flags < 8 ∧ m.reserved = 0
    (¬ inDomain → exec i s = .next (done m eDomain 0 [] a))
    ∧ (inDomain → ab a = true → exec i s = .next (done m eAbsent 0 [] a))
    ∧ (inDomain → ab a = false → r.states a.mode.op = false → exec i s = .next (done m eState 0 [] a))
    ∧ (inDomain → ab a = false → r.states a.mode.op = true → ¬ wellMade → exec i s = .next (done m eRange 0xFFFF [] a))

/-- An answer over an open session whose freshness lasts: with status OK and NO_REPLY there is none; else one reply is handed over, with the
request's SESSION, SEQUENCE and CONTEXT, OPCODE with bit 15 set, the session's next FRESHNESS and a tag under its key. Beside the gate's
outbox and that counter only the MP's note of the message served and the transport it leaves on change; the other sessions stay. -/
def Obligations.AnswerIsOneReply : Prop :=
  ∀ (m : Msg) (status detail : Nat) (data : List Byte) (s : State) (x : Session),
    findSession s m.session = some x → m.session ≠ 0 → m.freshness ≠ 0xFFFFFFFF → x.freshOut < 0xFFFFFFFE →
    let u := answered m status detail data s
    u = { s with gate := u.gate, mp := { s.mp with served := u.mp.served }, link := u.link, can := u.can }
    ∧ (status = 0 → msgNoReply m = true → u.gate = s.gate ∧ u.link = s.link ∧ u.can = s.can)
    ∧ (status ≠ 0 ∨ msgNoReply m = false →
        (m.ep.viaCan = true → u.link = s.link) ∧ (m.ep.viaCan = false → u.can = s.can)
        ∧ (∃ r, u.gate.outbox = r :: s.gate.outbox
          ∧ r.status = status ∧ r.detail = detail ∧ r.data = data ∧ r.session = m.session ∧ r.sequence = m.sequence
          ∧ r.context = m.context ∧ r.opcode = replyOpcode m.opcode ∧ r.freshness = x.freshOut + 1 ∧ r.flags = m.flags % 4
          ∧ r.tag = tagOf x.kMh (headerBytes 1 r.flags r.opcode r.session r.sequence r.freshness (4 + data.length) 0 r.context
              ++ u16 status ++ u16 detail ++ data))
        ∧ findSession u m.session = some { x with freshOut := x.freshOut + 1 }
        ∧ (∀ id, id ≠ m.session → findSession u id = findSession s id))

/-! ### System group -/

/-- CAPS, PING and READ_WORD complete with OK and their data, and change nothing beside their answer. PING: the TSC and MODULE_STATE. CAPS:
UNITS_PRESENT, MAC, LIFECYCLE, versions, ROLLBACK and SERIAL. READ_WORD: a word that is in range, present, readable in this state and
valid; MODULE_STATE and UNITS_PRESENT are given byte for byte. -/
def Obligations.SystemReads : Prop :=
  (∀ (t : Nat) (m : Msg) (s : State), admitted t rowPing unitFree m s = true →
    let a := taken t m s
    exec (.ping t m) s = .next (done m 0 0 (toLE 8 (tsc a) ++ toLE 2 (moduleState a) ++ [0, 0]) a))
  ∧ (∀ (t : Nat) (m : Msg) (s : State), admitted t rowCaps unitFree m s = true →
    let a := taken t m s
    exec (.caps t m) s = .next (done m 0 0
      (toLE 4 (match a.fuse.variant with | .f => 0x44F | .s => 0x44B | .e => 0x220) ++ macBytes a.fuse.mac
        ++ toLE 1 a.fuse.lifecycle ++ [1] ++ toLE 4 (capsVersion a) ++ toLE 4 a.fuse.loaderVersion ++ [8, 0]
        ++ toLE 2 a.fuse.rollback ++ toLE 8 a.fuse.serial) a))
  ∧ (∀ (t : Nat) (m : Msg) (s : State), admitted t rowReadWord unitFree m s = true →
    let a := taken t m s
    firstFail (wordChecks (wordId m) (wordArg m) a) = none →
    exec (.readWord t m) s = .next (done m 0 0 (wordData (wordId m) (wordArg m) a) a)
    ∧ (wordId m = 0x01 → wordData (wordId m) (wordArg m) a = toLE 2 (moduleState a))
    ∧ (wordId m = 0x02 → wordData (wordId m) (wordArg m) a
        = toLE 4 (match a.fuse.variant with | .f => 0x44F | .s => 0x44B | .e => 0x220)))

/-- Configuration writes within range complete: each takes exactly its fields from the payload, answers OK and changes nothing else. Named:
LINK_CONFIG_WRITE (HOST_TIMEOUT stays), CAN_CONFIG_WRITE, MAILBOX_CONFIG_WRITE, HOST_TIMEOUT_WRITE, GOV_BUDGET_WRITE (HOST_SCALE stays),
HOST_SCALE_WRITE, SDIM_CONFIG_WRITE, TIMING_ANCHOR. Configuration writes that are refused change nothing: a value outside its range is
E_RANGE with the field's offset; SDIM_CONFIG_WRITE during a demand and TIMING_ANCHOR, SYNC_CONFIG_WRITE and COMP_CONFIG_WRITE while the
frame schedule runs are E_STATE, whatever the values are. -/
def Obligations.ConfigurationWrites : Prop :=
  (∀ (t : Nat) (m : Msg) (s : State),
     let a := taken t m s
     let p := m.payload
     (admitted t rowLinkConfig unitFree m s = true →
       le p 0 1 ≤ 3 → le p 1 1 ≤ 3 → le p 2 1 ≤ 3 → le p 3 1 ≤ 1 → (le p 3 1 = 1 ∨ (1 ≤ ipAt p 4 / 16777216 ∧ ipAt p 4 / 16777216 ≤ 223)) →
       ipAt p 8 % 2 ^ (32 - le p 12 1) = 0 → 8 ≤ le p 12 1 → le p 12 1 ≤ (if le p 3 1 = 1 then 22 else 30) → le p 13 1 ≤ 7 →
       le p 14 2 ≤ 4094 → (1 ≤ ipAt p 16 / 16777216 ∧ ipAt p 16 / 16777216 ≤ 223) → 1024 ≤ le p 20 2 →
       (ipAt p 24 = 0 ∨ (224 ≤ ipAt p 24 / 16777216 ∧ ipAt p 24 / 16777216 ≤ 239)) → le p 28 4 = 0 →
       exec (.linkConfigWrite t m) s = .next (done m 0 0 [] { a with cfg := { a.cfg with link :=
         { speedA := le p 0 1, speedB := le p 1 1, phyRole := le p 2 1, addrMode := le p 3 1, ipAddr := ipAt p 4, ipBase := ipAt p 8,
           prefixLen := le p 12 1, psiferPcp := le p 13 1, vlanId := le p 14 2, monDestIp := ipAt p 16, monDestPort := le p 20 2,
           hostTimeout := a.cfg.link.hostTimeout, mcastGroup := ipAt p 24 } } }))
     ∧ (admitted t rowCanConfig unitFree m s = true →
       le p 0 1 ≤ 1 → le p 1 1 ≤ 2 → le p 2 2 ≤ 0x7FE → le p 2 2 % 2 = 0 → le p 4 1 ≤ 1 → le p 5 1 = 0 → le p 6 2 ≤ 1023 →
       exec (.canConfigWrite t m) s = .next (done m 0 0 [] { a with cfg := { a.cfg with can :=
         { nominal := le p 0 1, dataRate := le p 1 1, base := le p 2 2, indexMode := le p 4 1, index := le p 6 2 } } }))
     ∧ (admitted t rowMailboxConfig unitFree m s = true →
       1 ≤ le p 0 2 → le p 0 2 ≤ 3600 → 16 ≤ le p 2 2 → le p 2 2 ≤ 1024 → le p 4 4 = 0 →
       exec (.mailboxConfigWrite t m) s = .next (done m 0 0 [] { a with cfg := { a.cfg with mailbox :=
         { sessionIdle := le p 0 2, authBurst := le p 2 2 } } }))
     ∧ (admitted t rowHostTimeout unitFree m s = true → 50 ≤ le p 0 2 → le p 0 2 ≤ 10000 →
       exec (.hostTimeoutWrite t m) s = .next (done m 0 0 [] { a with cfg := { a.cfg with link :=
         { a.cfg.link with hostTimeout := le p 0 2 } } }))
     ∧ (admitted t rowGovBudget unitFree m s = true →
       100 ≤ le p 0 2 → le p 0 2 ≤ 8000 → 100 ≤ le p 2 2 → le p 2 2 ≤ 8000 → 100 ≤ le p 4 2 → le p 4 2 ≤ 8000 → 100 ≤ le p 6 2 → le p 6 2 ≤ 8000 →
       exec (.govBudgetWrite t m) s = .next (done m 0 0 [] { a with cfg := { a.cfg with gov :=
         { a.cfg.gov with precise := le p 0 2, balanced := le p 2 2, swift := le p 4 2, cool := le p 6 2 } } }))
     ∧ (admitted t rowHostScale unitFree m s = true → le p 0 2 ≤ 1023 →
       exec (.hostScaleWrite t m) s = .next (done m 0 0 [] { a with cfg := { a.cfg with gov := { a.cfg.gov with hostScale := le p 0 2 } } }))
     ∧ (admitted t rowSdimConfig unitFree m s = true → a.dim.demand = false →
       5 ≤ le p 0 2 → le p 0 2 ≤ 500 → 100 ≤ le p 2 2 → le p 2 2 ≤ 2000 → 1 ≤ le p 4 1 → le p 4 1 ≤ 3 → le p 5 1 = 0 →
       1000 ≤ le p 6 2 → le p 6 2 ≤ 30000 →
       exec (.sdimConfigWrite t m) s = .next (done m 0 0 [] { a with cfg := { a.cfg with sdim :=
         { tDisc := le p 0 2, tRamp := le p 2 2, target := le p 4 1, proofWindow := le p 6 2 } } }))
     ∧ (admitted t rowTimingAnchor unitFree m s = true → a.sched.running = false →
       exec (.timingAnchor t m) s = .next (done m 0 0 [] { a with
         cfg := { a.cfg with timing := { a.cfg.timing with anchorTsc := le p 0 8, anchorFrame := le p 8 8 } },
         sched := { a.sched with anchorTsc := le p 0 8, anchorFrame := le p 8 8 } })))
  ∧ (∀ (t : Nat) (m : Msg) (s : State),
     let a := taken t m s
     let p := m.payload
     (admitted t rowHostScale unitFree m s = true → 1023 < le p 0 2 → exec (.hostScaleWrite t m) s = .next (done m eRange 0 [] a))
     ∧ (admitted t rowHostTimeout unitFree m s = true → (le p 0 2 < 50 ∨ 10000 < le p 0 2) →
       exec (.hostTimeoutWrite t m) s = .next (done m eRange 0 [] a))
     ∧ (admitted t rowGovBudget unitFree m s = true → 100 ≤ le p 0 2 → le p 0 2 ≤ 8000 → (le p 2 2 < 100 ∨ 8000 < le p 2 2) →
       exec (.govBudgetWrite t m) s = .next (done m eRange 2 [] a))
     ∧ (admitted t rowMailboxConfig unitFree m s = true → (le p 0 2 < 1 ∨ 3600 < le p 0 2) →
       exec (.mailboxConfigWrite t m) s = .next (done m eRange 0 [] a))
     ∧ (admitted t rowSdimConfig unitFree m s = true → a.dim.demand = true → exec (.sdimConfigWrite t m) s = .next (done m eState 0 [] a))
     ∧ (admitted t rowTimingAnchor unitFree m s = true → a.sched.running = true → exec (.timingAnchor t m) s = .next (done m eState 0 [] a))
     ∧ (admitted t rowSyncConfig unitFree m s = true → a.sched.running = true → exec (.syncConfigWrite t m) s = .next (done m eState 0 [] a))
     ∧ (admitted t rowCompConfig unitFree m s = true → a.sched.running = true → exec (.compConfigWrite t m) s = .next (done m eState 0 [] a)))

/-- The three stores to flash and their outcomes complete. The message takes what is to be stored and starts the long operation; a second
request is E_BUSY, and E_TEMP while flash work is forbidden. The outcome writes the record and ends the operation: the settings ring gets
the settings taken; both copies of the safety area get the Chest and SETTLE data taken; the calibration slot that does not hold the higher
sequence gets the calibration taken, with the next sequence, and FS39's condition ends. Before the first erase a forbidden store ends with
E_TEMP; after it, it pauses. -/
def Obligations.StoresToFlash : Prop :=
  (∀ (t : Nat) (m : Msg) (s : State),
     let a := taken t m s
     let started := fun (b : State) => done m 0 0 [] { b with mp := { b.mp with long := b.mp.long ++ [{ opcode := m.opcode, arrival := m.arrival }] } }
     (admitted t rowSettingsStore unitFree m s = true →
       (isRunning a 0x0105 = true → exec (.settingsStore t m) s = .next (done m eBusy 0 [] a))
       ∧ (isRunning a 0x0105 = false → a.pwr.flashAllowed = false → exec (.settingsStore t m) s = .next (done m eTemp 0 [] a))
       ∧ (isRunning a 0x0105 = false → a.pwr.flashAllowed = true →
           exec (.settingsStore t m) s = .next (started { a with mp := { a.mp with storeSettings := a.cfg } })))
     ∧ (admitted t rowSafetyStore unitFree m s = true →
       (isRunning a 0x0605 = true → exec (.safetyStore t m) s = .next (done m eBusy 0 [] a))
       ∧ (isRunning a 0x0605 = false → a.pwr.flashAllowed = false → exec (.safetyStore t m) s = .next (done m eTemp 0 [] a))
       ∧ (isRunning a 0x0605 = false → a.pwr.flashAllowed = true →
           exec (.safetyStore t m) s = .next (started { a with mp := { a.mp with
             storeChest := a.comp.chestAccepted, storeSettle := a.comp.settleAccepted } })))
     ∧ (admitted t rowCalStore unitFree m s = true →
       (isRunning a 0x0704 = true → exec (.calStore t m) s = .next (done m eBusy 0 [] a))
       ∧ (isRunning a 0x0704 = false → a.pwr.flashAllowed = false → exec (.calStore t m) s = .next (done m eTemp 0 [] a))
       ∧ (isRunning a 0x0704 = false → a.pwr.flashAllowed = true →
           exec (.calStore t m) s = .next (started { a with mp := { a.mp with storeCal := a.conv.cal } }))))
  ∧ (∀ (t : Nat) (erased : Bool) (s : State),
     let a := advance t s
     (isRunning s 0x0105 = true → s.pwr.flashAllowed = true →
       NextIs (exec (.settingsStoreOutcome t erased) s) fun u =>
         u.flash = { s.flash with settings := some (imgSettingsFormat s, s.mp.storeSettings) } ∧ isRunning u 0x0105 = false ∧ u.cfg = s.cfg)
     ∧ (isRunning s 0x0605 = true → s.pwr.flashAllowed = true →
       NextIs (exec (.safetyStoreOutcome t erased) s) fun u =>
         u.flash = { s.flash with safety := [some (s.mp.storeChest, s.mp.storeSettle), some (s.mp.storeChest, s.mp.storeSettle)] }
           ∧ isRunning u 0x0605 = false ∧ u.comp = s.comp)
     ∧ (isRunning s 0x0704 = true → s.pwr.flashAllowed = true →
       NextIs (exec (.calStoreOutcome t erased) s) fun u =>
         let x : CalSlot := { sequence := nextCalSequence s, format := 1, content := setCal 3 [0] s.mp.storeCal }
         (storeTarget s = true → u.flash = { s.flash with calB := some x })
           ∧ (storeTarget s = false → u.flash = { s.flash with calA := some x })
           ∧ isRunning u 0x0704 = false ∧ hasBit u.flt.cond 39 = false)
     ∧ (s.pwr.flashAllowed = false →
       (isRunning s 0x0105 = true → exec (.settingsStoreOutcome t false) s = .next (endLong 0x0105 eTemp a)
         ∧ exec (.settingsStoreOutcome t true) s = .next a)
       ∧ (isRunning s 0x0605 = true → exec (.safetyStoreOutcome t false) s = .next (endLong 0x0605 eTemp a)
         ∧ exec (.safetyStoreOutcome t true) s = .next a)
       ∧ (isRunning s 0x0704 = true → exec (.calStoreOutcome t false) s = .next (endLong 0x0704 eTemp a)
         ∧ exec (.calStoreOutcome t true) s = .next a)))

/-- RESET completes. With KIND 1 it restarts the MP alone, after its reply: the operating state, the array and the schedule stay, the restart
is counted, waiting messages and long operations are gone. RESET with KIND 0, and a module reset in progress, lead to BOOT without sessions
or a schedule and keep the fuses; outside BROWNOUT_SAVE they keep BANK_SEL and the pixel banks. -/
def Obligations.Resets : Prop :=
  (∀ (t : Nat) (m : Msg) (s : State), admitted t rowResetMp unitFree m s = true → le m.payload 1 3 = 0 → s.mode.op ≠ .loader →
    NextIs (exec (.resetMpOnly t m) s) fun u =>
      u.mode = s.mode ∧ u.arr = s.arr ∧ u.sched = s.sched ∧ u.mp.restarting = some (tsc (advance t s)) ∧ u.mp.long = []
        ∧ u.flt.mpRestarts = (s.flt.mpRestarts + 1) % 65536 ∧ u.gate.openings = []
        ∧ (∀ x ∈ u.gate.sessions, x.high = [] ∧ x.norm = [] ∧ x.bulk = []))
  ∧ (∀ (t : Nat) (m : Msg) (boot : BootInputs) (s : State), admitted t rowResetModule unitFree m s = true →
    le m.payload 0 1 = 0 → le m.payload 1 3 = 0 →
    NextIs (exec (.resetModule t m boot) s) fun u =>
      u.mode.op = .boot ∧ u.fuse = s.fuse ∧ u.arr.bankSel = s.arr.bankSel ∧ u.arr.bankA = s.arr.bankA ∧ u.arr.bankB = s.arr.bankB
        ∧ u.gate.sessions = [] ∧ u.sched.running = false)
  ∧ (∀ (t : Nat) (boot : BootInputs) (s : State), s.flt.resetPending = true →
    (s.mode.op ≠ .brownoutSave → NextIs (exec (.moduleReset t boot) s) fun u =>
      u.mode.op = .boot ∧ u.fuse = s.fuse ∧ u.arr.bankSel = s.arr.bankSel ∧ u.arr.bankA = s.arr.bankA ∧ u.arr.bankB = s.arr.bankB
        ∧ u.gate.sessions = [] ∧ u.sched.running = false)
    ∧ (s.mode.op = .brownoutSave → trainingOk boot.training = true → NextIs (exec (.moduleReset t boot) s) fun u =>
      u.mode.op = .boot ∧ u.fuse = s.fuse ∧ u.gate.sessions = [] ∧ u.sched.running = false))


/-! ### Drawers -/

/-- CREATE completes and opens a FREE general slot: the slot named, or the lowest FREE one. It gets the next generation (1 to 255), a
descriptor of zeros but for its type, and its handle is the reply; every other slot is as before. A named slot that is in use is E_STATE
(E_BUSY while it retires), a module with no FREE slot answers E_CAPACITY, a SHADE or GLYPH drawer without its unit E_ABSENT. -/
def Obligations.CreateOpensAFreeSlot : Prop :=
  ∀ (t : Nat) (m : Msg) (s : State), admitted t rowCreate unitFree m s = true →
    let a := taken t m s
    let ty := le m.payload 0 1
    let present := (ty = 2 → a.fuse.variant ≠ .e) ∧ (ty = 3 → a.fuse.variant = .f)
    let opened : Nat → Slot := fun n => { gen := (slotAt a n).gen % 255 + 1, st := .opened, desc := { type := ty } }
    let made := fun (n : Nat) =>
      exec (.create t m) s = .next (done m 0 0 (u16 (n + 256 * (opened n).gen) ++ [0, 0]) (openSlot n ty a))
        ∧ slotAt (openSlot n ty a) n = opened n ∧ (∀ k, k ≠ n → slotAt (openSlot n ty a) k = slotAt a k)
        ∧ handleValid (openSlot n ty a) (n + 256 * (opened n).gen) = true
    (a.drw.slots.length = 256 → ty ≤ 4 → present → le m.payload 1 3 = 0 →
      (∀ n, 2 ≤ n → n < 256 → (slotAt a n).st = .free → (∀ k, 2 ≤ k → k < n → (slotAt a k).st ≠ .free) → made n)
      ∧ ((∀ n, 2 ≤ n → n < 256 → (slotAt a n).st ≠ .free) → exec (.create t m) s = .next (done m eCapacity 0 [] a)))
    ∧ (a.drw.slots.length = 256 → ty ≤ 4 → present → le m.payload 1 1 = 1 → 2 ≤ le m.payload 2 1 → le m.payload 3 1 = 0 →
      ((slotAt a (le m.payload 2 1)).st = .free → made (le m.payload 2 1))
      ∧ ((slotAt a (le m.payload 2 1)).st = .opened ∨ (slotAt a (le m.payload 2 1)).st = .placed →
          exec (.create t m) s = .next (done m eState 0 [] a))
      ∧ ((slotAt a (le m.payload 2 1)).st = .retiring → exec (.create t m) s = .next (done m eBusy 0 [] a)))
    ∧ (¬ present → exec (.create t m) s = .next (done m eAbsent 0 [] a))

/-- CONFIGURE, PLACE, RELEASE and DESTROY complete by noting a pending change of the drawer under the message's session; nothing applies
before COMMIT. The handle must be valid, the drawer general, not RETIRING, and without pending changes of another session. PLACE needs an
OPEN drawer, RELEASE a PLACED one. The same rows refused: an invalid handle is E_HANDLE; a fixed drawer E_DOMAIN for CONFIGURE and PLACE and
E_STATE for RELEASE and DESTROY; a RETIRING drawer, or one with pending changes of another session, E_BUSY; PLACE of a drawer that is not
OPEN and RELEASE of one that is not PLACED are E_STATE. A CONFIGURE whose LENGTH is not that of the drawer's type is E_RANGE with DETAIL
0xFFFF before all these, and one of 40 bytes, with SHADE parameters, is E_ABSENT on a module without the shade engine. -/
def Obligations.ChangesStayPending : Prop :=
  (∀ (t : Nat) (m : Msg) (s : State),
     let a := taken t m s
     let h := m.context % 65536
     let sl := slotAt a (h % 256)
     let usable := handleValid a h = true ∧ h ≠ 0x0100 ∧ h ≠ 0x0101 ∧ sl.st ≠ .retiring ∧ (∀ p, sl.pend = some p → p.session = m.session)
     let noted := fun (f : Pending → Pending) => done m 0 0 [] (updSlot (h % 256) (fun x =>
       { x with pend := some (f (x.pend.getD { session := m.session })) }) a)
     (admitted t rowConfigure (configureAbsent m) m s = true → usable →
       m.length = (if sl.desc.type = 4 then 84 else if sl.desc.type = 2 then 40 else 36) →
       firstFail (descriptorChecks sl.desc.type m.payload ++ paramsChecks sl.desc.type m.payload) = none →
       exec (.configure t m) s = .next (noted fun p =>
         { p with configure := some (descriptorOf m.payload, paramsOf sl.desc.type m.payload) }))
     ∧ (admitted t rowPlace unitFree m s = true → usable → sl.st = .opened →
         exec (.place t m) s = .next (noted fun p => { p with place := true }))
     ∧ (admitted t rowRelease unitFree m s = true → usable → sl.st = .placed →
         exec (.release t m) s = .next (noted fun p => { p with release := true }))
     ∧ (admitted t rowDestroy unitFree m s = true → usable → exec (.destroy t m) s = .next (noted fun p => { p with destroy := true }))
     ∧ (admitted t rowConfigure (configureAbsent m) m s = true → handleValid a h = true → h ≠ 0x0100 → h ≠ 0x0101 →
         m.length ≠ (if sl.desc.type = 4 then 84 else if sl.desc.type = 2 then 40 else 36) →
         exec (.configure t m) s = .next (done m eRange 0xFFFF [] a))
     ∧ (isServed rowConfigure m (ready t s) = true → sessionDomain a m = .light → a.fuse.variant = .e → m.length = 40 →
         exec (.configure t m) s = .next (done m eAbsent 0 [] a)))
  ∧ (∀ (t : Nat) (m : Msg) (s : State),
     let a := taken t m s
     let h := m.context % 65536
     let sl := slotAt a (h % 256)
     let general := h ≠ 0x0100 ∧ h ≠ 0x0101
     let free := sl.st ≠ .retiring ∧ (∀ p, sl.pend = some p → p.session = m.session)
     let fits := m.length = (if sl.desc.type = 4 then 84 else if sl.desc.type = 2 then 40 else 36)
     ∀ (i : Instr) (r : Row) (ab : State → Bool),
       ((i = .configure t m ∧ r = rowConfigure ∧ ab = configureAbsent m) ∨ (i = .place t m ∧ r = rowPlace ∧ ab = unitFree)
         ∨ (i = .release t m ∧ r = rowRelease ∧ ab = unitFree) ∨ (i = .destroy t m ∧ r = rowDestroy ∧ ab = unitFree)) →
       admitted t r ab m s = true →
       (handleValid a h = false → exec i s = .next (done m eHandle 0 [] a))
       ∧ (handleValid a h = true → ¬ general → exec i s = .next (done m (if r.opcode ≤ 0x0203 then eDomain else eState) 0 [] a))
       ∧ (handleValid a h = true → general → ¬ free → (r.opcode = 0x0202 → fits) → exec i s = .next (done m eBusy 0 [] a))
       ∧ (handleValid a h = true → general → free → r.opcode = 0x0203 → sl.st ≠ .opened → exec i s = .next (done m eState 0 [] a))
       ∧ (handleValid a h = true → general → free → r.opcode = 0x0204 → sl.st ≠ .placed → exec i s = .next (done m eState 0 [] a)))

/-- FLIP of a PLACED STILL drawer, or of a PLACED GLYPH drawer with a sealed table, completes by noting the flip; with CHECK set it first
compares the CRC of the back buffer or table, and a mismatch is E_CRC, counted by CVU3. ABORT completes by discarding every pending change
of the message's session, answers their number, and leaves other sessions' changes. -/
def Obligations.FlipAndAbort : Prop :=
  ∀ (t : Nat) (m : Msg) (s : State),
    let a := taken t m s
    let h := m.context % 65536
    let sl := slotAt a (h % 256)
    let flipOk := handleValid a h = true ∧ h ≠ 0x0100 ∧ h ≠ 0x0101 ∧ (∀ p, sl.pend = some p → p.session = m.session)
      ∧ sl.flipUntil = none ∧ sl.st = .placed ∧ (sl.desc.type = 1 ∨ (sl.desc.type = 3 ∧ sl.sealed = true))
    let crc := crc32 (backBytes sl)
    let noted := fun (b : State) => updSlot (h % 256) (fun x =>
      { x with pend := some { (x.pend.getD { session := m.session }) with flip := true } }) b
    (admitted t rowFlip unitFree m s = true → flipOk → le m.payload 1 3 = 0 →
      (le m.payload 0 1 = 0 → le m.payload 4 4 = 0 → exec (.flip t m) s = .next (done m 0 0 [] (noted a)))
      ∧ (le m.payload 0 1 = 1 → le m.payload 4 4 = crc →
          exec (.flip t m) s = .next (done m 0 0 [] (noted (cvuJob 3 crc (some (le m.payload 4 4)) a))))
      ∧ (le m.payload 0 1 = 1 → le m.payload 4 4 ≠ crc →
          exec (.flip t m) s = .next (done m eCrc 0 [] (cvuJob 3 crc (some (le m.payload 4 4)) a))))
    ∧ (admitted t rowAbort unitFree m s = true →
      exec (.abort t m) s = .next (done m 0 0 (u16 (pendingCount a m.session) ++ [0, 0]) (dropPending m.session a))
      ∧ (∀ n p, (slotAt (dropPending m.session a) n).pend = some p → p.session ≠ m.session)
      ∧ (∀ n p, (slotAt a n).pend = some p → p.session ≠ m.session → slotAt (dropPending m.session a) n = slotAt a n)
      ∧ (∀ c ∈ (dropPending m.session a).drw.pendCurves, c.1 ≠ m.session)
      ∧ pendingCount (dropPending m.session a) m.session = 0)

/-- COMMIT of a session without pending changes answers frame 0 and the present COMMIT_SEQ and changes nothing. In PROOF_PENDING a PLACE or
FLIP in it is E_PROOF. An accepted COMMIT completes: it is answered with its effective frame and number. While a schedule runs it waits,
last in the order of acceptance, with a frame that is not before that of an earlier COMMIT; the drawer table in force stays. Refused, it
leaves everything as it is. -/
def Obligations.CommitTakesItsFrame : Prop :=
  ∀ (t : Nat) (m : Msg) (s : State), admitted t rowCommit unitFree m s = true →
    let a := taken t m s
    let p := proposal a m.session
    let f := settleFrame a p (le m.payload 0 8) m.arrival
    let placesOrFlips := ∃ e ∈ p.changes, e.2.place = true ∨ e.2.flip = true
    (a.mode.op = .proofPending → placesOrFlips → exec (.commit t m) s = .next (done m eProof 0 [] a))
    ∧ (p.isEmpty = true → exec (.commit t m) s = .next (done m 0 0 (u64 0 ++ u32 a.drw.seq ++ u32 0) a))
    ∧ (p.isEmpty = false → ¬ (a.mode.op = .proofPending ∧ placesOrFlips) →
      (∀ st d, firstFail (commitChecks a p ++ [require (decide (f.2.status = 0)) f.2.status]) = some (st, d) →
        exec (.commit t m) s = .next (done m st d [] a))
      ∧ (firstFail (commitChecks a p) = none → f.2.status = 0 →
        exec (.commit t m) s = .next (done m 0 0 (u64 f.1 ++ u32 (a.drw.issued + 1) ++ u32 0) (applyNow (acceptCommit p m.session f.1 f.2 a)))
        ∧ (a.sched.running = true →
          let u := acceptCommit p m.session f.1 f.2 a
          applyNow u = u ∧ u.drw.table = a.drw.table ∧ u.drw.items = a.drw.items ∧ u.drw.issued = a.drw.issued + 1
            ∧ (∃ c, u.drw.commits = a.drw.commits ++ [c] ∧ c.frame = f.1 ∧ c.seq = some (a.drw.issued + 1) ∧ c.table = p.table)
            ∧ (∀ c ∈ a.drw.commits.getLast?, c.frame ≤ f.1))))

/-- Where a frame schedule runs at one period (no change of timing waits), the effective frame of R149 is the first one, of those not yet
composed, that meets its three conditions: the swap at or after EFFECT_TSC, the cut-off at or after the ready instant, and no
frame of an earlier COMMIT after it. -/
def Obligations.EffectiveFrameIsFirst : Prop :=
  ∀ (g : Sched) (eff ready before : Nat), g.change = none → 0 < g.period → 1 ≤ g.nextComp →
    let m := effectiveFrame g eff ready before
    (eff : Int) ≤ swapAt g m ∧ (ready : Int) ≤ cutoffAt g m ∧ before ≤ m ∧ g.nextComp ≤ m
    ∧ (∀ k, g.nextComp ≤ k → (eff : Int) ≤ swapAt g k → (ready : Int) ≤ cutoffAt g k → before ≤ k → m ≤ k)

/-- The uploads complete. CHUNK_WRITE stores its bytes at the offset of the back buffer of a PLACED STILL drawer, or of the back table of a
GLYPH drawer, which it unseals; every other byte of that store reads as before. It is E_HANDLE for an invalid handle, E_DOMAIN for a fixed
drawer, E_STATE for a drawer without such a store, then E_BUSY while a flip holds the buffer, then E_RANGE beyond its end. CURVE_WRITE and
BLEND_PROGRAM_WRITE note a pending table and a pending program. -/
def Obligations.UploadsLandInBackStores : Prop :=
  ∀ (t : Nat) (m : Msg) (s : State),
    let a := taken t m s
    let n := m.context % 65536 % 256
    let off := m.context / 65536
    let sl := slotAt a n
    let named := handleValid a (m.context % 65536) = true ∧ m.context % 65536 ≠ 0x0100 ∧ m.context % 65536 ≠ 0x0101
    let held := sl.flipUntil ≠ none ∨ ∃ p, sl.pend = some p ∧ p.flip = true
    let end_ := if sl.desc.type = 3 then 16384 else bufferBytes sl.desc
    (admitted t rowChunkWrite unitFree m s = true → named → ¬ held → off + m.length ≤ end_ →
      (sl.desc.type = 3 →
        exec (.chunkWrite t m) s = .next (done m 0 0 [] (updSlot n (fun x => if x.desc.type = 3 then
            { x with glyphBack := memWriteList 0 x.glyphBack off m.payload, sealed := false, backSegs := 0 }
          else { x with buffers := listUpdate x.buffers (backIndex x) fun b => { b with data := memWriteList 0 b.data off m.payload } }) a))
        ∧ (memWf 0 sl.glyphBack = true → m.payload.length = m.length → ∀ k, memRead 0 (memWriteList 0 sl.glyphBack off m.payload) k
            = if off ≤ k ∧ k < off + m.length then m.payload.getD (k - off) 0 else memRead 0 sl.glyphBack k))
      ∧ (sl.desc.type = 1 → sl.st = .placed →
        exec (.chunkWrite t m) s = .next (done m 0 0 [] (updSlot n (fun x => if x.desc.type = 3 then
            { x with glyphBack := memWriteList 0 x.glyphBack off m.payload, sealed := false, backSegs := 0 }
          else { x with buffers := listUpdate x.buffers (backIndex x) fun b => { b with data := memWriteList 0 b.data off m.payload } }) a))))
    ∧ (admitted t rowChunkWrite unitFree m s = true →
      (handleValid a (m.context % 65536) = false → exec (.chunkWrite t m) s = .next (done m eHandle 0 [] a))
      ∧ (handleValid a (m.context % 65536) = true → ¬ named → exec (.chunkWrite t m) s = .next (done m eDomain 0 [] a))
      ∧ (named → ¬ (sl.desc.type = 3 ∨ (sl.desc.type = 1 ∧ sl.st = .placed)) → exec (.chunkWrite t m) s = .next (done m eState 0 [] a))
      ∧ (named → (sl.desc.type = 3 ∨ (sl.desc.type = 1 ∧ sl.st = .placed)) → held → exec (.chunkWrite t m) s = .next (done m eBusy 0 [] a))
      ∧ (named → (sl.desc.type = 3 ∨ (sl.desc.type = 1 ∧ sl.st = .placed)) → ¬ held → end_ < off + m.length →
          exec (.chunkWrite t m) s = .next (done m eRange 0xFFFF [] a)))
    ∧ (admitted t rowCurveWrite unitFree m s = true → (∀ c ∈ a.drw.pendCurves, c.2.1 = m.context → c.1 = m.session) →
      exec (.curveWrite t m) s = .next (done m 0 0 [] { a with drw := { a.drw with
        pendCurves := a.drw.pendCurves.filter (fun c => decide (c.2.1 ≠ m.context))
          ++ [(m.session, m.context, (List.range 256).map fun k => le m.payload (2 * k) 2)] } }))
    ∧ (admitted t rowBlendProgram unitFree m s = true → firstFail (blendChecks m a) = none →
      exec (.blendProgramWrite t m) s = .next (done m 0 0 [] { a with drw := { a.drw with
        pendBlend := some (m.session, (List.range (le m.payload 0 1)).map (blendStepOf m.payload)) } }))

/-! ### Shade and glyphs -/

/-- SHADE_UPDATE completes by handing its objects over together: an ACTIVE object replaces the one with its ID, an inactive one removes it, and
every object with another ID stays; UPDATES counts them. SHADE_CLEAR completes by removing all and counts 64. Both answer the frame that
contains the handoff and its TSC. Without a schedule the objects are latched at once; with one whose next cut-off is still to come they wait
for the first cut-off at or after the handoff. GLYPH_SEAL of a back table that passes its checks completes: it seals the table and answers
its segments; a table that fails is left unsealed. Without the shade engine or the glyph unit they are E_ABSENT. -/
def Obligations.ShadeAndGlyph : Prop :=
  ∀ (t : Nat) (m : Msg) (s : State),
    let a := taken t m s
    let n := m.context % 65536 % 256
    let sl := slotAt a n
    let usable := handleValid a (m.context % 65536) = true ∧ m.context % 65536 ≠ 0x0100 ∧ m.context % 65536 ≠ 0x0101 ∧ sl.st ≠ .retiring
    let reply := u64 (firstContaining a) ++ u64 (tsc a)
    let handed := fun (count : Nat) (f : List ShadeObj → List ShadeObj) => updSlot n (fun x =>
      { x with objects := f x.objects, handed := x.handed ++ [(tsc a, f x.objects)],
               updates := (x.updates + count) % 4294967296, updateFrame := firstContaining a, lastHandoff := tsc a }) a
    let latched := fun (count : Nat) (f : List ShadeObj → List ShadeObj) => updSlot n (fun x =>
      { x with objects := f x.objects, latched := f x.objects,
               updates := (x.updates + count) % 4294967296, updateFrame := firstContaining a, lastHandoff := tsc a }) a
    let put := fun (l : List ShadeObj) => ((List.range (m.length / 40)).map fun k => shadeObjOf m.payload (40 * k)).foldl putObject l
    (admitted t rowShadeUpdate noShade m s = true → usable → sl.desc.type = 2 →
      firstFail ((List.range (m.length / 40)).flatMap fun k => shadeObjChecks m.payload (40 * k)) = none →
      (a.sched.running = true → a.sched.cutDone ≠ some a.sched.nextComp →
        exec (.shadeUpdate t m) s = .next (done m 0 0 reply (handed (m.length / 40) put)))
      ∧ (a.sched.running = false → exec (.shadeUpdate t m) s = .next (done m 0 0 reply (latched (m.length / 40) put)))
      ∧ (∀ o ∈ sl.objects, (∀ k < m.length / 40, le m.payload (40 * k) 1 ≠ o.id) → o ∈ put sl.objects)
      ∧ (m.length = 40 → ((∃ o ∈ put sl.objects, o.id = le m.payload 0 1) ↔ le m.payload 1 1 % 2 = 1)))
    ∧ (admitted t rowShadeClear noShade m s = true → usable → sl.desc.type = 2 →
      (a.sched.running = true → a.sched.cutDone ≠ some a.sched.nextComp →
        exec (.shadeClear t m) s = .next (done m 0 0 reply (handed 64 fun _ => [])))
      ∧ (a.sched.running = false → exec (.shadeClear t m) s = .next (done m 0 0 reply (latched 64 fun _ => []))))
    ∧ (admitted t rowGlyphSeal noGlyph m s = true → usable → sl.desc.type = 3 →
      let d := nextDesc a n
      let segs := glyphSegs sl.glyphBack d
      (glyphTableCheck sl.glyphBack d.srcW d.srcH = none → segs ≤ 8192 →
        exec (.glyphSeal t m) s = .next (done m 0 0 (u16 segs ++ [0, 0])
          (updSlot n (fun x => { x with sealed := true, backSegs := segs }) a)))
      ∧ (∀ st x, glyphTableCheck sl.glyphBack d.srcW d.srcH = some (st, x) →
        exec (.glyphSeal t m) s = .next (done m st x [] (updSlot n (fun x => { x with sealed := false }) a)))
      ∧ (glyphTableCheck sl.glyphBack d.srcW d.srcH = none → 8192 < segs →
        exec (.glyphSeal t m) s = .next (done m eCapacity 0 [] (updSlot n (fun x => { x with sealed := false }) a))))
    ∧ (isServed rowShadeUpdate m (ready t s) = true → sessionDomain a m = .light → a.fuse.variant = .e →
        exec (.shadeUpdate t m) s = .next (done m eAbsent 0 [] a))
    ∧ (isServed rowShadeClear m (ready t s) = true → sessionDomain a m = .light → a.fuse.variant = .e →
        exec (.shadeClear t m) s = .next (done m eAbsent 0 [] a))
    ∧ (isServed rowGlyphSeal m (ready t s) = true → sessionDomain a m = .light → a.fuse.variant ≠ .f →
        exec (.glyphSeal t m) s = .next (done m eAbsent 0 [] a))

/-! ### Timing and monitor -/

/-- TIMING_CHANGE without a schedule completes by taking PROFILE and PERIOD at once, when the drawer set fits the period. While a schedule
runs, an accepted change that moves nothing completes: it waits for its frame k, while PROFILE and PERIOD in force, the anchor and the
configuration stay, and the reply names k and the swap instant before it. A PERIOD outside the profile's range is E_TIMING, and so is a
STRICT change that cannot be met. -/
def Obligations.TimingChanges : Prop :=
  ∀ (t : Nat) (m : Msg) (s : State), admitted t rowTimingChange unitFree m s = true →
    let a := taken t m s
    let profile := le m.payload 0 1
    let period := le m.payload 4 4
    (profile ≤ 3 → le m.payload 1 1 ≤ 1 → le m.payload 2 2 = 0 → periodOk profile period = false →
      exec (.timingChange t m) s = .next (done m eTiming 0 [] a))
    ∧ (profile ≤ 3 → le m.payload 1 1 ≤ 1 → le m.payload 2 2 = 0 → periodOk profile period = true →
      (a.sched.running = false →
        (∀ cs, commitsAt a 0 period = some cs →
          exec (.timingChange t m) s = .next (done m 0 0 (u64 0 ++ u64 a.cfg.timing.anchorTsc)
            (applyNow (changeNow profile period (takeCommits 0 cs [] a))))
          ∧ (changeNow profile period (takeCommits 0 cs [] a)).cfg.timing = { a.cfg.timing with profile := profile, period := period }
          ∧ (changeNow profile period (takeCommits 0 cs [] a)).sched = { a.sched with profile := profile, period := period })
        ∧ (commitsAt a 0 period = none → exec (.timingChange t m) s = .next (done m eBandwidth 0 [] a)))
      ∧ (a.sched.running = true → periodMoves a period = [] →
        (∀ k, changeFrame a profile (le m.payload 8 8) m.arrival (decide (le m.payload 1 1 = 1)) = some k →
          (∀ cs, commitsAt a k period = some cs →
            let u := acceptChange profile period k (takeCommits k cs [] a)
            exec (.timingChange t m) s = .next (done m 0 0 (u64 k ++ u64 (gridSwap (changeGrid a) (k - 1)).toNat) u)
            ∧ u.sched.change = some { profile := profile, period := period, frame := k } ∧ u.sched.profile = a.sched.profile
            ∧ u.sched.period = a.sched.period ∧ u.sched.anchorTsc = a.sched.anchorTsc ∧ u.sched.anchorFrame = a.sched.anchorFrame
            ∧ u.cfg = a.cfg ∧ u.drw.commits = cs ∧ u.drw.table = a.drw.table)
          ∧ (commitsAt a k period = none → exec (.timingChange t m) s = .next (done m eBandwidth 0 [] a)))
        ∧ (changeFrame a profile (le m.payload 8 8) m.arrival (decide (le m.payload 1 1 = 1)) = none →
          exec (.timingChange t m) s = .next (done m eTiming 0 [] a))))

/-- MONITOR_CONFIG_WRITE completes by taking the configuration: at once without a schedule. While one runs, a write that leaves the monitor's
ring as it is applies from the next composition start, and to the writes that wait; one that changes the ring waits for the frame of its
placement. A rate that the line does not carry is E_BANDWIDTH. -/
def Obligations.MonitorConfiguration : Prop :=
  ∀ (t : Nat) (m : Msg) (s : State), admitted t rowMonitorConfig unitFree m s = true →
    let a := taken t m s
    let c := monitorConfigOf m.payload
    let placed := placeSet a c (lastTable a) (lastBlend a) (periodFor a a.sched.nextComp)
    firstFail (monitorChecks m.payload) = none →
    (monitorRateOk a c = false → exec (.monitorConfigWrite t m) s = .next (done m eBandwidth 0 [] a))
    ∧ (monitorRateOk a c = true → monitorRing c = monitorRing a.cfg.mon → a.sched.running = false →
      exec (.monitorConfigWrite t m) s = .next (done m 0 0 [] { a with
        cfg := { a.cfg with mon := c }, mon := { a.mon with inForce := c, small := none, waiting := [], effN := c.everyN } }))
    ∧ (monitorRateOk a c = true → monitorRing c = monitorRing a.cfg.mon → a.sched.running = true →
      exec (.monitorConfigWrite t m) s = .next (done m 0 0 [] { a with
        cfg := { a.cfg with mon := c },
        mon := { a.mon with small := some c, waiting := a.mon.waiting.map fun x => (x.1, withSmall x.2 c) } }))
    ∧ (monitorRateOk a c = true → monitorRing c ≠ monitorRing a.cfg.mon → placed.1 ≠ 0 →
      exec (.monitorConfigWrite t m) s = .next (done m eBandwidth 0 [] a))
    ∧ (monitorRateOk a c = true → monitorRing c ≠ monitorRing a.cfg.mon → placed.1 = 0 → a.sched.running = true →
      NextIs (exec (.monitorConfigWrite t m) s) fun u =>
        let k := frameFor a 0 m.arrival (moveTime (movedItems (lastItems a) placed.2 []))
        u.cfg = { a.cfg with mon := c } ∧ u.mon = { a.mon with waiting := a.mon.waiting ++ [(k, c)] } ∧ u.sched = a.sched ∧ u.fuse = a.fuse
          ∧ u.drw.table = a.drw.table
          ∧ u.drw.commits = a.drw.commits ++ [placementCommit k (lastTable a) (lastBlend a) placed.2])
    ∧ (monitorRateOk a c = true → monitorRing c ≠ monitorRing a.cfg.mon → placed.1 = 0 → a.sched.running = false →
      NextIs (exec (.monitorConfigWrite t m) s) fun u =>
        u.cfg = { a.cfg with mon := c } ∧ u.mon = { a.mon with inForce := c, small := none, waiting := [], effN := c.everyN }
          ∧ u.sched = a.sched ∧ u.fuse = a.fuse)

/-! ### Diagnostics -/

/-- The four reading rows complete with an answer from the state and change nothing but, for EVENT_FILTER, the session's filter. LOG_READ:
at most 89 records from the number asked for on, each one that the log holds, without a gap in the numbers. FAULT_MAP_READ: the bytes of the
fault map, four codes a byte. SCALER_COEFF_READ: the coefficients of a set of 2, 4, 6 or 8 taps. A read beyond the map, and a set that does
not exist, are E_RANGE. -/
def Obligations.DiagnosticsRead : Prop :=
  ∀ (t : Nat) (m : Msg) (s : State),
    let a := taken t m s
    (admitted t rowLogRead unitFree m s = true →
      let recs := logChunk a m.context
      exec (.logRead t m) s = .next (done m 0 0 (u32 (max m.context (oldestRecord a.log)) ++ u16 recs.length ++ [0, 0]
        ++ (recs.map (·.2)).flatMap recordBytes) a)
      ∧ recs.length ≤ 89 ∧ (∀ e ∈ recs, m.context ≤ e.1 ∧ ∃ r ∈ a.log.recs, r.event = e.2)
      ∧ (∀ k < recs.length, (recs.map (·.1)).getD k 0 = max m.context (oldestRecord a.log) + k))
    ∧ (admitted t rowEventFilter unitFree m s = true →
      exec (.eventFilter t m) s = .next (done m 0 0 [] (updSession m.session (fun x =>
        { x with filter := BitVec.ofNat 384 (le m.payload 0 48) }) a)))
    ∧ (admitted t rowFaultMapRead unitFree m s = true → 1 ≤ le m.payload 0 2 → le m.payload 0 2 ≤ 1436 → le m.payload 2 2 = 0 →
      (m.context + le m.payload 0 2 ≤ 327680 →
        exec (.faultMapRead t m) s = .next (done m 0 0
          ((List.range (le m.payload 0 2)).map fun k => codeByte a.rake.map (m.context + k)) a))
      ∧ (327680 < m.context + le m.payload 0 2 → exec (.faultMapRead t m) s = .next (done m eRange 0xFFFF [] a)))
    ∧ (admitted t rowScalerCoeff unitFree m s = true →
      (m.context % 4 ≠ 3 → m.context / 8 ≠ 3 →
        exec (.scalerCoeffRead t m) s = .next (done m 0 0 ((List.range 64).flatMap fun ph =>
          (List.range (coeffTaps m.context)).flatMap fun k => s16 (coef (m.context % 4) (coeffTaps m.context) ph k)) a))
      ∧ (m.context % 4 = 3 ∨ m.context / 8 = 3 → exec (.scalerCoeffRead t m) s = .next (done m eRange 0xFFFF [] a)))

/-! ### The Chest and the SETTLE beam -/

/-- CHEST_STAGE and SETTLE_STAGE complete by writing their bytes into the staging image and nothing else; a write beyond its end is E_RANGE,
one while an activation (a latch update) runs E_BUSY. CHEST_ACTIVATE of a staged image that passes its checks completes by starting an
activation, with a job of CVU3 and without a reply, and CHEST_REF_COMPLETE completes it: the reply carries the reference and the effective
frame; without a schedule the image is then in force, else it waits for that frame, and the image in force stays. Another job of CVU3 in
between saves the one in progress between two bytes and restores it, and it goes on as it was. -/
def Obligations.ChestUploads : Prop :=
  (∀ (t : Nat) (m : Msg) (s : State),
     let a := taken t m s
     (admitted t rowChestStage unitFree m s = true →
       (2568 < m.context + m.length → exec (.chestStage t m) s = .next (done m eRange 0xFFFF [] a))
       ∧ (m.context + m.length ≤ 2568 → chestBusy m a = true → exec (.chestStage t m) s = .next (done m eBusy 0 [] a))
       ∧ (m.context + m.length ≤ 2568 → chestBusy m a = false → exec (.chestStage t m) s = .next (done m 0 0 [] { a with
           comp := { a.comp with chestStage := memWriteList 0 a.comp.chestStage m.context m.payload } })))
     ∧ (admitted t rowSettleStage unitFree m s = true →
       (327680 < m.context + m.length → exec (.settleStage t m) s = .next (done m eRange 0xFFFF [] a))
       ∧ (m.context + m.length ≤ 327680 → latchBusyNow a.arr = true → exec (.settleStage t m) s = .next (done m eBusy 0 [] a))
       ∧ (m.context + m.length ≤ 327680 → latchBusyNow a.arr = false → exec (.settleStage t m) s = .next (done m 0 0 [] { a with
           comp := { a.comp with settleStage := memWriteList 0 a.comp.settleStage m.context m.payload } })))
     ∧ (admitted t rowChestActivate unitFree m s = true →
       (∀ st d, firstFail (chestChecks m a) = some (st, d) → exec (.chestActivate t m) s = .next (done m st d [] a))
       ∧ (firstFail (chestChecks m a) = none →
         let x : Activation := { image := stagedChest (memReadList 0 a.comp.chestStage 0 2568), effectTsc := le m.payload 0 8, msg := m }
         exec (.chestActivate t m) s = .next (serveUnknown (cvuStart 3 false { a with comp := { a.comp with activation := some x } })))))
  ∧ (∀ (t : Nat) (s : State) (x : Activation),
     let a := advance t s
     let ref := formChestRef x.image a
     a.comp.activation = some x → mpRuns a = true → x.msg.session ≠ 0 → x.msg.flags / 4 % 2 = 0 → (findSession a x.msg.session).isSome = true →
     NextIs (exec (.chestRefComplete t) s) fun u =>
       u.comp.activation = none ∧ u.comp.chestAccepted = x.image ∧ u.arr = a.arr ∧ u.mode = a.mode ∧ u.drw.table = a.drw.table
       ∧ (a.sched.running = false → u.comp.chest = x.image ∧ u.comp.chestRef = ref)
       ∧ (a.sched.running = true → u.comp.chest = a.comp.chest ∧ u.comp.chestRef = a.comp.chestRef
           ∧ u.comp.chestNext = a.comp.chestNext ++ [(x.image, ref, frameFor a x.effectTsc (tsc a) 0)])
       ∧ (∃ r, u.gate.outbox = r :: a.gate.outbox ∧ r.status = 0 ∧ r.sequence = x.msg.sequence
           ∧ (a.sched.running = true → r.data = u32 ref ++ u32 0 ++ u64 (frameFor a x.effectTsc (tsc a) 0))
           ∧ (a.sched.running = false → r.data = u32 ref ++ u32 0 ++ u64 0)))
  ∧ (∀ (value : Nat) (expected : Option Nat) (s : State), s.cvus.length = 4 → (s.cvus.getD 3 {}).running = true →
    let u := s.cvus.getD 3 {}
    let fed := unitFeed (chestFed s u) u
    let v := (cvuJob 3 value expected s).cvus.getD 3 {}
    v.running = true ∧ v.param = u.param ∧ v.reg = fed.reg ∧ v.count = fed.count ∧ v.compare = u.compare ∧ v.saved = u.saved
      ∧ v.jobs = incr32 u.jobs ∧ v.lastValue = value)

/-- SETTLE_ACTIVATE compares the CRC of the staged pattern (E_CRC, counted by CVU3), limits the total to 4.0 A (E_BUDGET), refuses during an
update (E_BUSY), and then completes by starting the latch update: the latches and levels in force stay until the update's own cycles write
them. -/
def Obligations.SettleActivation : Prop :=
  ∀ (t : Nat) (m : Msg) (s : State), admitted t rowSettleActivate unitFree m s = true →
    le m.payload 0 2 ≤ 4095 → le m.payload 2 2 ≤ 4095 → le m.payload 4 2 ≤ 4095 → le m.payload 6 2 = 0 →
    let a := taken t m s
    let crc := crc32 (patternList a.comp.settleStage)
    let b := cvuJob 3 crc (some (le m.payload 8 4)) a
    let levels := [le m.payload 0 2, le m.payload 2 2, le m.payload 4 2]
    let codes := patternCodes a.comp.settleStage
    let sum := codes.foldl (fun acc e => acc + levelOf levels e.2) 0
    (le m.payload 8 4 ≠ crc → exec (.settleActivate t m) s = .next (done m eCrc 0 [] b))
    ∧ (le m.payload 8 4 = crc → 4000000 * 4095 < 48 * sum →
        exec (.settleActivate t m) s = .next (done m eBudget (min (48 * sum / 4095 / 10000) 0xFFFE) [] b))
    ∧ (le m.payload 8 4 = crc → 48 * sum ≤ 4000000 * 4095 → latchBusyNow a.arr = true →
        exec (.settleActivate t m) s = .next (done m eBusy 0 [] b))
    ∧ (le m.payload 8 4 = crc → 48 * sum ≤ 4000000 * 4095 → latchBusyNow a.arr = false →
        exec (.settleActivate t m) s = .next (done m 0 0 (u16 (48 * sum / 4095 / 1000) ++ [0, 0]) { b with
          arr := { a.arr with pattern := codes, newLevels := levels, latchBusy := true, latchRow := 0, latchRetry := false },
          comp := { a.comp with settleAccepted := { pattern := a.comp.settleStage, levels := levels } } }))

/-! ### Safety reactions by command -/

/-- HOLD_DEMAND completes: it takes FULL to SAFE with SAFE_KIND HOLD, and the light stays as it is. RECOVER is refused with E_STATE and the
first obstacle: a FATAL bit, a Safe-Dim demand or a missing proof, a CONTAINED level source that asks for SETTLE or more; without one it
completes: recovery starts, the operating state stays SAFE, and a switch that was open closes. -/
def Obligations.HoldAndRecover : Prop :=
  ∀ (t : Nat) (m : Msg) (s : State),
    let a := taken t m s
    (admitted t rowHoldDemand unitFree m s = true →
      NextIs (exec (.holdDemand t m) s) fun u => s.mode.op = .full ∧ u.mode.op = .safe ∧ u.mode.safeKind = 1 ∧ u.arr = s.arr
        ∧ u.sched = s.sched ∧ u.cfg = s.cfg ∧ u.flt = { s.flt with alive := false })
    ∧ (admitted t rowRecover unitFree m s = true →
      (∀ n, n < 48 → isFatal n = true → hasBit a.flt.status n = true → (∀ k, k < n → isFatal k = true → hasBit a.flt.status k = false) →
        exec (.recover t m) s = .next (done m eState n [] a))
      ∧ ((∀ k, k < 48 → isFatal k = true → hasBit a.flt.status k = false) → (a.dim.demand = true ∨ a.dim.proofSeen = false) →
        exec (.recover t m) s = .next (done m eState 0x0100 [] a))
      ∧ ((∀ k, k < 48 → isFatal k = true → hasBit a.flt.status k = false) → a.dim.demand = false → a.dim.proofSeen = true →
        (∀ n, n < 48 → blocksRecovery a n = true → (∀ k, k < n → blocksRecovery a k = false) →
          exec (.recover t m) s = .next (done m eState (0x0100 + n) [] a))
        ∧ ((∀ k, k < 48 → blocksRecovery a k = false) →
          exec (.recover t m) s = .next (done m 0 0 [] (closeSwitch { a with flt := { a.flt with recovering := some (tsc a) } })))))

/-- FAULT_FORCE that sets completes by raising a source as an assertion of its own, with a DATA value that Table 15.3 gives it but the spec
leaves open; where it restarts the MP, the message is the one in hand and its answer carries DATA_LOST. FAULT_FORCE that clears completes by
ending the force. FAULT_CONFIG completes by taking the reaction of one source and of no other; a raised one applies at once, and one below
the least is E_RANGE. COMP_CONFIG_WRITE completes by taking VIEW_MIRROR and forming CHEST_REF anew. -/
def Obligations.ForceAndConfigure : Prop :=
  ∀ (t : Nat) (m : Msg) (s : State),
    let a := taken t m s
    let src := le m.payload 0 1
    let react := le m.payload 1 1
    (admitted t rowForceSet unitFree m s = true → src ≤ 47 → le m.payload 1 1 = 1 → le m.payload 2 2 = 0 →
      ∃ d, (dataRange src).1 ≤ d ∧ d < (dataRange src).1 + (dataRange src).2
        ∧ (let b := answered m 0 0 [] (assertSource src d true a)
          (b.mp.restarting = none → exec (.faultForceSet t m) s = .next (serveUnknown b))
          ∧ (b.mp.restarting ≠ none → exec (.faultForceSet t m) s = .next (dataLost b)))
        ∧ (src ≠ 1 → exec (.faultForceSet t m) s = .next (done m 0 0 [] (assertSource src d true a))))
    ∧ (admitted t rowForceClear unitFree m s = true → src ≤ 47 → le m.payload 2 2 = 0 →
      exec (.faultForceClear t m) s = .next (done m 0 0 [] (endForce src a)) ∧ hasBit (endForce src a).flt.force src = false)
    ∧ (admitted t rowFaultConfig unitFree m s = true → src ≤ 47 → react ≤ 6 → le m.payload 2 2 = 0 →
      (react < leastReactions.getD src 0 → exec (.faultConfig t m) s = .next (done m eRange 1 [] a))
      ∧ (leastReactions.getD src 0 ≤ react → react ≤ configured a src →
        exec (.faultConfig t m) s = .next (done m 0 0 [] { a with cfg := { a.cfg with faults := a.cfg.faults.set src react } }))
      ∧ (leastReactions.getD src 0 ≤ react →
        NextIs (exec (.faultConfig t m) s) fun u => u.cfg = { a.cfg with faults := a.cfg.faults.set src react }))
    ∧ (admitted t rowCompConfig unitFree m s = true → a.sched.running = false → le m.payload 0 1 ≤ 3 → le m.payload 1 1 = 0 → le m.payload 2 2 = 0 →
      NextIs (exec (.compConfigWrite t m) s) fun u =>
        u.cfg = { a.cfg with comp := { mirrorX := decide (le m.payload 0 1 % 2 = 1), mirrorY := decide (le m.payload 0 1 / 2 % 2 = 1) } }
          ∧ u.comp = { a.comp with chestRef := formChestRef a.comp.chest { a with cfg := u.cfg } } ∧ u.arr = a.arr ∧ u.mode = a.mode)

/-! ### Calibration -/

/-- CAL_RUN in IDLE completes: it holds the converters WARM and the run starts; a second one is E_BUSY. CAL_RUN_OUTCOME completes: a pass
starts when every reference is ready and no window reserves the converters; it ends after its time with its readings, and a quantity with
more than 64 replaced samples ends the run with CAL_REJECTED 5. A run whose two passes disagree applies nothing and records CAL_REJECTED 1
(converters) or 2 (currents); one that is applied writes its fields, stamps SOURCE run with MODIFIED, and records CAL_APPLIED. -/
def Obligations.CalibrationRun : Prop :=
  ∀ (t : Nat) (s : State),
    (∀ m : Msg, admitted t rowCalRun unitFree m s = true →
      let a := taken t m s
      (isRunning a 0x0701 = true → exec (.calRun t m) s = .next (done m eBusy 0 [] a))
      ∧ (isRunning a 0x0701 = false → exec (.calRun t m) s = .next (done m 0 0 [] { a with
          conv := { a.conv with aWarm := true, bWarm := hasConvB a, timedAt := tsc a, passes := [], passFrom := none },
          mp := { a.mp with long := a.mp.long ++ [{ opcode := m.opcode, arrival := m.arrival }] } })))
    ∧ (let a := advance t s
      let rejected := fun (cause : Nat) (b : State) => record 0x145 2 cause
        (record 0x147 0x0112 0x0701 { b with mp := { b.mp with long := b.mp.long.filter fun l => l.opcode ≠ 0x0701 } })
      isRunning a 0x0701 = true →
      (a.conv.passFrom = none → a.conv.passes.length < 2 → reserved a = false → convReady a .a = true → convReady a .b = true →
        exec (.calRunOutcome t .passStart) s = .next { a with conv := { a.conv with passFrom := some (tsc a), timedAt := tsc a } })
      ∧ (∀ (t0 : Nat) (p : CalPass), a.conv.passFrom = some t0 → t0 + 12000000 ≤ tsc a → passOk a p = true →
        let rs := passReadings a p
        let c := countFlags (rs.map (·.taint)).sum (rs.map (·.ovr)).sum (rs.map (·.unr)).sum a.conv
        let b := { a with conv := { c with passes := a.conv.passes ++ [p], passFrom := none, timedAt := tsc a } }
        ((∀ r ∈ rs, r.replaced ≤ 64) → (a.conv.passes ≠ [] ∨ (refPresent p.refA = true ∧ refPresent p.refB = true)) →
          exec (.calRunOutcome t (.passEnd p)) s = .next b)
        ∧ ((∃ r ∈ rs, 64 < r.replaced) → exec (.calRunOutcome t (.passEnd p)) s = .next (rejected 5 b))
        ∧ ((∀ r ∈ rs, r.replaced ≤ 64) → a.conv.passes = [] → refPresent p.refA = false →
          exec (.calRunOutcome t (.passEnd p)) s = .next (rejected 3 b)))
      ∧ (∀ p q : CalPass, a.conv.passes = [p, q] →
        (convAgree a p q = false → exec (.calRunOutcome t .outcome) s = .next (rejected 1 a))
        ∧ (convAgree a p q = true → currentsAgree p q = false → exec (.calRunOutcome t .outcome) s = .next (rejected 2 a))
        ∧ (convAgree a p q = true → currentsAgree p q = true →
          (∀ e ∈ runFields a p q, e.2.2.1 ≤ e.2.1 ∧ e.2.1 ≤ e.2.2.2) →
          NextIs (exec (.calRunOutcome t .outcome) s) fun u =>
            isRunning u 0x0701 = false ∧ u.flash = a.flash ∧ u.conv.cal.tcurves = a.conv.cal.tcurves
              ∧ u.conv.cal.uniformity = a.conv.cal.uniformity ∧ calU u.conv.cal 2 1 = 3 ∧ calU u.conv.cal 3 1 = 3
              ∧ calU u.conv.cal 4 4 = (calU a.conv.cal 4 4 + 1) % 4294967296)))

/-- The calibration rows complete. CAL_READ answers working-set bytes and changes nothing. CAL_WRITE that passes its field checks writes
exactly its bytes and marks the working set MODIFIED; AGEING_CURVE_WRITE writes its 128 bytes the same way. CORR_CHUNK whose CRC agrees
writes its entries into the uniformity map. TCURVE_WRITE stages entries, and with APPLY takes a staged table that rises into force. While a
calibration run or store is in progress CAL_WRITE, CORR_CHUNK and AGEING_CURVE_WRITE are E_BUSY. -/
def Obligations.CalibrationData : Prop :=
  ∀ (t : Nat) (m : Msg) (s : State),
    let a := taken t m s
    let idle := isRunning a 0x0701 = false ∧ isRunning a 0x0704 = false
    (admitted t rowCalRead unitFree m s = true → 1 ≤ le m.payload 0 2 → le m.payload 0 2 ≤ 1436 → le m.payload 2 2 = 0 →
      m.context + le m.payload 0 2 ≤ 512 →
      exec (.calRead t m) s = .next (done m 0 0 (memReadList 0 a.conv.cal.working m.context (le m.payload 0 2)) a))
    ∧ (admitted t rowCalWrite unitFree m s = true → m.context + m.length ≤ 512 → firstFail (calWriteChecks m a) = none →
      let c := markModified (setCal m.context m.payload a.conv.cal)
      (idle → exec (.calWrite t m) s = .next (done m 0 0 [] (setCalData c a)) ∧ (setCalData c a).conv.cal = c)
      ∧ (¬ idle → exec (.calWrite t m) s = .next (done m eBusy 0 [] a)))
    ∧ (admitted t rowAgeingCurve unitFree m s = true → firstFail (ageingChecks m.payload) = none →
      (idle → exec (.ageingCurveWrite t m) s = .next (done m 0 0 [] { a with
        conv := { a.conv with cal := markModified (setCal 80 m.payload a.conv.cal) } }))
      ∧ (¬ idle → exec (.ageingCurveWrite t m) s = .next (done m eBusy 0 [] a)))
    ∧ (admitted t rowCorrChunk unitFree m s = true → m.context % 2 = 0 → m.length % 2 = 0 → m.context + (m.length - 4) ≤ 2621440 →
      let crc := crc32 (m.payload.drop 4)
      let b := cvuJob 3 crc (some (le m.payload 0 4)) a
      (crc ≠ le m.payload 0 4 → exec (.corrChunk t m) s = .next (done m eCrc 0 [] b))
      ∧ (crc = le m.payload 0 4 → ¬ idle → exec (.corrChunk t m) s = .next (done m eBusy 0 [] b))
      ∧ (crc = le m.payload 0 4 → idle →
        exec (.corrChunk t m) s = .next (done m 0 0 [] (writeUniformity (m.context / 2)
          ((List.range ((m.length - 4) / 2)).map fun k => le m.payload (4 + 2 * k) 2) b))))
    ∧ (admitted t rowTcurveWrite unitFree m s = true → firstFail (tcurveChecks m a) = none →
      exec (.tcurveWrite t m) s = .next (done m 0 0 [] (stageCurve m a)) ∧ (stageCurve m a).conv.cal = a.conv.cal)
    ∧ (admitted t rowTcurveApply unitFree m s = true → firstFail (tcurveChecks m a) = none →
      let b := stageCurve m a
      let table := b.conv.tstage.getD (le m.payload 0 1) []
      (badEntry table = none → exec (.tcurveApply t m) s = .next (done m 0 0 []
        { b with conv := { b.conv with cal := { b.conv.cal with tcurves := b.conv.cal.tcurves.set (le m.payload 0 1) table } } }))
      ∧ (∀ k, badEntry table = some k → exec (.tcurveApply t m) s = .next (done m eRange (0x8000 + k) [] b)))

/-- A transfer curve that is taken into force rises: its first entry is 0, its last 16,383, and no entry lies below the one before. -/
def Obligations.AppliedCurveRises : Prop :=
  ∀ t : Mem Nat, badEntry t = none →
    tcurveEntry t 0 = 0 ∧ tcurveEntry t 1023 = 16383 ∧ (∀ i j, i ≤ j → j ≤ 1023 → tcurveEntry t i ≤ tcurveEntry t j)

/-! ### Power, sync, sessions, lifecycle -/

/-- IDLE_REQUEST in FULL completes: it starts the ramp of T_RAMP and leaves the state FULL; one that runs stays as it is. WAKE_TO_LIGHT in IDLE
completes: it answers the first frame and its swap, and a frame schedule runs. STANDBY_REQUEST counts and answers the first refuser; with
none it completes, and the module enters STANDBY: no light, no session, no schedule, the fuses and the flash as they are, the wake sources,
timer and banks to retain as requested, the settings kept when their bank is retained and else at their defaults, and the log empty when its
bank is not. -/
def Obligations.PowerRequests : Prop :=
  ∀ (t : Nat) (m : Msg) (s : State),
    let a := taken t m s
    (admitted t rowIdle unitFree m s = true →
      (a.dim.idleRamp ≠ none → exec (.idleRequest t m) s = .next (done m 0 0 [] a))
      ∧ (a.dim.idleRamp = none → exec (.idleRequest t m) s = .next (done m 0 0 [] { a with
          dim := { a.dim with idleRamp := some (tsc a, tsc a + 100000 * a.cfg.sdim.tRamp, rampStart a) } })))
    ∧ (admitted t rowWake unitFree m s = true →
      let b := enterFull (interruptRun a)
      exec (.wakeToLight t m) s = .next (done m 0 0 (u64 b.sched.first ++ u64 (swapOf b.sched b.sched.first).toNat) b)
      ∧ b.sched.running = true ∧ (b.mode.op = .full ∨ b.mode.op = .safe))
    ∧ (∀ e : EntryWatch, admitted t rowStandby unitFree m s = true → firstFail (standbyChecks m) = none →
      (∀ id, refuser m a = some id → exec (.standbyRequest t m e) s = .next (done m eBusy id [] (refuse id a)))
      ∧ (refuser m a = none → NextIs (exec (.standbyRequest t m e) s) fun u =>
          u.mode.op = .standby ∧ u.arr.drvEn = false ∧ u.gate.sessions = [] ∧ u.sched.running = false ∧ u.flash = a.flash ∧ u.fuse = a.fuse
          ∧ u.pwr.wakeSel = wakeSources (le m.payload 2 1) ∧ u.pwr.timer = le m.payload 4 4 ∧ u.pwr.retain = le m.payload 0 2
          ∧ (le m.payload 0 2 / 16 % 2 = 1 → u.cfg = a.cfg) ∧ (le m.payload 0 2 / 16 % 2 = 0 → u.cfg = {})
          ∧ (le m.payload 0 2 / 2 % 2 = 0 → u.log = {})))

/-- SYNC_CONFIG_WRITE outside a schedule completes: it takes CHAIN_LEN and ROLE; a module that is head or is forced to be one becomes the head
with depth 0, and any other keeps its chain state. SYNC_ENUMERATE makes the head begin a new epoch and answers it; a module that is not the
head, or runs a schedule, answers E_STATE. -/
def Obligations.SyncRequests : Prop :=
  ∀ (t : Nat) (m : Msg) (s : State),
    let a := taken t m s
    (admitted t rowSyncConfig unitFree m s = true → a.sched.running = false → 1 ≤ le m.payload 0 2 → le m.payload 0 2 ≤ 512 →
      le m.payload 2 1 ≤ 1 → le m.payload 3 1 = 0 →
      let b := { a with cfg := { a.cfg with sync := { chainLen := le m.payload 0 2, role := le m.payload 2 1 } } }
      (le m.payload 2 1 = 1 ∨ a.sync.role = .head → NextIs (exec (.syncConfigWrite t m) s) fun u =>
        u.cfg = b.cfg ∧ u.sync.role = .head ∧ u.sync.depth = 0 ∧ u.sync.epoch = (a.sync.epoch + 1) % 32 ∧ u.sync.len = le m.payload 0 2
          ∧ u.sync.loss = false ∧ u.sched.running = false ∧ u.drw.table = a.drw.table)
      ∧ (le m.payload 2 1 = 0 → a.sync.role ≠ .head → exec (.syncConfigWrite t m) s = .next (done m 0 0 [] b)))
    ∧ (admitted t rowSyncEnumerate unitFree m s = true →
      (a.sync.role = .head → a.sched.running = false →
        exec (.syncEnumerate t m) s = .next (done m 0 0 (u8 (becomeHead a).sync.epoch ++ [0, 0, 0]) (becomeHead a))
        ∧ (becomeHead a).sync.epoch = (a.sync.epoch + 1) % 32)
      ∧ (a.sync.role ≠ .head ∨ a.sched.running = true → exec (.syncEnumerate t m) s = .next (done m eState 0 [] a)))

/-- SESSION_OPEN that passes its checks completes: it opens a session with a new number, keys derived from both nonces, and no message accepted
yet, beside those open. Eight open sessions are E_CAPACITY. SESSION_CLOSE completes: it answers, and the session is gone with its pending
changes, while the others stay. A session that has had no message for SESSION_IDLE is lost and counted; one that has is left alone. -/
def Obligations.SessionsOpenAndClose : Prop :=
  (∀ (t : Nat) (m : Msg) (nonce : List Byte) (s : State) (k : List Byte),
    let a := taken t m s
    let id := nextSessionId a
    nonce.length = 16 → mpRuns (ready t s) = true → nextToServe (ready t s) = some m → m.opcode = 0x0A01 → m.session = 0 →
    (openChecks m a = none → domainKey a (openDomain m) = some k →
      let u := openSession m k nonce a
      exec (.sessionOpen t m nonce) s = .next (serveUnknown u)
        ∧ ∃ x, u.gate.sessions = a.gate.sessions ++ [x] ∧ x.id = id ∧ x.domain = domainOf (openDomain m) ∧ x.ep = m.ep
          ∧ x.kHm = kdf k labelH2m (u64 a.fuse.serial ++ u16 id ++ (m.payload.drop 4).take 16 ++ nonce)
          ∧ x.kMh = kdf k labelM2h (u64 a.fuse.serial ++ u16 id ++ (m.payload.drop 4).take 16 ++ nonce)
          ∧ x.freshHigh = 0 ∧ x.freshNorm = 0 ∧ x.freshBulk = 0 ∧ x.high = [] ∧ x.norm = [] ∧ x.bulk = []
          ∧ u.upd.opens = incr32 a.upd.opens)
    ∧ (isAny a.mode.op = true → plainShape 20 m = true → m.flags < 8 → m.reserved = 0 → le m.payload 1 3 = 0 →
      (openDomain m = 3 → m.ep.viaCan = true) → (a.mode.op = .loader → openDomain m = 0 ∨ openDomain m = 3) → 8 ≤ a.gate.sessions.length →
      exec (.sessionOpen t m nonce) s = .next (serveUnknown (noteServed m eCapacity none a (replyUntagged m eCapacity 0 a)))))
  ∧ (∀ (t : Nat) (m : Msg) (s : State) (x : Session), admitted t rowSessionClose unitFree m s = true →
    let a := taken t m s
    findSession a m.session = some x → m.session ≠ 0 → m.freshness ≠ 0xFFFFFFFF → x.freshOut < 0xFFFFFFFE →
    let u := loseSession m.session (record 0x147 0x0002 m.session (answered m 0 0 [] a))
    exec (.sessionClose t m) s = .next (serveUnknown u)
      ∧ findSession u m.session = none ∧ (∀ i, i ≠ m.session → findSession u i = findSession a i)
      ∧ (∀ n p, (slotAt u n).pend = some p → p.session ≠ m.session))
  ∧ (∀ (t id : Nat) (s : State) (x : Session), findSession (advance t s) id = some x →
    (x.lastArrival + 100000000 * s.cfg.mailbox.sessionIdle < tsc (advance t s) →
      NextIs (exec (.sessionIdleLost t id) s) fun u =>
        findSession u id = none ∧ u.gate.lost = incr32 s.gate.lost ∧ (∀ i, i ≠ id → findSession u i = findSession s i))
    ∧ (tsc (advance t s) ≤ x.lastArrival + 100000000 * s.cfg.mailbox.sessionIdle → exec (.sessionIdleLost t id) s = .next (advance t s)))

/-- LIFECYCLE_ADVANCE completes by moving to the next lifecycle state alone, from which to FIELD the debug fuse is blown too; one that names
another state is E_STATE. ZEROISE, and the advance to SCRAPPED, complete: they clear the four domain keys and the two public keys, blow the
zeroise fuses, end in SCRAPPED, and lose every session; the light and the operating state stay as they are. -/
def Obligations.LifecycleAndZeroise : Prop :=
  ∀ (t : Nat) (m : Msg) (s : State),
    let a := taken t m s
    let serial := a.fuse.serial % 4294967296
    let cleared := { a.fuse with
      lifecycle := 3, zeroised := true, keys := List.replicate 4 (List.replicate 16 0), imgPub := List.replicate 2 (List.replicate 64 0) }
    (admitted t rowLifecycle unitFree m s = true → le m.payload 1 3 = 0 → le m.payload 4 4 = serial →
      1 ≤ le m.payload 0 1 → le m.payload 0 1 ≤ 3 →
      (le m.payload 0 1 ≠ a.fuse.lifecycle + 1 → exec (.lifecycleAdvance t m) s = .next (done m eState 0 [] a))
      ∧ (le m.payload 0 1 = a.fuse.lifecycle + 1 → le m.payload 0 1 = 1 → keysPresent a = true →
        NextIs (exec (.lifecycleAdvance t m) s) fun u => u.mode = a.mode ∧ u.arr = a.arr ∧ u.fuse = { a.fuse with lifecycle := 1 })
      ∧ (le m.payload 0 1 = a.fuse.lifecycle + 1 → le m.payload 0 1 = 2 →
        NextIs (exec (.lifecycleAdvance t m) s) fun u =>
          u.mode = a.mode ∧ u.arr = a.arr ∧ u.fuse = { a.fuse with lifecycle := 2, debugBlown := true })
      ∧ (le m.payload 0 1 = a.fuse.lifecycle + 1 → le m.payload 0 1 = 3 →
        NextIs (exec (.lifecycleAdvance t m) s) fun u =>
          u.mode = a.mode ∧ u.arr = a.arr ∧ u.gate.sessions = [] ∧ u.fuse = { cleared with debugBlown := true }))
    ∧ (admitted t rowZeroise unitFree m s = true →
      (le m.payload 0 4 = serial → NextIs (exec (.zeroise t m) s) fun u =>
        u.mode = a.mode ∧ u.arr = a.arr ∧ u.gate.sessions = [] ∧ u.fuse = cleared)
      ∧ (le m.payload 0 4 ≠ serial → exec (.zeroise t m) s = .next (done m eRange 0 [] a)))

/-! ### Update -/

/-- The update rows complete. UPDATE_INTENT records INTENT and leads to BOOT. UPDATE_VERIFY starts; its outcome is the status of the check, and
OK writes VERIFIED with the digest, where a record is open and flash work is allowed; while it is forbidden that outcome waits.
UPDATE_ACTIVATE needs VERIFIED, records ACTIVATED, and leads to BOOT. UPDATE_CONFIRM of an unconfirmed image records CONFIRMED and raises
the anti-rollback count; it never lowers it. UPDATE_BLOCK answers the next offset; outside INTENT, RECEIVING and VERIFIED it is E_STATE; at
an offset that is neither the expected one nor the start of the block in progress E_RANGE. A message whose bytes stay inside the block in
progress is buffered: the image in flash and the record stay. -/
def Obligations.UpdateGroup : Prop :=
  (∀ (t : Nat) (s : State),
     (∀ (m : Msg) (boot : BootInputs), admitted t rowIntent unitFree m s = true →
       1 ≤ le m.payload 0 4 → le m.payload 0 4 ≤ 10485760 → le m.payload 4 4 = 0 →
       (s.mode.unconfirmed = true → exec (.updateIntent t m boot) s = .next (done m eState 0 [] (taken t m s)))
       ∧ (s.mode.unconfirmed = false → s.pwr.flashAllowed = true → NextIs (exec (.updateIntent t m boot) s) fun u =>
           u.mode.op = .boot ∧ u.flash.control.stage = 1 ∧ u.flash.control.imageBytes = le m.payload 0 4 ∧ u.fuse = s.fuse))
     ∧ (∀ m : Msg, admitted t rowVerify unitFree m s = true → isRunning s 0x0B03 = false →
       (s.flash.control.stage = 2 → s.flash.control.nextOffset = s.flash.control.imageBytes) →
       exec (.updateVerify t m) s = .next (done m 0 0 [] (startLong m (taken t m s))))
     ∧ (∀ v : ImageVerdict, isRunning s 0x0B03 = true →
       let st := verifyStatus v (advance t s)
       (st ≠ 0 → NextIs (exec (.updateVerifyOutcome t v) s) fun u =>
         isRunning u 0x0B03 = false ∧ u.fuse = s.fuse ∧ u.flash = s.flash ∧ u.upd.lastResult = st ∧ u.upd.verifiedOk = false)
       ∧ (st = 0 → s.flash.control.stage = 0 → NextIs (exec (.updateVerifyOutcome t v) s) fun u =>
         isRunning u 0x0B03 = false ∧ u.fuse = s.fuse ∧ u.flash = s.flash ∧ u.upd.lastResult = 0 ∧ u.upd.verifiedOk = false)
       ∧ (st = 0 → s.flash.control.stage ≠ 0 → s.pwr.flashAllowed = true → NextIs (exec (.updateVerifyOutcome t v) s) fun u =>
         isRunning u 0x0B03 = false ∧ u.fuse = s.fuse ∧ u.flash.image = s.flash.image ∧ u.upd.verifiedOk = true ∧ u.upd.lastResult = 0
           ∧ u.flash.control.stage = 3 ∧ u.flash.control.digest = v.digest)
       ∧ (st = 0 → s.flash.control.stage ≠ 0 → s.pwr.flashAllowed = false →
         exec (.updateVerifyOutcome t v) s = .next (advance t s)))
     ∧ (∀ (m : Msg) (boot : BootInputs), admitted t rowActivate unitFree m s = true →
       (¬ (s.upd.verifiedOk = true ∧ s.flash.control.stage = 3) → exec (.updateActivate t m boot) s = .next (done m eState 0 [] (taken t m s)))
       ∧ (s.upd.verifiedOk = true → s.flash.control.stage = 3 → s.pwr.flashAllowed = true →
         NextIs (exec (.updateActivate t m boot) s) fun u =>
           u.mode.op = .boot ∧ u.flash.control.stage = 4 ∧ u.flash.control.boots = 0 ∧ u.flash.image = s.flash.image ∧ u.fuse = s.fuse))
     ∧ (∀ m : Msg, admitted t rowConfirm unitFree m s = true →
       (s.mode.unconfirmed = false → exec (.updateConfirm t m) s = .next (done m eState 0 [] (taken t m s)))
       ∧ (s.mode.unconfirmed = true → s.pwr.flashAllowed = true → NextIs (exec (.updateConfirm t m) s) fun u =>
           u.mode = { s.mode with unconfirmed := false } ∧ u.flash.control.stage = 0 ∧ u.flash.image = s.flash.image
           ∧ u.fuse = { s.fuse with rollback := u.fuse.rollback }
           ∧ (s.fuse.lifecycle = 1 ∨ s.fuse.lifecycle = 2 → u.fuse.rollback = min 64 (max s.fuse.rollback (imgRollback s)))
           ∧ (s.fuse.lifecycle ≠ 1 → s.fuse.lifecycle ≠ 2 → u.fuse.rollback = s.fuse.rollback))))
  ∧ (∀ (t : Nat) (m : Msg) (s : State), admitted t rowBlock unitFree m s = true →
     let a := taken t m s
     let c := a.flash.control
     (c.stage = 0 ∨ 3 < c.stage → exec (.updateBlock t m) s = .next (done m eState 0 [] a))
     ∧ (1 ≤ c.stage → c.stage ≤ 3 → m.context ≠ a.upd.expected → m.context ≠ blockStart a →
         exec (.updateBlock t m) s = .next (done m eRange 0xFFFF [] a))
     ∧ (firstFail (blockChecks m a) = none → m.payload.length = m.length →
         exec (.updateBlock t m) s = .next (done m 0 0 (u32 (writeBytes m.context m.payload a).upd.expected) (writeBytes m.context m.payload a)))
     ∧ (1 ≤ c.stage → c.stage ≤ 3 → a.pwr.flashAllowed = true → m.payload.length = m.length → m.context + m.length ≤ c.imageBytes →
       ∀ start buf, a.upd.block = some (start, buf) → m.context = a.upd.expected → start < m.context →
         m.context + m.length < min (start + 65536) c.imageBytes →
         exec (.updateBlock t m) s = .next (done m 0 0 (u32 (m.context + m.length)) { a with
           upd := { a.upd with block := some (start, memWriteList 0 buf m.context m.payload), expected := m.context + m.length } })))

/-! ### Supply, start and wake -/

/-- The supply watch completes. VIN below V_BO starts the brownout timer of a module with power; a second fall changes nothing. A recovery at or
before the deadline ends it with a blind window of 10,000 tk for FS44, a later one changes nothing, and the window ends at its instant. FS34
and FS35 follow the crossings of their thresholds with VIN in 10 mV, outside the tolerances whatever the thresholds are. A change of
HOLD_READY is recorded once. The next last-gasp slot is erased when it is wanted and allowed. -/
def Obligations.SupplyWatch : Prop :=
  ∀ (t : Nat) (s : State),
    let a := advance t s
    (s.mode.op ≠ .off → s.pwr.belowFrom = none →
      exec (.vinBelowVbo t) s = .next { a with pwr := { a.pwr with belowFrom := some (tsc a), blindUntil := none } })
    ∧ (s.pwr.belowFrom ≠ none → exec (.vinBelowVbo t) s = .next a)
    ∧ (∀ t0, s.pwr.belowFrom = some t0 →
        (tsc a ≤ t0 + 2000 →
          exec (.vinAboveVbo t) s = .next { a with pwr := { a.pwr with belowFrom := none, blindUntil := some (tsc a + 10000) } })
        ∧ (t0 + 2000 < tsc a → exec (.vinAboveVbo t) s = .next a))
    ∧ (∀ e, s.pwr.blindUntil = some e →
        (e ≤ tsc a → exec (.vledBlindWindowEnd t) s = .next { a with pwr := { a.pwr with blindUntil := none } })
        ∧ (tsc a < e → exec (.vledBlindWindowEnd t) s = .next a))
    ∧ (s.mode.op ≠ .off → ∀ mV : Nat,
        (crossesLow true mV = true → exec (.vinLow t true mV) s = .next (assertSource 34 (mV / 10) false a))
        ∧ (crossesLow false mV = true → exec (.vinLow t false mV) s = .next (endSource 34 a))
        ∧ (crossesHigh true mV = true → exec (.vinHigh t true mV) s = .next (assertSource 35 (mV / 10) false a))
        ∧ (crossesHigh false mV = true → exec (.vinHigh t false mV) s = .next (endSource 35 a))
        ∧ (mV ≤ 5800 → crossesLow true mV = true) ∧ (6000 < mV → exec (.vinLow t true mV) s = .next a)
        ∧ (6400 ≤ mV → crossesLow false mV = true) ∧ (mV < 6200 → exec (.vinLow t false mV) s = .next a)
        ∧ (36800 ≤ mV → crossesHigh true mV = true) ∧ (mV < 36000 → exec (.vinHigh t true mV) s = .next a)
        ∧ (mV ≤ 35200 → crossesHigh false mV = true) ∧ (35800 < mV → exec (.vinHigh t false mV) s = .next a))
    ∧ (s.mode.op ≠ .off →
        (s.pwr.holdReady = false → exec (.holdReady t true) s = .next
          (record 0x144 7 1 { a with pwr := { a.pwr with holdReady := true, holdWatched := true } }))
        ∧ (s.pwr.holdReady = true → exec (.holdReady t false) s = .next (record 0x144 7 0 { a with pwr := { a.pwr with holdReady := false } }))
        ∧ exec (.holdReady t s.pwr.holdReady) s = .next a)
    ∧ (isFw s.mode.op = true → s.mp.restarting = none → s.pwr.flashAllowed = true → s.pwr.slotWanted = true →
        exec (.lastgaspSlotErase t) s = .next { a with
          flash := { a.flash with lastgasp := a.flash.lastgasp.set (nextLgSlot a.flash.lastgasp) .erased },
          pwr := { a.pwr with slotWanted := false } })

/-- A brownout that outlasts its deadline completes by taking a running module to BROWNOUT_SAVE: no light, the switch open, no schedule, no
session, no long operation, and FS36 seen; the save begins when HOLD_READY, the interlock and the slot allow it; without a fall of VIN the
command changes nothing. LASTGASP_SAVE_COMPLETE completes: with VIN seen above V_START the module starts afresh, else it is OFF; fuses and
flash keep everything but the slot that the save writes. Beyond the tolerance of V_START its value decides. -/
def Obligations.BrownoutSavesAndEnds : Prop :=
  (∀ (t t0 : Nat) (s : State), isFw s.mode.op = true → s.flt.running = true → isShadowed s 36 0 = false → s.pwr.belowFrom = some t0 →
    t0 + 2000 < tsc (advance t s) →
    NextIs (exec (.brownout t) s) fun u =>
      u.mode.op = .brownoutSave ∧ u.arr.drvEn = false ∧ u.arr.switchOpen = true ∧ u.sched.running = false ∧ u.gate.sessions = []
      ∧ u.mp.long = [] ∧ u.fuse = s.fuse ∧ hasBit u.flt.seen 36 = true
      ∧ (u.pwr.saving.isSome = true ↔ s.pwr.holdReady = true ∧ s.pwr.flashAllowed = true
          ∧ s.flash.lastgasp.getD (nextLgSlot s.flash.lastgasp) .invalid = .erased))
  ∧ (∀ (t : Nat) (s : State), s.pwr.belowFrom = none → exec (.brownout t) s = .next (advance t s))
  ∧ (∀ (t vin : Nat) (above : Bool) (boot : BootInputs) (s : State), s.mode.op = .brownoutSave → trainingOk boot.training = true →
    let written := fun (u : State) =>
      u.flash = { s.flash with lastgasp := u.flash.lastgasp } ∧ (s.pwr.saving = none → u.flash = s.flash)
      ∧ (∀ t0 before, s.pwr.saving = some (t0, before) →
          u.flash.lastgasp = s.flash.lastgasp.set (nextLgSlot s.flash.lastgasp) (saveRecord t0 before (advance t s)))
    (seenAbove above vin = true → NextIs (exec (.lastgaspSaveComplete t above vin boot) s) fun u =>
        u.mode.op = .boot ∧ u.fuse = s.fuse ∧ u.gate.sessions = [] ∧ written u)
    ∧ (seenAbove above vin = false → NextIs (exec (.lastgaspSaveComplete t above vin boot) s) fun u =>
        u.mode.op = .off ∧ u.fuse = s.fuse ∧ u.arr.drvEn = false ∧ written u)
    ∧ (6000 < vin → seenAbove above vin = true) ∧ (vin ≤ 5800 → seenAbove above vin = false))

/-- The starts and loads complete. VIN_RISE from OFF above V_START, and the wake from STANDBY by a selected source that is active or by one
latched in the entry, lead to BOOT with the fuses as they are and no session; in any other state they change nothing. In BOOT, while a lane
has no eye, the training is repeated once 1 s has passed, and while the loader fails its check that is; before, they change nothing.
Calibration is loaded once, and the map is restored once. -/
def Obligations.StartsAndLoads : Prop :=
  (∀ (vin : Nat) (boot : BootInputs) (s : State), trainingOk boot.training = true →
    (s.mode.op = .off → aboveStart vin = true → NextIs (exec (.vinRise vin boot) s) fun u =>
      u.mode.op = .boot ∧ u.fuse = s.fuse ∧ u.gate.sessions = [] ∧ u.sched.running = false ∧ u.flt.running = true)
    ∧ (s.mode.op ≠ .off → exec (.vinRise vin boot) s = .next s)
    ∧ (aboveStart vin = false → exec (.vinRise vin boot) s = .next s)
    ∧ (6000 < vin → aboveStart vin = true) ∧ (vin ≤ 5800 → aboveStart vin = false))
  ∧ (∀ (e : WakeEvent) (lost : BitVec 5) (seconds vin : Nat) (boot : BootInputs) (s : State), trainingOk boot.training = true →
    (s.mode.op = .standby →
      (s.pwr.wakeAtEntry.isSome = true ∨ (s.pwr.wakeSel.contains e.src = true ∧ sourceActive e.src e.pins seconds s = true)) →
      NextIs (exec (.wakeSource e lost seconds vin boot) s) fun u =>
        u.mode.op = .boot ∧ u.fuse = s.fuse ∧ u.gate.sessions = [] ∧ u.pwr.standbyS = seconds)
    ∧ (s.mode.op = .standby → s.pwr.wakeAtEntry = none →
      (s.pwr.wakeSel.contains e.src = false ∨ sourceActive e.src e.pins seconds s = false) →
      exec (.wakeSource e lost seconds vin boot) s = .next s)
    ∧ (s.mode.op ≠ .standby → exec (.wakeSource e lost seconds vin boot) s = .next s))
  ∧ (∀ (t t0 : Nat) (ok : Bool) (ws : List (List LaneSweep)) (s : State), s.mode.op = .boot →
    (trainingOk ws = true → s.dram.trainFailed = some t0 →
      (t0 + 100000000 ≤ tsc (advance t s) → exec (.trainingRetry t ws) s = .next (trainDram ws (advance t s)))
      ∧ (tsc (advance t s) < t0 + 100000000 → exec (.trainingRetry t ws) s = .next (advance t s)))
    ∧ (s.upd.loaderWait = some t0 →
      (t0 + 100000000 ≤ tsc (advance t s) → exec (.loaderCheckRetry t ok) s = .next (checkLoader ok (advance t s)))
      ∧ (tsc (advance t s) < t0 + 100000000 → exec (.loaderCheckRetry t ok) s = .next (advance t s))))
  ∧ (∀ (t : Nat) (s : State), isFw s.mode.op = true →
    (s.conv.loaded = false → s.mp.restarting = none → NextIs (exec (.calLoadComplete t) s) fun u =>
      u.conv.loaded = true ∧ u.conv.cal = (calSourceOf (advance t s)).2.1)
    ∧ (s.conv.loaded = true → exec (.calLoadComplete t) s = .next (advance t s))
    ∧ (s.rake.restored = false → exec (.mapRestoreComplete t) s = .next (restoreMap (advance t s))
        ∧ (restoreMap (advance t s)).rake.restored = true)
    ∧ (s.rake.restored = true → exec (.mapRestoreComplete t) s = .next (advance t s)))

/-- The image check of BOOT completes. With an update in progress, after three boots of an unconfirmed image, or with an image that is not
valid, the module goes to LOADER with the cause; else the firmware starts (PROOF_PENDING, or SAFE under a DARK or CUTOFF still in force),
and an unconfirmed image counts this boot. After a wake the check changes nothing before its offset. -/
def Obligations.ImageCheckDecides : Prop :=
  ∀ (t : Nat) (v : ImageVerdict) (draws : List Nat) (s : State), s.mode.op = .boot → s.dram.trainFailed = none → s.upd.loaderWait = none →
    let a := advance t s
    let c := s.flash.control
    let valid := imageValid a v = true ∧ v.digest = c.digest
    let started := fun (u : State) =>
      (s.flt.reaction < 5 ∨ s.flt.heldByReaction = false → u.mode.op = .proofPending)
        ∧ (5 ≤ s.flt.reaction → s.flt.heldByReaction = true → u.mode.op = .safe) ∧ u.upd.fwVersion = imgVersion a
    (s.pwr.wakeReport ≠ 0 → tsc a < 28800000 → exec (.imageCheckComplete t v draws) s = .next a)
    ∧ (s.pwr.wakeReport = 0 ∨ 28800000 ≤ tsc a →
      (1 ≤ c.stage → c.stage ≤ 3 → NextIs (exec (.imageCheckComplete t v draws) s) fun u => u.mode.op = .loader ∧ u.upd.loaderCause = 1)
      ∧ (c.stage = 4 → 3 ≤ c.boots → NextIs (exec (.imageCheckComplete t v draws) s) fun u => u.mode.op = .loader ∧ u.upd.loaderCause = 2)
      ∧ ((c.stage = 0 ∨ 4 < c.stage ∨ (c.stage = 4 ∧ c.boots < 3)) → ¬ valid →
          NextIs (exec (.imageCheckComplete t v draws) s) fun u => u.mode.op = .loader ∧ u.upd.loaderCause = 0 ∧ u.flash = s.flash)
      ∧ ((c.stage = 0 ∨ 4 < c.stage) → valid → NextIs (exec (.imageCheckComplete t v draws) s) fun u =>
          started u ∧ u.mode.unconfirmed = s.mode.unconfirmed ∧ u.flash.control = c)
      ∧ (c.stage = 4 → c.boots < 3 → valid → NextIs (exec (.imageCheckComplete t v draws) s) fun u =>
          started u ∧ u.mode.unconfirmed = true ∧ u.flash.control.boots = c.boots + 1 ∧ u.flash.control.stage = 4))

/-! ### Faults -/

/-- An assertion of a watched source that reaches the running collector and is not shadowed sets its bits of FLT_STATUS and FLT_SEEN and counts
up to 65,535, and its DATA is kept; one of a source that is not CORRECTED is the first when none was. A shadowed one sets FLT_SHADOWED and
FLT_SEEN and carries out no reaction. A level source that is asserted already, and any
source before the collector runs, makes no new assertion: only the condition of a level source and its DATA are kept. FS37 with DATA 3
before the HOLD rail has been ready does nothing. FS29 and FS32 are followed by the thermal step and the throttle. -/
def Obligations.AssertionsAreLatched : Prop :=
  (∀ (t src data : Nat) (s : State), src < 48 →
    let a := advance t s
    let d := data % 65536
    let kept := { a with flt := { a.flt with cond := withBit a.flt.cond src, datas := a.flt.datas.set src data } }
    (unwatched a src data = true → exec (.faultAssert t src data) s = .next a)
    ∧ (unwatched a src data = false →
      (s.flt.running = true → (isLevel src = true → hasBit s.flt.cond src = false ∧ hasBit s.flt.force src = false) →
        (isShadowed a src d = true →
          NextIs (exec (.faultAssert t src data) s) fun u =>
            u.mode = a.mode ∧ u.arr = a.arr ∧ hasBit u.flt.seen src = true ∧ hasBit u.flt.shadowed src = true ∧ u.flt.first = a.flt.first
            ∧ u.flt.reaction = a.flt.reaction)
        ∧ (isShadowed a src d = true → isLevel src = false →
          NextIs (exec (.faultAssert t src data) s) fun u => u.sched = a.sched ∧ u.flt.status = a.flt.status)
        ∧ (isShadowed a src d = false →
          NextIs (exec (.faultAssert t src data) s) fun u =>
            hasBit u.flt.status src = true ∧ hasBit u.flt.seen src = true
            ∧ (s.flt.counts.length = 48 → u.flt.counts.getD src 0 = min 65535 (s.flt.counts.getD src 0 + 1))
            ∧ (s.flt.datas.length = 48 → u.flt.datas.getD src 0 = d)
            ∧ (isCorrected src = false → s.flt.first = none → u.flt.first = some (src, tsc a))
            ∧ u.cfg.faults = s.cfg.faults))
      ∧ (s.flt.running = true → isLevel src = true → (hasBit s.flt.cond src = true ∨ hasBit s.flt.force src = true) →
          exec (.faultAssert t src data) s = .next (heatEdges a kept))
      ∧ (s.flt.running = false → isLevel src = true → exec (.faultAssert t src data) s = .next (heatEdges a kept))
      ∧ (s.flt.running = false → isLevel src = false → exec (.faultAssert t src data) s = .next a)))
  ∧ (∀ a b : State,
      (hasBit b.flt.cond 29 = hasBit a.flt.cond 29 → hasBit b.flt.cond 32 = hasBit a.flt.cond 32 → heatEdges a b = b)
      ∧ (hasBit a.flt.cond 29 = false → hasBit b.flt.cond 29 = true →
          (heatEdges a b).gov.stepFrom = tsc b ∧ (heatEdges a b).gov.step = max 1 b.gov.step)
      ∧ (hasBit a.flt.cond 32 = false → hasBit b.flt.cond 32 = true → (heatEdges a b).pwr.cpuHalf = true))

/-- FAULT_LEVEL_END ends the condition of a level source; its FLT_STATUS bit clears unless it is FATAL or a force holds it. A source without a
condition has none to end. SHADOW_END ends the shadow of an action that is over, and of no other. REARM, when due, clears FIRST, FLT_SEEN,
FLT_SHADOWED and the status bits of pulse sources that are not FATAL, and keeps those of the others and the counts; a CUTOFF that a reaction
holds in IDLE is released then. -/
def Obligations.LevelsShadowsRearm : Prop :=
  ∀ (t : Nat) (s : State),
    let a := advance t s
    (∀ src, src < 48 → isLevel src = true → hasBit s.flt.cond src = true → s.flt.running = true →
      (hasBit s.flt.force src = false → NextIs (exec (.faultLevelEnd t src) s) fun u =>
        hasBit u.flt.cond src = false ∧ (isFatal src = false → hasBit u.flt.status src = false)
        ∧ (isFatal src = true → hasBit u.flt.status src = hasBit s.flt.status src))
      ∧ (hasBit s.flt.force src = true → NextIs (exec (.faultLevelEnd t src) s) fun u =>
        hasBit u.flt.cond src = false ∧ u.flt.status = s.flt.status))
    ∧ (∀ src, src < 48 → (isLevel src = false ∨ hasBit s.flt.cond src = false) → exec (.faultLevelEnd t src) s = .next a)
    ∧ (∀ x : Action,
      (s.flt.shadows.contains x = true → shadowOver x a = true → exec (.shadowEnd t x) s = .next (endShadow x a)
        ∧ (x ≠ .cutoff → (endShadow x a).flt.shadows.contains x = false))
      ∧ (s.flt.shadows.contains x = false → exec (.shadowEnd t x) s = .next a)
      ∧ (shadowOver x a = false → exec (.shadowEnd t x) s = .next a))
    ∧ (rearmDue a = true → NextIs (exec (.rearm t) s) fun u =>
        u.flt.first = none ∧ u.flt.overflow = false ∧ u.flt.seen = 0 ∧ u.flt.shadowed = 0 ∧ u.flt.counts = s.flt.counts
        ∧ (∀ n, n < 48 → isLevel n = false → isFatal n = false → hasBit u.flt.status n = false)
        ∧ (∀ n, n < 48 → (isLevel n = true ∨ isFatal n = true) → hasBit u.flt.status n = hasBit s.flt.status n)
        ∧ (s.mode.op = .idle → s.flt.heldByReaction = true → anyReaction u 6 = false → s.dim.heldByDemand = false → u.arr.switchOpen = false))
    ∧ (rearmDue a = false → exec (.rearm t) s = .next a)

/-- An assertion of FS14 while the light is the SETTLE beam of SAFE ends in CUTOFF, whatever its configured reaction. -/
def Obligations.GovernorFaultCutsSettle : Prop :=
  (∀ (data : Nat) (s : State), s.mode.op = .safe → s.mode.safeKind = 2 → carriedOut s 14 data = 6)
  ∧ (∀ (t data : Nat) (s : State), s.mode.op = .safe → s.mode.safeKind = 2 → s.flt.running = true →
      isShadowed (advance t s) 14 (data % 65536) = false →
      NextIs (exec (.faultAssert t 14 data) s) fun u =>
        u.mode.op = .safe ∧ u.mode.safeKind = 4 ∧ u.arr.drvEn = false ∧ u.arr.switchOpen = true ∧ 6 ≤ u.flt.reaction)

/-- The detectors assert their source, with its DATA, when their condition holds, and otherwise only the clock moves: clock monitor (FS40),
link-down deadline (FS25, FS26), TSC jump (FS43), host silence (FS46), droop timer (FS22), DRAM and Pan SRAM scrubbers (FS05, FS06; FS03,
FS04), sync loss (FS23). VLED out of its band asserts FS44 once it has been so for more than 2,000 tk below or 10,000 tk above, and back in
the band ends it; a switch that has differed from its command for more than 500 tk asserts FS18 once. The Safe-Dim and power-stage detectors:
a disagreement past T_DISC asserts FS16 with the channel that is released, a proof that is not seen in its window FS17 with the stage
reached; a mean above the ramp's envelope FS15, once a window; two windows in a row above 1.05 B_high + 50 mA FS14. -/
def Obligations.DetectorsAssert : Prop :=
  (∀ (t : Nat) (s : State),
     let a := advance t s
     (∀ c, c < 8 → exec (.clockMon t c) s = .next (assertSource 40 c false a))
     ∧ (∀ t0, s.link.aDown = some t0 →
         (t0 + 10000 < tsc a → exec (.linkDownTimeout t .a) s = .next (assertSource 25 0 false a))
         ∧ (tsc a ≤ t0 + 10000 → exec (.linkDownTimeout t .a) s = .next a))
     ∧ (s.link.aDown = none → exec (.linkDownTimeout t .a) s = .next a)
     ∧ (s.fuse.variant ≠ .e → ∀ t0, s.link.bDown = some t0 →
         (t0 + 10000 < tsc a → exec (.linkDownTimeout t .b) s = .next (assertSource 26 0 false a))
         ∧ (tsc a ≤ t0 + 10000 → exec (.linkDownTimeout t .b) s = .next a))
     ∧ (∀ t0, s.time.highFrom = some t0 →
         (s.sched.running = true → t0 + 100000000 < tsc a → exec (.tscJump t) s = .next (assertSource 43 0 false a))
         ∧ (s.sched.running = false ∨ tsc a ≤ t0 + 100000000 → exec (.tscJump t) s = .next a))
     ∧ (s.time.highFrom = none → exec (.tscJump t) s = .next a)
     ∧ (s.sched.running = true → s.link.silenceFrom + 100000 * s.cfg.link.hostTimeout < tsc a →
         exec (.hostSilent t) s = .next (assertSource 46 0 false a))
     ∧ (s.sched.running = false ∨ tsc a ≤ s.link.silenceFrom + 100000 * s.cfg.link.hostTimeout → exec (.hostSilent t) s = .next a)
     ∧ (∀ t0, s.arr.droopFrom = some t0 →
         (t0 + 2000000 < tsc a → bankLit s = true →
           exec (.droopTimer t) s = .next (assertSource 22 0 false { a with arr := { a.arr with droopFrom := none } }))
         ∧ (tsc a ≤ t0 + 2000000 ∨ bankLit s = false → exec (.droopTimer t) s = .next a))
     ∧ (s.arr.droopFrom = none → exec (.droopTimer t) s = .next a)
     ∧ (clockRuns s = true → ∀ ch owner, ch < 2 → owner < 256 →
         exec (.dramScrub t ch owner .clean) s = .next a ∧ exec (.dramScrub t ch owner .corrected) s = .next (assertSource 5 ch false a)
         ∧ exec (.dramScrub t ch owner .uncorrectable) s = .next (assertSource 6 (owner + 256 * ch) false a))
     ∧ (clockRuns s = true → ∀ bank, bank < 16 →
         exec (.panSramScrub t bank .clean) s = .next a ∧ exec (.panSramScrub t bank .corrected) s = .next (assertSource 3 bank false a)
         ∧ exec (.panSramScrub t bank .uncorrectable) s = .next (assertSource 4 bank false a))
     ∧ (arrayUp s = true → drives s = false → s.sync.carrier = true → s.sync.loss = false → s.sync.lastSym + 30 < tsc a →
         lossSuspended a = false →
         exec (.syncLoss t) s = .next (assertSource 23 0 false
           { a with sync := { a.sync with loss := true, carrier := false, validRun := 0 } }))
     ∧ (drives s = true ∨ s.sync.carrier = false ∨ s.sync.loss = true ∨ tsc a ≤ s.sync.lastSym + 30 ∨ lossSuspended a = true →
         exec (.syncLoss t) s = .next a)
     ∧ (∀ isOpen : Bool,
         (isOpen = s.arr.switchOpen →
           exec (.switchReadback t isOpen) s = .next { a with dim := { a.dim with differs := none, differsNoted := false } })
         ∧ (isOpen ≠ s.arr.switchOpen → s.dim.differsNoted = true ∨ tsc a ≤ s.dim.differs.getD (tsc a) + 500 →
           exec (.switchReadback t isOpen) s = .next { a with dim := { a.dim with differs := some (s.dim.differs.getD (tsc a)) } })
         ∧ (∀ t0, isOpen ≠ s.arr.switchOpen → s.dim.differs = some t0 → s.dim.differsNoted = false → t0 + 500 < tsc a →
           exec (.switchReadback t isOpen) s
             = .next (assertSource 18 2 false { a with dim := { a.dim with differs := some t0, differsNoted := true } }))))
  ∧ (∀ (t : Nat) (s : State), arrayUp s = true → s.flt.running = true →
     let a := advance t s
     (∀ mv, vledTooLow mv a = false → vledTooHigh mv a = false →
         exec (.vledRegulation t mv) s = .next (endSource 44 { a with arr := { a.arr with vledLow := none, vledHigh := none } }))
     ∧ (∀ mv, vledTooLow mv a = true →
         let t0 := s.arr.vledLow.getD (tsc a)
         let b := { a with arr := { a.arr with vledLow := some t0, vledHigh := none } }
         (t0 + 2000 < tsc a → exec (.vledRegulation t mv) s = .next (assertSource 44 0 false b))
         ∧ (tsc a ≤ t0 + 2000 → exec (.vledRegulation t mv) s = .next b))
     ∧ (∀ mv, vledTooHigh mv a = true →
         let t0 := s.arr.vledHigh.getD (tsc a)
         let b := { a with arr := { a.arr with vledLow := none, vledHigh := some t0 } }
         (t0 + 10000 < tsc a → exec (.vledRegulation t mv) s = .next (assertSource 44 1 false b))
         ∧ (tsc a ≤ t0 + 10000 → exec (.vledRegulation t mv) s = .next b))
     ∧ (∀ ta, s.dim.disagree = some ta →
         (hasBit s.flt.cond 16 = false → ta + 100000 * s.dim.tDisc + 100000 ≤ tsc a →
           exec (.sdimDiscrepancy t) s = .next (assertSource 16 (if s.dim.a then 0 else 1) false
             { a with dim := { a.dim with discrepancies := incr32 a.dim.discrepancies } }))
         ∧ (hasBit s.flt.cond 16 = true ∨ tsc a < ta + 100000 * s.dim.tDisc + 100000 → exec (.sdimDiscrepancy t) s = .next a))
     ∧ (s.dim.disagree = none → exec (.sdimDiscrepancy t) s = .next a)
     ∧ (proofDue a = true → exec (.proofMissing t) s = .next (assertSource 17 (proofStage a) false { a with dim := { a.dim with proofLate := true } }))
     ∧ (proofDue a = false → exec (.proofMissing t) s = .next a)
     ∧ (∀ mean, 100000 ≤ tsc a → s.dim.idleRamp = none → rampChecked s = true → s.dim.rampWindow ≠ some (tsc a / 100000 - 1) →
         let tw := tsc a / 100000 * 100000 - 100000
         let above := overRamp a tw mean s.dim.t0 s.dim.tEnd s.dim.i0 s.dim.iEnd
         (above = true → NextIs (exec (.rampEnvelope t mean) s) fun u =>
           u.dim.state ≠ .ramp ∧ u.dim.rampTripped = true ∧ hasBit u.flt.seen 15 = true
           ∧ (s.flt.datas.length = 48 → u.flt.datas.getD 15 0 = min (mean / 10000) 65535))
         ∧ (above = false → exec (.rampEnvelope t mean) s = .next { a with dim := { a.dim with rampWindow := some (tw / 100000) } }))
     ∧ (∀ mean, 100000 ≤ tsc a → s.dim.rampWindow = some (tsc a / 100000 - 1) → exec (.rampEnvelope t mean) s = .next a)
     ∧ (∀ mean, 100000 ≤ tsc a →
         let k := tsc a / 100000 - 1
         let limit := highBudget a k
         (s.gov.windowsDone = k → 21 * limit + 1000000 < 20 * s.dim.lastMean → 21 * limit + 1000000 < 20 * mean →
           exec (.governorEnvelope t mean) s = .next (assertSource 14 (min (mean / 10000) 65535) false (rollWindow k mean a)))
         ∧ (s.gov.windowsDone = k → (20 * s.dim.lastMean ≤ 21 * limit + 1000000 ∨ 20 * mean ≤ 21 * limit + 1000000) →
           exec (.governorEnvelope t mean) s = .next (rollWindow k mean a))
         ∧ (s.gov.windowsDone < k → exec (.governorEnvelope t mean) s = .next (rollWindow k mean a))
         ∧ (k < s.gov.windowsDone → exec (.governorEnvelope t mean) s = .next a)))

/-! ### The MP and the gate -/

/-- The watchdog and the MP restart. A service is noted while the MP runs; 5,000,000 tk without one assert FS01 with DATA 0. An ended restart
of at most 15,000,000 tk serves messages again; a longer one asserts FS01 with DATA 1. A window of the MP load, 1,000,000 tk long, gives
MP_LOAD as the larger of the two measures; a load from 80 % is recorded once until it falls below 70 %. The gate's windows: an E_AUTH window
that has ended starts a new count and ends the mute. Event messages are sent while the MP delivers them: a due one takes the waiting records;
at a new window a loss alone is reported. -/
def Obligations.MpWatchdogAndLoad : Prop :=
  (∀ (t : Nat) (s : State),
     let a := advance t s
     (mpRuns s = true → exec (.mpWatchdogService t) s = .next { a with mp := { a.mp with serviced := tsc a } })
     ∧ (mpRuns s = true → ∀ inHand : Bool,
         (s.mp.serviced + 5000000 < tsc a → inHand = false ∨ isShadowed a 1 0 = true →
           exec (.mpWatchdogExpiry t inHand) s = .next (assertSource 1 0 false a))
         ∧ (s.mp.serviced + 5000000 < tsc a → inHand = true → isShadowed a 1 0 = false →
           exec (.mpWatchdogExpiry t inHand) s = .next (assertSource 1 0 false (dataLost a)))
         ∧ (tsc a ≤ s.mp.serviced + 5000000 → exec (.mpWatchdogExpiry t inHand) s = .next a))
     ∧ (∀ t0, s.mp.restarting = some t0 →
         (tsc a ≤ t0 + 15000000 → exec (.mpRestartEnd t) s
             = .next { a with mp := { a.mp with restarting := none, second := false, endedAt := tsc a, serviced := tsc a } }
           ∧ exec (.mpRestartOverrun t) s = .next a)
         ∧ (t0 + 15000000 < tsc a → exec (.mpRestartEnd t) s = .next a ∧ exec (.mpRestartOverrun t) s = .next (assertSource 1 1 false a)))
     ∧ (s.mp.restarting = none → exec (.mpRestartEnd t) s = .next a ∧ exec (.mpRestartOverrun t) s = .next a)
     ∧ (mpRuns s = true → ∀ w : LoadWindow, w.busy ≤ 100 →
         let load := max w.busy (queueShare w.need a)
         let b := { a with mp := { a.mp with load := load, loadAt := tsc a } }
         (s.mp.loadAt + 1000000 ≤ tsc a →
           (80 ≤ load → s.mp.loadHigh = false →
             exec (.mpLoadWindow t w) s = .next (record 0x147 5 load { b with mp := { b.mp with loadHigh := true } }))
           ∧ (load < 70 → s.mp.loadHigh = true →
             exec (.mpLoadWindow t w) s = .next (record 0x147 6 load { b with mp := { b.mp with loadHigh := false } }))
           ∧ (load < 80 → s.mp.loadHigh = false → exec (.mpLoadWindow t w) s = .next b)
           ∧ (70 ≤ load → s.mp.loadHigh = true → exec (.mpLoadWindow t w) s = .next b))
         ∧ (tsc a < s.mp.loadAt + 1000000 → exec (.mpLoadWindow t w) s = .next a)))
  ∧ (∀ (t : Nat) (s : State),
     let a := advance t s
     (s.gate.authWindow < tsc a / 100000000 → NextIs (exec (.authWindowEnd t) s) fun u =>
        u.gate.authCount = 0 ∧ u.gate.muted = false ∧ u.gate.authWindow = tsc a / 100000000
        ∧ (s.gate.authCount ≤ s.cfg.mailbox.authBurst → hasBit u.flt.cond 41 = false))
     ∧ (tsc a / 100000000 ≤ s.gate.authWindow → exec (.authWindowEnd t) s = .next a)
     ∧ (delivers s = true → ∀ id x, findSession a id = some x → eventDue (tsc a) (waitingRecords a x) = true →
         exec (.eventMessage t id) s = .next (deliverEvents (countGone a (rollEvents (tsc a) x)) (waitingRecords a x) a))
     ∧ (delivers s = true → ∀ id x, findSession a id = some x → eventDue (tsc a) (waitingRecords a x) = false →
         exec (.eventMessage t id) s = .next a)
     ∧ (∀ id, findSession a id = none → exec (.eventMessage t id) s = .next a)
     ∧ (delivers s = true → exec (.eventWindowEnd t) s = .next ((a.gate.sessions.map (·.id)).foldl windowEvent a))
     ∧ (delivers s = false → exec (.eventWindowEnd t) s = .next a))

/-- The first checks of the gate, in order, on a message that the module receives: shorter than header and tag is counted alone, a version
other than 1 is E_VERSION, a LENGTH that does not fit is E_LENGTH, a tag that does not verify under the session's key, or a session that
is not open or not the endpoint's, is rejected as E_AUTH. A message that passes everything, whatever its opcode, is accepted, which notes its
FRESHNESS and counts it, and enters its queue. After each of them messages of unknown opcodes that come first are answered. -/
def Obligations.GateChecksInOrder : Prop :=
  ∀ (t : Nat) (ep : Endpoint) (raw : List Byte) (s : State),
    let a := advance t s
    let m := parseMsg ep (tsc a) raw
    receives a ep = true →
    (raw.length < 32 → exec (.psiferMessage t ep raw) s = .next (serveUnknown { a with gate := { a.gate with runts := incr32 a.gate.runts } }))
    ∧ (32 ≤ raw.length → m.version ≠ 1 → exec (.psiferMessage t ep raw) s = .next
        (serveUnknown (replyUntagged m eVersion 0 { a with gate := { a.gate with verRejects := incr32 a.gate.verRejects } })))
    ∧ (32 ≤ raw.length → m.version = 1 → (1440 < m.length ∨ m.length ≠ raw.length - 32) → exec (.psiferMessage t ep raw) s = .next
        (serveUnknown
          (replyUntagged m eLength (min (raw.length - 32) 0xFFFE) { a with gate := { a.gate with lenRejects := incr32 a.gate.lenRejects } })))
    ∧ (32 ≤ raw.length → m.version = 1 → m.length ≤ 1440 → m.length = raw.length - 32 → m.session ≠ 0 →
      (findSession a m.session = none → exec (.psiferMessage t ep raw) s = .next (serveUnknown (rejectAuth m a)))
      ∧ (∀ x, findSession a m.session = some x →
        ((x.ep ≠ ep ∨ tagOf x.kHm (raw.take (raw.length - 8)) ≠ raw.drop (raw.length - 8)) →
          exec (.psiferMessage t ep raw) s = .next (serveUnknown (rejectAuth m a)))
        ∧ (x.ep = ep → tagOf x.kHm (raw.take (raw.length - 8)) = raw.drop (raw.length - 8) →
          m.flags % 4 ≠ 3 → lastFresh x (m.flags % 4) < m.freshness → (m.opcode / 256 = 0x0B → ep.viaCan = true) →
          a.mp.restarting = none → (queueOf x (m.flags % 4)).length < queueDepth (m.flags % 4) →
          let u := updSession m.session (enqueue m) (acceptMsg m a)
          exec (.psiferMessage t ep raw) s = .next (serveUnknown u)
          ∧ (∃ y, findSession u m.session = some y ∧ queueOf y (m.flags % 4) = queueOf x (m.flags % 4) ++ [m]
              ∧ lastFresh y (m.flags % 4) = m.freshness ∧ y.accepted = incr32 x.accepted ∧ y.lastArrival = tsc a)
          ∧ u.link.lastHost = tsc a ∧ u.gate.outbox = a.gate.outbox)))

/-! ### Time -/

/-- A TSC step in BOOT, LOADER, PROOF_PENDING or IDLE moves the TSC by the measured offset, is numbered, and is recorded before and after; in
other states none happens. gPTP on a port with link: a peer-delay request is answered there, and a response gives the delay of the link. A
port with link sends a request once a second. An Announce is taken for its port and the best master selected; without one for three intervals
it is forgotten. A Sync that does not come for three intervals loses the lock, with FS27 when there was one. -/
def Obligations.TimeBaseFollows : Prop :=
  ∀ (t : Nat) (s : State),
    let a := advance t s
    (s.mode.op = .boot ∨ s.mode.op = .loader ∨ s.mode.op = .proofPending ∨ s.mode.op = .idle → s.mp.restarting = none →
      ∀ offset : Int, 0 ≤ (a.time.acc : Int) + offset * 4294967296 →
      NextIs (exec (.tscStep t offset) s) fun u =>
        (u.time.acc : Int) = (a.time.acc : Int) + offset * 4294967296 ∧ u.time.step = a.time.step % 65535 + 1
        ∧ u.log.written = a.log.written + 2 ∧ u.cfg = a.cfg ∧ u.mode = a.mode)
    ∧ (s.mode.op = .full ∨ s.mode.op = .safe ∨ s.mode.op = .brownoutSave → ∀ offset : Int, exec (.tscStep t offset) s = .next a)
    ∧ (clockRuns s = true → ∀ p : Port, linkUpOn s p = true →
        exec (.gptpMessage t p .pdelayReq) s = .next { a with
          time := { a.time with gptpOut := some { port := p, kind := 1, correction := 0, rate := 0, hops := 0 } }, link := joinQueue (tsc a) 3 140 p a.link }
        ∧ (∀ delay rate, NextIs (exec (.gptpMessage t p (.pdelayResp delay rate)) s) fun u =>
            propOf u.time p = some (delay, rate) ∧ u.link = s.link ∧ u.arr = s.arr)
        ∧ ((pdelayOf s.time p).elim true (fun x => decide (x + 100000000 ≤ tsc a)) = true → NextIs (exec (.pdelayRequest t p) s) fun u =>
            pdelayOf u.time p = some (tsc a) ∧ u.time.gptpOut = some { port := p, kind := 0, correction := 0, rate := 0, hops := 0 }
            ∧ u.link = joinQueue (tsc a) 3 72 p a.link)
        ∧ (∀ x, pdelayOf s.time p = some x → tsc a < x + 100000000 → exec (.pdelayRequest t p) s = .next a)
        ∧ (∀ (k : Int) (ident : List Nat) (hops source : Nat), hops < 255 → NextIs (exec (.gptpMessage t p (.announce 0 k ident hops source)) s) fun u =>
            announceOf u.time p = some { identity := ident, hops := hops, source := source, arrived := tsc a, interval := gptpInterval k }))
    ∧ (∀ p x, announceOf s.time p = some x →
        (x.arrived + 3 * x.interval < tsc a → servoRuns s = true →
          exec (.announceReceiptTimeout t p) s = .next (selectMaster { a with time := setAnnounce p none a.time }))
        ∧ (x.arrived + 3 * x.interval < tsc a → servoRuns s = false →
          exec (.announceReceiptTimeout t p) s = .next { a with time := setAnnounce p none a.time })
        ∧ (tsc a ≤ x.arrived + 3 * x.interval → exec (.announceReceiptTimeout t p) s = .next a))
    ∧ (∀ x, s.time.syncAt = some x →
        (x.1 + 3 * x.2 < tsc a → s.time.gptp = 2 → exec (.syncReceiptTimeout t) s
          = .next (assertSource 27 0 false { a with time := { a.time with good := 0, syncAt := none, gptp := 3 } }))
        ∧ (x.1 + 3 * x.2 < tsc a → s.time.gptp ≠ 2 → exec (.syncReceiptTimeout t) s
          = .next { a with time := { a.time with good := 0, syncAt := none } })
        ∧ (tsc a ≤ x.1 + 3 * x.2 → exec (.syncReceiptTimeout t) s = .next a))
    ∧ (s.time.syncAt = none → exec (.syncReceiptTimeout t) s = .next a)

/-! ### Frames -/

/-- The frame boundary, while a schedule runs. The content cut-off of the next frame is taken once, at or after its instant, and latches the
shade objects handed over by then. The composition start, at or after its own instant and with no change of timing pending, takes the
cut-off first where it is missing, composes the next frame from the working copies of that instant, and moves on by one; while the compositor
reinitialises, the frame is withheld. Before its instant, or without a schedule, neither happens. -/
def Obligations.FrameBoundary : Prop :=
  ∀ (t : Nat) (s : State),
    let a := advance t s
    let m := s.sched.nextComp
    (s.sched.running = true → (s.mode.op = .full ∨ s.mode.op = .safe) → s.sched.cutDone ≠ some m → cutoffAt s.sched m ≤ tsc a →
      NextIs (exec (.contentCutoff t) s) fun u => u.sched.cutDone = some m ∧ u.sched.lastCut = cutoffAt s.sched m ∧ u.sched.nextComp = m
        ∧ (∀ n, n < 256 → s.drw.slots.length = 256 → (slotAt u n).latched = (latchObjects (cutoffAt s.sched m) (slotAt s n)).latched)
        ∧ u.arr.bankSel = s.arr.bankSel ∧ u.cfg = s.cfg)
    ∧ (s.sched.running = true → s.sched.cutDone = some m → exec (.contentCutoff t) s = .next a)
    ∧ (s.sched.running = true → tsc a < cutoffAt s.sched m → exec (.contentCutoff t) s = .next a)
    ∧ (s.sched.running = false → exec (.contentCutoff t) s = .next a ∧ exec (.compositionStart t) s = .next a)
    ∧ (s.sched.running = true → (s.mode.op = .full ∨ s.mode.op = .safe) → s.sched.change = none → compAt s.sched m ≤ tsc a →
        NextIs (exec (.compositionStart t) s) fun u =>
          u.sched.nextComp = m + 1 ∧ u.sched.cutDone = none ∧ u.arr.bankSel = s.arr.bankSel ∧ u.cfg = s.cfg
          ∧ (∃ f, u.sched.cur = some f ∧ f.frame = m ∧ f.nextRow = 0 ∧ f.chest = u.comp.chest ∧ f.chestRef = u.comp.chestRef
              ∧ f.map = s.rake.map ∧ f.corr = s.conv.corr ∧ f.trim = s.time.trim ∧ f.swapTsc = swapAt s.sched m ∧ f.scale = none
              ∧ f.withheld = reinitialising s (compAt s.sched m)))
    ∧ (s.sched.running = true → s.sched.change = none → tsc a < compAt s.sched m → exec (.compositionStart t) s = .next a)

/-- The rows of the frame being composed. A row that is complete at its transfer is composed and leaves over the link in a packet with its CRC,
and the next row is due; an incomplete one is an underrun: FS13 with cause 3, the frame is withheld, and UNDERRUNS counts. A correction, Chest
or base fetch that is late at the late point does the same with its cause, and a late drawer above the base is switched off. The backplane
stores a row whose CRC is good, that is in order and for the inactive bank, once it is due, there and nowhere else; any other is not stored,
and FS45 is asserted. -/
def Obligations.RowsReachTheInactiveBank : Prop :=
  (∀ (t row : Nat) (s : State) (f : CompFrame),
    let a := advance t s
    s.sched.cur = some f → f.withheld = false → f.nextRow = row → row < 640 →
      (∀ d levels, transferAt s.sched f row = some d → d ≤ tsc a → levels ≠ [] → (∀ l ∈ levels, l ≤ 8) →
        (NextIs (exec (.rowTransferStart t row true levels) s) fun u =>
          u.arr = a.arr
          ∧ (∃ g codes, u.sched.cur = some g ∧ g.frame = f.frame ∧ g.nextRow = row + 1 ∧ g.sum = f.sum + codes.foldl (· + ·) 0 ∧ g.withheld = false
              ∧ u.sched.link = some (sealed { row := row, bank := targetBank s f, kind := 0, frame := f.frame % 16, codes := codes })
              ∧ codes.length = 2048))
        ∧ exec (.rowTransferStart t row false levels) s = .next (underrun row 3 a))
      ∧ (∀ d complete levels, transferAt s.sched f row = some d → tsc a < d → levels ≠ [] → (∀ l ∈ levels, l ≤ 8) →
        exec (.rowTransferStart t row complete levels) s = .next a)
      ∧ (∀ d, lateAt s.sched f row = some d → d ≤ tsc a →
        exec (.rowLatePoint t row [.correction]) s = .next (underrun row 1 a)
        ∧ exec (.rowLatePoint t row [.chest]) s = .next (underrun row 2 a)
        ∧ exec (.rowLatePoint t row []) s = .next a
        ∧ (∀ slot, slot < 256 → f.layers.any (fun x => x.slot = slot && x.buf.isSome && x.cabinet.isNone && !x.off) = true →
          ((baseSlots a).contains slot = true → exec (.rowLatePoint t row [.drawer slot]) s = .next (underrun row 0 a))
          ∧ ((baseSlots a).contains slot = false → exec (.rowLatePoint t row [.drawer slot]) s = .next (layerLate (slot, false) a))))
      ∧ (∀ d, lateAt s.sched f row = some d → tsc a < d → exec (.rowLatePoint t row []) s = .next a))
  ∧ (∀ (row cause : Nat) (a : State) (f : CompFrame), a.sched.cur = some f → f.withheld = false → (a.mode.op = .full ∨ a.mode.op = .safe) →
      (∃ g, (underrun row cause a).sched.cur = some g ∧ g.frame = f.frame ∧ g.withheld = true)
      ∧ (underrun row cause a).sched.underruns = incr32 a.sched.underruns)
  ∧ (∀ (t : Nat) (p : RowPacket) (crc : Nat) (s : State), drivePacketOk p = true → s.sched.running = true →
      let a := advance t s
      (rowGood a p crc = true ↔ crc = crc32 (packetBytes p) ∧ p.bank ≠ s.arr.bankSel ∧ inOrder s.arr p = true)
      ∧ (rowGood a p crc = true → rowDue a p true = true → NextIs (exec (.rowPacket t p crc) s) fun u =>
          u.arr.bankSel = s.arr.bankSel
          ∧ (s.arr.bankSel = .a → u.arr.bankA = s.arr.bankA ∧ u.arr.bankB = memWriteList 0 s.arr.bankB (2048 * p.row) p.codes)
          ∧ (s.arr.bankSel = .b → u.arr.bankB = s.arr.bankB ∧ u.arr.bankA = memWriteList 0 s.arr.bankA (2048 * p.row) p.codes)
          ∧ (p.row < 639 ∨ s.sched.reinitAt = none → u.arr.writeRow = p.row + 1 ∧ u.flt = s.flt ∧ u.mode = s.mode)
          ∧ (p.row = 0 → u.arr.writeFrame = p.frame ∧ u.arr.wrdone = false)
          ∧ (p.row = 639 → p.frame = s.arr.writeFrame → s.arr.writeBad = false → u.arr.wrdone = true ∧ u.arr.wrdoneAt = tsc a))
      ∧ (rowGood a p crc = false → rowDue a p false = true → exec (.rowPacket t p crc) s = .next (rejectRow p.row a)
          ∧ (rejectRow p.row a).arr.bankA = s.arr.bankA ∧ (rejectRow p.row a).arr.bankB = s.arr.bankB
          ∧ (s.flt.running = true → hasBit (rejectRow p.row a).flt.seen 45 = true))
      ∧ (rowDue a p (rowGood a p crc) = false → exec (.rowPacket t p crc) s = .next a))

/-- The checks of a frame whose 640 rows are composed, and its swap, in FULL and SAFE. The Chest and shade comparison is made once, and a
difference or a breach withholds the frame. The governor latches the frame once, when its swap is the next, and writes the reference of the
inactive bank alone. The swap is decided once at swap − 1,000 tk: executed with WRDONE in time, and without HOLD, a WITHHOLD and a stop of the
module's own. The execution instant of a SLUICE sent or received executes or passes the swap; a swap that no SLUICE came for executes as a timed
one after 100 tk, and a member whose upstream node is gone becomes the island head at the second one missed. -/
def Obligations.SwapIsDecidedOnce : Prop :=
  ∀ (t : Nat) (s : State), (s.mode.op = .full ∨ s.mode.op = .safe) →
    let a := advance t s
    let n := s.sched.nextSwap
    (∀ (f : CompFrame) (crc : Nat), s.sched.cur = some f → f.withheld = false → f.nextRow = 640 → crc < 4294967296 →
      (f.checked = true → exec (.chestCheckComplete t crc) s = .next a)
      ∧ (f.checked = false → NextIs (exec (.chestCheckComplete t crc) s) fun u =>
          u.comp.chestLast = crc ∧ (crc = f.chestRef → u.comp.chestFails = s.comp.chestFails)
          ∧ (crc ≠ f.chestRef → u.comp.chestFails = incr32 s.comp.chestFails)
          ∧ (∃ g, u.sched.cur = some g ∧ g.checked = true ∧ (crc ≠ f.chestRef ∨ f.breaches ≠ [] → g.withheld = true)))
      ∧ (f.scale = none → n = f.frame → exec (.governorLatch t) s = .next (governFrame f a)
          ∧ (governFrame f a).arr.bankSel = s.arr.bankSel ∧ bankScale (governFrame f a).arr s.arr.bankSel = bankScale s.arr s.arr.bankSel
          ∧ bankScale (governFrame f a).arr s.arr.bankSel.other = (govTerms a f).least.toNat)
      ∧ ((f.scale ≠ none ∨ n ≠ f.frame) → exec (.governorLatch t) s = .next a))
    ∧ (s.sched.running = true → s.sched.decided = none → swapOf s.sched n - 1000 ≤ tsc a →
        NextIs (exec (.wrdoneDeadline t) s) fun u => u.sched.nextSwap = n
          ∧ (u.sched.decided = some true ∨ u.sched.decided = some false)
          ∧ (u.sched.decided = some true ↔ wrdoneFor s n = true ∧ holds s n = false ∧ s.sched.withhold.contains n = false
              ∧ s.sched.ownWithheld.contains n = false))
    ∧ (s.sched.running = true → s.sched.decided = none → tsc a < swapOf s.sched n - 1000 → exec (.wrdoneDeadline t) s = .next a)
    ∧ (s.sched.running = true → s.sched.decided = some true → exec (.wrdoneDeadline t) s = .next a)
    ∧ (∀ rb : Bool, s.sched.running = true →
        ((drives s = true ∧ s.sync.sluiceSent = some n ∧ drivenAt s / 4 ≤ tsc a)
          ∨ (drives s = false ∧ ∃ x, s.sync.armed = some (n % 65536, x) ∧ x / 4 ≤ tsc a)) →
        (s.sched.decided = some true → NextIs (exec (.sluiceExecute t rb) s) fun u =>
          u.arr.bankSel = s.arr.bankSel.other ∧ u.sync.executed = incr32 s.sync.executed ∧ u.sync.lastFrame = some n ∧ n < u.sched.nextSwap
          ∧ u.sync.missed = 0 ∧ u.sync.armed = none)
        ∧ (s.sched.decided = some false → NextIs (exec (.sluiceExecute t rb) s) fun u =>
          u.arr.bankSel = s.arr.bankSel ∧ u.sync.executed = s.sync.executed ∧ u.sync.lastFrame = s.sync.lastFrame ∧ n < u.sched.nextSwap
          ∧ u.sync.missed = 0 ∧ u.sync.armed = none))
    ∧ (∀ rb : Bool, drives s = true → (s.sync.sluiceSent ≠ some n ∨ (tsc a : Int) < drivenAt s / 4) → exec (.sluiceExecute t rb) s = .next a)
    ∧ (∀ rb : Bool, drives s = false → s.sync.armed = none → exec (.sluiceExecute t rb) s = .next a)
    ∧ (∀ rb : Bool, s.sched.running = true → drives s = false → s.sync.armed = none → swapOf s.sched n + 100 < tsc a →
        (s.sched.decided = some true → NextIs (exec (.timedSwap t rb) s) fun u =>
          u.arr.bankSel = s.arr.bankSel.other ∧ u.sync.timedSwaps = incr32 s.sync.timedSwaps ∧ u.sync.executed = incr32 s.sync.executed
          ∧ u.sync.lastFrame = some n ∧ (s.sync.missed = 0 → u.sync.missed = 1)
          ∧ (s.sync.role = .member → 1 ≤ s.sync.missed → upstreamGone a = true → u.sync.role = .islandHead))
        ∧ (s.sched.decided = some false → NextIs (exec (.timedSwap t rb) s) fun u =>
          u.arr.bankSel = s.arr.bankSel ∧ u.sync.timedSwaps = s.sync.timedSwaps ∧ u.sync.executed = s.sync.executed ∧ n < u.sched.nextSwap
          ∧ (s.sync.missed = 0 → u.sync.missed = 1)))
    ∧ (∀ rb : Bool, (drives s = true ∨ s.sync.armed ≠ none ∨ (tsc a : Int) ≤ swapOf s.sched n + 100) → exec (.timedSwap t rb) s = .next a)

/-- The governor's law: the predicted current of every scale it may choose stays within the effective budget and within the power limit,
unless even scale 0 exceeds it and the scale is raised to 0; it never exceeds the host's scale or the floor, whichever is higher, nor the
Safe-Dim cap, and the effective budget is at most the profile's. No higher scale keeps them all. -/
def Obligations.GovernorStaysInBudget : Prop :=
  ∀ (s : State) (f : CompFrame),
    let g := govTerms s f
    let x := g.least.toNat
    (0 ≤ g.budget → predicted x f.sum ≤ effectiveBudget s f.profile)
    ∧ (0 ≤ g.power → predicted x f.sum ≤ 31000000000 / g.v)
    ∧ (g.budget < 0 ∨ g.power < 0 → x = 0)
    ∧ x ≤ max s.cfg.gov.hostScale f.scaleFloor ∧ (x : Int) ≤ max 0 g.cap
    ∧ effectiveBudget s f.profile ≤ 1000 * profileBudget s.cfg.gov f.profile
    ∧ (isAsserted s 34 = true → effectiveBudget s f.profile ≤ 4000000)
    ∧ (∀ y : Nat, y ≤ max s.cfg.gov.hostScale f.scaleFloor → (y : Int) ≤ g.cap → y ≤ 1023 → 0 < f.sum →
        48 * (y + 1) * f.sum ≤ effectiveBudget s f.profile * 1024 * 16383 →
        48 * (y + 1) * f.sum ≤ 31000000000 / g.v * 1024 * 16383 → y ≤ x)

/-! ### Latches, monitor, Rake -/

/-- A settle-latch packet of the next row, with a good CRC, within the 32 cycles of a vertical gap or without a schedule, writes what is read
back into its row of the latches and no other, and the update goes on to the next row and ends with row 639; a readback that differs from the
committed pattern asserts FS09, and nothing else touches the collector. A rejected packet writes nothing and asserts FS45; it is repeated
once, and then the row is left with FS09. The readback check reads the next row, once per gap or millisecond. The store of the latches keeps
its canonical form under every command that does not start or stop the module, and has it as shipped. -/
def Obligations.LatchCyclesWriteOneRow : Prop :=
  (∀ (t : Nat) (p : SealedRow) (rb : List Nat) (s : State), readbackOk rb = true → latchPacketOk p.packet = true → memWf 0 s.arr.latches = true →
    let a := advance t s
    let row := s.arr.latchRow
    let same := fun (u : State) (r : Nat) => ∀ q, memRead 0 u.arr.latches q =
      if 2048 * r ≤ q ∧ q < 2048 * r + 2048 then rb.getD (q - 2048 * r) 0 else memRead 0 s.arr.latches q
    (s.arr.latchBusy = true → (s.sched.running = true → ∃ g, latchGap a = some g ∧ (s.arr.gapFrame = g → s.arr.gapCycles < 32)) →
      (p.crc = crc32 (packetBytes p.packet) → p.packet.row = row →
        NextIs (exec (.latchRowCycle t p rb) s) fun u => same u row
          ∧ (rb = memReadList 0 s.arr.pattern (2048 * row) 2048 → u.flt = s.flt)
          ∧ (rb ≠ memReadList 0 s.arr.pattern (2048 * row) 2048 → s.flt.running = true → hasBit u.flt.seen 9 = true)
          ∧ (row ≠ 639 → u.arr.latchBusy = true ∧ u.arr.latchRow = row + 1)
          ∧ (row = 639 → u.arr.latchBusy = false ∧ u.arr.latchRow = 0)
          ∧ (row = 0 → u.arr.levels = s.arr.newLevels) ∧ (row ≠ 0 → u.arr.levels = s.arr.levels))
      ∧ ((p.crc ≠ crc32 (packetBytes p.packet) ∨ p.packet.row ≠ row) →
        NextIs (exec (.latchRowCycle t p rb) s) fun u => u.arr.latches = s.arr.latches ∧ (s.flt.running = true → hasBit u.flt.seen 45 = true)
          ∧ (s.arr.latchRetry = false → u.arr.latchRow = row ∧ u.arr.latchRetry = true ∧ u.arr.latchBusy = true)
          ∧ (s.arr.latchRetry = true → row ≠ 639 → u.arr.latchRow = row + 1 ∧ u.arr.latchRetry = false)
          ∧ (s.arr.latchRetry = true → row = 639 → u.arr.latchBusy = false)
          ∧ (s.arr.latchRetry = true → s.flt.running = true → hasBit u.flt.seen 9 = true)))
    ∧ (s.arr.latchBusy = false → exec (.latchRowCycle t p rb) s = .next a)
    ∧ (s.sched.running = true → latchGap a = none → exec (.latchRowCycle t p rb) s = .next a)
    ∧ (s.arr.latchBusy = false → arrayUp s = true →
      (s.sched.running = true → ∃ g, latchGap a = some g ∧ (s.arr.gapFrame ≠ g ∨ s.arr.gapCycles = 0)) →
      (s.sched.running = false → ∀ x, s.arr.checkedAt = some x → x / 100000 < tsc a / 100000) →
      NextIs (exec (.latchReadbackCheck t rb) s) fun u => same u s.arr.checkRow
        ∧ (rb = memReadList 0 s.arr.pattern (2048 * s.arr.checkRow) 2048 → u.flt = s.flt)
        ∧ (rb ≠ memReadList 0 s.arr.pattern (2048 * s.arr.checkRow) 2048 → s.flt.running = true → hasBit u.flt.seen 9 = true)
        ∧ u.arr.checkRow = (s.arr.checkRow + 1) % 640 ∧ u.arr.checkedAt = some (tsc a))
    ∧ (s.arr.latchBusy = true → exec (.latchReadbackCheck t rb) s = .next a)
    ∧ (∀ x, s.sched.running = false → s.arr.checkedAt = some x → tsc a / 100000 ≤ x / 100000 → exec (.latchReadbackCheck t rb) s = .next a))
  ∧ (∀ (c : Instr) (s u : State), movesPower c = false → memWf 0 s.arr.latches = true → exec c s = .next u → memWf 0 u.arr.latches = true)
  ∧ memWf 0 State.reset.arr.latches = true

/-- The monitor stream. The next packet of the oldest frame leaves once the rows it needs are composed, in order; after the last packet and
the swap instant the trailer leaves, with the CRC of the payload, and the frame is counted as sent. Where port A is down, the packet finds
its queue full, or the module has no address, the frame is skipped and counted. -/
def Obligations.MonitorStreamSends : Prop :=
  ∀ (t : Nat) (s : State) (x : MonFrame) (rest : List MonFrame), s.mon.ring = x :: rest →
    let a := advance t s
    let p := monitorPacket a x
    (x.sent < monitorPackets x.mode →
      ((rowsNeeded x.mode (x.sent / packetsPerRow x.mode) ≤ x.rows.length ∨ monitorEnded s x = true) →
        (monitorStops a x p = true → NextIs (exec (.monitorPacketSend t) s) fun u => u.mon.ring = rest ∧ u.mon.skipped = incr32 s.mon.skipped)
        ∧ (monitorStops a x p = false → NextIs (exec (.monitorPacketSend t) s) fun u =>
          u.mon.ring = { x with sent := x.sent + 1 } :: rest ∧ u.mon.out = some (monitorHeader a x, p) ∧ u.mon.skipped = s.mon.skipped))
      ∧ (x.rows.length < rowsNeeded x.mode (x.sent / packetsPerRow x.mode) → monitorEnded s x = false →
        (s.link.aState ≠ 2 → NextIs (exec (.monitorPacketSend t) s) fun u => u.mon.ring = rest ∧ u.mon.skipped = incr32 s.mon.skipped)
        ∧ (s.link.aState = 2 → exec (.monitorPacketSend t) s = .next a)))
    ∧ (monitorPackets x.mode ≤ x.sent → exec (.monitorPacketSend t) s = .next a)
    ∧ (s.sched.decided ≠ some false → monitorPackets x.mode ≤ x.sent → x.shown ≠ none ∨ s.sched.running = false →
        (∀ crc, x.crc = some crc ∨ (x.crc = none ∧ crc = crc32 (monitorPayload x)) →
          let q := brineHeader a 3 x.frame 0 0 0 ++ trailerBytes x crc
          (monitorStops a x q = true → NextIs (exec (.monitorTrailer t) s) fun u => u.mon.ring = rest ∧ u.mon.skipped = incr32 s.mon.skipped
            ∧ u.mon.sent = s.mon.sent)
          ∧ (monitorStops a x q = false → NextIs (exec (.monitorTrailer t) s) fun u =>
            u.mon.ring = rest ∧ u.mon.sent = incr32 s.mon.sent ∧ u.mon.skipped = s.mon.skipped ∧ u.mon.out = some (monitorHeader a x, q))))
    ∧ (s.sched.decided ≠ some false → x.sent < monitorPackets x.mode → exec (.monitorTrailer t) s = .next a)

/-- Rake. A due probe window starts on the next row alone; at its end, 400 tk later, the next row is due, in turn from 0 to 639, and a completed
round is counted. A due sweep window starts once per frame or cadence and leaves the row order; at its end the cursor moves on. Where no
window is due or over, the count of windows only starts afresh with a frame or cadence. The VF model is rewritten at most once a second by the
MP. Queued map entries go to flash as far as the delta log has room, in order; a due snapshot takes the slot with the older sequence, with the
next sequence, and erases the delta log. -/
def Obligations.RakeWindowsInTurn : Prop :=
  ∀ (t : Nat) (s : State),
    let a := advance t s
    let b := freshBase a
    (∀ i, windowSlot b = some i → mayStart b = true → b.rake.windows ≤ i → i < b.rake.rows →
      NextIs (exec (.probeWindow t none) s) fun u =>
        u.rake.window = some { row := s.rake.nextRow, start := tsc a, sweep := false, ready := false, touched := [] }
        ∧ u.rake.windows = i + 1 ∧ u.rake.nextRow = s.rake.nextRow ∧ u.rake.map = s.rake.map ∧ u.flt = s.flt)
    ∧ ((windowSlot b = none ∨ mayStart b = false) → exec (.probeWindow t none) s = .next b)
    ∧ (∀ i, windowSlot b = some i → (i < b.rake.windows ∨ b.rake.rows ≤ i) → exec (.probeWindow t none) s = .next b)
    ∧ (∀ (m : Probe) (w : RakeWindow), endedWindow a false = some w →
      NextIs (exec (.probeWindow t (some m)) s) fun u =>
        u.rake.window = none ∧ u.rake.nextRow = (w.row + 1) % 640
        ∧ (w.row ≠ 639 → u.rake.passes = s.rake.passes) ∧ (w.row = 639 → u.rake.passes = incr32 s.rake.passes)
        ∧ u.conv.cal = s.conv.cal)
    ∧ (∀ m : Probe, endedWindow a false = none → exec (.probeWindow t (some m)) s = .next a)
    ∧ (∀ smp, windowSlot b = some b.rake.rows → b.rake.rows ≠ 0 → b.rake.swept = false → mayStart b = true → sweepRuns b = true → reserved b = false →
      NextIs (exec (.sweepWindow t none smp) s) fun u =>
        u.rake.swept = true ∧ u.rake.nextRow = s.rake.nextRow ∧ u.conv.timedAt = tsc a
        ∧ (∃ w, u.rake.window = some w ∧ w.row = s.rake.cursor / (2048 / blockCols s) ∧ w.start = tsc a ∧ w.sweep = true))
    ∧ (∀ smp, (windowSlot b ≠ some b.rake.rows ∨ b.rake.rows = 0 ∨ b.rake.swept = true ∨ mayStart b = false ∨ sweepRuns b = false ∨ reserved b = true) →
      exec (.sweepWindow t none smp) s = .next b)
    ∧ (∀ (m : Probe) (smp : List Sample) (w : RakeWindow), smp.all sampleOk = true → endedWindow a true = some w →
      NextIs (exec (.sweepWindow t (some m) smp) s) fun u =>
        u.rake.window = none ∧ u.rake.nextRow = s.rake.nextRow
        ∧ (s.rake.cursor + 1 < cursorEnd s → u.rake.cursor = s.rake.cursor + 1)
        ∧ (cursorEnd s ≤ s.rake.cursor + 1 → u.rake.cursor = 0 ∧ u.rake.sweeps = incr32 s.rake.sweeps))
    ∧ (∀ (m : Probe) (smp : List Sample), smp.all sampleOk = true → endedWindow a true = none → exec (.sweepWindow t (some m) smp) s = .next a)
    ∧ (isFw s.mode.op = true → s.mp.restarting = none → s.conv.loaded = true →
        (s.rake.vfAt = 0 ∨ s.rake.vfAt + 100000000 ≤ tsc a → exec (.vfModelRewrite t) s = .next (rewriteModel a))
        ∧ (s.rake.vfAt ≠ 0 → tsc a < s.rake.vfAt + 100000000 → exec (.vfModelRewrite t) s = .next a))
    ∧ (flashWork s = true →
        exec (.faultMapFlashWrite t) s = .next { a with
          flash := { a.flash with delta := a.flash.delta ++ a.rake.queue.take (32768 - a.flash.delta.length) },
          rake := { a.rake with queue := a.rake.queue.drop (32768 - a.flash.delta.length) } }
        ∧ (s.rake.restored = true → (s.rake.snapFrom + 8640000000 ≤ tsc a ∨ 24576 ≤ s.flash.delta.length) →
          NextIs (exec (.mapSnapshot t) s) fun u =>
            u.flash.delta = [] ∧ (∃ x, x.map = s.rake.map ∧ x.dvf = s.rake.dvf ∧ x.bridges = s.rake.bridges
              ∧ x.sequence = max (s.flash.snapA.elim 0 (·.sequence)) (s.flash.snapB.elim 0 (·.sequence)) + 1
              ∧ ((s.flash.snapA.elim 0 (·.sequence)) ≤ (s.flash.snapB.elim 0 (·.sequence)) → u.flash.snapA = some x ∧ u.flash.snapB = s.flash.snapB)
              ∧ ((s.flash.snapB.elim 0 (·.sequence)) < (s.flash.snapA.elim 0 (·.sequence)) → u.flash.snapB = some x ∧ u.flash.snapA = s.flash.snapA))))
    ∧ (s.rake.restored = false ∨ (tsc a < s.rake.snapFrom + 8640000000 ∧ s.flash.delta.length < 24576) → exec (.mapSnapshot t) s = .next a)
    ∧ (flashWork s = false → exec (.faultMapFlashWrite t) s = .next a ∧ exec (.mapSnapshot t) s = .next a)

/-! ### The sync chain -/

/-- Symbols. In the slot that ends now a driving node sends its symbol, and any other sends IDLE while it has no carrier. A member repeats what it
receives, an ENUM with its own depth added. The depth in an ENUM is taken without a schedule and held pending during one; an ENUM with OVER
leaves the member unenumerated. A member takes CHAIN_LEN, ORIGIN, EPOCH and RUN from HEAD, and a head that is not forced becomes a member by
it. A SLUICE for its next swap arms a member at its own instant; one for another frame is counted as a mismatch, a repeated one as a
duplicate, one for the wrong bank as that. A symbol with a wrong CHECK or mark only breaks the run of valid ones. The roles. A module that
heard no valid symbol in its start window becomes the head with depth 0 and a new epoch; one that did stays what it is. Sixteen consecutive
valid symbols end a loss. An interconnect delay measured outside a schedule is reported, above 480 units as too long. -/
def Obligations.SyncSymbols : Prop :=
  (∀ (t : Nat) (s : State),
     let a := advance t s
     (slotDue a = true →
       (drives s = true → NextIs (exec (.symbolSlot t) s) fun u =>
         u.sync.lineOut = some (slotSymbol a (tsc a / 10)).1 ∧ u.sync.slotAt = some (tsc a) ∧ u.arr = s.arr ∧ u.sched = s.sched
         ∧ ((slotSymbol a (tsc a / 10)).2 = true → u.sync.sluiceSent = some s.sched.nextSwap)
         ∧ ((slotSymbol a (tsc a / 10)).2 = false → u.sync.sluiceSent = s.sync.sluiceSent))
       ∧ (drives s = false → s.sync.carrier = false →
         NextIs (exec (.symbolSlot t) s) fun u => u.sync.lineOut = some (mkSym 1 0) ∧ u.sync.slotAt = some (tsc a))
       ∧ (drives s = false → s.sync.carrier = true →
         NextIs (exec (.symbolSlot t) s) fun u => u.sync.lineOut = s.sync.lineOut ∧ u.sync.slotAt = some (tsc a)))
     ∧ (slotDue a = false → exec (.symbolSlot t) s = .next a))
  ∧ (∀ (t : Nat) (x : Sym) (s : State), listens s = true →
     let a := advance t s
     let depth := x.payload.toNat % 512
     let ovr := x.payload.toNat / 512 % 2
     (drives s = false → s.sync.loss = false → NextIs (exec (.symbolRepeat t x) s) fun u =>
         u.sync.depth = s.sync.depth ∧ (x.type ≠ 3 → u.sync.lineOut = some x)
         ∧ (symOk x = true → x.type = 3 → s.sync.depth < 511 → ovr = 0 → u.sync.lineOut = some (mkSym 3 (BitVec.ofNat 24 (s.sync.depth + 1))))
         ∧ (symOk x = true → x.type = 3 → ovr = 1 → u.sync.lineOut = some (mkSym 3 (enumPayload (s.sync.depth + 1) true))))
     ∧ (drives s = true ∨ s.sync.loss = true → exec (.symbolRepeat t x) s = .next (symArrive x a))
     ∧ (symOk x = true → x.type = 3 →
         (s.sync.role = .member → ovr = 1 → NextIs (exec (.enumReceived t x) s) fun u => u.sync.role = .unenumerated ∧ u.sync.depthPending = false)
         ∧ (s.sync.role = .member ∨ s.sync.role = .unenumerated → ovr = 0 → depth ≠ 0 → s.sched.running = false →
             NextIs (exec (.enumReceived t x) s) fun u => u.sync.role = .member ∧ u.sync.depth = depth ∧ u.sync.depthPending = false)
         ∧ (s.sync.role = .member → ovr = 0 → depth ≠ 0 → s.sched.running = true → depth ≠ s.sync.depth →
             NextIs (exec (.enumReceived t x) s) fun u => u.sync.depth = s.sync.depth ∧ u.sync.depthPending = true ∧ u.sync.pendingDepth = depth)
         ∧ (s.sync.role = .head → exec (.enumReceived t x) s = .next (symArrive x a)))
     ∧ (symOk x = true → x.type = 4 →
         (s.sync.role = .member ∨ (s.sync.role = .head ∧ s.sched.running = false) → NextIs (exec (.headReceived t x) s) fun u =>
           u.sync.role = .member ∧ u.sync.len = x.payload.toNat % 512 + 1 ∧ u.sync.origin = x.payload.toNat / 512 % 512
           ∧ u.sync.epoch = x.payload.toNat / 262144 % 32 ∧ u.sync.headRun = decide (x.payload.toNat / 8388608 % 2 = 1)
           ∧ u.sync.depth = s.sync.depth)
         ∧ (s.sync.role = .head → s.sched.running = true → exec (.headReceived t x) s = .next (symArrive x a)))
     ∧ (∀ tEnd : Nat, symOk x = true → x.type = 2 → s.sync.role ≠ .islandHead →
         (isDuplicate x s = true → NextIs (exec (.sluiceSymbolReceived t x tEnd) s) fun u =>
           u.sync.duplicates = incr32 s.sync.duplicates ∧ u.sync.armed = s.sync.armed)
         ∧ (isDuplicate x s = false → x.payload.toNat / 65536 % 2 ≠ (match s.arr.bankSel.other with | .a => 0 | .b => 1) →
           NextIs (exec (.sluiceSymbolReceived t x tEnd) s) fun u => u.sync.bankMismatch = incr32 s.sync.bankMismatch)
         ∧ (isDuplicate x s = false → s.sched.running = true → s.sync.role = .member →
           x.payload.toNat % 65536 = s.sched.nextSwap % 65536 → s.sync.armed = none → (tsc a : Int) ≤ swapOf s.sched s.sched.nextSwap + 100 →
           NextIs (exec (.sluiceSymbolReceived t x tEnd) s) fun u => u.sync.armed = some (x.payload.toNat % 65536,
             tEnd + 60 + x.payload.toNat / 131072 % 64 + 5 * (s.sync.len - 1 - s.sync.depth)) ∧ u.arr = s.arr ∧ u.sched = s.sched)
         ∧ (isDuplicate x s = false → s.sched.running = true → s.sync.role = .member →
           x.payload.toNat % 65536 ≠ s.sched.nextSwap % 65536 → NextIs (exec (.sluiceSymbolReceived t x tEnd) s) fun u =>
             u.sync.armed = s.sync.armed ∧ u.sync.frameMismatch = incr32 s.sync.frameMismatch))
     ∧ (∀ tEnd : Nat, s.sync.role = .islandHead → exec (.sluiceSymbolReceived t x tEnd) s = .next (symArrive x a))
     ∧ (∀ tEnd : Nat, symOk x = false →
         exec (.enumReceived t x) s = .next { a with sync := { a.sync with validRun := 0 } }
         ∧ exec (.headReceived t x) s = .next { a with sync := { a.sync with validRun := 0 } }
         ∧ exec (.sluiceSymbolReceived t x tEnd) s = .next { a with sync := { a.sync with validRun := 0 } }))
  ∧ (∀ (t : Nat) (s : State), arrayUp s = true →
     let a := advance t s
     (s.sync.started = false → s.sync.windowEnd < tsc a →
       (s.sync.heard = false → NextIs (exec (.startWindowEnd t) s) fun u =>
         u.sync.role = .head ∧ u.sync.depth = 0 ∧ u.sync.epoch = (s.sync.epoch + 1) % 32 ∧ u.sync.started = true ∧ u.sync.len = s.cfg.sync.chainLen)
       ∧ (s.sync.heard = true → exec (.startWindowEnd t) s = .next { a with sync := { a.sync with started := true } }))
     ∧ (s.sync.started = true ∨ tsc a ≤ s.sync.windowEnd → exec (.startWindowEnd t) s = .next a)
     ∧ (s.sync.loss = true → 16 ≤ s.sync.validRun →
         exec (.syncLossEnd t) s = .next (endSource 23 { a with sync := { a.sync with loss := false, carrier := true } }))
     ∧ (s.sync.loss = false ∨ s.sync.validRun < 16 → exec (.syncLossEnd t) s = .next a)
     ∧ (s.sync.measuring = true → s.sched.running = false → ∀ delay, NextIs (exec (.linkDelayMeasure t delay) s) fun u =>
         u.sync.measuring = false ∧ u.sync.linkDelay = min delay 65535 ∧ u.sync.linkLong = decide (480 < delay))
     ∧ (s.sync.measuring = false ∨ s.sched.running = true → ∀ delay, exec (.linkDelayMeasure t delay) s = .next a))

/-! ### Links, video, service port -/

/-- The link ports. A port that was up goes down with its deadline, and comes up with a speed and a role that LINK_CONFIG allows. A frame with a
wrong FCS is counted and not delivered; a frame for the module alone is delivered and not forwarded; one for another module is forwarded to
the other port while that is up: cut-through where the speeds and the idle port allow it, else stored while its queue has room, and counted as
dropped where it has none. An ARP request for the own address is answered, one for another is not. -/
def Obligations.LinkPortsForward : Prop :=
  ∀ (t : Nat) (s : State), arrayUp s = true →
    let a := advance t s
    (∀ training : Bool,
      (s.link.aState = 2 → NextIs (exec (.linkDown t { port := .a, training := training }) s) fun u =>
        u.link.aState = bit training ∧ u.link.aSpeed = 0 ∧ u.link.aDown = some (tsc a) ∧ u.link.bState = s.link.bState)
      ∧ (s.link.aState ≠ 2 → exec (.linkDown t { port := .a, training := training }) s
        = .next { a with link := { a.link with aState := bit training } })
      ∧ (s.fuse.variant ≠ .e → s.link.bState = 2 → exec (.linkDown t { port := .b, training := training }) s
        = .next { a with link := { a.link with bState := bit training, bSpeed := 0, egressB := {}, bDown := some (tsc a) } })
      ∧ (s.fuse.variant ≠ .e → s.link.bState ≠ 2 → exec (.linkDown t { port := .b, training := training }) s
        = .next { a with link := { a.link with bState := bit training } }))
    ∧ (∀ mode : LinkMode, 1 ≤ mode.speed → mode.speed ≤ 3 →
        (phyAllowed s.link.inForce .a mode.speed mode.master = true → NextIs (exec (.linkUp t .a mode) s) fun u =>
          u.link.aState = 2 ∧ u.link.aSpeed = mode.speed ∧ u.link.aMaster = mode.master ∧ u.link.aDown = none ∧ hasBit u.flt.cond 25 = false)
        ∧ (phyAllowed s.link.inForce .a mode.speed mode.master = false → exec (.linkUp t .a mode) s = .next a)
        ∧ (s.fuse.variant ≠ .e → phyAllowed s.link.inForce .b mode.speed mode.master = true → NextIs (exec (.linkUp t .b mode) s) fun u =>
          u.link.bState = 2 ∧ u.link.bSpeed = mode.speed ∧ u.link.bMaster = mode.master ∧ u.link.bDown = none ∧ hasBit u.flt.cond 26 = false)
        ∧ (s.fuse.variant ≠ .e → phyAllowed s.link.inForce .b mode.speed mode.master = false → exec (.linkUp t .b mode) s = .next a))
    ∧ (∀ f : EthFrame, hasPort s f.port = true → linkUpOn s f.port = true →
        (f.fcsOk = false → NextIs (exec (.ethernetFrame t f) s) fun u =>
          u.link.fcsErrors = incr32 s.link.fcsErrors ∧ u.link.delivered = s.link.delivered ∧ u.link.peers = s.link.peers)
        ∧ (f.fcsOk = true → (f.pause = true ∨ 1522 < f.bytes) → exec (.ethernetFrame t f) s = .next a)
        ∧ (f.fcsOk = true → f.pause = false → f.bytes ≤ 1522 → isGroup f.dst = false → (f.dst < 0x0180C2000000 ∨ 0x0180C200000F < f.dst) →
          (f.dst = s.fuse.mac → exec (.ethernetFrame t f) s = .next (deliverFrame f a) ∧ (deliverFrame f a).link.forwarded = s.link.forwarded)
          ∧ (f.dst ≠ s.fuse.mac → s.fuse.variant ≠ .e → linkUpOn s (otherPort f.port) = true →
            let room := egressRoom (tsc a) (egressQueue f.tag) f.bytes (otherPort f.port) s.link
            (cutsThrough a f = true → NextIs (exec (.ethernetFrame t f) s) fun u =>
              u.link.forwarded = some { port := otherPort f.port, frame := f, cutThrough := true } ∧ u.link.egressDrop = s.link.egressDrop)
            ∧ (cutsThrough a f = false → room = true → NextIs (exec (.ethernetFrame t f) s) fun u =>
              u.link.forwarded = some { port := otherPort f.port, frame := f, cutThrough := false } ∧ u.link.egressDrop = s.link.egressDrop)
            ∧ (cutsThrough a f = false → room = false → NextIs (exec (.ethernetFrame t f) s) fun u =>
              u.link.forwarded = s.link.forwarded ∧ u.link.egressDrop = incr32 s.link.egressDrop))))
    ∧ (∀ (p : Port) (ip : Nat), hasPort s p = true → linkUpOn s p = true → s.link.ip = some ip →
        (NextIs (exec (.arpRequest t p ip) s) fun u => u.link.arp = some { port := p, gratuitous := false, tag := ownTag s.link 0 } ∧ u.arr = s.arr)
        ∧ (∀ other, other ≠ ip → exec (.arpRequest t p other) s = .next a))

/-- A datagram that the internal port does not accept, or for another UDP port, is no video. A BRINE packet that no PLACED VIDEO drawer is bound
to is counted and changes nothing else; one that is bound reaches each such drawer, and a packet that breaks its drawer's format is counted
and dropped. The end of a buffer move removes it from the waiting ones. On the service port only frames with the own identifier are taken, a
classic frame is an error, a complete single frame passes its message on, a first frame is answered with flow control, OVFLW above 1,472
bytes, and a consecutive frame or flow control that stays away ends the transfer, counted. Bus-off is counted once, and its end is
followed. -/
def Obligations.VideoAndServicePort : Prop :=
  ∀ (t : Nat) (s : State), arrayUp s = true →
    let a := advance t s
    (∀ d : Datagram,
      (ipAccepted s d.ip = false ∨ d.ip.dstPort ≠ 50111 → exec (.brineVideoPacket t d) s = .next a)
      ∧ (ipAccepted s d.ip = true → d.ip.dstPort = 50111 →
        (boundRows a d.payload = [] → exec (.brineVideoPacket t d) s = .next { a with link := { a.link with unbound := incr32 a.link.unbound } })
        ∧ (boundRows a d.payload ≠ [] →
          exec (.brineVideoPacket t d) s = .next ((boundRows a d.payload).foldl (fun b r => deliverPacket r d.payload b) a)))
      ∧ (∀ r b, brineBad r.desc d.payload = true →
        deliverPacket r d.payload b = { b with link := { b.link with badFormat := incr32 b.link.badFormat } }))
    ∧ (∀ item, exec (.bufferMoveComplete t item) s = .next { a with drw := { a.drw with moves := a.drw.moves.filter (· ≠ item) } })
    ∧ (∀ f : CanFrame, f.data.length ≤ 64 →
      (canReqId s ≠ some f.id ∨ s.can.busOff = true → exec (.canFrame t f) s = .next a)
      ∧ (canReqId s = some f.id → s.can.busOff = false → s.can.rx = none → s.can.sending = none →
        (f.fd = false → exec (.canFrame t f) s = .next { a with can := { a.can with isoErrors := incr32 a.can.isoErrors } })
        ∧ (∀ n body, f.fd = true → f.data = BitVec.ofNat 8 n :: body → 1 ≤ n → n ≤ 7 → body.length = n →
          exec (.canFrame t f) s = .next { a with can := { a.can with complete := some body } })
        ∧ (∀ n body, f.fd = true → f.data = BitVec.ofNat 8 (16 + n / 256) :: BitVec.ofNat 8 n :: body → body.length < n →
          (n ≤ 1472 → NextIs (exec (.canFrame t f) s) fun u => u.can.rx = some { total := n, bytes := body, next := 1, last := tsc a }
            ∧ u.can.tx = { due := tsc a, id := f.id + 1, data := canPad [0x30, 0, 0] } :: s.can.tx)
          ∧ (1472 < n → n < 4096 → NextIs (exec (.canFrame t f) s) fun u => u.can.rx = none
            ∧ u.can.tx = { due := tsc a, id := f.id + 1, data := canPad [0x32, 0, 0] } :: s.can.tx))))
    ∧ (s.can.rx = none → s.can.sending = none → exec (.isotpTimeout t) s = .next a)
    ∧ (∀ r, s.can.rx = some r → s.can.sending = none →
        (r.last + 100000000 < tsc a → exec (.isotpTimeout t) s = .next { a with can := { a.can with isoErrors := incr32 a.can.isoErrors, rx := none } })
        ∧ (tsc a ≤ r.last + 100000000 → exec (.isotpTimeout t) s = .next a))
    ∧ (∀ x, s.can.rx = none → s.can.sending = some x → x.since + 100000000 < tsc a → s.can.sendq = [] →
        exec (.isotpTimeout t) s = .next { a with can := { a.can with isoErrors := incr32 a.can.isoErrors, sending := none } })
    ∧ (s.can.busOff = false → exec (.canBusOff t .busOff) s
        = .next { a with can := { a.can with busOff := true, errPassive := false, busOffs := incr32 a.can.busOffs } })
    ∧ (s.can.busOff = true → exec (.canBusOff t .busOff) s = .next { a with can := { a.can with errPassive := false } })
    ∧ (∀ st : CanErr, st ≠ .busOff → NextIs (exec (.canBusOff t st) s) fun u =>
        u.can.busOff = false ∧ u.can.errPassive = decide (st = .passive) ∧ u.can.busOffs = s.can.busOffs)

/-! ### Safe-Dim, converters, memories -/

/-- Safe-Dim. A sample at its instant joins the latest ten while they follow one another; an open contact counts as asserted. At a filter tick
with ten samples that all have both channels asserted and no demand in force, a demand with the configured target starts, is counted, and
dates from this tick; with both released, the demand ends. The ramp lowers the reference of the bank on show to its envelope and never raises
it, and its end applies the target. A test pulse that fails is recorded and repeated once; the second failure asserts FS18. A deferred pulse
waits. -/
def Obligations.SafeDimDemands : Prop :=
  (sdimAsserted .openWire = true ∧ sdimAsserted .low = true ∧ sdimAsserted .high = false)
  ∧ (∀ (t : Nat) (s : State), arrayUp s = true → s.flt.running = true →
    let a := advance t s
    (∀ x y : Contact,
      (∀ t0, tsc a % 10000 = 0 → s.dim.sampledAt = some t0 → t0 + 10000 = tsc a → NextIs (exec (.sdimSample t x y) s) fun u =>
        u.dim.samples = ((sdimAsserted x, sdimAsserted y) :: s.dim.samples).take 10 ∧ u.dim.sampledAt = some (tsc a) ∧ u.dim.demand = s.dim.demand)
      ∧ (tsc a % 10000 = 0 → (∀ t0, s.dim.sampledAt = some t0 → t0 ≠ tsc a ∧ t0 + 10000 ≠ tsc a) → NextIs (exec (.sdimSample t x y) s) fun u =>
        u.dim.samples = [(sdimAsserted x, sdimAsserted y)] ∧ u.dim.sampledAt = some (tsc a))
      ∧ (tsc a % 10000 ≠ 0 ∨ s.dim.sampledAt = some (tsc a) → exec (.sdimSample t x y) s = .next a))
    ∧ (tsc a % 100000 = 0 → s.dim.sampledAt = some (tsc a) → s.dim.samples = List.replicate 10 (true, true) → s.dim.state = .quiet →
        s.dim.demand = false → s.dim.disagree = none → (s.dim.proofFrom = none ∨ s.dim.proofLate = true) →
        NextIs (exec (.sdimFilterTick t) s) fun u =>
          u.dim.a = true ∧ u.dim.b = true ∧ u.dim.demand = true ∧ u.dim.target = s.cfg.sdim.target ∧ u.dim.t0 = tsc a
          ∧ u.dim.demands = incr32 s.dim.demands ∧ (u.dim.state = .ramp ∨ u.dim.state = .applied))
    ∧ (tsc a % 100000 = 0 → s.dim.sampledAt = some (tsc a) → s.dim.samples = List.replicate 10 (false, false) → s.dim.demand = true →
        s.dim.disagree = none → s.dim.proofFrom = none →
        (s.dim.state = .ramp → tsc a < s.dim.tEnd → hasBit s.flt.cond 16 = false → NextIs (exec (.sdimFilterTick t) s) fun u =>
          u.dim.a = false ∧ u.dim.b = false ∧ u.dim.demand = false ∧ u.dim.state = .quiet ∧ u.dim.withdrawn = incr32 s.dim.withdrawn
          ∧ u.arr = s.arr ∧ u.mode = s.mode)
        ∧ (s.dim.state = .applied → NextIs (exec (.sdimFilterTick t) s) fun u =>
          u.dim.demand = false ∧ u.dim.state = .quiet ∧ u.dim.target = 0 ∧ u.dim.withdrawn = s.dim.withdrawn ∧ u.mode = s.mode))
    ∧ (tsc a % 100000 ≠ 0 → exec (.sdimFilterTick t) s = .next a)
    ∧ (tsc a % 100000 = 0 → tenSamples a = false → s.dim.state ≠ .ramp → discrepancyDue a = false → proofDue a = false →
        exec (.sdimFilterTick t) s = .next a)
    ∧ (NextIs (exec (.rampTick t) s) fun u => bankScale u.arr s.arr.bankSel ≤ bankScale s.arr s.arr.bankSel ∧ u.arr.bankSel = s.arr.bankSel
        ∧ u.mode = s.mode ∧ u.dim.demand = s.dim.demand)
    ∧ (bankLit s = true → s.dim.state = .ramp → s.dim.idleRamp = none → rampTickNow s.dim.t0 s.dim.tEnd (tsc a) = true →
        NextIs (exec (.rampTick t) s) fun u =>
          bankScale u.arr s.arr.bankSel = min (bankScale s.arr s.arr.bankSel)
            (scaleFor (bankSum s.arr s.arr.bankSel) (envAt s.dim.t0 s.dim.tEnd s.dim.i0 s.dim.iEnd ((tsc a : Int) + 10000))).toNat
          ∧ u.dim.envelope = envAt s.dim.t0 s.dim.tEnd s.dim.i0 s.dim.iEnd (tsc a))
    ∧ (s.dim.state = .ramp → s.dim.tEnd ≤ tsc a → s.dim.idleRamp = none → exec (.rampEnd t) s = .next (applyTarget a)
        ∧ (applyTarget a).dim.state = .applied)
    ∧ (s.dim.state = .ramp → tsc a < s.dim.tEnd → s.dim.idleRamp = none → exec (.rampEnd t) s = .next a)
    ∧ (∀ r, s.dim.state ≠ .ramp → s.mode.op = .full → s.dim.idleRamp = some r → r.2.1 ≤ tsc a → NextIs (exec (.rampEnd t) s) fun u =>
        u.mode.op = .idle ∧ u.sched.running = false ∧ u.arr.drvEn = false ∧ u.dim.idleRamp = none)
    ∧ (∀ (fallOk : Bool) (recOk : Option Bool), pulseState a = true → pulseDue a = true →
        (pulseDeferred a = false → fallOk = true → recOk ≠ some false → NextIs (exec (.cutoffTestpulse t fallOk recOk) s) fun u =>
          u.dim.pulses = incr32 s.dim.pulses ∧ u.dim.pulseFails = s.dim.pulseFails ∧ u.dim.retest = false ∧ u.flt = s.flt ∧ u.arr = s.arr)
        ∧ (pulseDeferred a = false → (fallOk = false ∨ recOk = some false) → s.dim.retest = false →
          NextIs (exec (.cutoffTestpulse t fallOk recOk) s) fun u =>
            u.dim.pulseFails = incr32 s.dim.pulseFails ∧ u.dim.retest = true ∧ u.dim.retestAt = some (tsc a + 100000) ∧ u.flt = s.flt)
        ∧ (pulseDeferred a = false → (fallOk = false ∨ recOk = some false) → s.dim.retest = true →
          NextIs (exec (.cutoffTestpulse t fallOk recOk) s) fun u =>
            u.dim.pulseFails = incr32 s.dim.pulseFails ∧ u.dim.retest = false ∧ hasBit u.flt.seen 18 = true)
        ∧ (pulseDeferred a = true → s.dim.pulseWaits = false → NextIs (exec (.cutoffTestpulse t fallOk recOk) s) fun u =>
          u.dim.pulseWaits = true ∧ u.rake.deferred = incr32 s.rake.deferred ∧ u.dim.pulses = s.dim.pulses)
        ∧ (pulseDeferred a = true → s.dim.pulseWaits = true → exec (.cutoffTestpulse t fallOk recOk) s = .next a))
    ∧ (∀ (fallOk : Bool) (recOk : Option Bool), pulseState a = false ∨ pulseDue a = false → exec (.cutoffTestpulse t fallOk recOk) s = .next a))

/-- Converters and heat. A due scan takes its 23 readings, judges the six thresholds and the interlock; it waits while a timed sequence runs. A
full second in throttle raises THERM_STEP by one to at most 8, one out of it lowers it by one. An urgent request is taken while its slot is free
and dropped and counted while it is not. A shutdown comparator asserts FS30 or FS33 for its sensor. A self-test that passes ends FS38, the
second failure in a row asserts it. The reference modes follow their commands, WARM around the timed sequences and AUTO without. -/
def Obligations.ConvertersAndHeat : Prop :=
  ∀ (t : Nat) (s : State), arrayUp s = true →
    let a := advance t s
    (∀ r : List (List Sample), r.length = 23 → r.all (entryOk 8) = true →
      (scanDue a = true → reserved a = false → exec (.scan t r) s = .next (followInterlock (followHeat (takeReadings r a)))
        ∧ (takeReadings r a).conv.readings.length = 23 ∧ (takeReadings r a).conv.lastScan = tsc a)
      ∧ (scanDue a = false ∨ reserved a = true → exec (.scan t r) s = .next a))
    ∧ (s.gov.stepFrom + 100000000 ≤ tsc a →
      (hasBit s.flt.cond 29 = true → NextIs (exec (.thermalStep t) s) fun u =>
        u.gov.step = min 8 (s.gov.step + 1) ∧ u.gov.stepFrom = s.gov.stepFrom + 100000000 ∧ u.arr = s.arr)
      ∧ (hasBit s.flt.cond 29 = false → NextIs (exec (.thermalStep t) s) fun u =>
        u.gov.step = s.gov.step - 1 ∧ u.gov.stepFrom = s.gov.stepFrom + 100000000 ∧ u.arr = s.arr))
    ∧ (tsc a < s.gov.stepFrom + 100000000 → exec (.thermalStep t) s = .next a)
    ∧ (∀ (input : Nat) (x : Sample), input < 30 → sampleOk x = true →
        (∀ e, s.conv.urgentUntil = some e → tsc a < e → NextIs (exec (.urgentRequest t input x) s) fun u =>
          u.conv.urgentDrop = incr32 s.conv.urgentDrop ∧ u.conv.urgentResult = s.conv.urgentResult ∧ u.conv.urgentUntil = s.conv.urgentUntil)
        ∧ ((∀ e, s.conv.urgentUntil = some e → e ≤ tsc a) → NextIs (exec (.urgentRequest t input x) s) fun u =>
          u.conv.urgentResult = some (input, sampleResult s.conv.cal (scanConv s) input x) ∧ u.conv.urgentDrop = s.conv.urgentDrop
          ∧ (isWarm s (scanConv s) = true → u.conv.urgentUntil = some (tsc a + 60))
          ∧ (isWarm s (scanConv s) = false → u.conv.urgentUntil = some (tsc a + 310))))
    ∧ (∀ (input : Nat) (x : Sample), sampleOk x = true →
        (10 ≤ input → input < 18 → exec (.shutdownComparator t input x) s = .next (assertSource 30 input false (urgent input x a)))
        ∧ (18 ≤ input → input < 20 → exec (.shutdownComparator t input x) s = .next (assertSource 33 input false (urgent input x a))))
    ∧ (∀ x y : List (List Sample), x.length = 4 → y.length = 4 → (x ++ y).all (entryOk 16) = true →
        let finding := selfFinding (x.map (selfResult s.conv.cal .a)) (y.map (selfResult s.conv.cal .b)) a
        (reserved a = false → (∀ t0, s.conv.selfAt = some t0 → t0 + 10000000 ≤ tsc a) →
          (finding = none → NextIs (exec (.selftest t x y) s) fun u => u.conv.selfRun = 0 ∧ u.conv.selfFails = s.conv.selfFails
            ∧ hasBit u.flt.cond 38 = false)
          ∧ (finding ≠ none → NextIs (exec (.selftest t x y) s) fun u => u.conv.selfRun = s.conv.selfRun + 1
            ∧ u.conv.selfFails = incr32 s.conv.selfFails ∧ (s.conv.selfRun = 0 → u.flt = s.flt) ∧ (1 ≤ s.conv.selfRun → hasBit u.flt.cond 38 = true)))
        ∧ (reserved a = true ∨ (∃ t0, s.conv.selfAt = some t0 ∧ tsc a < t0 + 10000000) → exec (.selftest t x y) s = .next a))
    ∧ (mpRuns s = true →
        (warmHeld a = true →
          exec (.referenceModeWarm t .a) s = .next { a with conv := { a.conv with aWarm := true } }
          ∧ (hasConvB s = true → exec (.referenceModeWarm t .b) s = .next { a with conv := { a.conv with bWarm := true } })
          ∧ exec (.referenceModeAuto t .a) s = .next a ∧ exec (.referenceModeAuto t .b) s = .next a)
        ∧ (warmHeld a = false →
          exec (.referenceModeAuto t .a) s = .next { a with conv := { a.conv with aWarm := false, aReady := false } }
          ∧ exec (.referenceModeAuto t .b) s = .next { a with conv := { a.conv with bWarm := false, bReady := false } }
          ∧ exec (.referenceModeWarm t .a) s = .next a ∧ exec (.referenceModeWarm t .b) s = .next a))
    ∧ (s.conv.aWarm = true → exec (.convRefReady t .a) s = .next { a with conv := { a.conv with aReady := true } })
    ∧ (s.conv.bWarm = true → exec (.convRefReady t .b) s = .next { a with conv := { a.conv with bReady := true } })
    ∧ (s.conv.aWarm = false → exec (.convRefReady t .a) s = .next a)

/-- The DRAM controller. A request joins the queue, and the channel serves what the order of service names, which leaves the queue. A due drift
check moves the write delays of the channel's two lanes by at most one step within 0 to 63 and leaves the others, and the refresh rate follows.
A refresh window that is over clears the counter tables of its channel and of no other. An activation counts its row in a table that never
holds more than 64 entries. The counter table of R402 holds the row that was activated, keeps the counts of the rows it does not replace, and
where a row's count is reset its neighbours within two rows are the rows refreshed. -/
def Obligations.DramServesAndCounts : Prop :=
  (∀ (t : Nat) (s : State), clockRuns s = true →
     let a := advance t s
     (∀ ch, ch < 2 →
       (∀ r, dramReqOk s r = true →
         (∀ x, nextDram (enqueueDram r a) ch = some x → exec (.dramRequest t (some r) ch) s = .next (serveDram x (enqueueDram r a)))
         ∧ (nextDram (enqueueDram r a) ch = none → exec (.dramRequest t (some r) ch) s = .next (enqueueDram r a)))
       ∧ (nextDram a ch = none → exec (.dramRequest t none ch) s = .next a)
       ∧ (∀ x, nextDram a ch = some x → exec (.dramRequest t none ch) s = .next (serveDram x a) ∧ x ∈ a.dram.queue ∧ x.channel = ch
           ∧ (serveDram x a).dram.served = some x ∧ (serveDram x a).dram.queue = a.dram.queue.erase x))
     ∧ (∀ (ch refresh : Nat) (d0 d1 : Int), ch < 2 → refresh ≠ 0 → s.dram.lanes.length = 4 → s.dram.refresh.length = 2 →
         (driftDue ch a = true → NextIs (exec (.dqsDriftCheck t ch [d0, d1] refresh) s) fun u =>
           u.dram.lanes.length = 4 ∧ (∀ n, n < 4 → n / 2 ≠ ch → u.dram.lanes.getD n {} = s.dram.lanes.getD n {})
           ∧ u.dram.lanes.getD (2 * ch) {} = moveDelay d0 (s.dram.lanes.getD (2 * ch) {})
           ∧ u.dram.lanes.getD (2 * ch + 1) {} = moveDelay d1 (s.dram.lanes.getD (2 * ch + 1) {})
           ∧ u.dram.refresh.getD ch 1 = refresh)
         ∧ (driftDue ch a = false → exec (.dqsDriftCheck t ch [d0, d1] refresh) s = .next a))
     ∧ (∀ ch bank row, ch < 2 → bank < 8 → row < dramRows s → exec (.neighbourRefresh t ch bank row) s = .next (refreshRow (ch * 8 + bank) row a))
     ∧ (NextIs (exec (.refreshWindowStart t) s) fun u => ∀ ch, ch < 2 →
         (s.dram.windowFrom.getD ch 0 + refreshWindow ch s ≤ tsc a → ∀ e ∈ u.dram.tables, e.1 / 8 ≠ ch)
         ∧ (tsc a < s.dram.windowFrom.getD ch 0 + refreshWindow ch s → ∀ e, e.1 / 8 = ch → (e ∈ u.dram.tables ↔ e ∈ s.dram.tables))))
  ∧ ((∀ (row : Nat) (tb : List (Nat × Nat)), tb.length ≤ 64 →
     (countActivate row tb).length ≤ 64 ∧ (∃ c, (row, c) ∈ countActivate row tb ∧ 1 ≤ c)
     ∧ (tb.length < 64 → ∀ e ∈ tb, e.1 ≠ row → e ∈ countActivate row tb))
   ∧ (∀ (key row : Nat) (s : State), (∃ c, (row, c) ∈ memRead [] s.dram.tables key ∧ 4096 ≤ c) →
     (∃ l, (refreshRow key row s).dram.refreshed = some (key, l)
       ∧ ∀ k, k ∈ l ↔ k + 1 = row ∨ k + 2 = row ∨ (k < dramRows s ∧ (k = row + 1 ∨ k = row + 2)))
     ∧ (memWf [] s.dram.tables = true → ∀ c, (row, c) ∈ memRead [] (refreshRow key row s).dram.tables key → c = 0)))

end Statements
end

