-- ==== Sys2Proof/Laws/Kept.lean ====
section
/-! SUPPORT. What almost every operation keeps: the shared operations, the collector, links, memories, the time base. -/

namespace Sys2Proof.Machine

set_option Elab.async false

/-- What almost every operation leaves unchanged: the queue, the fuses, BANK_SEL, TSC_TRIM, and the number of drawer slots. -/
structure Kept (s u : State) : Prop where
  pending : u.pending = s.pending
  fuse : u.fuse = s.fuse
  bankSel : u.arr.bankSel = s.arr.bankSel
  trim : u.time.trim = s.time.trim
  slots : u.drw.slots.length = s.drw.slots.length

theorem Kept.refl (s : State) : Kept s s := ⟨rfl, rfl, rfl, rfl, rfl⟩

theorem Kept.trans {s t u : State} (h : Kept s t) (g : Kept t u) : Kept s u :=
  ⟨g.1.trans h.1, g.2.trans h.2, g.3.trans h.3, g.4.trans h.4, g.5.trans h.5⟩

/-- A record update keeps what its fields keep. -/
theorem Kept.upd {s0 X : State} {mo ti lo cf ar sc cm mn go dr sy fl di ra co li ca ga mp dm pw up fs fu cv p}
    (h : Kept s0 X) (hp : p = X.pending) (hf : fu = X.fuse) (hb : ar.bankSel = X.arr.bankSel) (ht : ti.trim = X.time.trim)
    (hl : dr.slots.length = X.drw.slots.length := by first | rfl | simp [listUpdate]) :
    Kept s0 (State.mk mo ti lo cf ar sc cm mn go dr sy fl di ra co li ca ga mp dm pw up fs fu cv p) :=
  ⟨hp.trans h.1, hf.trans h.2, hb.trans h.3, ht.trans h.4, hl.trans h.5⟩

theorem Kept.ite {s0 a b : State} {c : Prop} [Decidable c] (ha : Kept s0 a) (hb : Kept s0 b) : Kept s0 (if c then a else b) := by
  split <;> assumption

theorem Kept.foldl {α : Type} {s0 : State} {f : State → α → State} (h : ∀ s x, Kept s0 s → Kept s0 (f s x)) :
    ∀ (l : List α) {s : State}, Kept s0 s → Kept s0 (l.foldl f s)
  | [], _, hs => hs
  | x :: l, _, hs => Kept.foldl h l (h _ x hs)

/-- An answer whose next state, if any, keeps them. -/
def KeptOut (s0 : State) : Out → Prop
  | .next u => Kept s0 u
  | _ => True

/-- An answer of the MP whose state, if any, keeps them. -/
def KeptAnswer (s0 : State) : Answer → Prop
  | .ok _ u => Kept s0 u
  | .failIn _ _ u => Kept s0 u
  | .fail _ _ => True

theorem KeptOut.next {s0 u : State} (h : Kept s0 u) : KeptOut s0 (.next u) := h
theorem KeptOut.fault {s0 : State} {f : Fault} : KeptOut s0 (.fault f) := trivial
theorem KeptOut.ite {s0 : State} {a b : Out} {c : Prop} [Decidable c] (ha : KeptOut s0 a) (hb : KeptOut s0 b) :
    KeptOut s0 (if c then a else b) := by split <;> assumption
theorem KeptAnswer.ok {s0 u : State} {d : List Byte} (h : Kept s0 u) : KeptAnswer s0 (.ok d u) := h
theorem KeptAnswer.failIn {s0 u : State} {a b : Nat} (h : Kept s0 u) : KeptAnswer s0 (.failIn a b u) := h
theorem KeptAnswer.fail {s0 : State} {a b : Nat} : KeptAnswer s0 (.fail a b) := trivial
theorem KeptAnswer.ite {s0 : State} {a b : Answer} {c : Prop} [Decidable c] (ha : KeptAnswer s0 a) (hb : KeptAnswer s0 b) :
    KeptAnswer s0 (if c then a else b) := by split <;> assumption

theorem advance_kept {s0 : State} (t : Nat) (s : State) (h : Kept s0 s) : Kept s0 (advance t s) := by
  unfold advance
  repeat' with_reducible first
    | assumption
    | apply Kept.ite
    | split
    | refine Kept.upd ?_ rfl rfl rfl rfl

theorem recordAt_kept {s0 : State} (at_ source code data : Nat) (s : State) (h : Kept s0 s) : Kept s0 (recordAt at_ source code data s) := by
  unfold recordAt
  repeat' with_reducible first
    | assumption
    | refine Kept.upd ?_ rfl rfl rfl rfl

theorem record_kept {s0 : State} (source code data : Nat) (s : State) (h : Kept s0 s) : Kept s0 (record source code data s) := by
  unfold record
  repeat' with_reducible first
    | assumption
    | apply recordAt_kept

theorem selectSettle_kept {s0 : State} (s : State) (h : Kept s0 s) : Kept s0 (selectSettle s) := by
  unfold selectSettle
  repeat' with_reducible first
    | assumption
    | apply Kept.ite
    | split
    | refine Kept.upd ?_ rfl rfl rfl rfl

theorem drvLow_kept {s0 : State} (s : State) (h : Kept s0 s) : Kept s0 (drvLow s) := by
  unfold drvLow
  repeat' with_reducible first
    | assumption
    | refine Kept.upd ?_ rfl rfl rfl rfl

theorem openSwitch_kept {s0 : State} (cause : Nat) (s : State) (h : Kept s0 s) : Kept s0 (openSwitch cause s) := by
  unfold openSwitch
  repeat' with_reducible first
    | assumption
    | apply record_kept
    | apply Kept.ite
    | split
    | refine Kept.upd ?_ rfl rfl rfl rfl

theorem closeSwitch_kept {s0 : State} (s : State) (h : Kept s0 s) : Kept s0 (closeSwitch s) := by
  unfold closeSwitch
  repeat' with_reducible first
    | assumption
    | apply record_kept
    | apply Kept.ite
    | split
    | refine Kept.upd ?_ rfl rfl rfl rfl

theorem readdress_kept {s0 : State} (s : State) (h : Kept s0 s) : Kept s0 (readdress s) := by
  unfold readdress
  try lift_lets
  repeat' with_reducible first
    | assumption
    | apply Kept.ite
    | (intro s; have hs : Kept s0 s := ?_; clear_value s; rotate_left; subst s)
    | (intro x; subst x)
    | (split <;> (try lift_lets))
    | refine Kept.upd ?_ rfl rfl rfl rfl

theorem rakeUpdate_kept {s0 : State} (s : State) (h : Kept s0 s) : Kept s0 (rakeUpdate s) := by
  unfold rakeUpdate
  try lift_lets
  repeat' with_reducible first
    | assumption
    | apply record_kept
    | apply Kept.ite
    | (intro s; have hs : Kept s0 s := ?_; clear_value s; rotate_left; subst s)
    | (intro x; subst x)
    | (split <;> (try lift_lets))
    | refine Kept.upd ?_ rfl rfl rfl rfl

theorem takeSlTrim_kept {s0 : State} (s : State) (h : Kept s0 s) : Kept s0 (takeSlTrim s) := by
  unfold takeSlTrim
  repeat' with_reducible first
    | assumption
    | refine Kept.upd ?_ rfl rfl rfl rfl

theorem setCalData_kept {s0 : State} (c : CalData) (s : State) (h : Kept s0 s) : Kept s0 (setCalData c s) := by
  unfold setCalData
  try lift_lets
  repeat' with_reducible first
    | assumption
    | apply takeSlTrim_kept
    | apply Kept.ite
    | (intro s; have hs : Kept s0 s := ?_; clear_value s; rotate_left; subst s)
    | (intro x; subst x)
    | (split <;> (try lift_lets))
    | refine Kept.upd ?_ rfl rfl rfl rfl

theorem updCvu_kept {s0 : State} (unit : Nat) (f : Cvu → Cvu) (s : State) (h : Kept s0 s) : Kept s0 (updCvu unit f s) := by
  unfold updCvu
  repeat' with_reducible first
    | assumption
    | refine Kept.upd ?_ rfl rfl rfl rfl

theorem cvuJob_kept {s0 : State} (unit value : Nat) (expected : Option Nat) (s : State) (h : Kept s0 s) : Kept s0 (cvuJob unit value expected s) := by
  unfold cvuJob
  repeat' with_reducible first
    | assumption
    | apply updCvu_kept
    | apply Kept.ite
    | split

theorem cvuEnd_kept {s0 : State} (unit value : Nat) (s : State) (h : Kept s0 s) : Kept s0 (cvuEnd unit value s) := by
  unfold cvuEnd
  repeat' with_reducible first
    | assumption
    | apply updCvu_kept

theorem cvuStart_kept {s0 : State} (unit : Nat) (compare : Bool) (s : State) (h : Kept s0 s) : Kept s0 (cvuStart unit compare s) := by
  unfold cvuStart
  repeat' with_reducible first
    | assumption
    | apply updCvu_kept

theorem cvuAbandon_kept {s0 : State} (unit : Nat) (s : State) (h : Kept s0 s) : Kept s0 (cvuAbandon unit s) := by
  unfold cvuAbandon
  repeat' with_reducible first
    | assumption
    | apply updCvu_kept
    | refine Kept.upd ?_ rfl rfl rfl rfl

theorem updSlot_kept {s0 : State} (n : Nat) (f : Slot → Slot) (s : State) (h : Kept s0 s) : Kept s0 (updSlot n f s) := by
  unfold updSlot
  repeat' with_reducible first
    | assumption
    | refine Kept.upd ?_ rfl rfl rfl rfl

theorem mapSlots_kept {s0 : State} (f : Slot → Slot) (s : State) (h : Kept s0 s) : Kept s0 (mapSlots f s) := by
  unfold mapSlots
  repeat' with_reducible first
    | assumption
    | refine Kept.upd ?_ rfl rfl rfl rfl

theorem placeAll_kept {s0 : State} (table : List TableRow) (items : List Item) (s : State) (h : Kept s0 s) : Kept s0 (placeAll table items s) := by
  unfold placeAll
  repeat' with_reducible first
    | assumption
    | apply updSlot_kept
    | (intro s x hs)
    | (intro s hs)
    | refine Kept.foldl ?_ _ ?_

theorem recordApplied_kept {s0 : State} (frame : Nat) (touched : List Nat) (s : State) (h : Kept s0 s) : Kept s0 (recordApplied frame touched s) := by
  unfold recordApplied
  repeat' with_reducible first
    | assumption
    | apply record_kept
    | (intro s x hs)
    | (intro s hs)
    | refine Kept.foldl ?_ _ ?_

theorem applyCommit_kept {s0 : State} (c : Commit) (s : State) (h : Kept s0 s) : Kept s0 (applyCommit c s) := by
  unfold applyCommit
  try lift_lets
  repeat' with_reducible first
    | assumption
    | apply updSlot_kept
    | apply placeAll_kept
    | apply recordApplied_kept
    | (intro s; have hs : Kept s0 s := ?_; clear_value s; rotate_left; subst s)
    | (intro x; subst x)
    | (intro s x hs)
    | (intro s hs)
    | refine Kept.foldl ?_ _ ?_
    | (split <;> (try lift_lets))
    | refine Kept.upd ?_ rfl rfl rfl rfl

theorem retireSlot_kept {s0 : State} (n : Nat) (s : State) (h : Kept s0 s) : Kept s0 (retireSlot n s) := by
  unfold retireSlot
  try lift_lets
  repeat' with_reducible first
    | assumption
    | apply record_kept
    | apply updSlot_kept
    | apply Kept.ite
    | (intro s; have hs : Kept s0 s := ?_; clear_value s; rotate_left; subst s)
    | (intro x; subst x)
    | (intro s hs)
    | (split <;> (try lift_lets))
    | refine Kept.upd ?_ rfl rfl rfl rfl

theorem retireDue_kept {s0 : State} (m : Option Nat) (s : State) (h : Kept s0 s) : Kept s0 (retireDue m s) := by
  unfold retireDue
  try lift_lets
  repeat' with_reducible first
    | assumption
    | apply retireSlot_kept
    | apply updSlot_kept
    | apply record_kept
    | apply Kept.ite
    | (intro s; have hs : Kept s0 s := ?_; clear_value s; rotate_left; subst s)
    | (intro x; subst x)
    | (intro s x hs)
    | (intro s hs)
    | refine Kept.foldl ?_ _ ?_
    | (split <;> (try lift_lets))
    | refine Kept.upd ?_ rfl rfl rfl rfl

theorem applyDue_kept {s0 : State} (m : Nat) (s : State) (h : Kept s0 s) : Kept s0 (applyDue m s) := by
  unfold applyDue
  try lift_lets
  repeat' with_reducible first
    | assumption
    | apply applyCommit_kept
    | (intro s; have hs : Kept s0 s := ?_; clear_value s; rotate_left; subst s)
    | (intro x; subst x)
    | (intro s x hs)
    | (intro s hs)
    | refine Kept.foldl ?_ _ ?_
    | refine Kept.upd ?_ rfl rfl rfl rfl

theorem drawersStop_kept {s0 : State} (s : State) (h : Kept s0 s) : Kept s0 (drawersStop s) := by
  unfold drawersStop
  try lift_lets
  repeat' with_reducible first
    | assumption
    | apply applyCommit_kept
    | apply mapSlots_kept
    | apply retireDue_kept
    | (intro s; have hs : Kept s0 s := ?_; clear_value s; rotate_left; subst s)
    | (intro x; subst x)
    | (intro s x hs)
    | (intro s hs)
    | refine Kept.foldl ?_ _ ?_
    | refine Kept.upd ?_ rfl rfl rfl rfl

theorem dropPending_kept {s0 : State} (session : Nat) (s : State) (h : Kept s0 s) : Kept s0 (dropPending session s) := by
  unfold dropPending
  try lift_lets
  repeat' with_reducible first
    | assumption
    | apply mapSlots_kept
    | apply Kept.ite
    | (intro s; have hs : Kept s0 s := ?_; clear_value s; rotate_left; subst s)
    | (intro x; subst x)
    | (intro s x hs)
    | (intro s hs)
    | (split <;> (try lift_lets))
    | refine Kept.upd ?_ rfl rfl rfl rfl

theorem bootDrawers_kept {s0 : State} (s : State) (h : Kept s0 s) : Kept s0 (bootDrawers s) := by
  unfold bootDrawers
  repeat' with_reducible first
    | assumption
    | refine Kept.upd ?_ rfl rfl rfl rfl

theorem dropLong_kept {s0 : State} (s : State) (h : Kept s0 s) : Kept s0 (dropLong s) := by
  unfold dropLong
  try lift_lets
  repeat' with_reducible first
    | assumption
    | apply Kept.ite
    | (intro s; have hs : Kept s0 s := ?_; clear_value s; rotate_left; subst s)
    | (intro x; subst x)
    | (split <;> (try lift_lets))
    | refine Kept.upd ?_ rfl rfl rfl rfl

theorem endLong_kept {s0 : State} (opcode status : Nat) (s : State) (h : Kept s0 s) : Kept s0 (endLong opcode status s) := by
  unfold endLong
  repeat' with_reducible first
    | assumption
    | apply record_kept
    | refine Kept.upd ?_ rfl rfl rfl rfl

theorem rejectRun_kept {s0 : State} (cause : Nat) (s : State) (h : Kept s0 s) : Kept s0 (rejectRun cause s) := by
  unfold rejectRun
  repeat' with_reducible first
    | assumption
    | apply record_kept
    | apply endLong_kept
    | apply Kept.ite
    | split

theorem interruptRun_kept {s0 : State} (s : State) (h : Kept s0 s) : Kept s0 (interruptRun s) := by
  unfold interruptRun
  repeat' with_reducible first
    | assumption
    | apply rejectRun_kept

theorem updSession_kept {s0 : State} (id : Nat) (f : Session → Session) (s : State) (h : Kept s0 s) : Kept s0 (updSession id f s) := by
  unfold updSession
  repeat' with_reducible first
    | assumption
    | apply Kept.ite
    | split
    | refine Kept.upd ?_ rfl rfl rfl rfl

theorem pushReply_kept {s0 : State} (bytes : List Byte) (r : Reply) (s : State) (h : Kept s0 s) : Kept s0 (pushReply bytes r s) := by
  have g : Kept s0 (transmit r.ep (bytes ++ r.tag) s).2 := by
    unfold transmit
    split
    · split
      · exact Kept.upd h rfl rfl rfl rfl
      · exact h
    · exact Kept.upd h rfl rfl rfl rfl
  exact Kept.upd g rfl rfl rfl rfl

theorem loseSession_kept {s0 : State} (id : Nat) (s : State) (h : Kept s0 s) : Kept s0 (loseSession id s) := by
  unfold loseSession
  repeat' with_reducible first
    | assumption
    | apply dropPending_kept
    | refine Kept.upd ?_ rfl rfl rfl rfl

theorem countLost_kept {s0 : State} (s : State) (h : Kept s0 s) : Kept s0 (countLost s) := by
  unfold countLost
  repeat' with_reducible first
    | assumption
    | refine Kept.upd ?_ rfl rfl rfl rfl

theorem loseAllSessions_kept {s0 : State} (s : State) (h : Kept s0 s) : Kept s0 (loseAllSessions s) := by
  unfold loseAllSessions
  try lift_lets
  repeat' with_reducible first
    | assumption
    | apply countLost_kept
    | apply dropPending_kept
    | (intro s; have hs : Kept s0 s := ?_; clear_value s; rotate_left; subst s)
    | (intro x; subst x)
    | (intro s x hs)
    | (intro s hs)
    | refine Kept.foldl ?_ _ ?_
    | refine Kept.upd ?_ rfl rfl rfl rfl

theorem freshEnd_kept {s0 : State} (last : Bool) (id : Nat) (s : State) (h : Kept s0 s) : Kept s0 (freshEnd last id s) := by
  unfold freshEnd
  repeat' with_reducible first
    | assumption
    | apply countLost_kept
    | apply loseSession_kept
    | apply record_kept
    | apply Kept.ite
    | split
    | refine Kept.upd ?_ rfl rfl rfl rfl

theorem replyTagged_kept {s0 : State} (m : Msg) (status detail : Nat) (data : List Byte) (s : State) (h : Kept s0 s) : Kept s0 (replyTagged m status detail data s) := by
  unfold replyTagged
  try lift_lets
  repeat' with_reducible first
    | assumption
    | apply pushReply_kept
    | apply updSession_kept
    | (intro s; have hs : Kept s0 s := ?_; clear_value s; rotate_left; subst s)
    | (intro x; subst x)
    | (split <;> (try lift_lets))
    | refine Kept.upd ?_ rfl rfl rfl rfl

theorem replyUntagged_kept {s0 : State} (m : Msg) (status detail : Nat) (s : State) (h : Kept s0 s) : Kept s0 (replyUntagged m status detail s) := by
  unfold replyUntagged
  try lift_lets
  repeat' with_reducible first
    | assumption
    | apply pushReply_kept
    | (intro s; have hs : Kept s0 s := ?_; clear_value s; rotate_left; subst s)
    | (intro x; subst x)
    | refine Kept.upd ?_ rfl rfl rfl rfl

theorem replyTo_kept {s0 : State} (m : Msg) (status detail : Nat) (data : List Byte) (s : State) (h : Kept s0 s) : Kept s0 (replyTo m status detail data s) := by
  unfold replyTo
  repeat' with_reducible first
    | assumption
    | apply replyUntagged_kept
    | apply replyTagged_kept
    | apply Kept.ite
    | split

theorem busyReply_kept {s0 : State} (m : Msg) (s : State) (h : Kept s0 s) : Kept s0 (busyReply m s) := by
  unfold busyReply
  repeat' with_reducible first
    | assumption
    | apply freshEnd_kept
    | apply replyTo_kept
    | apply Kept.ite
    | split
    | refine Kept.upd ?_ rfl rfl rfl rfl

theorem busyAll_kept {s0 : State} (s : State) (h : Kept s0 s) : Kept s0 (busyAll s) := by
  unfold busyAll
  try lift_lets
  repeat' with_reducible first
    | assumption
    | apply busyReply_kept
    | (intro s; have hs : Kept s0 s := ?_; clear_value s; rotate_left; subst s)
    | (intro x; subst x)
    | (intro s x hs)
    | (intro s hs)
    | refine Kept.foldl ?_ _ ?_
    | refine Kept.upd ?_ rfl rfl rfl rfl

theorem replaceReply_kept {s0 : State} (old new : Reply) (s : State) (h : Kept s0 s) : Kept s0 (replaceReply old new s) := by
  unfold replaceReply
  try lift_lets
  repeat' with_reducible first
    | assumption
    | apply Kept.ite
    | (intro s; have hs : Kept s0 s := ?_; clear_value s; rotate_left; subst s)
    | (intro x; subst x)
    | (split <;> (try lift_lets))
    | refine Kept.upd ?_ rfl rfl rfl rfl

theorem dataLost_kept {s0 : State} (s : State) (h : Kept s0 s) : Kept s0 (dataLost s) := by
  have e : ∀ (o : Option Reply) (f : Reply → State) (s : State), Kept s0 s → (∀ r, Kept s0 (f r)) → Kept s0 (o.elim s f) := by
    intro o f s hs hf
    cases o
    · exact hs
    · exact hf _
  unfold dataLost
  split
  · exact h
  · have g : Kept s0 { s with mp := { s.mp with served := none } } := Kept.upd h rfl rfl rfl rfl
    dsimp only
    split
    · exact record_kept _ _ _ _ (e _ _ _ g fun r => replaceReply_kept _ _ _ g)
    · exact e _ _ _ g fun r => replaceReply_kept _ _ _ (Kept.upd g rfl rfl rfl rfl)

theorem noteServed_kept {s0 : State} (m : Msg) (status : Nat) (key : Option (List Byte)) (old s : State) (h : Kept s0 s) : Kept s0 (noteServed m status key old s) := by
  unfold noteServed
  try lift_lets
  repeat' with_reducible first
    | assumption
    | apply Kept.ite
    | (intro s; have hs : Kept s0 s := ?_; clear_value s; rotate_left; subst s)
    | (intro x; subst x)
    | (split <;> (try lift_lets))
    | refine Kept.upd ?_ rfl rfl rfl rfl

theorem dropActivation_kept {s0 : State} (s : State) (h : Kept s0 s) : Kept s0 (dropActivation s) := by
  unfold dropActivation
  repeat' with_reducible first
    | assumption
    | apply busyReply_kept
    | apply cvuAbandon_kept
    | split
    | refine Kept.upd ?_ rfl rfl rfl rfl

theorem addShadow_kept {s0 : State} (a : Action) (s : State) (h : Kept s0 s) : Kept s0 (addShadow a s) := by
  unfold addShadow
  repeat' with_reducible first
    | assumption
    | apply Kept.ite
    | split
    | refine Kept.upd ?_ rfl rfl rfl rfl

theorem beginMpRestart_kept {s0 : State} (second inHand : Bool) (s : State) (h : Kept s0 s) : Kept s0 (beginMpRestart second inHand s) := by
  unfold beginMpRestart
  try lift_lets
  repeat' with_reducible first
    | assumption
    | apply dataLost_kept
    | apply dropActivation_kept
    | apply busyAll_kept
    | apply dropLong_kept
    | apply addShadow_kept
    | apply Kept.ite
    | (intro s; have hs : Kept s0 s := ?_; clear_value s; rotate_left; subst s)
    | (intro x; subst x)
    | (split <;> (try lift_lets))
    | refine Kept.upd ?_ rfl rfl rfl rfl

theorem startSchedule_kept {s0 : State} (s : State) (h : Kept s0 s) : Kept s0 (startSchedule s) := by
  unfold startSchedule
  try lift_lets
  repeat' with_reducible first
    | assumption
    | apply record_kept
    | apply Kept.ite
    | (intro s; have hs : Kept s0 s := ?_; clear_value s; rotate_left; subst s)
    | (intro x; subst x)
    | (split <;> (try lift_lets))
    | refine Kept.upd ?_ rfl rfl rfl rfl

theorem checkLen_kept {s0 : State} (s : State) (h : Kept s0 s) : Kept s0 (checkLen s) := by
  unfold checkLen
  try lift_lets
  repeat' with_reducible first
    | assumption
    | apply record_kept
    | apply Kept.ite
    | (intro s; have hs : Kept s0 s := ?_; clear_value s; rotate_left; subst s)
    | (intro x; subst x)
    | (split <;> (try lift_lets))
    | refine Kept.upd ?_ rfl rfl rfl rfl

theorem takePendingDepth_kept {s0 : State} (s : State) (h : Kept s0 s) : Kept s0 (takePendingDepth s) := by
  unfold takePendingDepth
  try lift_lets
  repeat' with_reducible first
    | assumption
    | apply checkLen_kept
    | apply readdress_kept
    | apply record_kept
    | apply Kept.ite
    | (intro s; have hs : Kept s0 s := ?_; clear_value s; rotate_left; subst s)
    | (intro x; subst x)
    | (split <;> (try lift_lets))
    | refine Kept.upd ?_ rfl rfl rfl rfl

theorem stopSchedule_kept {s0 : State} (s : State) (h : Kept s0 s) : Kept s0 (stopSchedule s) := by
  unfold stopSchedule
  try lift_lets
  repeat' with_reducible first
    | assumption
    | apply cvuAbandon_kept
    | apply takeSlTrim_kept
    | apply takePendingDepth_kept
    | apply drawersStop_kept
    | apply Kept.ite
    | (intro s; have hs : Kept s0 s := ?_; clear_value s; rotate_left; subst s)
    | (intro x; subst x)
    | (split <;> (try lift_lets))
    | refine Kept.upd ?_ rfl rfl rfl rfl

theorem withholdCurrent_kept {s0 : State} (s : State) (h : Kept s0 s) : Kept s0 (withholdCurrent s) := by
  unfold withholdCurrent
  repeat' with_reducible first
    | assumption
    | apply checked_kept
    | apply KeptAnswer.ok
    | apply Kept.ite
    | apply KeptAnswer.ite
    | split
    | refine Kept.upd ?_ rfl rfl rfl rfl

theorem addWithhold_kept {s0 : State} (s : State) (h : Kept s0 s) : Kept s0 (addWithhold s) := by
  unfold addWithhold
  try lift_lets
  repeat' with_reducible first
    | assumption
    | apply Kept.ite
    | (intro s; have hs : Kept s0 s := ?_; clear_value s; rotate_left; subst s)
    | (intro x; subst x)
    | (split <;> (try lift_lets))
    | refine Kept.upd ?_ rfl rfl rfl rfl

theorem switchOff_kept {s0 : State} (slots : List Nat) (s : State) (h : Kept s0 s) : Kept s0 (switchOff slots s) := by
  unfold switchOff
  try lift_lets
  repeat' with_reducible first
    | assumption
    | apply Kept.ite
    | (intro s; have hs : Kept s0 s := ?_; clear_value s; rotate_left; subst s)
    | (intro x; subst x)
    | (split <;> (try lift_lets))
    | refine Kept.upd ?_ rfl rfl rfl rfl

theorem recordFault_kept {s0 : State} (src kind reaction data : Nat) (forced : Bool) (s : State) (h : Kept s0 s) : Kept s0 (recordFault src kind reaction data forced s) := by
  unfold recordFault
  try lift_lets
  repeat' with_reducible first
    | assumption
    | apply record_kept
    | apply Kept.ite
    | (intro s; have hs : Kept s0 s := ?_; clear_value s; rotate_left; subst s)
    | (intro x; subst x)
    | (split <;> (try lift_lets))
    | refine Kept.upd ?_ rfl rfl rfl rfl

theorem kindHardware_kept {s0 : State} (kind cause : Nat) (s : State) (h : Kept s0 s) : Kept s0 (kindHardware kind cause s) := by
  unfold kindHardware
  try lift_lets
  repeat' with_reducible first
    | assumption
    | apply selectSettle_kept
    | apply drvLow_kept
    | apply openSwitch_kept
    | (intro s; have hs : Kept s0 s := ?_; clear_value s; rotate_left; subst s)
    | (intro x; subst x)
    | (split <;> (try lift_lets))
    | refine Kept.upd ?_ rfl rfl rfl rfl

theorem goSafe_kept {s0 : State} (kind cause : Nat) (s : State) (h : Kept s0 s) : Kept s0 (goSafe kind cause s) := by
  unfold goSafe
  try lift_lets
  repeat' with_reducible first
    | assumption
    | apply kindHardware_kept
    | apply rakeUpdate_kept
    | apply record_kept
    | apply Kept.ite
    | (intro s; have hs : Kept s0 s := ?_; clear_value s; rotate_left; subst s)
    | (intro x; subst x)
    | (split <;> (try lift_lets))
    | refine Kept.upd ?_ rfl rfl rfl rfl

theorem raiseReaction_kept {s0 : State} (r : Nat) (s : State) (h : Kept s0 s) : Kept s0 (raiseReaction r s) := by
  unfold raiseReaction
  repeat' with_reducible first
    | assumption
    | refine Kept.upd ?_ rfl rfl rfl rfl

theorem proofToSafe_kept {s0 : State} (kind cause : Nat) (s : State) (h : Kept s0 s) : Kept s0 (proofToSafe kind cause s) := by
  unfold proofToSafe
  try lift_lets
  repeat' with_reducible first
    | assumption
    | apply kindHardware_kept
    | apply startSchedule_kept
    | apply rakeUpdate_kept
    | (intro s; have hs : Kept s0 s := ?_; clear_value s; rotate_left; subst s)
    | (intro x; subst x)
    | refine Kept.upd ?_ rfl rfl rfl rfl

theorem withholdBy_kept {s0 : State} (src data : Nat) (s : State) (h : Kept s0 s) : Kept s0 (withholdBy src data s) := by
  unfold withholdBy
  repeat' with_reducible first
    | assumption
    | apply cvuAbandon_kept
    | apply withholdCurrent_kept
    | apply addWithhold_kept
    | apply Kept.ite
    | split
    | refine Kept.upd ?_ rfl rfl rfl rfl

theorem react_kept {s0 : State} (src data r : Nat) (s : State) (h : Kept s0 s) : Kept s0 (react src data r s) := by
  unfold react
  try lift_lets
  repeat' with_reducible first
    | assumption
    | apply switchOff_kept
    | apply withholdBy_kept
    | apply raiseReaction_kept
    | apply goSafe_kept
    | apply proofToSafe_kept
    | apply kindHardware_kept
    | apply openSwitch_kept
    | apply Kept.ite
    | (intro s; have hs : Kept s0 s := ?_; clear_value s; rotate_left; subst s)
    | (intro x; subst x)
    | (split <;> (try lift_lets))
    | refine Kept.upd ?_ rfl rfl rfl rfl

theorem reinitialise_kept {s0 : State} (s : State) (h : Kept s0 s) : Kept s0 (reinitialise s) := by
  unfold reinitialise
  try lift_lets
  repeat' with_reducible first
    | assumption
    | apply addShadow_kept
    | apply cvuAbandon_kept
    | apply withholdCurrent_kept
    | (intro s; have hs : Kept s0 s := ?_; clear_value s; rotate_left; subst s)
    | (intro x; subst x)
    | refine Kept.upd ?_ rfl rfl rfl rfl

theorem beginModuleReset_kept {s0 : State} (s : State) (h : Kept s0 s) : Kept s0 (beginModuleReset s) := by
  unfold beginModuleReset
  try lift_lets
  repeat' with_reducible first
    | assumption
    | apply addShadow_kept
    | apply Kept.ite
    | (intro s; have hs : Kept s0 s := ?_; clear_value s; rotate_left; subst s)
    | (intro x; subst x)
    | (split <;> (try lift_lets))
    | refine Kept.upd ?_ rfl rfl rfl rfl

theorem phyOff_kept {s0 : State} (s : State) (h : Kept s0 s) : Kept s0 (phyOff s) := by
  unfold phyOff
  repeat' with_reducible first
    | assumption
    | refine Kept.upd ?_ rfl rfl rfl rfl

theorem enterBrownout_kept {s0 : State} (before : Nat) (s : State) (h : Kept s0 s) : Kept s0 (enterBrownout before s) := by
  unfold enterBrownout
  try lift_lets
  repeat' with_reducible first
    | assumption
    | apply openSwitch_kept
    | apply drvLow_kept
    | apply phyOff_kept
    | apply loseAllSessions_kept
    | apply stopSchedule_kept
    | apply dropLong_kept
    | apply interruptRun_kept
    | apply addShadow_kept
    | apply rakeUpdate_kept
    | apply Kept.ite
    | (intro s; have hs : Kept s0 s := ?_; clear_value s; rotate_left; subst s)
    | (intro x; subst x)
    | (split <;> (try lift_lets))
    | refine Kept.upd ?_ rfl rfl rfl rfl

theorem blockAction_kept {s0 : State} (src data before : Nat) (s : State) (h : Kept s0 s) : Kept s0 (blockAction src data before s) := by
  unfold blockAction
  repeat' with_reducible first
    | assumption
    | apply beginModuleReset_kept
    | apply beginMpRestart_kept
    | apply reinitialise_kept
    | apply enterBrownout_kept
    | apply Kept.ite
    | split
    | refine Kept.upd ?_ rfl rfl rfl rfl

theorem settleFails_kept {s0 : State} (s : State) (h : Kept s0 s) : Kept s0 (settleFails s) := by
  unfold settleFails
  try lift_lets
  repeat' with_reducible first
    | assumption
    | apply raiseReaction_kept
    | apply goSafe_kept
    | apply Kept.ite
    | (intro s; have hs : Kept s0 s := ?_; clear_value s; rotate_left; subst s)
    | (intro x; subst x)
    | (split <;> (try lift_lets))
    | refine Kept.upd ?_ rfl rfl rfl rfl

theorem deliverShadowed_kept {s0 : State} (src data : Nat) (forced : Bool) (s : State) (h : Kept s0 s) : Kept s0 (deliverShadowed src data forced s) := by
  unfold deliverShadowed
  try lift_lets
  repeat' with_reducible first
    | assumption
    | apply recordFault_kept
    | apply Kept.ite
    | (intro s; have hs : Kept s0 s := ?_; clear_value s; rotate_left; subst s)
    | (intro x; subst x)
    | (split <;> (try lift_lets))
    | refine Kept.upd ?_ rfl rfl rfl rfl

theorem deliver_kept {s0 : State} (src data : Nat) (forced act : Bool) (s : State) (h : Kept s0 s) : Kept s0 (deliver src data forced act s) := by
  unfold deliver
  try lift_lets
  repeat' with_reducible first
    | assumption
    | apply deliverShadowed_kept
    | apply recordFault_kept
    | apply react_kept
    | apply settleFails_kept
    | apply interruptRun_kept
    | apply blockAction_kept
    | apply Kept.ite
    | (intro s; have hs : Kept s0 s := ?_; clear_value s; rotate_left; subst s)
    | (intro x; subst x)
    | (split <;> (try lift_lets))
    | refine Kept.upd ?_ rfl rfl rfl rfl

theorem assertSource_kept {s0 : State} (src data : Nat) (forced : Bool) (s : State) (h : Kept s0 s) : Kept s0 (assertSource src data forced s) := by
  unfold assertSource
  try lift_lets
  repeat' with_reducible first
    | assumption
    | apply deliver_kept
    | apply Kept.ite
    | (intro s; have hs : Kept s0 s := ?_; clear_value s; rotate_left; subst s)
    | (intro x; subst x)
    | (split <;> (try lift_lets))
    | refine Kept.upd ?_ rfl rfl rfl rfl

theorem restoreBeam_kept {s0 : State} (s : State) (h : Kept s0 s) : Kept s0 (restoreBeam s) := by
  unfold restoreBeam
  try lift_lets
  repeat' with_reducible first
    | assumption
    | apply closeSwitch_kept
    | apply selectSettle_kept
    | apply Kept.ite
    | (intro s; have hs : Kept s0 s := ?_; clear_value s; rotate_left; subst s)
    | (intro x; subst x)
    | (split <;> (try lift_lets))
    | refine Kept.upd ?_ rfl rfl rfl rfl

theorem releaseHold_kept {s0 : State} (s : State) (h : Kept s0 s) : Kept s0 (releaseHold s) := by
  unfold releaseHold
  try lift_lets
  repeat' with_reducible first
    | assumption
    | apply closeSwitch_kept
    | apply restoreBeam_kept
    | apply Kept.ite
    | (intro s; have hs : Kept s0 s := ?_; clear_value s; rotate_left; subst s)
    | (intro x; subst x)
    | (split <;> (try lift_lets))
    | refine Kept.upd ?_ rfl rfl rfl rfl

theorem levelEnded_kept {s0 : State} (src : Nat) (forced : Bool) (s : State) (h : Kept s0 s) : Kept s0 (levelEnded src forced s) := by
  unfold levelEnded
  try lift_lets
  repeat' with_reducible first
    | assumption
    | apply recordFault_kept
    | apply releaseHold_kept
    | apply Kept.ite
    | (intro s; have hs : Kept s0 s := ?_; clear_value s; rotate_left; subst s)
    | (intro x; subst x)
    | (split <;> (try lift_lets))
    | refine Kept.upd ?_ rfl rfl rfl rfl

theorem endSource_kept {s0 : State} (src : Nat) (s : State) (h : Kept s0 s) : Kept s0 (endSource src s) := by
  unfold endSource
  try lift_lets
  repeat' with_reducible first
    | assumption
    | apply levelEnded_kept
    | apply Kept.ite
    | (intro s; have hs : Kept s0 s := ?_; clear_value s; rotate_left; subst s)
    | (intro x; subst x)
    | (split <;> (try lift_lets))
    | refine Kept.upd ?_ rfl rfl rfl rfl

theorem endForce_kept {s0 : State} (src : Nat) (s : State) (h : Kept s0 s) : Kept s0 (endForce src s) := by
  unfold endForce
  try lift_lets
  repeat' with_reducible first
    | assumption
    | apply levelEnded_kept
    | apply Kept.ite
    | (intro s; have hs : Kept s0 s := ?_; clear_value s; rotate_left; subst s)
    | (intro x; subst x)
    | (split <;> (try lift_lets))
    | refine Kept.upd ?_ rfl rfl rfl rfl

theorem levelSource_kept {s0 : State} (src data : Nat) (on : Bool) (s : State) (h : Kept s0 s) : Kept s0 (levelSource src data on s) := by
  unfold levelSource
  repeat' with_reducible first
    | assumption
    | apply assertSource_kept
    | apply endSource_kept
    | apply Kept.ite
    | split

theorem endShadow_kept {s0 : State} (a : Action) (s : State) (h : Kept s0 s) : Kept s0 (endShadow a s) := by
  unfold endShadow
  try lift_lets
  repeat' with_reducible first
    | assumption
    | apply deliver_kept
    | apply Kept.ite
    | (intro s; have hs : Kept s0 s := ?_; clear_value s; rotate_left; subst s)
    | (intro x; subst x)
    | (intro s x hs)
    | (intro s hs)
    | refine Kept.foldl ?_ _ ?_
    | (split <;> (try lift_lets))
    | refine Kept.upd ?_ rfl rfl rfl rfl

theorem assertAnew_kept {s0 : State} (s : State) (h : Kept s0 s) : Kept s0 (assertAnew s) := by
  unfold assertAnew
  repeat' with_reducible first
    | assumption
    | apply deliver_kept
    | apply Kept.ite
    | (intro s x hs)
    | (intro s hs)
    | refine Kept.foldl ?_ _ ?_
    | split

theorem startCollector_kept {s0 : State} (s : State) (h : Kept s0 s) : Kept s0 (startCollector s) := by
  unfold startCollector
  try lift_lets
  repeat' with_reducible first
    | assumption
    | apply deliver_kept
    | apply Kept.ite
    | (intro s; have hs : Kept s0 s := ?_; clear_value s; rotate_left; subst s)
    | (intro x; subst x)
    | (intro s x hs)
    | (intro s hs)
    | refine Kept.foldl ?_ _ ?_
    | (split <;> (try lift_lets))
    | refine Kept.upd ?_ rfl rfl rfl rfl

theorem execShadowEnd_kept {s0 : State} (t : Nat) (action : Action) (s : State) (h : Kept s0 s) : KeptOut s0 (execShadowEnd t action s) := by
  unfold execShadowEnd
  try lift_lets
  repeat' with_reducible first
    | assumption
    | apply advance_kept
    | apply endShadow_kept
    | apply KeptOut.next
    | apply Kept.ite
    | apply KeptOut.ite
    | (intro s; have hs : Kept s0 s := ?_; clear_value s; rotate_left; subst s)
    | (intro x; subst x)
    | (split <;> (try lift_lets))

theorem execRearm_kept {s0 : State} (t : Nat) (s : State) (h : Kept s0 s) : KeptOut s0 (execRearm t s) := by
  unfold execRearm
  try lift_lets
  repeat' with_reducible first
    | assumption
    | apply advance_kept
    | apply releaseHold_kept
    | apply KeptOut.next
    | apply Kept.ite
    | apply KeptOut.ite
    | (intro s; have hs : Kept s0 s := ?_; clear_value s; rotate_left; subst s)
    | (intro x; subst x)
    | (split <;> (try lift_lets))
    | refine Kept.upd ?_ rfl rfl rfl rfl

theorem execMpWatchdogService_kept {s0 : State} (t : Nat) (s : State) (h : Kept s0 s) : KeptOut s0 (execMpWatchdogService t s) := by
  unfold execMpWatchdogService
  try lift_lets
  repeat' with_reducible first
    | assumption
    | apply advance_kept
    | apply KeptOut.next
    | apply Kept.ite
    | apply KeptOut.ite
    | (intro s; have hs : Kept s0 s := ?_; clear_value s; rotate_left; subst s)
    | (intro x; subst x)
    | (split <;> (try lift_lets))
    | refine Kept.upd ?_ rfl rfl rfl rfl

theorem execMpWatchdogExpiry_kept {s0 : State} (t : Nat) (inHand : Bool) (s : State) (h : Kept s0 s) : KeptOut s0 (execMpWatchdogExpiry t inHand s) := by
  unfold execMpWatchdogExpiry
  try lift_lets
  repeat' with_reducible first
    | assumption
    | apply advance_kept
    | apply assertSource_kept
    | apply dataLost_kept
    | apply KeptOut.next
    | apply Kept.ite
    | apply KeptOut.ite
    | (intro s; have hs : Kept s0 s := ?_; clear_value s; rotate_left; subst s)
    | (intro x; subst x)
    | (split <;> (try lift_lets))

theorem execMpRestartEnd_kept {s0 : State} (t : Nat) (s : State) (h : Kept s0 s) : KeptOut s0 (execMpRestartEnd t s) := by
  unfold execMpRestartEnd
  try lift_lets
  repeat' with_reducible first
    | assumption
    | apply advance_kept
    | apply KeptOut.next
    | apply Kept.ite
    | apply KeptOut.ite
    | (intro s; have hs : Kept s0 s := ?_; clear_value s; rotate_left; subst s)
    | (intro x; subst x)
    | (split <;> (try lift_lets))
    | refine Kept.upd ?_ rfl rfl rfl rfl

theorem execMpRestartOverrun_kept {s0 : State} (t : Nat) (s : State) (h : Kept s0 s) : KeptOut s0 (execMpRestartOverrun t s) := by
  unfold execMpRestartOverrun
  try lift_lets
  repeat' with_reducible first
    | assumption
    | apply advance_kept
    | apply assertSource_kept
    | apply KeptOut.next
    | apply Kept.ite
    | apply KeptOut.ite
    | (intro s; have hs : Kept s0 s := ?_; clear_value s; rotate_left; subst s)
    | (intro x; subst x)
    | (split <;> (try lift_lets))
    | refine Kept.upd ?_ rfl rfl rfl rfl

theorem execClockMon_kept {s0 : State} (t clock : Nat) (s : State) (h : Kept s0 s) : KeptOut s0 (execClockMon t clock s) := by
  unfold execClockMon
  repeat' with_reducible first
    | assumption
    | apply assertSource_kept
    | apply advance_kept
    | exact KeptOut.fault
    | apply KeptOut.next
    | apply Kept.ite
    | apply KeptOut.ite
    | split

theorem moveRunning_kept {s0 : State} (d : Int) (s : State) (h : Kept s0 s) : Kept s0 (moveRunning d s) := by
  unfold moveRunning
  repeat' with_reducible first
    | assumption
    | refine Kept.upd ?_ rfl rfl rfl rfl

theorem execTscStep_kept {s0 : State} (t : Nat) (offset : Int) (s : State) (h : Kept s0 s) : KeptOut s0 (execTscStep t offset s) := by
  unfold execTscStep
  try lift_lets
  repeat' with_reducible first
    | assumption
    | apply advance_kept
    | apply recordAt_kept
    | apply moveRunning_kept
    | apply record_kept
    | apply KeptOut.next
    | apply Kept.ite
    | apply KeptOut.ite
    | (intro s; have hs : Kept s0 s := ?_; clear_value s; rotate_left; subst s)
    | (intro x; subst x)
    | (split <;> (try lift_lets))
    | refine Kept.upd ?_ rfl rfl rfl rfl

theorem execTscJump_kept {s0 : State} (t : Nat) (s : State) (h : Kept s0 s) : KeptOut s0 (execTscJump t s) := by
  unfold execTscJump
  try lift_lets
  repeat' with_reducible first
    | assumption
    | apply advance_kept
    | apply assertSource_kept
    | apply KeptOut.next
    | apply Kept.ite
    | apply KeptOut.ite
    | (intro s; have hs : Kept s0 s := ?_; clear_value s; rotate_left; subst s)
    | (intro x; subst x)
    | (split <;> (try lift_lets))

theorem gptpSend_kept {s0 : State} (bytes : Nat) (g : GptpOut) (s : State) (h : Kept s0 s) : Kept s0 (gptpSend bytes g s) := by
  unfold gptpSend
  repeat' with_reducible first
    | assumption
    | apply Kept.ite
    | split
    | refine Kept.upd ?_ rfl rfl rfl rfl

theorem followOffset_kept {s0 : State} (s : State) (h : Kept s0 s) : Kept s0 (followOffset s) := by
  unfold followOffset
  repeat' with_reducible first
    | assumption
    | apply endSource_kept
    | apply Kept.ite
    | split
    | refine Kept.upd ?_ rfl rfl rfl rfl

theorem selectMaster_kept {s0 : State} (s : State) (h : Kept s0 s) : Kept s0 (selectMaster s) := by
  unfold selectMaster
  try lift_lets
  repeat' with_reducible first
    | assumption
    | apply followOffset_kept
    | apply assertSource_kept
    | apply Kept.ite
    | (intro s; have hs : Kept s0 s := ?_; clear_value s; rotate_left; subst s)
    | (intro x; subst x)
    | (split <;> (try lift_lets))
    | refine Kept.upd ?_ rfl rfl rfl rfl

theorem relaySync_kept {s0 : State} (port : Port) (correction rate : Int) (residence : Nat) (s : State) (h : Kept s0 s) : Kept s0 (relaySync port correction rate residence s) := by
  unfold relaySync
  try lift_lets
  repeat' with_reducible first
    | assumption
    | apply gptpSend_kept
    | apply Kept.ite
    | (intro s; have hs : Kept s0 s := ?_; clear_value s; rotate_left; subst s)
    | (intro x; subst x)
    | (split <;> (try lift_lets))

theorem trim_setAnnounce (p : Port) (x : Option Announced) (b : TimeBase) : (setAnnounce p x b).trim = b.trim := by cases p <;> rfl

theorem takeAnnounce_kept {s0 : State} (port : Port) (x : Announced) (s : State) (h : Kept s0 s) : Kept s0 (takeAnnounce port x s) := by
  have h1 : Kept s0 { s with time := setAnnounce port (some x) s.time } := Kept.upd h rfl rfl rfl (trim_setAnnounce _ _ _)
  unfold takeAnnounce
  extract_lets s1 s2
  refine Kept.ite h ?_
  have h2 : Kept s0 s2 := Kept.ite (gptpSend_kept _ _ _ h1) h1
  exact Kept.ite (selectMaster_kept _ h2) h2

theorem execSyncReceiptTimeout_kept {s0 : State} (t : Nat) (s : State) (h : Kept s0 s) : KeptOut s0 (execSyncReceiptTimeout t s) := by
  unfold execSyncReceiptTimeout
  try lift_lets
  repeat' with_reducible first
    | assumption
    | apply advance_kept
    | apply assertSource_kept
    | apply KeptOut.next
    | apply Kept.ite
    | apply KeptOut.ite
    | (intro s; have hs : Kept s0 s := ?_; clear_value s; rotate_left; subst s)
    | (intro x; subst x)
    | (split <;> (try lift_lets))
    | refine Kept.upd ?_ rfl rfl rfl rfl

theorem execPdelayRequest_kept {s0 : State} (t : Nat) (port : Port) (s : State) (h : Kept s0 s) : KeptOut s0 (execPdelayRequest t port s) := by
  unfold execPdelayRequest
  try lift_lets
  repeat' with_reducible first
    | assumption
    | apply advance_kept
    | apply gptpSend_kept
    | apply KeptOut.next
    | apply Kept.ite
    | apply KeptOut.ite
    | (intro s; have hs : Kept s0 s := ?_; clear_value s; rotate_left; subst s)
    | (intro x; subst x)
    | (split <;> (try lift_lets))
    | refine Kept.upd ?_ rfl rfl rfl rfl

theorem execAnnounceReceiptTimeout_kept {s0 : State} (t : Nat) (port : Port) (s : State) (h : Kept s0 s) :
    KeptOut s0 (execAnnounceReceiptTimeout t port s) := by
  have h1 := advance_kept t s h
  have h2 : Kept s0 { advance t s with time := setAnnounce port none (advance t s).time } := Kept.upd h1 rfl rfl rfl (trim_setAnnounce _ _ _)
  unfold execAnnounceReceiptTimeout
  exact KeptOut.ite (KeptOut.next (Kept.ite (selectMaster_kept _ h2) h2)) (KeptOut.next h1)

theorem execLinkUp_kept {s0 : State} (t : Nat) (port : Port) (mode : LinkMode) (s : State) (h : Kept s0 s) : KeptOut s0 (execLinkUp t port mode s) := by
  unfold execLinkUp
  try lift_lets
  repeat' with_reducible first
    | assumption
    | apply advance_kept
    | apply endSource_kept
    | exact KeptOut.fault
    | apply KeptOut.next
    | apply Kept.ite
    | apply KeptOut.ite
    | (intro s; have hs : Kept s0 s := ?_; clear_value s; rotate_left; subst s)
    | (intro x; subst x)
    | (split <;> (try lift_lets))
    | refine Kept.upd ?_ rfl rfl rfl rfl

theorem execLinkDownTimeout_kept {s0 : State} (t : Nat) (port : Port) (s : State) (h : Kept s0 s) : KeptOut s0 (execLinkDownTimeout t port s) := by
  unfold execLinkDownTimeout
  try lift_lets
  repeat' with_reducible first
    | assumption
    | apply advance_kept
    | apply assertSource_kept
    | exact KeptOut.fault
    | apply KeptOut.next
    | apply Kept.ite
    | apply KeptOut.ite
    | (intro s; have hs : Kept s0 s := ?_; clear_value s; rotate_left; subst s)
    | (intro x; subst x)
    | (split <;> (try lift_lets))
    | refine Kept.upd ?_ rfl rfl rfl rfl

theorem forwardFrame_kept {s0 : State} (f : EthFrame) (s : State) (h : Kept s0 s) : Kept s0 (forwardFrame f s) := by
  unfold forwardFrame
  try lift_lets
  repeat' with_reducible first
    | assumption
    | apply Kept.ite
    | (intro s; have hs : Kept s0 s := ?_; clear_value s; rotate_left; subst s)
    | (intro x; subst x)
    | (split <;> (try lift_lets))
    | refine Kept.upd ?_ rfl rfl rfl rfl

theorem deliverFrame_kept {s0 : State} (f : EthFrame) (s : State) (h : Kept s0 s) : Kept s0 (deliverFrame f s) := by
  unfold deliverFrame
  repeat' with_reducible first
    | assumption
    | apply Kept.ite
    | split
    | refine Kept.upd ?_ rfl rfl rfl rfl

theorem execEthernetFrame_kept {s0 : State} (t : Nat) (f : EthFrame) (s : State) (h : Kept s0 s) : KeptOut s0 (execEthernetFrame t f s) := by
  unfold execEthernetFrame
  try lift_lets
  repeat' with_reducible first
    | assumption
    | apply advance_kept
    | apply forwardFrame_kept
    | apply deliverFrame_kept
    | exact KeptOut.fault
    | apply KeptOut.next
    | apply Kept.ite
    | apply KeptOut.ite
    | (intro s; have hs : Kept s0 s := ?_; clear_value s; rotate_left; subst s)
    | (intro x; subst x)
    | (split <;> (try lift_lets))
    | refine Kept.upd ?_ rfl rfl rfl rfl

theorem execArpRequest_kept {s0 : State} (t : Nat) (port : Port) (target : Nat) (s : State) (h : Kept s0 s) : KeptOut s0 (execArpRequest t port target s) := by
  unfold execArpRequest
  try lift_lets
  repeat' with_reducible first
    | assumption
    | apply advance_kept
    | exact KeptOut.fault
    | apply KeptOut.next
    | apply Kept.ite
    | apply KeptOut.ite
    | (intro s; have hs : Kept s0 s := ?_; clear_value s; rotate_left; subst s)
    | (intro x; subst x)
    | (split <;> (try lift_lets))
    | refine Kept.upd ?_ rfl rfl rfl rfl

theorem execHostSilent_kept {s0 : State} (t : Nat) (s : State) (h : Kept s0 s) : KeptOut s0 (execHostSilent t s) := by
  unfold execHostSilent
  try lift_lets
  repeat' with_reducible first
    | assumption
    | apply advance_kept
    | apply assertSource_kept
    | apply KeptOut.next
    | apply Kept.ite
    | apply KeptOut.ite
    | (intro s; have hs : Kept s0 s := ?_; clear_value s; rotate_left; subst s)
    | (intro x; subst x)
    | (split <;> (try lift_lets))

theorem execCanFrame_kept {s0 : State} (t : Nat) (f : CanFrame) (s : State) (h : Kept s0 s) : KeptOut s0 (execCanFrame t f s) := by
  unfold execCanFrame
  try lift_lets
  repeat' with_reducible first
    | assumption
    | apply advance_kept
    | exact KeptOut.fault
    | apply KeptOut.next
    | apply Kept.ite
    | apply KeptOut.ite
    | (intro s; have hs : Kept s0 s := ?_; clear_value s; rotate_left; subst s)
    | (intro x; subst x)
    | (split <;> (try lift_lets))
    | refine Kept.upd ?_ rfl rfl rfl rfl

theorem execIsotpTimeout_kept {s0 : State} (t : Nat) (s : State) (h : Kept s0 s) : KeptOut s0 (execIsotpTimeout t s) := by
  unfold execIsotpTimeout
  try lift_lets
  repeat' with_reducible first
    | assumption
    | apply advance_kept
    | apply KeptOut.next
    | (intro s; have hs : Kept s0 s := ?_; clear_value s; rotate_left; subst s)
    | (intro x; subst x)
    | refine Kept.upd ?_ rfl rfl rfl rfl

theorem execCanBusOff_kept {s0 : State} (t : Nat) (st : CanErr) (s : State) (h : Kept s0 s) : KeptOut s0 (execCanBusOff t st s) := by
  unfold execCanBusOff
  try lift_lets
  repeat' with_reducible first
    | assumption
    | apply advance_kept
    | apply KeptOut.next
    | apply Kept.ite
    | apply KeptOut.ite
    | (intro s; have hs : Kept s0 s := ?_; clear_value s; rotate_left; subst s)
    | (intro x; subst x)
    | (split <;> (try lift_lets))
    | refine Kept.upd ?_ rfl rfl rfl rfl

theorem dequeue_kept {s0 : State} (m : Msg) (s : State) (h : Kept s0 s) : Kept s0 (dequeue m s) := by
  unfold dequeue
  repeat' with_reducible first
    | assumption
    | apply updSession_kept
    | apply Kept.ite
    | split
    | refine Kept.upd ?_ rfl rfl rfl rfl

theorem checked_kept {s0 : State} (cs : List Check) (work : Answer) (h : KeptAnswer s0 work) : KeptAnswer s0 (checked cs work) := by
  unfold checked
  split
  · trivial
  · exact h

theorem crcGuard_kept {s0 : State} (value expected : Nat) (work : State → Answer) (s : State) (h : Kept s0 s)
    (hw : ∀ s, Kept s0 s → KeptAnswer s0 (work s)) : KeptAnswer s0 (crcGuard value expected work s) := by
  unfold crcGuard
  have g := cvuJob_kept 3 value (some expected) s h
  split
  · exact hw _ g
  · exact g

theorem answered_kept {s0 : State} (m : Msg) (status detail : Nat) (data : List Byte) (s : State) (h : Kept s0 s) : Kept s0 (answered m status detail data s) := by
  unfold answered
  repeat' with_reducible first
    | assumption
    | apply freshEnd_kept
    | apply noteServed_kept
    | apply replyTo_kept

theorem serveUnknowns_kept {s0 : State} : ∀ (n : Nat) (s : State), Kept s0 s → Kept s0 (serveUnknowns n s)
  | 0, _, h => h
  | n + 1, s, h => by
    unfold serveUnknowns
    split
    · split
      · exact serveUnknowns_kept n _ (answered_kept _ _ _ _ _ (dequeue_kept _ _ h))
      · exact h
    · exact h

theorem serveUnknown_kept {s0 : State} (s : State) (h : Kept s0 s) : Kept s0 (serveUnknown s) := serveUnknowns_kept _ _ h

theorem serveThen_kept {s0 : State} (t : Nat) (r : Row) (absent : State → Bool) (m : Msg) (body : State → Answer) (after : State → State)
    (s : State) (h : Kept s0 s) (hb : ∀ s, Kept s0 s → KeptAnswer s0 (body s)) (ha : ∀ s, Kept s0 s → Kept s0 (after s)) :
    KeptOut s0 (serveThen t r absent m body after s) := by
  unfold serveThen
  have h1 := serveUnknown_kept _ (advance_kept t s h)
  have h2 := dequeue_kept m _ h1
  dsimp only
  split
  · exact h1
  · split
    · exact serveUnknown_kept _ (answered_kept _ _ _ _ _ h2)
    · have g := hb _ h2
      split
      · next e => rw [e] at g; exact serveUnknown_kept _ (ha _ (answered_kept _ _ _ _ _ g))
      · exact serveUnknown_kept _ (answered_kept _ _ _ _ _ h2)
      · next e => rw [e] at g; exact serveUnknown_kept _ (answered_kept _ _ _ _ _ g)

theorem serve_kept {s0 : State} (t : Nat) (r : Row) (absent : State → Bool) (m : Msg) (body : State → Answer) (s : State)
    (h : Kept s0 s) (hb : ∀ s, Kept s0 s → KeptAnswer s0 (body s)) : KeptOut s0 (serve t r absent m body s) :=
  serveThen_kept t r absent m body id s h hb fun _ g => g

theorem startLong_kept {s0 : State} (m : Msg) (s : State) (h : Kept s0 s) : Kept s0 (startLong m s) := by
  unfold startLong
  repeat' with_reducible first
    | assumption
    | refine Kept.upd ?_ rfl rfl rfl rfl

theorem execCaps_kept {s0 : State} (t : Nat) (m : Msg) (s : State) (h : Kept s0 s) : KeptOut s0 (execCaps t m s) := by
  unfold execCaps
  repeat' with_reducible first
    | assumption
    | apply serve_kept
    | apply KeptOut.next
    | apply KeptAnswer.ok
    | (intro s hs)

theorem execPing_kept {s0 : State} (t : Nat) (m : Msg) (s : State) (h : Kept s0 s) : KeptOut s0 (execPing t m s) := by
  unfold execPing
  repeat' with_reducible first
    | assumption
    | apply serve_kept
    | apply KeptOut.next
    | apply KeptAnswer.ok
    | (intro s hs)

theorem execResetMpOnly_kept {s0 : State} (t : Nat) (m : Msg) (s : State) (h : Kept s0 s) : KeptOut s0 (execResetMpOnly t m s) := by
  unfold execResetMpOnly
  repeat' with_reducible first
    | assumption
    | apply serveThen_kept
    | apply checked_kept
    | apply beginMpRestart_kept
    | apply KeptOut.next
    | apply KeptAnswer.ok
    | (intro s hs)

theorem execSettingsStore_kept {s0 : State} (t : Nat) (m : Msg) (s : State) (h : Kept s0 s) : KeptOut s0 (execSettingsStore t m s) := by
  unfold execSettingsStore
  repeat' with_reducible first
    | assumption
    | apply serve_kept
    | apply checked_kept
    | apply startLong_kept
    | apply KeptOut.next
    | apply KeptAnswer.ok
    | (intro s hs)
    | refine Kept.upd ?_ rfl rfl rfl rfl

theorem storeOutcome_kept {s0 : State} (opcode : Nat) (erased : Bool) (work : State → State) (s : State) (h : Kept s0 s)
    (hw : ∀ s, Kept s0 s → Kept s0 (work s)) : Kept s0 (storeOutcome opcode erased work s) := by
  unfold storeOutcome
  split
  · exact h
  · split
    · exact endLong_kept _ _ _ (hw _ h)
    · split
      · exact h
      · exact endLong_kept _ _ _ h

theorem execLinkConfigWrite_kept {s0 : State} (t : Nat) (m : Msg) (s : State) (h : Kept s0 s) : KeptOut s0 (execLinkConfigWrite t m s) := by
  unfold execLinkConfigWrite
  try lift_lets
  repeat' with_reducible first
    | assumption
    | apply serve_kept
    | apply checked_kept
    | apply KeptOut.next
    | apply KeptAnswer.ok
    | (intro s; have hs : Kept s0 s := ?_; clear_value s; rotate_left; subst s)
    | (intro x; subst x)
    | (intro s hs)
    | refine Kept.upd ?_ rfl rfl rfl rfl

theorem execCanConfigWrite_kept {s0 : State} (t : Nat) (m : Msg) (s : State) (h : Kept s0 s) : KeptOut s0 (execCanConfigWrite t m s) := by
  unfold execCanConfigWrite
  try lift_lets
  repeat' with_reducible first
    | assumption
    | apply serve_kept
    | apply checked_kept
    | apply KeptOut.next
    | apply KeptAnswer.ok
    | (intro s; have hs : Kept s0 s := ?_; clear_value s; rotate_left; subst s)
    | (intro x; subst x)
    | (intro s hs)
    | refine Kept.upd ?_ rfl rfl rfl rfl

theorem execMailboxConfigWrite_kept {s0 : State} (t : Nat) (m : Msg) (s : State) (h : Kept s0 s) : KeptOut s0 (execMailboxConfigWrite t m s) := by
  unfold execMailboxConfigWrite
  try lift_lets
  repeat' with_reducible first
    | assumption
    | apply serve_kept
    | apply checked_kept
    | apply KeptOut.next
    | apply KeptAnswer.ok
    | (intro s; have hs : Kept s0 s := ?_; clear_value s; rotate_left; subst s)
    | (intro x; subst x)
    | (intro s hs)
    | refine Kept.upd ?_ rfl rfl rfl rfl

theorem enqueueDram_kept {s0 : State} (r : DramReq) (s : State) (h : Kept s0 s) : Kept s0 (enqueueDram r s) := by
  unfold enqueueDram
  try lift_lets
  repeat' with_reducible first
    | assumption
    | apply Kept.ite
    | (intro s; have hs : Kept s0 s := ?_; clear_value s; rotate_left; subst s)
    | (intro x; subst x)
    | (split <;> (try lift_lets))
    | refine Kept.upd ?_ rfl rfl rfl rfl

theorem refreshRow_kept {s0 : State} (key row : Nat) (s : State) (h : Kept s0 s) : Kept s0 (refreshRow key row s) := by
  unfold refreshRow
  try lift_lets
  repeat' with_reducible first
    | assumption
    | apply Kept.ite
    | (intro s; have hs : Kept s0 s := ?_; clear_value s; rotate_left; subst s)
    | (intro x; subst x)
    | (split <;> (try lift_lets))
    | refine Kept.upd ?_ rfl rfl rfl rfl

theorem refreshDue_kept {s0 : State} (key : Nat) (s : State) (h : Kept s0 s) : Kept s0 (refreshDue key s) := by
  unfold refreshDue
  repeat' with_reducible first
    | assumption
    | apply refreshRow_kept
    | (intro s x hs)
    | (intro s hs)
    | refine Kept.foldl ?_ _ ?_

theorem activate_kept {s0 : State} (r : DramReq) (s : State) (h : Kept s0 s) : Kept s0 (activate r s) := by
  unfold activate
  try lift_lets
  repeat' with_reducible first
    | assumption
    | apply refreshDue_kept
    | apply Kept.ite
    | (intro s; have hs : Kept s0 s := ?_; clear_value s; rotate_left; subst s)
    | (intro x; subst x)
    | (split <;> (try lift_lets))
    | refine Kept.upd ?_ rfl rfl rfl rfl

theorem dramEcc_kept {s0 : State} (ch owner : Nat) (ecc : Ecc) (s : State) (h : Kept s0 s) : Kept s0 (dramEcc ch owner ecc s) := by
  unfold dramEcc
  repeat' with_reducible first
    | assumption
    | apply assertSource_kept
    | split
    | refine Kept.upd ?_ rfl rfl rfl rfl

theorem serveDram_kept {s0 : State} (r : DramReq) (s : State) (h : Kept s0 s) : Kept s0 (serveDram r s) := by
  unfold serveDram
  try lift_lets
  repeat' with_reducible first
    | assumption
    | apply activate_kept
    | apply dramEcc_kept
    | apply Kept.ite
    | (intro s; have hs : Kept s0 s := ?_; clear_value s; rotate_left; subst s)
    | (intro x; subst x)
    | (split <;> (try lift_lets))
    | refine Kept.upd ?_ rfl rfl rfl rfl

theorem execDramRequest_kept {s0 : State} (t : Nat) (req : Option DramReq) (channel : Nat) (s : State) (h : Kept s0 s) : KeptOut s0 (execDramRequest t req channel s) := by
  unfold execDramRequest
  try lift_lets
  repeat' with_reducible first
    | assumption
    | apply advance_kept
    | apply enqueueDram_kept
    | apply serveDram_kept
    | exact KeptOut.fault
    | apply KeptOut.next
    | apply Kept.ite
    | apply KeptOut.ite
    | (intro s; have hs : Kept s0 s := ?_; clear_value s; rotate_left; subst s)
    | (intro x; subst x)
    | (split <;> (try lift_lets))
    | refine Kept.upd ?_ rfl rfl rfl rfl

theorem execDramScrub_kept {s0 : State} (t channel owner : Nat) (ecc : Ecc) (s : State) (h : Kept s0 s) : KeptOut s0 (execDramScrub t channel owner ecc s) := by
  unfold execDramScrub
  try lift_lets
  repeat' with_reducible first
    | assumption
    | apply advance_kept
    | apply dramEcc_kept
    | exact KeptOut.fault
    | apply KeptOut.next
    | apply Kept.ite
    | apply KeptOut.ite
    | (intro s; have hs : Kept s0 s := ?_; clear_value s; rotate_left; subst s)
    | (intro x; subst x)
    | (split <;> (try lift_lets))

theorem execDqsDriftCheck_kept {s0 : State} (t channel : Nat) (steps : List Int) (refresh : Nat) (s : State) (h : Kept s0 s) : KeptOut s0 (execDqsDriftCheck t channel steps refresh s) := by
  unfold execDqsDriftCheck
  try lift_lets
  repeat' with_reducible first
    | assumption
    | apply advance_kept
    | exact KeptOut.fault
    | apply KeptOut.next
    | apply Kept.ite
    | apply KeptOut.ite
    | (intro s; have hs : Kept s0 s := ?_; clear_value s; rotate_left; subst s)
    | (intro x; subst x)
    | (split <;> (try lift_lets))
    | refine Kept.upd ?_ rfl rfl rfl rfl

theorem execNeighbourRefresh_kept {s0 : State} (t channel bank row : Nat) (s : State) (h : Kept s0 s) : KeptOut s0 (execNeighbourRefresh t channel bank row s) := by
  unfold execNeighbourRefresh
  try lift_lets
  repeat' with_reducible first
    | assumption
    | apply advance_kept
    | apply refreshRow_kept
    | exact KeptOut.fault
    | apply KeptOut.next
    | apply Kept.ite
    | apply KeptOut.ite
    | (intro s; have hs : Kept s0 s := ?_; clear_value s; rotate_left; subst s)
    | (intro x; subst x)
    | (split <;> (try lift_lets))

theorem nextRefreshWindow_kept {s0 : State} (channel : Nat) (s : State) (h : Kept s0 s) : Kept s0 (nextRefreshWindow channel s) := by
  unfold nextRefreshWindow
  try lift_lets
  repeat' with_reducible first
    | assumption
    | apply Kept.ite
    | (intro s; have hs : Kept s0 s := ?_; clear_value s; rotate_left; subst s)
    | (intro x; subst x)
    | (split <;> (try lift_lets))
    | refine Kept.upd ?_ rfl rfl rfl rfl

theorem execRefreshWindowStart_kept {s0 : State} (t : Nat) (s : State) (h : Kept s0 s) : KeptOut s0 (execRefreshWindowStart t s) := by
  unfold execRefreshWindowStart
  try lift_lets
  repeat' with_reducible first
    | assumption
    | apply advance_kept
    | apply nextRefreshWindow_kept
    | apply KeptOut.next
    | apply Kept.ite
    | apply KeptOut.ite
    | (intro s; have hs : Kept s0 s := ?_; clear_value s; rotate_left; subst s)
    | (intro x; subst x)
    | (split <;> (try lift_lets))

theorem execPanSramScrub_kept {s0 : State} (t bank : Nat) (ecc : Ecc) (s : State) (h : Kept s0 s) : KeptOut s0 (execPanSramScrub t bank ecc s) := by
  unfold execPanSramScrub
  try lift_lets
  repeat' with_reducible first
    | assumption
    | apply advance_kept
    | apply assertSource_kept
    | exact KeptOut.fault
    | apply KeptOut.next
    | apply Kept.ite
    | apply KeptOut.ite
    | (intro s; have hs : Kept s0 s := ?_; clear_value s; rotate_left; subst s)
    | (intro x; subst x)
    | (split <;> (try lift_lets))
    | refine Kept.upd ?_ rfl rfl rfl rfl

end Sys2Proof.Machine
end

