-- ==== Sys2Proof/Laws/KeptFrames.lean ====
section
/-! SUPPORT. What almost every operation keeps: frames, drawers, boot, Rake, converters, Safe-Dim, the sync chain. -/

namespace Sys2Proof.Machine

set_option Elab.async false

theorem trainDram_kept {s0 : State} (ws : List (List LaneSweep)) (s : State) (h : Kept s0 s) : Kept s0 (trainDram ws s) := by
  unfold trainDram
  try lift_lets
  repeat' with_reducible first
    | assumption
    | apply levelSource_kept
    | apply Kept.ite
    | (intro s; have hs : Kept s0 s := ?_; clear_value s; rotate_left; subst s)
    | (intro x; subst x)
    | (split <;> (try lift_lets))
    | refine Kept.upd ?_ rfl rfl rfl rfl

theorem checkLoader_kept {s0 : State} (ok : Bool) (s : State) (h : Kept s0 s) : Kept s0 (checkLoader ok s) := by
  unfold checkLoader
  try lift_lets
  repeat' with_reducible first
    | assumption
    | apply record_kept
    | apply Kept.ite
    | (intro s; have hs : Kept s0 s := ?_; clear_value s; rotate_left; subst s)
    | (intro x; subst x)
    | (split <;> (try lift_lets))
    | refine Kept.upd ?_ rfl rfl rfl rfl

theorem bootSync_kept {s0 : State} (s : State) (h : Kept s0 s) : Kept s0 (bootSync s) := by
  unfold bootSync
  try lift_lets
  repeat' with_reducible first
    | assumption
    | apply Kept.ite
    | (intro s; have hs : Kept s0 s := ?_; clear_value s; rotate_left; subst s)
    | (intro x; subst x)
    | (split <;> (try lift_lets))
    | refine Kept.upd ?_ rfl rfl rfl rfl

theorem forbidFlash_kept {s0 : State} (s : State) (h : Kept s0 s) : Kept s0 (forbidFlash s) := by
  unfold forbidFlash
  repeat' with_reducible first
    | assumption
    | apply record_kept
    | apply Kept.ite
    | split
    | refine Kept.upd ?_ rfl rfl rfl rfl

theorem loadSafety_kept {s0 : State} (s : State) (h : Kept s0 s) : Kept s0 (loadSafety s).1 := by
  have b : ∀ n s, Kept s0 s → Kept s0 (loadSafety.brokenCopy n s) := fun n s h => cvuJob_kept _ _ _ _ h
  unfold loadSafety
  split
  · exact cvuJob_kept _ _ _ _ h
  · exact cvuJob_kept _ _ _ _ (b _ _ h)
  · exact b _ _ (b _ _ h)

theorem loadSettle_kept {s0 : State} (boot : BootInputs) (s : State) (h : Kept s0 s) : Kept s0 (loadSettle boot s).1 := by
  have g := loadSafety_kept s h
  unfold loadSettle
  split
  · next e =>
    rw [e] at g
    split
    · exact Kept.upd g rfl rfl rfl rfl
    · exact Kept.upd g rfl rfl rfl rfl
  · next e =>
    rw [e] at g
    exact Kept.upd g rfl rfl rfl rfl

theorem bootSteps_kept {s0 : State} (train : Bool) (lost : Nat) (boot : BootInputs) (s : State) (h : Kept s0 s) :
    Kept s0 (bootSteps train lost boot s) := by
  unfold bootSteps
  extract_lets q1 q2 q3 q4 s1 s2
  have h1 : Kept s0 s1 := Kept.upd h rfl rfl rfl rfl
  have h2 : Kept s0 s2 := Kept.ite (bootSync_kept _ h1) h1
  have h3 : Kept s0 (if train = true then loadSettle boot s2 else (s2, true)).1 := by
    split
    · exact loadSettle_kept _ _ h2
    · exact h2
  generalize (if train = true then loadSettle boot s2 else (s2, true)) = p at h3 ⊢
  obtain ⟨s3, ok⟩ := p
  dsimp only at h3 ⊢
  have h4 := startCollector_kept _ (forbidFlash_kept _ (checkLoader_kept boot.loaderOk _ h3))
  refine readdress_kept _ (rakeUpdate_kept _ (restoreBeam_kept _ ?_))
  have h5 := Kept.ite (c := lost = 0) h4 (assertSource_kept 42 lost false _ h4)
  have h6 := Kept.ite (c := train = true) (trainDram_kept boot.training _ h5) h5
  exact Kept.ite h6 (assertSource_kept _ _ _ _ h6)

theorem warmStart_kept {s0 : State} (boot : BootInputs) (s : State) (h : Kept s0 s) : Kept s0 (warmStart boot s) := by
  unfold warmStart
  try lift_lets
  repeat' with_reducible first
    | assumption
    | apply loseAllSessions_kept
    | apply stopSchedule_kept
    | apply dropLong_kept
    | apply bootDrawers_kept
    | apply bootSteps_kept
    | apply Kept.ite
    | (intro s; have hs : Kept s0 s := ?_; clear_value s; rotate_left; subst s)
    | (intro x; subst x)
    | (split <;> (try lift_lets))
    | refine Kept.upd ?_ rfl rfl rfl rfl

theorem checkSignatures_kept {s0 : State} (signatures : List Nat) (retained lost : Nat) (s : State) (h : Kept s0 s) : Kept s0 (checkSignatures signatures retained lost s) := by
  unfold checkSignatures
  try lift_lets
  repeat' with_reducible first
    | assumption
    | apply cvuJob_kept
    | apply Kept.ite
    | (intro s; have hs : Kept s0 s := ?_; clear_value s; rotate_left; subst s)
    | (intro x; subst x)
    | (intro s x hs)
    | (intro s hs)
    | refine Kept.foldl ?_ _ ?_
    | (split <;> (try lift_lets))

theorem writeControl_kept {s0 : State} (f : ControlRec → ControlRec) (s : State) (h : Kept s0 s) : Kept s0 (writeControl f s) := by
  unfold writeControl
  try lift_lets
  repeat' with_reducible first
    | assumption
    | apply cvuJob_kept
    | (intro s; have hs : Kept s0 s := ?_; clear_value s; rotate_left; subst s)
    | (intro x; subst x)
    | refine Kept.upd ?_ rfl rfl rfl rfl

theorem writeSettings_kept {s0 : State} (format : Nat) (c : Settings) (s : State) (h : Kept s0 s) : Kept s0 (writeSettings format c s) := by
  unfold writeSettings
  repeat' with_reducible first
    | assumption
    | apply cvuJob_kept
    | refine Kept.upd ?_ rfl rfl rfl rfl

theorem enterLoader_kept {s0 : State} (cause : Nat) (v : ImageVerdict) (s : State) (h : Kept s0 s) : Kept s0 (enterLoader cause v s) := by
  unfold enterLoader
  try lift_lets
  repeat' with_reducible first
    | assumption
    | apply rakeUpdate_kept
    | apply record_kept
    | apply writeControl_kept
    | apply Kept.ite
    | (intro s; have hs : Kept s0 s := ?_; clear_value s; rotate_left; subst s)
    | (intro x; subst x)
    | (split <;> (try lift_lets))
    | refine Kept.upd ?_ rfl rfl rfl rfl

theorem drawGenerations_kept {s0 : State} (draws : List Nat) (s : State) (h : Kept s0 s) : Kept s0 (drawGenerations draws s) := by
  unfold drawGenerations
  repeat' with_reducible first
    | assumption
    | apply Kept.ite
    | split
    | refine Kept.upd ?_ rfl rfl rfl rfl

theorem migrateSettings_kept {s0 : State} (s : State) (h : Kept s0 s) : Kept s0 (migrateSettings s) := by
  unfold migrateSettings
  try lift_lets
  repeat' with_reducible first
    | assumption
    | apply writeSettings_kept
    | apply record_kept
    | apply Kept.ite
    | (intro s; have hs : Kept s0 s := ?_; clear_value s; rotate_left; subst s)
    | (intro x; subst x)
    | (split <;> (try lift_lets))
    | refine Kept.upd ?_ rfl rfl rfl rfl

theorem examineSlots_kept {s0 : State} (s : State) (h : Kept s0 s) : Kept s0 (examineSlots s) := by
  unfold examineSlots
  try lift_lets
  repeat' with_reducible first
    | assumption
    | apply record_kept
    | apply Kept.ite
    | (intro s; have hs : Kept s0 s := ?_; clear_value s; rotate_left; subst s)
    | (intro x; subst x)
    | (split <;> (try lift_lets))
    | refine Kept.upd ?_ rfl rfl rfl rfl

theorem enterProof_kept {s0 : State} (draws : List Nat) (s : State) (h : Kept s0 s) : Kept s0 (enterProof draws s) := by
  unfold enterProof
  try lift_lets
  repeat' with_reducible first
    | assumption
    | apply readdress_kept
    | apply migrateSettings_kept
    | apply drawGenerations_kept
    | apply cvuJob_kept
    | apply record_kept
    | apply rakeUpdate_kept
    | apply examineSlots_kept
    | apply proofToSafe_kept
    | apply Kept.ite
    | (intro s; have hs : Kept s0 s := ?_; clear_value s; rotate_left; subst s)
    | (intro x; subst x)
    | (split <;> (try lift_lets))
    | refine Kept.upd ?_ rfl rfl rfl rfl

theorem imageCheck_kept {s0 : State} (v : ImageVerdict) (draws : List Nat) (s : State) (h : Kept s0 s) : Kept s0 (imageCheck v draws s) := by
  unfold imageCheck
  try lift_lets
  repeat' with_reducible first
    | assumption
    | apply enterLoader_kept
    | apply writeControl_kept
    | apply enterProof_kept
    | apply record_kept
    | apply Kept.ite
    | (intro s; have hs : Kept s0 s := ?_; clear_value s; rotate_left; subst s)
    | (intro x; subst x)
    | (split <;> (try lift_lets))
    | refine Kept.upd ?_ rfl rfl rfl rfl

theorem targetLight_kept {s0 : State} (s : State) (h : Kept s0 s) : Kept s0 (targetLight s) := by
  unfold targetLight
  try lift_lets
  repeat' with_reducible first
    | assumption
    | apply goSafe_kept
    | apply kindHardware_kept
    | apply openSwitch_kept
    | apply Kept.ite
    | (intro s; have hs : Kept s0 s := ?_; clear_value s; rotate_left; subst s)
    | (intro x; subst x)
    | (split <;> (try lift_lets))
    | refine Kept.upd ?_ rfl rfl rfl rfl

theorem applyTarget_kept {s0 : State} (s : State) (h : Kept s0 s) : Kept s0 (applyTarget s) := by
  unfold applyTarget
  try lift_lets
  repeat' with_reducible first
    | assumption
    | apply targetLight_kept
    | apply rakeUpdate_kept
    | apply record_kept
    | (intro s; have hs : Kept s0 s := ?_; clear_value s; rotate_left; subst s)
    | (intro x; subst x)
    | refine Kept.upd ?_ rfl rfl rfl rfl

theorem enterFull_kept {s0 : State} (s : State) (h : Kept s0 s) : Kept s0 (enterFull s) := by
  unfold enterFull
  try lift_lets
  repeat' with_reducible first
    | assumption
    | apply rakeUpdate_kept
    | apply startSchedule_kept
    | apply applyTarget_kept
    | apply assertAnew_kept
    | apply Kept.ite
    | (intro s; have hs : Kept s0 s := ?_; clear_value s; rotate_left; subst s)
    | (intro x; subst x)
    | (split <;> (try lift_lets))
    | refine Kept.upd ?_ rfl rfl rfl rfl

theorem enterLimited_kept {s0 : State} (s : State) (h : Kept s0 s) : Kept s0 (enterLimited s) := by
  unfold enterLimited
  try lift_lets
  repeat' with_reducible first
    | assumption
    | apply kindHardware_kept
    | apply rakeUpdate_kept
    | apply startSchedule_kept
    | apply raiseReaction_kept
    | apply Kept.ite
    | (intro s; have hs : Kept s0 s := ?_; clear_value s; rotate_left; subst s)
    | (intro x; subst x)
    | (split <;> (try lift_lets))
    | refine Kept.upd ?_ rfl rfl rfl rfl

theorem proofTransition_kept {s0 : State} (s : State) (h : Kept s0 s) : Kept s0 (proofTransition s) := by
  unfold proofTransition
  try lift_lets
  repeat' with_reducible first
    | assumption
    | apply enterLimited_kept
    | apply enterFull_kept
    | apply Kept.ite
    | (intro s; have hs : Kept s0 s := ?_; clear_value s; rotate_left; subst s)
    | (intro x; subst x)
    | (split <;> (try lift_lets))
    | refine Kept.upd ?_ rfl rfl rfl rfl

theorem enterIdle_kept {s0 : State} (s : State) (h : Kept s0 s) : Kept s0 (enterIdle s) := by
  unfold enterIdle
  try lift_lets
  repeat' with_reducible first
    | assumption
    | apply drvLow_kept
    | apply endSource_kept
    | apply stopSchedule_kept
    | apply record_kept
    | apply rakeUpdate_kept
    | apply targetLight_kept
    | apply Kept.ite
    | (intro s; have hs : Kept s0 s := ?_; clear_value s; rotate_left; subst s)
    | (intro x; subst x)
    | (split <;> (try lift_lets))
    | refine Kept.upd ?_ rfl rfl rfl rfl

theorem checkThresholds_kept {s0 : State} (p : Nat) (s : State) (h : Kept s0 s) : Kept s0 (checkThresholds p s) := by
  unfold checkThresholds
  try lift_lets
  repeat' with_reducible first
    | assumption
    | apply deliver_kept
    | apply assertSource_kept
    | apply Kept.ite
    | (intro s; have hs : Kept s0 s := ?_; clear_value s; rotate_left; subst s)
    | (intro x; subst x)
    | (split <;> (try lift_lets))
    | refine Kept.upd ?_ rfl rfl rfl rfl

theorem enterPixel_kept {s0 : State} (p cls link : Nat) (s : State) (h : Kept s0 s) : Kept s0 (enterPixel p cls link s) := by
  unfold enterPixel
  try lift_lets
  repeat' with_reducible first
    | assumption
    | apply checkThresholds_kept
    | apply record_kept
    | apply Kept.ite
    | (intro s; have hs : Kept s0 s := ?_; clear_value s; rotate_left; subst s)
    | (intro x; subst x)
    | (split <;> (try lift_lets))
    | refine Kept.upd ?_ rfl rfl rfl rfl

theorem makeDead_kept {s0 : State} (p : Nat) (s : State) (h : Kept s0 s) : Kept s0 (makeDead p s) := by
  unfold makeDead
  repeat' with_reducible first
    | assumption
    | apply enterPixel_kept
    | apply Kept.ite
    | split

theorem confirmPair_kept {s0 : State} (p q : Nat) (s : State) (h : Kept s0 s) : Kept s0 (confirmPair p q s) := by
  unfold confirmPair
  try lift_lets
  repeat' with_reducible first
    | assumption
    | apply makeDead_kept
    | apply record_kept
    | apply enterPixel_kept
    | apply Kept.ite
    | (intro s; have hs : Kept s0 s := ?_; clear_value s; rotate_left; subst s)
    | (intro x; subst x)
    | (intro s x hs)
    | (intro s hs)
    | refine Kept.foldl ?_ _ ?_
    | (split <;> (try lift_lets))
    | refine Kept.upd ?_ rfl rfl rfl rfl

theorem addCand_kept {s0 : State} (c : Cand) (s : State) (h : Kept s0 s) : Kept s0 (addCand c s) := by
  unfold addCand
  try lift_lets
  repeat' with_reducible first
    | assumption
    | apply record_kept
    | apply Kept.ite
    | (intro s; have hs : Kept s0 s := ?_; clear_value s; rotate_left; subst s)
    | (intro x; subst x)
    | (split <;> (try lift_lets))
    | refine Kept.upd ?_ rfl rfl rfl rfl

theorem dropCand_kept {s0 : State} (c : Cand) (s : State) (h : Kept s0 s) : Kept s0 (dropCand c s) := by
  unfold dropCand
  repeat' with_reducible first
    | assumption
    | refine Kept.upd ?_ rfl rfl rfl rfl

theorem pixelResult_kept {s0 : State} (p r : Nat) (s : State) (h : Kept s0 s) : Kept s0 (pixelResult p r s) := by
  unfold pixelResult
  try lift_lets
  repeat' with_reducible first
    | assumption
    | apply dropCand_kept
    | apply enterPixel_kept
    | apply addCand_kept
    | apply Kept.ite
    | (intro s; have hs : Kept s0 s := ?_; clear_value s; rotate_left; subst s)
    | (intro x; subst x)
    | (split <;> (try lift_lets))
    | refine Kept.upd ?_ rfl rfl rfl rfl

theorem pairResult_kept {s0 : State} (found : List (Nat × Nat)) (c : Cand) (row : Nat) (s : State) (h : Kept s0 s) : Kept s0 (pairResult found c row s) := by
  unfold pairResult
  try lift_lets
  repeat' with_reducible first
    | assumption
    | apply dropCand_kept
    | apply confirmPair_kept
    | apply Kept.ite
    | (intro s; have hs : Kept s0 s := ?_; clear_value s; rotate_left; subst s)
    | (intro x; subst x)
    | (split <;> (try lift_lets))
    | refine Kept.upd ?_ rfl rfl rfl rfl

theorem newPair_kept {s0 : State} (old : List Cand) (e : Nat × Nat) (s : State) (h : Kept s0 s) : Kept s0 (newPair old e s) := by
  unfold newPair
  try lift_lets
  repeat' with_reducible first
    | assumption
    | apply addCand_kept
    | apply Kept.ite
    | (intro s; have hs : Kept s0 s := ?_; clear_value s; rotate_left; subst s)
    | (intro x; subst x)
    | (split <;> (try lift_lets))

theorem windowResults_kept {s0 : State} (row : Nat) (m : Probe) (s : State) (h : Kept s0 s) : Kept s0 (windowResults row m s) := by
  unfold windowResults
  try lift_lets
  repeat' with_reducible first
    | assumption
    | apply pixelResult_kept
    | apply pairResult_kept
    | apply newPair_kept
    | apply Kept.ite
    | (intro s; have hs : Kept s0 s := ?_; clear_value s; rotate_left; subst s)
    | (intro x; subst x)
    | (intro s x hs)
    | (intro s hs)
    | refine Kept.foldl ?_ _ ?_
    | (split <;> (try lift_lets))

theorem checkCoverage_kept {s0 : State} (row e : Nat) (s : State) (h : Kept s0 s) : Kept s0 (checkCoverage row e s) := by
  unfold checkCoverage
  try lift_lets
  repeat' with_reducible first
    | assumption
    | apply record_kept
    | apply Kept.ite
    | (intro s; have hs : Kept s0 s := ?_; clear_value s; rotate_left; subst s)
    | (intro x; subst x)
    | (split <;> (try lift_lets))
    | refine Kept.upd ?_ rfl rfl rfl rfl

theorem rebuild_kept {s0 : State} (s : State) (h : Kept s0 s) : Kept s0 (rebuild s) := by
  unfold rebuild
  try lift_lets
  repeat' with_reducible first
    | assumption
    | (intro s; have hs : Kept s0 s := ?_; clear_value s; rotate_left; subst s)
    | (intro x; subst x)
    | refine Kept.upd ?_ rfl rfl rfl rfl

theorem restoreMap_kept {s0 : State} (s : State) (h : Kept s0 s) : Kept s0 (restoreMap s) := by
  unfold restoreMap
  try lift_lets
  repeat' with_reducible first
    | assumption
    | apply record_kept
    | apply rebuild_kept
    | apply checkThresholds_kept
    | apply Kept.ite
    | (intro s; have hs : Kept s0 s := ?_; clear_value s; rotate_left; subst s)
    | (intro x; subst x)
    | (intro s x hs)
    | (intro s hs)
    | refine Kept.foldl ?_ _ ?_
    | (split <;> (try lift_lets))
    | refine Kept.upd ?_ rfl rfl rfl rfl

theorem sweepPixel_kept {s0 : State} (s : State) (e : List (Sample × Bool) × Nat) (h : Kept s0 s) : Kept s0 (sweepPixel s e) := by
  unfold sweepPixel
  repeat' with_reducible first
    | assumption
    | split
    | refine Kept.upd ?_ rfl rfl rfl rfl

theorem sweepDone_kept {s0 : State} (s : State) (h : Kept s0 s) : Kept s0 (sweepDone s) := by
  unfold sweepDone
  try lift_lets
  repeat' with_reducible first
    | assumption
    | apply rebuild_kept
    | apply record_kept
    | (intro s; have hs : Kept s0 s := ?_; clear_value s; rotate_left; subst s)
    | (intro x; subst x)
    | refine Kept.upd ?_ rfl rfl rfl rfl

theorem advanceCursor_kept {s0 : State} (s : State) (h : Kept s0 s) : Kept s0 (advanceCursor s) := by
  unfold advanceCursor
  repeat' with_reducible first
    | assumption
    | apply sweepDone_kept
    | apply Kept.ite
    | split
    | refine Kept.upd ?_ rfl rfl rfl rfl

theorem refNotReady_kept {s0 : State} (s : State) (h : Kept s0 s) : Kept s0 (refNotReady s) := by
  unfold refNotReady
  try lift_lets
  repeat' with_reducible first
    | assumption
    | apply record_kept
    | apply Kept.ite
    | (intro s; have hs : Kept s0 s := ?_; clear_value s; rotate_left; subst s)
    | (intro x; subst x)
    | (split <;> (try lift_lets))
    | refine Kept.upd ?_ rfl rfl rfl rfl

theorem sweepSamples_kept {s0 : State} (w : RakeWindow) (samples : List Sample) (s : State) (h : Kept s0 s) : Kept s0 (sweepSamples w samples s) := by
  unfold sweepSamples
  try lift_lets
  repeat' with_reducible first
    | assumption
    | apply sweepPixel_kept
    | apply advanceCursor_kept
    | apply Kept.ite
    | (intro s; have hs : Kept s0 s := ?_; clear_value s; rotate_left; subst s)
    | (intro x; subst x)
    | (intro s x hs)
    | refine Kept.foldl ?_ _ ?_
    | (split <;> (try lift_lets))
    | refine Kept.upd ?_ rfl rfl rfl rfl

theorem touchWindow_kept {s0 : State} (s : State) (h : Kept s0 s) : Kept s0 (touchWindow s) := by
  unfold touchWindow
  repeat' with_reducible first
    | assumption
    | apply Kept.ite
    | split
    | refine Kept.upd ?_ rfl rfl rfl rfl

theorem freshBase_kept {s0 : State} (s : State) (h : Kept s0 s) : Kept s0 (freshBase s) := by
  unfold freshBase
  try lift_lets
  repeat' with_reducible first
    | assumption
    | apply Kept.ite
    | (intro s; have hs : Kept s0 s := ?_; clear_value s; rotate_left; subst s)
    | (intro x; subst x)
    | (split <;> (try lift_lets))
    | refine Kept.upd ?_ rfl rfl rfl rfl

theorem shiftWindows_kept {s0 : State} (s : State) (h : Kept s0 s) : Kept s0 (shiftWindows s) := by
  unfold shiftWindows
  try lift_lets
  repeat' with_reducible first
    | assumption
    | apply freshBase_kept
    | apply Kept.ite
    | (intro s; have hs : Kept s0 s := ?_; clear_value s; rotate_left; subst s)
    | (intro x; subst x)
    | (split <;> (try lift_lets))
    | refine Kept.upd ?_ rfl rfl rfl rfl

theorem startWindow_kept {s0 : State} (i row : Nat) (sweep ready : Bool) (s : State) (h : Kept s0 s) : Kept s0 (startWindow i row sweep ready s) := by
  unfold startWindow
  repeat' with_reducible first
    | assumption
    | refine Kept.upd ?_ rfl rfl rfl rfl

theorem cutSlot_kept {s0 : State} (c prev : Int) (r : TableRow) (s : State) (h : Kept s0 s) : Kept s0 (cutSlot c prev r s) := by
  unfold cutSlot
  try lift_lets
  repeat' with_reducible first
    | assumption
    | apply updSlot_kept
    | apply assertSource_kept
    | apply record_kept
    | apply Kept.ite
    | (intro s; have hs : Kept s0 s := ?_; clear_value s; rotate_left; subst s)
    | (intro x; subst x)
    | (split <;> (try lift_lets))
    | refine Kept.upd ?_ rfl rfl rfl rfl

theorem contentCut_kept {s0 : State} (m : Nat) (s : State) (h : Kept s0 s) : Kept s0 (contentCut m s) := by
  unfold contentCut
  try lift_lets
  repeat' with_reducible first
    | assumption
    | apply cutSlot_kept
    | apply mapSlots_kept
    | apply endSource_kept
    | apply Kept.ite
    | (intro s; have hs : Kept s0 s := ?_; clear_value s; rotate_left; subst s)
    | (intro x; subst x)
    | (intro s x hs)
    | (intro s hs)
    | refine Kept.foldl ?_ _ ?_
    | (split <;> (try lift_lets))
    | refine Kept.upd ?_ rfl rfl rfl rfl

theorem leaveFallback_kept {s0 : State} (lo : Nat) (s : State) (h : Kept s0 s) : Kept s0 (leaveFallback lo s) := by
  unfold leaveFallback
  try lift_lets
  repeat' with_reducible first
    | assumption
    | apply Kept.ite
    | (intro s; have hs : Kept s0 s := ?_; clear_value s; rotate_left; subst s)
    | (intro x; subst x)
    | (split <;> (try lift_lets))
    | refine Kept.upd ?_ rfl rfl rfl rfl

theorem beginThrottle_kept {s0 : State} (s : State) (h : Kept s0 s) : Kept s0 (beginThrottle s) := by
  unfold beginThrottle
  try lift_lets
  repeat' with_reducible first
    | assumption
    | apply Kept.ite
    | (intro s; have hs : Kept s0 s := ?_; clear_value s; rotate_left; subst s)
    | (intro x; subst x)
    | (split <;> (try lift_lets))
    | refine Kept.upd ?_ rfl rfl rfl rfl

theorem throttleStart_kept {s0 : State} (s : State) (h : Kept s0 s) : Kept s0 (throttleStart s) := by
  unfold throttleStart
  repeat' with_reducible first
    | assumption
    | apply beginThrottle_kept
    | apply Kept.ite
    | split
    | refine Kept.upd ?_ rfl rfl rfl rfl

theorem throttleEnd_kept {s0 : State} (s : State) (h : Kept s0 s) : Kept s0 (throttleEnd s) := by
  unfold throttleEnd
  try lift_lets
  repeat' with_reducible first
    | assumption
    | apply leaveFallback_kept
    | apply Kept.ite
    | (intro s; have hs : Kept s0 s := ?_; clear_value s; rotate_left; subst s)
    | (intro x; subst x)
    | (split <;> (try lift_lets))
    | refine Kept.upd ?_ rfl rfl rfl rfl

theorem throttleEdge_kept {s0 : State} (before : Bool) (s : State) (h : Kept s0 s) : Kept s0 (throttleEdge before s) := by
  unfold throttleEdge
  try lift_lets
  repeat' with_reducible first
    | assumption
    | apply record_kept
    | apply Kept.ite
    | (intro s; have hs : Kept s0 s := ?_; clear_value s; rotate_left; subst s)
    | (intro x; subst x)
    | (split <;> (try lift_lets))
    | refine Kept.upd ?_ rfl rfl rfl rfl

theorem dieEdge_kept {s0 : State} (before : Bool) (s : State) (h : Kept s0 s) : Kept s0 (dieEdge before s) := by
  unfold dieEdge
  try lift_lets
  repeat' with_reducible first
    | assumption
    | apply throttleStart_kept
    | apply throttleEnd_kept
    | apply Kept.ite
    | (intro s; have hs : Kept s0 s := ?_; clear_value s; rotate_left; subst s)
    | (intro x; subst x)
    | (split <;> (try lift_lets))
    | refine Kept.upd ?_ rfl rfl rfl rfl

theorem applyChange_kept {s0 : State} (m : Nat) (s : State) (h : Kept s0 s) : Kept s0 (applyChange m s) := by
  unfold applyChange
  try lift_lets
  repeat' with_reducible first
    | assumption
    | apply Kept.ite
    | (intro s; have hs : Kept s0 s := ?_; clear_value s; rotate_left; subst s)
    | (intro x; subst x)
    | (split <;> (try lift_lets))
    | refine Kept.upd ?_ rfl rfl rfl rfl

theorem applyHostChange_kept {s0 : State} (s : State) (h : Kept s0 s) : Kept s0 (applyHostChange s) := by
  unfold applyHostChange
  try lift_lets
  repeat' with_reducible first
    | assumption
    | apply leaveFallback_kept
    | apply Kept.ite
    | (intro s; have hs : Kept s0 s := ?_; clear_value s; rotate_left; subst s)
    | (intro x; subst x)
    | (split <;> (try lift_lets))
    | refine Kept.upd ?_ rfl rfl rfl rfl

theorem monitorBoundary_kept {s0 : State} (m : Nat) (s : State) (h : Kept s0 s) : Kept s0 (monitorBoundary m s) := by
  unfold monitorBoundary
  try lift_lets
  repeat' with_reducible first
    | assumption
    | apply Kept.ite
    | (intro s; have hs : Kept s0 s := ?_; clear_value s; rotate_left; subst s)
    | (intro x; subst x)
    | (split <;> (try lift_lets))
    | refine Kept.upd ?_ rfl rfl rfl rfl

theorem monitorStart_kept {s0 : State} (f : CompFrame) (s : State) (h : Kept s0 s) : Kept s0 (monitorStart f s) := by
  unfold monitorStart
  try lift_lets
  repeat' with_reducible first
    | assumption
    | apply cvuStart_kept
    | apply Kept.ite
    | (intro s; have hs : Kept s0 s := ?_; clear_value s; rotate_left; subst s)
    | (intro x; subst x)
    | (split <;> (try lift_lets))
    | refine Kept.upd ?_ rfl rfl rfl rfl

theorem updMon_kept {s0 : State} (frame : Nat) (f : MonFrame → MonFrame) (s : State) (h : Kept s0 s) : Kept s0 (updMon frame f s) := by
  unfold updMon
  repeat' with_reducible first
    | assumption
    | apply Kept.ite
    | split
    | refine Kept.upd ?_ rfl rfl rfl rfl

theorem noteFetches_kept {s0 : State} (f : CompFrame) (s : State) (h : Kept s0 s) : Kept s0 (noteFetches f s) := by
  unfold noteFetches
  try lift_lets
  repeat' with_reducible first
    | assumption
    | apply mapSlots_kept
    | apply updSlot_kept
    | apply Kept.ite
    | (intro s; have hs : Kept s0 s := ?_; clear_value s; rotate_left; subst s)
    | (intro x; subst x)
    | (intro s x hs)
    | (intro s hs)
    | refine Kept.foldl ?_ _ ?_
    | (split <;> (try lift_lets))
    | refine Kept.upd ?_ rfl rfl rfl rfl

theorem noteHorizon_kept {s0 : State} (swap : Int) (r : TableRow) (s : State) (h : Kept s0 s) : Kept s0 (noteHorizon swap r s) := by
  unfold noteHorizon
  try lift_lets
  repeat' with_reducible first
    | assumption
    | apply record_kept
    | apply updSlot_kept
    | apply Kept.ite
    | (intro s; have hs : Kept s0 s := ?_; clear_value s; rotate_left; subst s)
    | (intro x; subst x)
    | (intro s x hs)
    | (intro s hs)
    | refine Kept.foldl ?_ _ ?_
    | (split <;> (try lift_lets))
    | refine Kept.upd ?_ rfl rfl rfl rfl

theorem stuckCheck_kept {s0 : State} (f : CompFrame) (s : State) (h : Kept s0 s) : Kept s0 (stuckCheck f s) := by
  unfold stuckCheck
  try lift_lets
  repeat' with_reducible first
    | assumption
    | apply assertSource_kept
    | apply Kept.ite
    | (intro s; have hs : Kept s0 s := ?_; clear_value s; rotate_left; subst s)
    | (intro x; subst x)
    | (split <;> (try lift_lets))
    | refine Kept.upd ?_ rfl rfl rfl rfl

theorem applyChests_kept {s0 : State} (m : Nat) (s : State) (h : Kept s0 s) : Kept s0 (applyChests m s) := by
  unfold applyChests
  repeat' with_reducible first
    | assumption
    | split
    | refine Kept.upd ?_ rfl rfl rfl rfl

theorem startStale_kept {s0 : State} (fresh : List Nat) (s : State) (h : Kept s0 s) : Kept s0 (startStale fresh s) := by
  unfold startStale
  repeat' with_reducible first
    | assumption
    | apply updSlot_kept
    | apply Kept.ite
    | (intro s x hs)
    | (intro s hs)
    | refine Kept.foldl ?_ _ ?_
    | split
    | refine Kept.upd ?_ rfl rfl rfl rfl

theorem recut_kept {s0 : State} (fresh : List Nat) (s : State) (h : Kept s0 s) : Kept s0 (recut fresh s) := by
  unfold recut
  repeat' with_reducible first
    | assumption
    | apply cutSlot_kept
    | (intro s x hs)
    | (intro s hs)
    | refine Kept.foldl ?_ _ ?_

theorem composeFrame_kept {s0 : State} (m : Nat) (s : State) (h : Kept s0 s) : Kept s0 (composeFrame m s) := by
  unfold composeFrame
  extract_lets s1 s2 q1 s3 fresh c held s4 s5 s6 q2 s6b f f1 g s7 q3 s8a s8b s8
  have h1 : Kept s0 s1 := Kept.ite h (contentCut_kept _ _ h)
  have h2 : Kept s0 s2 := applyChange_kept _ _ h1
  have h3 : Kept s0 s3 := by
    unfold s3
    split
    · exact record_kept _ _ _ _ (Kept.upd h2 rfl rfl rfl rfl)
    · exact h2
  have h4 : Kept s0 s4 := applyDue_kept _ _ h3
  have h5 : Kept s0 s5 := recut_kept _ _ (startStale_kept _ _ (Kept.ite h4 (retireDue_kept _ _ h4)))
  have h6 : Kept s0 s6 := monitorBoundary_kept _ _ (applyChests_kept _ _ h5)
  have h6b : Kept s0 s6b := Kept.upd h6 rfl rfl rfl rfl
  have h7 : Kept s0 s7 := Kept.upd h6b rfl rfl rfl rfl
  have h8 : Kept s0 s8 := by
    have ha : Kept s0 s8a := cvuStart_kept _ _ _ (noteFetches_kept _ _ (Kept.upd h7 rfl rfl rfl rfl))
    have hb : Kept s0 s8b := Kept.foldl (fun s x hs => noteHorizon_kept _ _ _ hs) _ ha
    exact Kept.ite h7 (monitorStart_kept _ _ (stuckCheck_kept _ _ hb))
  exact Kept.ite (beginThrottle_kept _ h8) h8

theorem followWithhold_kept {s0 : State} (s : State) (h : Kept s0 s) : Kept s0 (followWithhold s) := by
  unfold followWithhold
  repeat' with_reducible first
    | assumption
    | apply addWithhold_kept
    | apply Kept.ite
    | split
    | refine Kept.upd ?_ rfl rfl rfl rfl

theorem decideSwap_kept {s0 : State} (s : State) (h : Kept s0 s) : Kept s0 (decideSwap s) := by
  unfold decideSwap
  try lift_lets
  repeat' with_reducible first
    | assumption
    | apply followWithhold_kept
    | apply assertSource_kept
    | apply Kept.ite
    | (intro s; have hs : Kept s0 s := ?_; clear_value s; rotate_left; subst s)
    | (intro x; subst x)
    | (split <;> (try lift_lets))
    | refine Kept.upd ?_ rfl rfl rfl rfl

theorem passSwap_kept {s0 : State} (executed : Option Nat) (s : State) (h : Kept s0 s) : Kept s0 (passSwap executed s) := by
  unfold passSwap
  try lift_lets
  repeat' with_reducible first
    | assumption
    | apply takeSlTrim_kept
    | apply updMon_kept
    | apply Kept.ite
    | (intro s; have hs : Kept s0 s := ?_; clear_value s; rotate_left; subst s)
    | (intro x; subst x)
    | (split <;> (try lift_lets))
    | refine Kept.upd ?_ rfl rfl rfl rfl

theorem islandSwap_kept {s0 : State} (s : State) (h : Kept s0 s) : Kept s0 (islandSwap s) := by
  unfold islandSwap
  try lift_lets
  repeat' with_reducible first
    | assumption
    | apply record_kept
    | apply endSource_kept
    | apply Kept.ite
    | (intro s; have hs : Kept s0 s := ?_; clear_value s; rotate_left; subst s)
    | (intro x; subst x)
    | (split <;> (try lift_lets))
    | refine Kept.upd ?_ rfl rfl rfl rfl

theorem passWithheld_kept {s0 : State} (s : State) (h : Kept s0 s) : Kept s0 (passWithheld s) := by
  unfold passWithheld
  repeat' with_reducible first
    | assumption
    | apply islandSwap_kept
    | apply passSwap_kept
    | apply Kept.ite
    | split

theorem recovered_kept {s0 : State} (s : State) (h : Kept s0 s) : Kept s0 (recovered s) := by
  unfold recovered
  repeat' with_reducible first
    | assumption
    | apply followWithhold_kept
    | apply rakeUpdate_kept
    | refine Kept.upd ?_ rfl rfl rfl rfl

theorem swapLight_kept {s0 : State} (s : State) (h : Kept s0 s) : Kept s0 (swapLight s) := by
  unfold swapLight
  try lift_lets
  repeat' with_reducible first
    | assumption
    | apply Kept.ite
    | (intro s; have hs : Kept s0 s := ?_; clear_value s; rotate_left; subst s)
    | (intro x; subst x)
    | (split <;> (try lift_lets))
    | refine Kept.upd ?_ rfl rfl rfl rfl

theorem noteProfiles_kept {s0 : State} (n : Nat) (s : State) (h : Kept s0 s) : Kept s0 (noteProfiles n s) := by
  unfold noteProfiles
  repeat' with_reducible first
    | assumption
    | apply record_kept
    | (intro s x hs)
    | (intro s hs)
    | refine Kept.foldl ?_ _ ?_
    | refine Kept.upd ?_ rfl rfl rfl rfl

theorem takeIrefTrim_kept {s0 : State} (s : State) (h : Kept s0 s) : Kept s0 (takeIrefTrim s) := by
  unfold takeIrefTrim
  repeat' with_reducible first
    | assumption
    | split
    | refine Kept.upd ?_ rfl rfl rfl rfl

theorem noteConflict_kept {s0 : State} (scale floor : Nat) (s : State) (h : Kept s0 s) : Kept s0 (noteConflict scale floor s) := by
  unfold noteConflict
  try lift_lets
  repeat' with_reducible first
    | assumption
    | apply record_kept
    | apply Kept.ite
    | (intro s; have hs : Kept s0 s := ?_; clear_value s; rotate_left; subst s)
    | (intro x; subst x)
    | (split <;> (try lift_lets))
    | refine Kept.upd ?_ rfl rfl rfl rfl

theorem notePower_kept {s0 : State} (set : Bool) (s : State) (h : Kept s0 s) : Kept s0 (notePower set s) := by
  unfold notePower
  repeat' with_reducible first
    | assumption
    | apply record_kept
    | apply Kept.ite
    | split
    | refine Kept.upd ?_ rfl rfl rfl rfl

theorem bankSel_setInactive (scale sum budget vled : Nat) (a : PixelArray) : (setInactive scale sum budget vled a).bankSel = a.bankSel := by
  unfold setInactive
  dsimp only
  split <;> rfl

theorem bankSel_commandVled (v t : Nat) (a : PixelArray) : (commandVled v t a).bankSel = a.bankSel := by
  unfold commandVled
  split <;> rfl

theorem governFrame_kept {s0 : State} (f : CompFrame) (s : State) (h : Kept s0 s) : Kept s0 (governFrame f s) := by
  unfold governFrame
  refine notePower_kept _ _ (noteConflict_kept _ _ _ (updMon_kept _ _ _ (Kept.upd h rfl rfl ?_ rfl)))
  rw [bankSel_commandVled, bankSel_setInactive]

theorem execContentCutoff_kept {s0 : State} (t : Nat) (s : State) (h : Kept s0 s) : KeptOut s0 (execContentCutoff t s) := by
  unfold execContentCutoff
  try lift_lets
  repeat' with_reducible first
    | assumption
    | apply advance_kept
    | apply contentCut_kept
    | apply KeptOut.next
    | apply Kept.ite
    | apply KeptOut.ite
    | (intro s; have hs : Kept s0 s := ?_; clear_value s; rotate_left; subst s)
    | (intro x; subst x)
    | (split <;> (try lift_lets))

theorem execCompositionStart_kept {s0 : State} (t : Nat) (s : State) (h : Kept s0 s) : KeptOut s0 (execCompositionStart t s) := by
  unfold execCompositionStart
  try lift_lets
  repeat' with_reducible first
    | assumption
    | apply advance_kept
    | apply applyHostChange_kept
    | apply composeFrame_kept
    | apply KeptOut.next
    | apply Kept.ite
    | apply KeptOut.ite
    | (intro s; have hs : Kept s0 s := ?_; clear_value s; rotate_left; subst s)
    | (intro x; subst x)
    | (split <;> (try lift_lets))

theorem updCur_kept {s0 : State} (f : CompFrame → CompFrame) (s : State) (h : Kept s0 s) : Kept s0 (updCur f s) := by
  unfold updCur
  repeat' with_reducible first
    | assumption
    | refine Kept.upd ?_ rfl rfl rfl rfl

theorem layerLate_kept {s0 : State} (e : Nat × Bool) (s : State) (h : Kept s0 s) : Kept s0 (layerLate e s) := by
  unfold layerLate
  try lift_lets
  repeat' with_reducible first
    | assumption
    | apply updCur_kept
    | apply updMon_kept
    | apply assertSource_kept
    | apply Kept.ite
    | (intro s; have hs : Kept s0 s := ?_; clear_value s; rotate_left; subst s)
    | (intro x; subst x)
    | (split <;> (try lift_lets))
    | refine Kept.upd ?_ rfl rfl rfl rfl

theorem underrun_kept {s0 : State} (row cause : Nat) (s : State) (h : Kept s0 s) : Kept s0 (underrun row cause s) := by
  unfold underrun
  try lift_lets
  repeat' with_reducible first
    | assumption
    | apply cvuAbandon_kept
    | apply withholdCurrent_kept
    | apply assertSource_kept
    | (intro s; have hs : Kept s0 s := ?_; clear_value s; rotate_left; subst s)
    | (intro x; subst x)
    | refine Kept.upd ?_ rfl rfl rfl rfl

theorem lateFetch_kept {s0 : State} (base : List Nat) (acc : State × List Nat) (l : LateFetch) (h : Kept s0 acc.1) :
    Kept s0 (lateFetch base acc l).1 := by
  unfold lateFetch
  repeat' with_reducible first
    | assumption
    | apply layerLate_kept
    | refine Kept.foldl ?_ _ ?_
    | (intro s x hs)
    | split

theorem lateFetches_kept {s0 : State} (base : List Nat) : ∀ (ls : List LateFetch) (acc : State × List Nat), Kept s0 acc.1 →
    Kept s0 (ls.foldl (lateFetch base) acc).1
  | [], _, h => h
  | l :: ls, acc, h => lateFetches_kept base ls _ (lateFetch_kept base acc l h)

theorem execRowLatePoint_kept {s0 : State} (t row : Nat) (late : List LateFetch) (s : State) (h : Kept s0 s) :
    KeptOut s0 (execRowLatePoint t row late s) := by
  have h1 := advance_kept t s h
  have h2 := lateFetches_kept (baseSlots (advance t s)) late (advance t s, []) h1
  unfold execRowLatePoint
  dsimp only
  split
  · exact KeptOut.fault
  · split
    · refine KeptOut.ite (KeptOut.next h1) ?_
      split
      · exact KeptOut.next (underrun_kept _ _ _ h2)
      · exact KeptOut.next h2
    · exact KeptOut.next h1

theorem noteLevels_kept {s0 : State} (row : Nat) (levels : List Nat) (f : CompFrame) (s : State) (h : Kept s0 s) : Kept s0 (noteLevels row levels f s) := by
  unfold noteLevels
  try lift_lets
  repeat' with_reducible first
    | assumption
    | apply updCur_kept
    | apply urgent_kept
    | apply Kept.ite
    | (intro s; have hs : Kept s0 s := ?_; clear_value s; rotate_left; subst s)
    | (intro x; subst x)
    | (intro s x hs)
    | refine Kept.foldl ?_ _ ?_
    | (split <;> (try lift_lets))
    | refine Kept.upd ?_ rfl rfl rfl rfl

theorem dropMonitor_kept {s0 : State} (frame : Nat) (s : State) (h : Kept s0 s) : Kept s0 (dropMonitor frame s) := by
  unfold dropMonitor
  repeat' with_reducible first
    | assumption
    | apply cvuAbandon_kept
    | refine Kept.upd ?_ rfl rfl rfl rfl

theorem monitorChecked_kept {s0 : State} (x : MonFrame) (s : State) (h : Kept s0 s) : Kept s0 (monitorChecked x s) := by
  unfold monitorChecked
  try lift_lets
  repeat' with_reducible first
    | assumption
    | apply cvuJob_kept
    | apply updMon_kept
    | apply Kept.ite
    | (intro s; have hs : Kept s0 s := ?_; clear_value s; rotate_left; subst s)
    | (intro x; subst x)
    | (split <;> (try lift_lets))
    | refine Kept.upd ?_ rfl rfl rfl rfl

theorem monitorTake_kept {s0 : State} (frame : Nat) (values codes : List Nat) (s : State) (h : Kept s0 s) : Kept s0 (monitorTake frame values codes s) := by
  unfold monitorTake
  try lift_lets
  repeat' with_reducible first
    | assumption
    | apply updMon_kept
    | apply dropMonitor_kept
    | apply monitorChecked_kept
    | apply Kept.ite
    | (intro s; have hs : Kept s0 s := ?_; clear_value s; rotate_left; subst s)
    | (intro x; subst x)
    | (split <;> (try lift_lets))
    | refine Kept.upd ?_ rfl rfl rfl rfl

theorem sendRow_kept {s0 : State} (f : CompFrame) (r : Nat) (s : State) (h : Kept s0 s) : Kept s0 (sendRow f r s) := by
  unfold sendRow
  try lift_lets
  repeat' with_reducible first
    | assumption
    | apply monitorTake_kept
    | apply updCur_kept
    | apply Kept.ite
    | (intro s; have hs : Kept s0 s := ?_; clear_value s; rotate_left; subst s)
    | (intro x; subst x)
    | (intro s x hs)
    | refine Kept.foldl ?_ _ ?_
    | (split <;> (try lift_lets))
    | refine Kept.upd ?_ rfl rfl rfl rfl

theorem execRowTransferStart_kept {s0 : State} (t row : Nat) (complete : Bool) (levels : List Nat) (s : State) (h : Kept s0 s) : KeptOut s0 (execRowTransferStart t row complete levels s) := by
  unfold execRowTransferStart
  try lift_lets
  repeat' with_reducible first
    | assumption
    | apply advance_kept
    | apply sendRow_kept
    | apply noteLevels_kept
    | apply underrun_kept
    | exact KeptOut.fault
    | apply KeptOut.next
    | apply Kept.ite
    | apply KeptOut.ite
    | (intro s; have hs : Kept s0 s := ?_; clear_value s; rotate_left; subst s)
    | (intro x; subst x)
    | (split <;> (try lift_lets))
    | refine Kept.upd ?_ rfl rfl rfl rfl

theorem rejectRow_kept {s0 : State} (row : Nat) (s : State) (h : Kept s0 s) : Kept s0 (rejectRow row s) := by
  unfold rejectRow
  repeat' with_reducible first
    | assumption
    | apply assertSource_kept
    | apply cvuAbandon_kept
    | apply withholdCurrent_kept
    | refine Kept.upd ?_ rfl rfl rfl rfl

theorem raiseWrdone_kept {s0 : State} (s : State) (h : Kept s0 s) : Kept s0 (raiseWrdone s) := by
  unfold raiseWrdone
  try lift_lets
  repeat' with_reducible first
    | assumption
    | apply takeSlTrim_kept
    | apply endShadow_kept
    | apply Kept.ite
    | (intro s; have hs : Kept s0 s := ?_; clear_value s; rotate_left; subst s)
    | (intro x; subst x)
    | (split <;> (try lift_lets))
    | refine Kept.upd ?_ rfl rfl rfl rfl

theorem bankSel_storeRow (row : Nat) (codes : List Nat) (a : PixelArray) : (storeRow row codes a).bankSel = a.bankSel := by
  unfold storeRow
  split <;> rfl

theorem bankSel_noteDriven (t : Nat) (a : PixelArray) : (noteDriven t a).bankSel = a.bankSel := by
  unfold noteDriven
  split <;> rfl

theorem takeRow_kept {s0 : State} (p : RowPacket) (s : State) (h : Kept s0 s) : Kept s0 (takeRow p s) := by
  unfold takeRow
  dsimp only
  refine Kept.ite (raiseWrdone_kept _ ?_) ?_
  all_goals
    refine Kept.upd h rfl rfl ?_ rfl
    split
    · rw [bankSel_noteDriven]; exact bankSel_storeRow _ _ _
    · exact bankSel_storeRow _ _ _

theorem execRowPacket_kept {s0 : State} (t : Nat) (p : RowPacket) (crc : Nat) (s : State) (h : Kept s0 s) : KeptOut s0 (execRowPacket t p crc s) := by
  unfold execRowPacket
  try lift_lets
  repeat' with_reducible first
    | assumption
    | apply advance_kept
    | apply takeRow_kept
    | apply rejectRow_kept
    | exact KeptOut.fault
    | apply KeptOut.next
    | apply Kept.ite
    | apply KeptOut.ite
    | (intro s; have hs : Kept s0 s := ?_; clear_value s; rotate_left; subst s)
    | (intro x; subst x)
    | (split <;> (try lift_lets))

theorem breachCheck_kept {s0 : State} (f : CompFrame) (s : State) (h : Kept s0 s) : Kept s0 (breachCheck f s) := by
  unfold breachCheck
  try lift_lets
  repeat' with_reducible first
    | assumption
    | apply updSlot_kept
    | apply assertSource_kept
    | apply withholdCurrent_kept
    | (intro s; have hs : Kept s0 s := ?_; clear_value s; rotate_left; subst s)
    | (intro x; subst x)
    | (intro s x hs)
    | (intro s hs)
    | refine Kept.foldl ?_ _ ?_
    | (split <;> (try lift_lets))
    | refine Kept.upd ?_ rfl rfl rfl rfl

theorem chestCheck_kept {s0 : State} (f : CompFrame) (crc : Nat) (s : State) (h : Kept s0 s) : Kept s0 (chestCheck f crc s) := by
  unfold chestCheck
  try lift_lets
  repeat' with_reducible first
    | assumption
    | apply cvuJob_kept
    | apply withholdCurrent_kept
    | apply assertSource_kept
    | apply updMon_kept
    | apply updCur_kept
    | apply Kept.ite
    | (intro s; have hs : Kept s0 s := ?_; clear_value s; rotate_left; subst s)
    | (intro x; subst x)
    | (split <;> (try lift_lets))
    | refine Kept.upd ?_ rfl rfl rfl rfl

theorem execChestCheckComplete_kept {s0 : State} (t crc : Nat) (s : State) (h : Kept s0 s) : KeptOut s0 (execChestCheckComplete t crc s) := by
  unfold execChestCheckComplete
  try lift_lets
  repeat' with_reducible first
    | assumption
    | apply advance_kept
    | apply checked_kept
    | apply chestCheck_kept
    | apply breachCheck_kept
    | apply updCur_kept
    | exact KeptOut.fault
    | apply KeptOut.next
    | apply KeptAnswer.ok
    | apply Kept.ite
    | apply KeptOut.ite
    | apply KeptAnswer.ite
    | (intro s; have hs : Kept s0 s := ?_; clear_value s; rotate_left; subst s)
    | (intro x; subst x)
    | (split <;> (try lift_lets))
    | refine Kept.upd ?_ rfl rfl rfl rfl

theorem execGovernorLatch_kept {s0 : State} (t : Nat) (s : State) (h : Kept s0 s) : KeptOut s0 (execGovernorLatch t s) := by
  unfold execGovernorLatch
  try lift_lets
  repeat' with_reducible first
    | assumption
    | apply advance_kept
    | apply governFrame_kept
    | apply KeptOut.next
    | apply Kept.ite
    | apply KeptOut.ite
    | (intro s; have hs : Kept s0 s := ?_; clear_value s; rotate_left; subst s)
    | (intro x; subst x)
    | (split <;> (try lift_lets))
    | refine Kept.upd ?_ rfl rfl rfl rfl

theorem execWrdoneDeadline_kept {s0 : State} (t : Nat) (s : State) (h : Kept s0 s) : KeptOut s0 (execWrdoneDeadline t s) := by
  unfold execWrdoneDeadline
  try lift_lets
  repeat' with_reducible first
    | assumption
    | apply passWithheld_kept
    | apply advance_kept
    | apply decideSwap_kept
    | apply KeptOut.next
    | apply Kept.ite
    | apply KeptOut.ite
    | (intro s; have hs : Kept s0 s := ?_; clear_value s; rotate_left; subst s)
    | (intro x; subst x)
    | (split <;> (try lift_lets))

theorem noMiss_kept {s0 : State} (s : State) (h : Kept s0 s) : Kept s0 (noMiss s) := by
  unfold noMiss
  repeat' with_reducible first
    | assumption
    | split
    | refine Kept.upd ?_ rfl rfl rfl rfl

theorem promote_kept {s0 : State} (s : State) (h : Kept s0 s) : Kept s0 (promote s) := by
  unfold promote
  repeat' with_reducible first
    | assumption
    | apply assertSource_kept
    | refine Kept.upd ?_ rfl rfl rfl rfl

theorem execDroopTimer_kept {s0 : State} (t : Nat) (s : State) (h : Kept s0 s) : KeptOut s0 (execDroopTimer t s) := by
  unfold execDroopTimer
  try lift_lets
  repeat' with_reducible first
    | assumption
    | apply advance_kept
    | apply assertSource_kept
    | apply KeptOut.next
    | apply Kept.ite
    | apply KeptOut.ite
    | (intro s; have hs : Kept s0 s := ?_; clear_value s; rotate_left; subst s)
    | (intro x; subst x)
    | (split <;> (try lift_lets))
    | refine Kept.upd ?_ rfl rfl rfl rfl

theorem followBeam_kept {s0 : State} (s : State) (h : Kept s0 s) : Kept s0 (followBeam s) := by
  unfold followBeam
  repeat' with_reducible first
    | assumption
    | apply Kept.ite
    | split
    | refine Kept.upd ?_ rfl rfl rfl rfl

theorem latchDone_kept {s0 : State} (old s : State) (h : Kept s0 s) : Kept s0 (latchDone old s) := by
  unfold latchDone
  repeat' with_reducible first
    | assumption
    | apply shiftWindows_kept
    | apply Kept.ite
    | split

theorem bankSel_nextLatchRow (a : PixelArray) : (nextLatchRow a).bankSel = a.bankSel := by
  unfold nextLatchRow
  split <;> rfl

theorem assertIf_kept {s0 s : State} {c : Prop} [Decidable c] {src data : Nat} (h : Kept s0 s) :
    Kept s0 (if c then assertSource src data false s else s) := Kept.ite (assertSource_kept _ _ _ _ h) h

theorem execLatchRowCycle_kept {s0 : State} (t : Nat) (p : SealedRow) (readback : List Nat) (s : State) (h : Kept s0 s) :
    KeptOut s0 (execLatchRowCycle t p readback s) := by
  have h1 := advance_kept t s h
  unfold execLatchRowCycle
  dsimp only
  split
  · exact KeptOut.fault
  · split
    · exact KeptOut.next h1
    · refine KeptOut.ite (KeptOut.next h1) (KeptOut.ite (KeptOut.next (latchDone_kept _ _ ?_)) (KeptOut.next (latchDone_kept _ _ ?_)))
      · refine assertIf_kept (assertSource_kept _ _ _ _ (followBeam_kept _ (Kept.upd (Kept.upd h1 rfl rfl rfl rfl) rfl rfl ?_ rfl)))
        split
        · exact bankSel_nextLatchRow _
        · rfl
      · exact assertIf_kept (followBeam_kept _ (Kept.upd (Kept.upd h1 rfl rfl rfl rfl) rfl rfl (bankSel_nextLatchRow _) rfl))

theorem execLatchReadbackCheck_kept {s0 : State} (t : Nat) (readback : List Nat) (s : State) (h : Kept s0 s) : KeptOut s0 (execLatchReadbackCheck t readback s) := by
  unfold execLatchReadbackCheck
  try lift_lets
  repeat' with_reducible first
    | assumption
    | apply advance_kept
    | apply assertSource_kept
    | exact KeptOut.fault
    | apply KeptOut.next
    | apply KeptAnswer.ok
    | apply Kept.ite
    | apply KeptOut.ite
    | apply KeptAnswer.ite
    | (intro s; have hs : Kept s0 s := ?_; clear_value s; rotate_left; subst s)
    | (intro x; subst x)
    | (split <;> (try lift_lets))
    | refine Kept.upd ?_ rfl rfl rfl rfl

theorem skipMonitor_kept {s0 : State} (rest : List MonFrame) (s : State) (h : Kept s0 s) : Kept s0 (skipMonitor rest s) := by
  unfold skipMonitor
  repeat' with_reducible first
    | assumption
    | apply cvuAbandon_kept
    | refine Kept.upd ?_ rfl rfl rfl rfl

theorem monitorSend_kept {s0 : State} (x : MonFrame) (payload : List Byte) (s : State) (h : Kept s0 s) : Kept s0 (monitorSend x payload s) := by
  unfold monitorSend
  try lift_lets
  repeat' with_reducible first
    | assumption
    | (intro s; have hs : Kept s0 s := ?_; clear_value s; rotate_left; subst s)
    | (intro x; subst x)
    | refine Kept.upd ?_ rfl rfl rfl rfl

theorem execMonitorPacketSend_kept {s0 : State} (t : Nat) (s : State) (h : Kept s0 s) : KeptOut s0 (execMonitorPacketSend t s) := by
  have h1 := advance_kept t s h
  unfold execMonitorPacketSend
  dsimp only
  split
  · next x rest _ =>
    split
    · exact h1
    · split
      · split
        · exact skipMonitor_kept _ _ h1
        · exact monitorSend_kept _ _ _ (Kept.upd h1 rfl rfl rfl rfl)
      · split
        · exact skipMonitor_kept _ _ h1
        · exact h1
  · exact h1

theorem execMonitorTrailer_kept {s0 : State} (t : Nat) (s : State) (h : Kept s0 s) : KeptOut s0 (execMonitorTrailer t s) := by
  have h1 := passWithheld_kept _ (advance_kept t s h)
  unfold execMonitorTrailer
  dsimp only
  split
  · next x rest _ =>
    split
    · exact h1
    · have h2 := monitorChecked_kept x _ h1
      split
      · exact skipMonitor_kept _ _ h2
      · exact monitorSend_kept _ _ _ (Kept.upd h2 rfl rfl rfl rfl)
  · exact h1

theorem startReception_kept {s0 : State} (seq slot : Nat) (s : State) (h : Kept s0 s) : Kept s0 (startReception seq slot s) := by
  unfold startReception
  try lift_lets
  repeat' with_reducible first
    | assumption
    | apply updSlot_kept
    | apply record_kept
    | apply Kept.ite
    | (intro s; have hs : Kept s0 s := ?_; clear_value s; rotate_left; subst s)
    | (intro x; subst x)
    | (intro s hs)
    | (split <;> (try lift_lets))
    | refine Kept.upd ?_ rfl rfl rfl rfl

theorem storePacket_kept {s0 : State} (r : TableRow) (raw : List Byte) (s : State) (h : Kept s0 s) : Kept s0 (storePacket r raw s) := by
  unfold storePacket
  try lift_lets
  repeat' with_reducible first
    | assumption
    | apply updSlot_kept
    | apply Kept.ite
    | (intro s; have hs : Kept s0 s := ?_; clear_value s; rotate_left; subst s)
    | (intro x; subst x)
    | (intro s hs)
    | (split <;> (try lift_lets))
    | refine Kept.upd ?_ rfl rfl rfl rfl

theorem countOrder_kept {s0 : State} (s : State) (h : Kept s0 s) : Kept s0 (countOrder s) := by
  unfold countOrder
  repeat' with_reducible first
    | assumption
    | refine Kept.upd ?_ rfl rfl rfl rfl

theorem takePacket_kept {s0 : State} (r : TableRow) (raw : List Byte) (s : State) (h : Kept s0 s) : Kept s0 (takePacket r raw s) := by
  unfold takePacket
  repeat' with_reducible first
    | assumption
    | apply countOrder_kept
    | apply storePacket_kept
    | apply Kept.ite
    | split
    | refine Kept.upd ?_ rfl rfl rfl rfl

theorem deliverPacket_kept {s0 : State} (r : TableRow) (raw : List Byte) (s : State) (h : Kept s0 s) : Kept s0 (deliverPacket r raw s) := by
  unfold deliverPacket
  try lift_lets
  repeat' with_reducible first
    | assumption
    | apply takePacket_kept
    | apply startReception_kept
    | apply countOrder_kept
    | apply Kept.ite
    | (intro s; have hs : Kept s0 s := ?_; clear_value s; rotate_left; subst s)
    | (intro x; subst x)
    | (split <;> (try lift_lets))
    | refine Kept.upd ?_ rfl rfl rfl rfl

theorem execBrineVideoPacket_kept {s0 : State} (t : Nat) (d : Datagram) (s : State) (h : Kept s0 s) : KeptOut s0 (execBrineVideoPacket t d s) := by
  unfold execBrineVideoPacket
  try lift_lets
  repeat' with_reducible first
    | assumption
    | apply advance_kept
    | apply deliverPacket_kept
    | apply KeptOut.next
    | apply Kept.ite
    | apply KeptOut.ite
    | (intro s; have hs : Kept s0 s := ?_; clear_value s; rotate_left; subst s)
    | (intro x; subst x)
    | (intro s x hs)
    | (intro s hs)
    | refine Kept.foldl ?_ _ ?_
    | (split <;> (try lift_lets))
    | refine Kept.upd ?_ rfl rfl rfl rfl

theorem execBufferMoveComplete_kept {s0 : State} (t item : Nat) (s : State) (h : Kept s0 s) : KeptOut s0 (execBufferMoveComplete t item s) := by
  unfold execBufferMoveComplete
  try lift_lets
  repeat' with_reducible first
    | assumption
    | apply advance_kept
    | apply KeptOut.next
    | (intro s; have hs : Kept s0 s := ?_; clear_value s; rotate_left; subst s)
    | (intro x; subst x)
    | refine Kept.upd ?_ rfl rfl rfl rfl

theorem heatEdges_kept {s0 : State} (s s' : State) (h : Kept s0 s') : Kept s0 (heatEdges s s') := by
  unfold heatEdges
  repeat' with_reducible first
    | assumption
    | apply dieEdge_kept
    | apply throttleEdge_kept

theorem execFaultAssert_kept {s0 : State} (t src data : Nat) (s : State) (h : Kept s0 s) : KeptOut s0 (execFaultAssert t src data s) := by
  unfold execFaultAssert
  try lift_lets
  repeat' with_reducible first
    | assumption
    | apply advance_kept
    | apply heatEdges_kept
    | apply assertSource_kept
    | exact KeptOut.fault
    | apply KeptOut.next
    | apply Kept.ite
    | apply KeptOut.ite
    | (intro s; have hs : Kept s0 s := ?_; clear_value s; rotate_left; subst s)
    | (intro x; subst x)
    | (split <;> (try lift_lets))

theorem execFaultLevelEnd_kept {s0 : State} (t src : Nat) (s : State) (h : Kept s0 s) : KeptOut s0 (execFaultLevelEnd t src s) := by
  unfold execFaultLevelEnd
  try lift_lets
  repeat' with_reducible first
    | assumption
    | apply advance_kept
    | apply heatEdges_kept
    | apply endSource_kept
    | exact KeptOut.fault
    | apply KeptOut.next
    | apply Kept.ite
    | apply KeptOut.ite
    | (intro s; have hs : Kept s0 s := ?_; clear_value s; rotate_left; subst s)
    | (intro x; subst x)
    | (split <;> (try lift_lets))

theorem cutMonitor_kept {s0 : State} (s : State) (h : Kept s0 s) : Kept s0 (cutMonitor s) := by
  unfold cutMonitor
  repeat' with_reducible first
    | assumption
    | apply skipMonitor_kept
    | apply Kept.ite
    | split
    | refine Kept.upd ?_ rfl rfl rfl rfl

theorem execLinkDown_kept {s0 : State} (t : Nat) (x : LinkLoss) (s : State) (h : Kept s0 s) : KeptOut s0 (execLinkDown t x s) := by
  unfold execLinkDown
  try lift_lets
  repeat' with_reducible first
    | assumption
    | apply advance_kept
    | apply cutMonitor_kept
    | exact KeptOut.fault
    | apply KeptOut.next
    | apply Kept.ite
    | apply KeptOut.ite
    | (intro s; have hs : Kept s0 s := ?_; clear_value s; rotate_left; subst s)
    | (intro x; subst x)
    | (split <;> (try lift_lets))
    | refine Kept.upd ?_ rfl rfl rfl rfl

theorem execResetModule_kept {s0 : State} (t : Nat) (m : Msg) (boot : BootInputs) (s : State) (h : Kept s0 s) : KeptOut s0 (execResetModule t m boot s) := by
  unfold execResetModule
  repeat' with_reducible first
    | assumption
    | apply serveThen_kept
    | apply checked_kept
    | apply warmStart_kept
    | apply KeptOut.next
    | apply KeptAnswer.ok
    | (intro s hs)

theorem execSettingsStoreOutcome_kept {s0 : State} (t : Nat) (erased : Bool) (s : State) (h : Kept s0 s) : KeptOut s0 (execSettingsStoreOutcome t erased s) := by
  unfold execSettingsStoreOutcome
  repeat' with_reducible first
    | assumption
    | apply storeOutcome_kept
    | apply writeSettings_kept
    | apply advance_kept
    | apply KeptOut.next
    | (intro s hs)

theorem noteTaint_kept {s0 : State} (n input : Nat) (l : List Sample) (s : State) (h : Kept s0 s) : Kept s0 (noteTaint n input l s) := by
  unfold noteTaint
  try lift_lets
  repeat' with_reducible first
    | assumption
    | apply record_kept
    | apply Kept.ite
    | (intro s; have hs : Kept s0 s := ?_; clear_value s; rotate_left; subst s)
    | (intro x; subst x)
    | (split <;> (try lift_lets))
    | refine Kept.upd ?_ rfl rfl rfl rfl

theorem countEntry_kept {s0 : State} (n input : Nat) (l : List Sample) (s : State) (h : Kept s0 s) : Kept s0 (countEntry n input l s) := by
  unfold countEntry
  try lift_lets
  repeat' with_reducible first
    | assumption
    | apply noteTaint_kept
    | (intro s; have hs : Kept s0 s := ?_; clear_value s; rotate_left; subst s)
    | (intro x; subst x)
    | refine Kept.upd ?_ rfl rfl rfl rfl

theorem countEntries_kept {s0 : State} (n first : Nat) (entries : List (List Sample)) (s : State) (h : Kept s0 s) : Kept s0 (countEntries n first entries s) := by
  unfold countEntries
  repeat' with_reducible first
    | assumption
    | apply countEntry_kept
    | (intro s x hs)
    | (intro s hs)
    | refine Kept.foldl ?_ _ ?_

theorem takeReadings_kept {s0 : State} (readings : List (List Sample)) (s : State) (h : Kept s0 s) : Kept s0 (takeReadings readings s) := by
  unfold takeReadings
  try lift_lets
  repeat' with_reducible first
    | assumption
    | apply countEntries_kept
    | (intro s; have hs : Kept s0 s := ?_; clear_value s; rotate_left; subst s)
    | (intro x; subst x)
    | refine Kept.upd ?_ rfl rfl rfl rfl

theorem followThreshold_kept {s0 : State} (r : Nat × Int) (x : Nat × Int × Int) (s : State) (h : Kept s0 s) : Kept s0 (followThreshold r x s) := by
  unfold followThreshold
  repeat' with_reducible first
    | assumption
    | apply assertSource_kept
    | apply endSource_kept
    | apply Kept.ite
    | split

theorem followHeat_kept {s0 : State} (s : State) (h : Kept s0 s) : Kept s0 (followHeat s) := by
  unfold followHeat
  try lift_lets
  repeat' with_reducible first
    | assumption
    | apply throttleEdge_kept
    | apply followThreshold_kept
    | apply dieEdge_kept
    | (intro s; have hs : Kept s0 s := ?_; clear_value s; rotate_left; subst s)
    | (intro x; subst x)
    | (intro s x hs)
    | (intro s hs)
    | refine Kept.foldl ?_ _ ?_

theorem followInterlock_kept {s0 : State} (s : State) (h : Kept s0 s) : Kept s0 (followInterlock s) := by
  unfold followInterlock
  try lift_lets
  repeat' with_reducible first
    | assumption
    | apply record_kept
    | apply Kept.ite
    | (intro s; have hs : Kept s0 s := ?_; clear_value s; rotate_left; subst s)
    | (intro x; subst x)
    | (split <;> (try lift_lets))
    | refine Kept.upd ?_ rfl rfl rfl rfl

theorem execScan_kept {s0 : State} (t : Nat) (readings : List (List Sample)) (s : State) (h : Kept s0 s) : KeptOut s0 (execScan t readings s) := by
  unfold execScan
  try lift_lets
  repeat' with_reducible first
    | assumption
    | apply advance_kept
    | apply followInterlock_kept
    | apply followHeat_kept
    | apply takeReadings_kept
    | exact KeptOut.fault
    | apply KeptOut.next
    | apply Kept.ite
    | apply KeptOut.ite
    | (intro s; have hs : Kept s0 s := ?_; clear_value s; rotate_left; subst s)
    | (intro x; subst x)
    | (split <;> (try lift_lets))

theorem execThermalStep_kept {s0 : State} (t : Nat) (s : State) (h : Kept s0 s) : KeptOut s0 (execThermalStep t s) := by
  unfold execThermalStep
  try lift_lets
  repeat' with_reducible first
    | assumption
    | apply advance_kept
    | apply record_kept
    | apply KeptOut.next
    | apply Kept.ite
    | apply KeptOut.ite
    | (intro s; have hs : Kept s0 s := ?_; clear_value s; rotate_left; subst s)
    | (intro x; subst x)
    | (split <;> (try lift_lets))
    | refine Kept.upd ?_ rfl rfl rfl rfl

theorem urgent_kept {s0 : State} (input : Nat) (x : Sample) (s : State) (h : Kept s0 s) : Kept s0 (urgent input x s) := by
  unfold urgent
  try lift_lets
  repeat' with_reducible first
    | assumption
    | apply record_kept
    | apply touchWindow_kept
    | apply Kept.ite
    | (intro s; have hs : Kept s0 s := ?_; clear_value s; rotate_left; subst s)
    | (intro x; subst x)
    | (split <;> (try lift_lets))
    | refine Kept.upd ?_ rfl rfl rfl rfl

theorem execUrgentRequest_kept {s0 : State} (t input : Nat) (x : Sample) (s : State) (h : Kept s0 s) : KeptOut s0 (execUrgentRequest t input x s) := by
  unfold execUrgentRequest
  try lift_lets
  repeat' with_reducible first
    | assumption
    | apply advance_kept
    | apply urgent_kept
    | exact KeptOut.fault
    | apply KeptOut.next
    | apply Kept.ite
    | apply KeptOut.ite
    | (intro s; have hs : Kept s0 s := ?_; clear_value s; rotate_left; subst s)
    | (intro x; subst x)
    | (split <;> (try lift_lets))

theorem execShutdownComparator_kept {s0 : State} (t input : Nat) (x : Sample) (s : State) (h : Kept s0 s) : KeptOut s0 (execShutdownComparator t input x s) := by
  unfold execShutdownComparator
  try lift_lets
  repeat' with_reducible first
    | assumption
    | apply advance_kept
    | apply assertSource_kept
    | apply urgent_kept
    | exact KeptOut.fault
    | apply KeptOut.next
    | apply Kept.ite
    | apply KeptOut.ite
    | (intro s; have hs : Kept s0 s := ?_; clear_value s; rotate_left; subst s)
    | (intro x; subst x)
    | (split <;> (try lift_lets))

theorem selfOutcome_kept {s0 : State} (a b : List Int) (s : State) (h : Kept s0 s) : Kept s0 (selfOutcome a b s) := by
  unfold selfOutcome
  try lift_lets
  repeat' with_reducible first
    | assumption
    | apply assertSource_kept
    | apply endSource_kept
    | apply Kept.ite
    | (intro s; have hs : Kept s0 s := ?_; clear_value s; rotate_left; subst s)
    | (intro x; subst x)
    | (split <;> (try lift_lets))
    | refine Kept.upd ?_ rfl rfl rfl rfl

theorem takeSelftest_kept {s0 : State} (a b : List (List Sample)) (s : State) (h : Kept s0 s) : Kept s0 (takeSelftest a b s) := by
  unfold takeSelftest
  try lift_lets
  repeat' with_reducible first
    | assumption
    | apply countEntries_kept
    | apply selfOutcome_kept
    | apply Kept.ite
    | (intro s; have hs : Kept s0 s := ?_; clear_value s; rotate_left; subst s)
    | (intro x; subst x)
    | (split <;> (try lift_lets))
    | refine Kept.upd ?_ rfl rfl rfl rfl

theorem execSelftest_kept {s0 : State} (t : Nat) (a b : List (List Sample)) (s : State) (h : Kept s0 s) : KeptOut s0 (execSelftest t a b s) := by
  unfold execSelftest
  try lift_lets
  repeat' with_reducible first
    | assumption
    | apply advance_kept
    | apply takeSelftest_kept
    | exact KeptOut.fault
    | apply KeptOut.next
    | apply Kept.ite
    | apply KeptOut.ite
    | (intro s; have hs : Kept s0 s := ?_; clear_value s; rotate_left; subst s)
    | (intro x; subst x)
    | (split <;> (try lift_lets))

theorem execReferenceModeWarm_kept {s0 : State} (t : Nat) (conv : Conv) (s : State) (h : Kept s0 s) : KeptOut s0 (execReferenceModeWarm t conv s) := by
  unfold execReferenceModeWarm
  try lift_lets
  repeat' with_reducible first
    | assumption
    | apply advance_kept
    | apply KeptOut.next
    | apply Kept.ite
    | apply KeptOut.ite
    | (intro s; have hs : Kept s0 s := ?_; clear_value s; rotate_left; subst s)
    | (intro x; subst x)
    | (split <;> (try lift_lets))
    | refine Kept.upd ?_ rfl rfl rfl rfl

theorem execConvRefReady_kept {s0 : State} (t : Nat) (conv : Conv) (s : State) (h : Kept s0 s) : KeptOut s0 (execConvRefReady t conv s) := by
  unfold execConvRefReady
  try lift_lets
  repeat' with_reducible first
    | assumption
    | apply advance_kept
    | apply KeptOut.next
    | apply Kept.ite
    | apply KeptOut.ite
    | (intro s; have hs : Kept s0 s := ?_; clear_value s; rotate_left; subst s)
    | (intro x; subst x)
    | (split <;> (try lift_lets))
    | refine Kept.upd ?_ rfl rfl rfl rfl

theorem execReferenceModeAuto_kept {s0 : State} (t : Nat) (conv : Conv) (s : State) (h : Kept s0 s) : KeptOut s0 (execReferenceModeAuto t conv s) := by
  unfold execReferenceModeAuto
  try lift_lets
  repeat' with_reducible first
    | assumption
    | apply advance_kept
    | apply KeptOut.next
    | apply Kept.ite
    | apply KeptOut.ite
    | (intro s; have hs : Kept s0 s := ?_; clear_value s; rotate_left; subst s)
    | (intro x; subst x)
    | (split <;> (try lift_lets))
    | refine Kept.upd ?_ rfl rfl rfl rfl

theorem startProbe_kept {s0 : State} (s : State) (h : Kept s0 s) : Kept s0 (startProbe s) := by
  unfold startProbe
  try lift_lets
  repeat' with_reducible first
    | assumption
    | apply freshBase_kept
    | apply startWindow_kept
    | apply Kept.ite
    | (intro s; have hs : Kept s0 s := ?_; clear_value s; rotate_left; subst s)
    | (intro x; subst x)
    | (split <;> (try lift_lets))
    | refine Kept.upd ?_ rfl rfl rfl rfl

theorem endProbe_kept {s0 : State} (w : RakeWindow) (m : Probe) (s : State) (h : Kept s0 s) : Kept s0 (endProbe w m s) := by
  unfold endProbe
  try lift_lets
  repeat' with_reducible first
    | assumption
    | apply checkCoverage_kept
    | apply windowResults_kept
    | apply Kept.ite
    | (intro s; have hs : Kept s0 s := ?_; clear_value s; rotate_left; subst s)
    | (intro x; subst x)
    | (split <;> (try lift_lets))
    | refine Kept.upd ?_ rfl rfl rfl rfl

theorem execProbeWindow_kept {s0 : State} (t : Nat) (m : Option Probe) (s : State) (h : Kept s0 s) : KeptOut s0 (execProbeWindow t m s) := by
  unfold execProbeWindow
  try lift_lets
  repeat' with_reducible first
    | assumption
    | apply advance_kept
    | apply startProbe_kept
    | apply endProbe_kept
    | apply KeptOut.next
    | (intro s; have hs : Kept s0 s := ?_; clear_value s; rotate_left; subst s)
    | (intro x; subst x)
    | (split <;> (try lift_lets))
    | refine Kept.upd ?_ rfl rfl rfl rfl

theorem startSweep_kept {s0 : State} (s : State) (h : Kept s0 s) : Kept s0 (startSweep s) := by
  unfold startSweep
  try lift_lets
  repeat' with_reducible first
    | assumption
    | apply freshBase_kept
    | apply startWindow_kept
    | apply refNotReady_kept
    | apply Kept.ite
    | (intro s; have hs : Kept s0 s := ?_; clear_value s; rotate_left; subst s)
    | (intro x; subst x)
    | (split <;> (try lift_lets))
    | refine Kept.upd ?_ rfl rfl rfl rfl

theorem endSweep_kept {s0 : State} (w : RakeWindow) (m : Probe) (samples : List Sample) (s : State) (h : Kept s0 s) : Kept s0 (endSweep w m samples s) := by
  unfold endSweep
  repeat' with_reducible first
    | assumption
    | apply sweepSamples_kept
    | apply windowResults_kept
    | refine Kept.upd ?_ rfl rfl rfl rfl

theorem execSweepWindow_kept {s0 : State} (t : Nat) (m : Option Probe) (samples : List Sample) (s : State) (h : Kept s0 s) : KeptOut s0 (execSweepWindow t m samples s) := by
  unfold execSweepWindow
  try lift_lets
  repeat' with_reducible first
    | assumption
    | apply advance_kept
    | apply startSweep_kept
    | apply endSweep_kept
    | exact KeptOut.fault
    | apply KeptOut.next
    | apply Kept.ite
    | apply KeptOut.ite
    | (intro s; have hs : Kept s0 s := ?_; clear_value s; rotate_left; subst s)
    | (intro x; subst x)
    | (split <;> (try lift_lets))
    | refine Kept.upd ?_ rfl rfl rfl rfl

theorem execFaultMapFlashWrite_kept {s0 : State} (t : Nat) (s : State) (h : Kept s0 s) : KeptOut s0 (execFaultMapFlashWrite t s) := by
  unfold execFaultMapFlashWrite
  try lift_lets
  repeat' with_reducible first
    | assumption
    | apply advance_kept
    | apply KeptOut.next
    | apply Kept.ite
    | apply KeptOut.ite
    | (intro s; have hs : Kept s0 s := ?_; clear_value s; rotate_left; subst s)
    | (intro x; subst x)
    | (split <;> (try lift_lets))
    | refine Kept.upd ?_ rfl rfl rfl rfl

theorem execMapSnapshot_kept {s0 : State} (t : Nat) (s : State) (h : Kept s0 s) : KeptOut s0 (execMapSnapshot t s) := by
  unfold execMapSnapshot
  try lift_lets
  repeat' with_reducible first
    | assumption
    | apply advance_kept
    | apply cvuJob_kept
    | apply KeptOut.next
    | apply Kept.ite
    | apply KeptOut.ite
    | (intro s; have hs : Kept s0 s := ?_; clear_value s; rotate_left; subst s)
    | (intro x; subst x)
    | (split <;> (try lift_lets))
    | refine Kept.upd ?_ rfl rfl rfl rfl

theorem takeSample_kept {s0 : State} (a b : Bool) (s : State) (h : Kept s0 s) : Kept s0 (takeSample a b s) := by
  unfold takeSample
  try lift_lets
  repeat' with_reducible first
    | assumption
    | apply Kept.ite
    | (intro s; have hs : Kept s0 s := ?_; clear_value s; rotate_left; subst s)
    | (intro x; subst x)
    | (split <;> (try lift_lets))
    | refine Kept.upd ?_ rfl rfl rfl rfl

theorem execSdimSample_kept {s0 : State} (t : Nat) (a b : Contact) (s : State) (h : Kept s0 s) : KeptOut s0 (execSdimSample t a b s) := by
  unfold execSdimSample
  try lift_lets
  repeat' with_reducible first
    | assumption
    | apply advance_kept
    | apply takeSample_kept
    | apply KeptOut.next
    | apply Kept.ite
    | apply KeptOut.ite
    | (intro s; have hs : Kept s0 s := ?_; clear_value s; rotate_left; subst s)
    | (intro x; subst x)
    | (split <;> (try lift_lets))

theorem startDemand_kept {s0 : State} (a b : Bool) (s : State) (h : Kept s0 s) : Kept s0 (startDemand a b s) := by
  unfold startDemand
  try lift_lets
  repeat' with_reducible first
    | assumption
    | apply record_kept
    | apply targetLight_kept
    | apply rakeUpdate_kept
    | apply interruptRun_kept
    | apply Kept.ite
    | (intro s; have hs : Kept s0 s := ?_; clear_value s; rotate_left; subst s)
    | (intro x; subst x)
    | (split <;> (try lift_lets))
    | refine Kept.upd ?_ rfl rfl rfl rfl

theorem releaseLight_kept {s0 : State} (target : Nat) (held : Bool) (s : State) (h : Kept s0 s) : Kept s0 (releaseLight target held s) := by
  unfold releaseLight
  repeat' with_reducible first
    | assumption
    | apply restoreBeam_kept
    | apply closeSwitch_kept
    | apply Kept.ite
    | split
    | refine Kept.upd ?_ rfl rfl rfl rfl

theorem releaseDemand_kept {s0 : State} (s : State) (h : Kept s0 s) : Kept s0 (releaseDemand s) := by
  unfold releaseDemand
  try lift_lets
  repeat' with_reducible first
    | assumption
    | apply record_kept
    | apply releaseLight_kept
    | apply rakeUpdate_kept
    | apply Kept.ite
    | (intro s; have hs : Kept s0 s := ?_; clear_value s; rotate_left; subst s)
    | (intro x; subst x)
    | (split <;> (try lift_lets))
    | refine Kept.upd ?_ rfl rfl rfl rfl

theorem endRamp_kept {s0 : State} (s : State) (h : Kept s0 s) : Kept s0 (endRamp s) := by
  unfold endRamp
  repeat' with_reducible first
    | assumption
    | apply applyTarget_kept
    | apply Kept.ite
    | split

theorem raiseDiscrepancy_kept {s0 : State} (s : State) (h : Kept s0 s) : Kept s0 (raiseDiscrepancy s) := by
  unfold raiseDiscrepancy
  repeat' with_reducible first
    | assumption
    | apply assertSource_kept
    | apply Kept.ite
    | split
    | refine Kept.upd ?_ rfl rfl rfl rfl

theorem followAgreement_kept {s0 : State} (s : State) (h : Kept s0 s) : Kept s0 (followAgreement s) := by
  unfold followAgreement
  repeat' with_reducible first
    | assumption
    | apply endSource_kept
    | apply Kept.ite
    | split
    | refine Kept.upd ?_ rfl rfl rfl rfl

theorem raiseProofMissing_kept {s0 : State} (s : State) (h : Kept s0 s) : Kept s0 (raiseProofMissing s) := by
  unfold raiseProofMissing
  repeat' with_reducible first
    | assumption
    | apply assertSource_kept
    | apply Kept.ite
    | split
    | refine Kept.upd ?_ rfl rfl rfl rfl

theorem seeProof_kept {s0 : State} (s : State) (h : Kept s0 s) : Kept s0 (seeProof s) := by
  unfold seeProof
  try lift_lets
  repeat' with_reducible first
    | assumption
    | apply record_kept
    | apply endSource_kept
    | apply proofTransition_kept
    | apply Kept.ite
    | (intro s; have hs : Kept s0 s := ?_; clear_value s; rotate_left; subst s)
    | (intro x; subst x)
    | (split <;> (try lift_lets))
    | refine Kept.upd ?_ rfl rfl rfl rfl

theorem followProof_kept {s0 : State} (oldA oldB : Bool) (s : State) (h : Kept s0 s) : Kept s0 (followProof oldA oldB s) := by
  unfold followProof
  try lift_lets
  repeat' with_reducible first
    | assumption
    | apply seeProof_kept
    | apply Kept.ite
    | (intro s; have hs : Kept s0 s := ?_; clear_value s; rotate_left; subst s)
    | (intro x; subst x)
    | (split <;> (try lift_lets))
    | refine Kept.upd ?_ rfl rfl rfl rfl

theorem tickDue_kept {s0 : State} (s : State) (h : Kept s0 s) : Kept s0 (tickDue s) := by
  unfold tickDue
  repeat' with_reducible first
    | assumption
    | apply raiseProofMissing_kept
    | apply raiseDiscrepancy_kept
    | apply endRamp_kept

theorem takeLevels_kept {s0 : State} (s : State) (h : Kept s0 s) : Kept s0 (takeLevels s) := by
  unfold takeLevels
  try lift_lets
  repeat' with_reducible first
    | assumption
    | apply startDemand_kept
    | apply releaseDemand_kept
    | apply followProof_kept
    | apply followAgreement_kept
    | apply Kept.ite
    | (intro s; have hs : Kept s0 s := ?_; clear_value s; rotate_left; subst s)
    | (intro x; subst x)
    | (split <;> (try lift_lets))
    | refine Kept.upd ?_ rfl rfl rfl rfl

theorem execSdimFilterTick_kept {s0 : State} (t : Nat) (s : State) (h : Kept s0 s) : KeptOut s0 (execSdimFilterTick t s) := by
  unfold execSdimFilterTick
  try lift_lets
  repeat' with_reducible first
    | assumption
    | apply advance_kept
    | apply tickDue_kept
    | apply takeLevels_kept
    | apply KeptOut.next
    | apply Kept.ite
    | apply KeptOut.ite
    | (intro s; have hs : Kept s0 s := ?_; clear_value s; rotate_left; subst s)
    | (intro x; subst x)
    | (split <;> (try lift_lets))

theorem execSdimDiscrepancy_kept {s0 : State} (t : Nat) (s : State) (h : Kept s0 s) : KeptOut s0 (execSdimDiscrepancy t s) := by
  unfold execSdimDiscrepancy
  try lift_lets
  repeat' with_reducible first
    | assumption
    | apply advance_kept
    | apply raiseDiscrepancy_kept
    | apply KeptOut.next
    | apply Kept.ite
    | apply KeptOut.ite
    | (intro s; have hs : Kept s0 s := ?_; clear_value s; rotate_left; subst s)
    | (intro x; subst x)
    | (split <;> (try lift_lets))

theorem execProofMissing_kept {s0 : State} (t : Nat) (s : State) (h : Kept s0 s) : KeptOut s0 (execProofMissing t s) := by
  unfold execProofMissing
  repeat' with_reducible first
    | assumption
    | apply raiseProofMissing_kept
    | apply advance_kept
    | apply KeptOut.next

theorem bankSel_setBankScale (b : Bank) (v : Nat) (a : PixelArray) : (setBankScale b v a).bankSel = a.bankSel := by cases b <;> rfl

theorem lowerShown_kept {s0 : State} (env : Nat) (s : State) (h : Kept s0 s) : Kept s0 (lowerShown env s) := by
  unfold lowerShown
  split
  · exact Kept.upd h rfl rfl (bankSel_setBankScale _ _ _) rfl
  · exact h

theorem execRampTick_kept {s0 : State} (t : Nat) (s : State) (h : Kept s0 s) : KeptOut s0 (execRampTick t s) := by
  unfold execRampTick
  try lift_lets
  repeat' with_reducible first
    | assumption
    | apply advance_kept
    | apply lowerShown_kept
    | apply KeptOut.next
    | (intro s; have hs : Kept s0 s := ?_; clear_value s; rotate_left; subst s)
    | (intro x; subst x)
    | (split <;> (try lift_lets))
    | refine Kept.upd ?_ rfl rfl rfl rfl

theorem execRampEnd_kept {s0 : State} (t : Nat) (s : State) (h : Kept s0 s) : KeptOut s0 (execRampEnd t s) := by
  unfold execRampEnd
  try lift_lets
  repeat' with_reducible first
    | assumption
    | apply endRamp_kept
    | apply advance_kept
    | apply enterIdle_kept
    | apply KeptOut.next
    | apply Kept.ite
    | apply KeptOut.ite
    | (intro s; have hs : Kept s0 s := ?_; clear_value s; rotate_left; subst s)
    | (intro x; subst x)
    | (split <;> (try lift_lets))

theorem execRampEnvelope_kept {s0 : State} (t mean : Nat) (s : State) (h : Kept s0 s) : KeptOut s0 (execRampEnvelope t mean s) := by
  unfold execRampEnvelope
  try lift_lets
  repeat' with_reducible first
    | assumption
    | apply advance_kept
    | apply assertSource_kept
    | apply KeptOut.next
    | apply Kept.ite
    | apply KeptOut.ite
    | (intro s; have hs : Kept s0 s := ?_; clear_value s; rotate_left; subst s)
    | (intro x; subst x)
    | (split <;> (try lift_lets))
    | refine Kept.upd ?_ rfl rfl rfl rfl

theorem rollWindow_kept {s0 : State} (k mean : Nat) (s : State) (h : Kept s0 s) : Kept s0 (rollWindow k mean s) := by
  unfold rollWindow
  repeat' with_reducible first
    | assumption
    | apply Kept.ite
    | split
    | refine Kept.upd ?_ rfl rfl rfl rfl

theorem execGovernorEnvelope_kept {s0 : State} (t mean : Nat) (s : State) (h : Kept s0 s) : KeptOut s0 (execGovernorEnvelope t mean s) := by
  unfold execGovernorEnvelope
  try lift_lets
  repeat' with_reducible first
    | assumption
    | apply advance_kept
    | apply rollWindow_kept
    | apply assertSource_kept
    | apply KeptOut.next
    | apply Kept.ite
    | apply KeptOut.ite
    | (intro s; have hs : Kept s0 s := ?_; clear_value s; rotate_left; subst s)
    | (intro x; subst x)
    | (split <;> (try lift_lets))

theorem execVledRegulation_kept {s0 : State} (t mv : Nat) (s : State) (h : Kept s0 s) : KeptOut s0 (execVledRegulation t mv s) := by
  unfold execVledRegulation
  try lift_lets
  repeat' with_reducible first
    | assumption
    | apply advance_kept
    | apply assertSource_kept
    | apply endSource_kept
    | apply KeptOut.next
    | apply Kept.ite
    | apply KeptOut.ite
    | (intro s; have hs : Kept s0 s := ?_; clear_value s; rotate_left; subst s)
    | (intro x; subst x)
    | (split <;> (try lift_lets))
    | refine Kept.upd ?_ rfl rfl rfl rfl

theorem pulseOutcome_kept {s0 : State} (fallOk : Bool) (recoveryOk : Option Bool) (s : State) (h : Kept s0 s) : Kept s0 (pulseOutcome fallOk recoveryOk s) := by
  unfold pulseOutcome
  try lift_lets
  repeat' with_reducible first
    | assumption
    | apply record_kept
    | apply assertSource_kept
    | apply Kept.ite
    | (intro s; have hs : Kept s0 s := ?_; clear_value s; rotate_left; subst s)
    | (intro x; subst x)
    | (split <;> (try lift_lets))
    | refine Kept.upd ?_ rfl rfl rfl rfl

theorem execCutoffTestpulse_kept {s0 : State} (t : Nat) (fallOk : Bool) (recoveryOk : Option Bool) (s : State) (h : Kept s0 s) : KeptOut s0 (execCutoffTestpulse t fallOk recoveryOk s) := by
  unfold execCutoffTestpulse
  try lift_lets
  repeat' with_reducible first
    | assumption
    | apply advance_kept
    | apply pulseOutcome_kept
    | apply KeptOut.next
    | apply Kept.ite
    | apply KeptOut.ite
    | (intro s; have hs : Kept s0 s := ?_; clear_value s; rotate_left; subst s)
    | (intro x; subst x)
    | (split <;> (try lift_lets))
    | refine Kept.upd ?_ rfl rfl rfl rfl

theorem execSwitchReadback_kept {s0 : State} (t : Nat) (isOpen : Bool) (s : State) (h : Kept s0 s) : KeptOut s0 (execSwitchReadback t isOpen s) := by
  unfold execSwitchReadback
  try lift_lets
  repeat' with_reducible first
    | assumption
    | apply advance_kept
    | apply assertSource_kept
    | apply KeptOut.next
    | apply Kept.ite
    | apply KeptOut.ite
    | (intro s; have hs : Kept s0 s := ?_; clear_value s; rotate_left; subst s)
    | (intro x; subst x)
    | (split <;> (try lift_lets))
    | refine Kept.upd ?_ rfl rfl rfl rfl

theorem symArrive_kept {s0 : State} (x : Sym) (s : State) (h : Kept s0 s) : Kept s0 (symArrive x s) := by
  unfold symArrive
  repeat' with_reducible first
    | assumption
    | apply Kept.ite
    | split
    | refine Kept.upd ?_ rfl rfl rfl rfl

theorem execSymbolSlot_kept {s0 : State} (t : Nat) (s : State) (h : Kept s0 s) : KeptOut s0 (execSymbolSlot t s) := by
  unfold execSymbolSlot
  try lift_lets
  repeat' with_reducible first
    | assumption
    | apply advance_kept
    | apply KeptOut.next
    | apply Kept.ite
    | apply KeptOut.ite
    | (intro s; have hs : Kept s0 s := ?_; clear_value s; rotate_left; subst s)
    | (intro x; subst x)
    | (split <;> (try lift_lets))
    | refine Kept.upd ?_ rfl rfl rfl rfl

theorem execSymbolRepeat_kept {s0 : State} (t : Nat) (sym : Sym) (s : State) (h : Kept s0 s) : KeptOut s0 (execSymbolRepeat t sym s) := by
  unfold execSymbolRepeat
  try lift_lets
  repeat' with_reducible first
    | assumption
    | apply advance_kept
    | apply symArrive_kept
    | apply KeptOut.next
    | apply Kept.ite
    | apply KeptOut.ite
    | (intro s; have hs : Kept s0 s := ?_; clear_value s; rotate_left; subst s)
    | (intro x; subst x)
    | (split <;> (try lift_lets))
    | refine Kept.upd ?_ rfl rfl rfl rfl

theorem compareBank_kept {s0 : State} (sym : Sym) (s : State) (h : Kept s0 s) : Kept s0 (compareBank sym s) := by
  unfold compareBank
  repeat' with_reducible first
    | assumption
    | apply Kept.ite
    | split
    | refine Kept.upd ?_ rfl rfl rfl rfl

theorem takeSluice_kept {s0 : State} (sym : Sym) (tEnd : Nat) (s : State) (h : Kept s0 s) : Kept s0 (takeSluice sym tEnd s) := by
  unfold takeSluice
  try lift_lets
  repeat' with_reducible first
    | assumption
    | apply compareBank_kept
    | apply record_kept
    | apply Kept.ite
    | (intro s; have hs : Kept s0 s := ?_; clear_value s; rotate_left; subst s)
    | (intro x; subst x)
    | (split <;> (try lift_lets))
    | refine Kept.upd ?_ rfl rfl rfl rfl

theorem execSluiceSymbolReceived_kept {s0 : State} (t : Nat) (sym : Sym) (tEnd : Nat) (s : State) (h : Kept s0 s) : KeptOut s0 (execSluiceSymbolReceived t sym tEnd s) := by
  unfold execSluiceSymbolReceived
  try lift_lets
  repeat' with_reducible first
    | assumption
    | apply advance_kept
    | apply symArrive_kept
    | apply takeSluice_kept
    | apply KeptOut.next
    | apply Kept.ite
    | apply KeptOut.ite
    | (intro s; have hs : Kept s0 s := ?_; clear_value s; rotate_left; subst s)
    | (intro x; subst x)
    | (split <;> (try lift_lets))

theorem confirmUpstream_kept {s0 : State} (s : State) (h : Kept s0 s) : Kept s0 (confirmUpstream s) := by
  unfold confirmUpstream
  repeat' with_reducible first
    | assumption
    | apply Kept.ite
    | split
    | refine Kept.upd ?_ rfl rfl rfl rfl

theorem takeHead_kept {s0 : State} (sym : Sym) (s : State) (h : Kept s0 s) : Kept s0 (takeHead sym s) := by
  unfold takeHead
  try lift_lets
  repeat' with_reducible first
    | assumption
    | apply record_kept
    | apply checkLen_kept
    | apply Kept.ite
    | (intro s; have hs : Kept s0 s := ?_; clear_value s; rotate_left; subst s)
    | (intro x; subst x)
    | (split <;> (try lift_lets))
    | refine Kept.upd ?_ rfl rfl rfl rfl

theorem execHeadReceived_kept {s0 : State} (t : Nat) (sym : Sym) (s : State) (h : Kept s0 s) : KeptOut s0 (execHeadReceived t sym s) := by
  unfold execHeadReceived
  try lift_lets
  repeat' with_reducible first
    | assumption
    | apply advance_kept
    | apply symArrive_kept
    | apply takeHead_kept
    | apply record_kept
    | apply confirmUpstream_kept
    | apply KeptOut.next
    | apply Kept.ite
    | apply KeptOut.ite
    | (intro s; have hs : Kept s0 s := ?_; clear_value s; rotate_left; subst s)
    | (intro x; subst x)
    | (split <;> (try lift_lets))
    | refine Kept.upd ?_ rfl rfl rfl rfl

theorem pendDepth_kept {s0 : State} (depth : Nat) (s : State) (h : Kept s0 s) : Kept s0 (pendDepth depth s) := by
  unfold pendDepth
  try lift_lets
  repeat' with_reducible first
    | assumption
    | apply record_kept
    | apply Kept.ite
    | (intro s; have hs : Kept s0 s := ?_; clear_value s; rotate_left; subst s)
    | (intro x; subst x)
    | (split <;> (try lift_lets))
    | refine Kept.upd ?_ rfl rfl rfl rfl

theorem takeDepth_kept {s0 : State} (depth : Nat) (s : State) (h : Kept s0 s) : Kept s0 (takeDepth depth s) := by
  unfold takeDepth
  try lift_lets
  repeat' with_reducible first
    | assumption
    | apply checkLen_kept
    | apply readdress_kept
    | apply record_kept
    | apply Kept.ite
    | (intro s; have hs : Kept s0 s := ?_; clear_value s; rotate_left; subst s)
    | (intro x; subst x)
    | (split <;> (try lift_lets))
    | refine Kept.upd ?_ rfl rfl rfl rfl

theorem unenumerate_kept {s0 : State} (s : State) (h : Kept s0 s) : Kept s0 (unenumerate s) := by
  unfold unenumerate
  repeat' with_reducible first
    | assumption
    | apply readdress_kept
    | apply record_kept
    | refine Kept.upd ?_ rfl rfl rfl rfl

theorem execEnumReceived_kept {s0 : State} (t : Nat) (sym : Sym) (s : State) (h : Kept s0 s) : KeptOut s0 (execEnumReceived t sym s) := by
  unfold execEnumReceived
  try lift_lets
  repeat' with_reducible first
    | assumption
    | apply advance_kept
    | apply symArrive_kept
    | apply confirmUpstream_kept
    | apply pendDepth_kept
    | apply unenumerate_kept
    | apply takeDepth_kept
    | apply KeptOut.next
    | apply Kept.ite
    | apply KeptOut.ite
    | (intro s; have hs : Kept s0 s := ?_; clear_value s; rotate_left; subst s)
    | (intro x; subst x)
    | (split <;> (try lift_lets))
    | refine Kept.upd ?_ rfl rfl rfl rfl

theorem becomeHead_kept {s0 : State} (s : State) (h : Kept s0 s) : Kept s0 (becomeHead s) := by
  unfold becomeHead
  repeat' with_reducible first
    | assumption
    | apply readdress_kept
    | refine Kept.upd ?_ rfl rfl rfl rfl

theorem execStartWindowEnd_kept {s0 : State} (t : Nat) (s : State) (h : Kept s0 s) : KeptOut s0 (execStartWindowEnd t s) := by
  unfold execStartWindowEnd
  try lift_lets
  repeat' with_reducible first
    | assumption
    | apply advance_kept
    | apply becomeHead_kept
    | apply record_kept
    | apply KeptOut.next
    | apply Kept.ite
    | apply KeptOut.ite
    | (intro s; have hs : Kept s0 s := ?_; clear_value s; rotate_left; subst s)
    | (intro x; subst x)
    | (split <;> (try lift_lets))
    | refine Kept.upd ?_ rfl rfl rfl rfl

theorem execSyncLoss_kept {s0 : State} (t : Nat) (s : State) (h : Kept s0 s) : KeptOut s0 (execSyncLoss t s) := by
  unfold execSyncLoss
  try lift_lets
  repeat' with_reducible first
    | assumption
    | apply advance_kept
    | apply assertSource_kept
    | apply KeptOut.next
    | apply Kept.ite
    | apply KeptOut.ite
    | (intro s; have hs : Kept s0 s := ?_; clear_value s; rotate_left; subst s)
    | (intro x; subst x)
    | (split <;> (try lift_lets))
    | refine Kept.upd ?_ rfl rfl rfl rfl

theorem execSyncLossEnd_kept {s0 : State} (t : Nat) (s : State) (h : Kept s0 s) : KeptOut s0 (execSyncLossEnd t s) := by
  unfold execSyncLossEnd
  try lift_lets
  repeat' with_reducible first
    | assumption
    | apply advance_kept
    | apply endSource_kept
    | apply KeptOut.next
    | apply Kept.ite
    | apply KeptOut.ite
    | (intro s; have hs : Kept s0 s := ?_; clear_value s; rotate_left; subst s)
    | (intro x; subst x)
    | (split <;> (try lift_lets))
    | refine Kept.upd ?_ rfl rfl rfl rfl

theorem execLinkDelayMeasure_kept {s0 : State} (t delay : Nat) (s : State) (h : Kept s0 s) : KeptOut s0 (execLinkDelayMeasure t delay s) := by
  unfold execLinkDelayMeasure
  try lift_lets
  repeat' with_reducible first
    | assumption
    | apply advance_kept
    | apply record_kept
    | apply KeptOut.next
    | apply Kept.ite
    | apply KeptOut.ite
    | (intro s; have hs : Kept s0 s := ?_; clear_value s; rotate_left; subst s)
    | (intro x; subst x)
    | (split <;> (try lift_lets))
    | refine Kept.upd ?_ rfl rfl rfl rfl

end Sys2Proof.Machine
end

