-- ==== Sys2Proof/Laws/KeptMessages.lean ====
section
/-! SUPPORT. What almost every operation keeps: the messages, the gate, supply and boot. -/

namespace Sys2Proof.Machine

set_option Elab.async false

theorem rewriteModel_kept {s0 : State} (s : State) (h : Kept s0 s) : Kept s0 (rewriteModel s) := by
  unfold rewriteModel
  repeat' with_reducible first
    | assumption
    | refine Kept.upd ?_ rfl rfl rfl rfl

theorem execTrainingRetry_kept {s0 : State} (t : Nat) (attempts : List (List LaneSweep)) (s : State) (h : Kept s0 s) : KeptOut s0 (execTrainingRetry t attempts s) := by
  unfold execTrainingRetry
  try lift_lets
  repeat' with_reducible first
    | assumption
    | apply advance_kept
    | apply trainDram_kept
    | exact KeptOut.fault
    | apply KeptOut.next
    | apply Kept.ite
    | apply KeptOut.ite
    | (intro s; have hs : Kept s0 s := ?_; clear_value s; rotate_left; subst s)
    | (intro x; subst x)
    | (split <;> (try lift_lets))

theorem execImageCheckComplete_kept {s0 : State} (t : Nat) (v : ImageVerdict) (draws : List Nat) (s : State) (h : Kept s0 s) : KeptOut s0 (execImageCheckComplete t v draws s) := by
  unfold execImageCheckComplete
  try lift_lets
  repeat' with_reducible first
    | assumption
    | apply advance_kept
    | apply imageCheck_kept
    | apply KeptOut.next
    | apply Kept.ite
    | apply KeptOut.ite
    | (intro s; have hs : Kept s0 s := ?_; clear_value s; rotate_left; subst s)
    | (intro x; subst x)
    | (split <;> (try lift_lets))

theorem execLoaderCheckRetry_kept {s0 : State} (t : Nat) (ok : Bool) (s : State) (h : Kept s0 s) : KeptOut s0 (execLoaderCheckRetry t ok s) := by
  unfold execLoaderCheckRetry
  try lift_lets
  repeat' with_reducible first
    | assumption
    | apply advance_kept
    | apply checkLoader_kept
    | apply KeptOut.next
    | apply Kept.ite
    | apply KeptOut.ite
    | (intro s; have hs : Kept s0 s := ?_; clear_value s; rotate_left; subst s)
    | (intro x; subst x)
    | (split <;> (try lift_lets))

theorem execCalLoadComplete_kept {s0 : State} (t : Nat) (s : State) (h : Kept s0 s) : KeptOut s0 (execCalLoadComplete t s) := by
  unfold execCalLoadComplete
  try lift_lets
  repeat' with_reducible first
    | assumption
    | apply advance_kept
    | apply record_kept
    | apply rebuild_kept
    | apply setCalData_kept
    | apply levelSource_kept
    | apply proofTransition_kept
    | apply KeptOut.next
    | apply Kept.ite
    | apply KeptOut.ite
    | (intro s; have hs : Kept s0 s := ?_; clear_value s; rotate_left; subst s)
    | (intro x; subst x)
    | (split <;> (try lift_lets))
    | refine Kept.upd ?_ rfl rfl rfl rfl

theorem execMapRestoreComplete_kept {s0 : State} (t : Nat) (s : State) (h : Kept s0 s) : KeptOut s0 (execMapRestoreComplete t s) := by
  unfold execMapRestoreComplete
  try lift_lets
  repeat' with_reducible first
    | assumption
    | apply advance_kept
    | apply restoreMap_kept
    | apply KeptOut.next
    | apply Kept.ite
    | apply KeptOut.ite
    | (intro s; have hs : Kept s0 s := ?_; clear_value s; rotate_left; subst s)
    | (intro x; subst x)
    | (split <;> (try lift_lets))

theorem execVinBelowVbo_kept {s0 : State} (t : Nat) (s : State) (h : Kept s0 s) : KeptOut s0 (execVinBelowVbo t s) := by
  unfold execVinBelowVbo
  try lift_lets
  repeat' with_reducible first
    | assumption
    | apply advance_kept
    | apply KeptOut.next
    | apply Kept.ite
    | apply KeptOut.ite
    | (intro s; have hs : Kept s0 s := ?_; clear_value s; rotate_left; subst s)
    | (intro x; subst x)
    | (split <;> (try lift_lets))
    | refine Kept.upd ?_ rfl rfl rfl rfl

theorem execVinAboveVbo_kept {s0 : State} (t : Nat) (s : State) (h : Kept s0 s) : KeptOut s0 (execVinAboveVbo t s) := by
  unfold execVinAboveVbo
  try lift_lets
  repeat' with_reducible first
    | assumption
    | apply advance_kept
    | apply KeptOut.next
    | apply Kept.ite
    | apply KeptOut.ite
    | (intro s; have hs : Kept s0 s := ?_; clear_value s; rotate_left; subst s)
    | (intro x; subst x)
    | (split <;> (try lift_lets))
    | refine Kept.upd ?_ rfl rfl rfl rfl

theorem execBrownout_kept {s0 : State} (t : Nat) (s : State) (h : Kept s0 s) : KeptOut s0 (execBrownout t s) := by
  unfold execBrownout
  try lift_lets
  repeat' with_reducible first
    | assumption
    | apply advance_kept
    | apply enterBrownout_kept
    | apply assertSource_kept
    | apply KeptOut.next
    | apply Kept.ite
    | apply KeptOut.ite
    | (intro s; have hs : Kept s0 s := ?_; clear_value s; rotate_left; subst s)
    | (intro x; subst x)
    | (split <;> (try lift_lets))
    | refine Kept.upd ?_ rfl rfl rfl rfl

theorem execVledBlindWindowEnd_kept {s0 : State} (t : Nat) (s : State) (h : Kept s0 s) : KeptOut s0 (execVledBlindWindowEnd t s) := by
  unfold execVledBlindWindowEnd
  try lift_lets
  repeat' with_reducible first
    | assumption
    | apply advance_kept
    | apply KeptOut.next
    | apply Kept.ite
    | apply KeptOut.ite
    | (intro s; have hs : Kept s0 s := ?_; clear_value s; rotate_left; subst s)
    | (intro x; subst x)
    | (split <;> (try lift_lets))
    | refine Kept.upd ?_ rfl rfl rfl rfl

theorem execVinLow_kept {s0 : State} (t : Nat) (low : Bool) (vin : Nat) (s : State) (h : Kept s0 s) : KeptOut s0 (execVinLow t low vin s) := by
  unfold execVinLow
  try lift_lets
  repeat' with_reducible first
    | assumption
    | apply advance_kept
    | apply levelSource_kept
    | apply KeptOut.next
    | apply Kept.ite
    | apply KeptOut.ite
    | (intro s; have hs : Kept s0 s := ?_; clear_value s; rotate_left; subst s)
    | (intro x; subst x)
    | (split <;> (try lift_lets))

theorem execVinHigh_kept {s0 : State} (t : Nat) (high : Bool) (vin : Nat) (s : State) (h : Kept s0 s) : KeptOut s0 (execVinHigh t high vin s) := by
  unfold execVinHigh
  try lift_lets
  repeat' with_reducible first
    | assumption
    | apply advance_kept
    | apply levelSource_kept
    | apply KeptOut.next
    | apply Kept.ite
    | apply KeptOut.ite
    | (intro s; have hs : Kept s0 s := ?_; clear_value s; rotate_left; subst s)
    | (intro x; subst x)
    | (split <;> (try lift_lets))

theorem execHoldReady_kept {s0 : State} (t : Nat) (ready : Bool) (s : State) (h : Kept s0 s) : KeptOut s0 (execHoldReady t ready s) := by
  unfold execHoldReady
  try lift_lets
  repeat' with_reducible first
    | assumption
    | apply advance_kept
    | apply record_kept
    | apply KeptOut.next
    | apply Kept.ite
    | apply KeptOut.ite
    | (intro s; have hs : Kept s0 s := ?_; clear_value s; rotate_left; subst s)
    | (intro x; subst x)
    | (split <;> (try lift_lets))
    | refine Kept.upd ?_ rfl rfl rfl rfl

theorem execLastgaspSlotErase_kept {s0 : State} (t : Nat) (s : State) (h : Kept s0 s) : KeptOut s0 (execLastgaspSlotErase t s) := by
  unfold execLastgaspSlotErase
  try lift_lets
  repeat' with_reducible first
    | assumption
    | apply advance_kept
    | apply KeptOut.next
    | apply Kept.ite
    | apply KeptOut.ite
    | (intro s; have hs : Kept s0 s := ?_; clear_value s; rotate_left; subst s)
    | (intro x; subst x)
    | (split <;> (try lift_lets))
    | refine Kept.upd ?_ rfl rfl rfl rfl

theorem rollAuth_kept {s0 : State} (s : State) (h : Kept s0 s) : Kept s0 (rollAuth s) := by
  unfold rollAuth
  try lift_lets
  repeat' with_reducible first
    | assumption
    | apply endSource_kept
    | apply Kept.ite
    | (intro s; have hs : Kept s0 s := ?_; clear_value s; rotate_left; subst s)
    | (intro x; subst x)
    | (split <;> (try lift_lets))
    | refine Kept.upd ?_ rfl rfl rfl rfl

theorem rejectAuth_kept {s0 : State} (m : Msg) (s : State) (h : Kept s0 s) : Kept s0 (rejectAuth m s) := by
  unfold rejectAuth
  try lift_lets
  repeat' with_reducible first
    | assumption
    | apply rollAuth_kept
    | apply assertSource_kept
    | apply replyUntagged_kept
    | apply Kept.ite
    | (intro s; have hs : Kept s0 s := ?_; clear_value s; rotate_left; subst s)
    | (intro x; subst x)
    | (split <;> (try lift_lets))
    | refine Kept.upd ?_ rfl rfl rfl rfl

theorem execAuthWindowEnd_kept {s0 : State} (t : Nat) (s : State) (h : Kept s0 s) : KeptOut s0 (execAuthWindowEnd t s) := by
  unfold execAuthWindowEnd
  repeat' with_reducible first
    | assumption
    | apply rollAuth_kept
    | apply advance_kept
    | apply KeptOut.next

theorem hostArrival_kept {s0 : State} (s : State) (h : Kept s0 s) : Kept s0 (hostArrival s) := by
  unfold hostArrival
  repeat' with_reducible first
    | assumption
    | apply endSource_kept
    | refine Kept.upd ?_ rfl rfl rfl rfl

theorem acceptMsg_kept {s0 : State} (m : Msg) (s : State) (h : Kept s0 s) : Kept s0 (acceptMsg m s) := by
  unfold acceptMsg
  repeat' with_reducible first
    | assumption
    | apply hostArrival_kept
    | apply updSession_kept
    | refine Kept.upd ?_ rfl rfl rfl rfl

theorem gateTrusted_kept {s0 : State} (m : Msg) (x : Session) (s : State) (h : Kept s0 s) : Kept s0 (gateTrusted m x s) := by
  unfold gateTrusted
  try lift_lets
  repeat' with_reducible first
    | assumption
    | apply freshEnd_kept
    | apply replyTagged_kept
    | apply busyReply_kept
    | apply acceptMsg_kept
    | apply updSession_kept
    | apply Kept.ite
    | (intro s; have hs : Kept s0 s := ?_; clear_value s; rotate_left; subst s)
    | (intro x; subst x)
    | (split <;> (try lift_lets))
    | refine Kept.upd ?_ rfl rfl rfl rfl

theorem countOpenReject_kept {s0 : State} (m : Msg) (s : State) (h : Kept s0 s) : Kept s0 (countOpenReject m s) := by
  unfold countOpenReject
  repeat' with_reducible first
    | assumption
    | refine Kept.upd ?_ rfl rfl rfl rfl

theorem openTrusted_kept {s0 : State} (m : Msg) (d : Nat) (s : State) (h : Kept s0 s) : Kept s0 (openTrusted m d s) := by
  unfold openTrusted
  try lift_lets
  repeat' with_reducible first
    | assumption
    | apply hostArrival_kept
    | apply replyUntagged_kept
    | apply busyReply_kept
    | apply Kept.ite
    | (intro s; have hs : Kept s0 s := ?_; clear_value s; rotate_left; subst s)
    | (intro x; subst x)
    | (split <;> (try lift_lets))
    | refine Kept.upd ?_ rfl rfl rfl rfl

theorem gateOpening_kept {s0 : State} (m : Msg) (signed tag : List Byte) (s : State) (h : Kept s0 s) : Kept s0 (gateOpening m signed tag s) := by
  unfold gateOpening
  repeat' with_reducible first
    | assumption
    | apply rejectAuth_kept
    | apply countOpenReject_kept
    | apply openTrusted_kept
    | apply Kept.ite
    | split
    | refine Kept.upd ?_ rfl rfl rfl rfl

theorem gateCheck_kept {s0 : State} (ep : Endpoint) (raw : List Byte) (s : State) (h : Kept s0 s) : Kept s0 (gateCheck ep raw s) := by
  unfold gateCheck
  try lift_lets
  repeat' with_reducible first
    | assumption
    | apply replyUntagged_kept
    | apply gateOpening_kept
    | apply rejectAuth_kept
    | apply gateTrusted_kept
    | apply Kept.ite
    | (intro s; have hs : Kept s0 s := ?_; clear_value s; rotate_left; subst s)
    | (intro x; subst x)
    | (split <;> (try lift_lets))
    | refine Kept.upd ?_ rfl rfl rfl rfl

theorem execPsiferMessage_kept {s0 : State} (t : Nat) (ep : Endpoint) (raw : List Byte) (s : State) (h : Kept s0 s) : KeptOut s0 (execPsiferMessage t ep raw s) := by
  unfold execPsiferMessage
  try lift_lets
  repeat' with_reducible first
    | assumption
    | apply advance_kept
    | apply serveUnknown_kept
    | apply gateCheck_kept
    | apply KeptOut.next
    | apply Kept.ite
    | apply KeptOut.ite
    | (intro s; have hs : Kept s0 s := ?_; clear_value s; rotate_left; subst s)
    | (intro x; subst x)
    | (split <;> (try lift_lets))

theorem execSessionIdleLost_kept {s0 : State} (t session : Nat) (s : State) (h : Kept s0 s) : KeptOut s0 (execSessionIdleLost t session s) := by
  unfold execSessionIdleLost
  try lift_lets
  repeat' with_reducible first
    | assumption
    | apply advance_kept
    | apply countLost_kept
    | apply loseSession_kept
    | apply record_kept
    | apply KeptOut.next
    | apply Kept.ite
    | apply KeptOut.ite
    | (intro s; have hs : Kept s0 s := ?_; clear_value s; rotate_left; subst s)
    | (intro x; subst x)
    | (split <;> (try lift_lets))
    | refine Kept.upd ?_ rfl rfl rfl rfl

theorem execMpLoadWindow_kept {s0 : State} (t : Nat) (w : LoadWindow) (s : State) (h : Kept s0 s) : KeptOut s0 (execMpLoadWindow t w s) := by
  unfold execMpLoadWindow
  try lift_lets
  repeat' with_reducible first
    | assumption
    | apply advance_kept
    | apply record_kept
    | exact KeptOut.fault
    | apply KeptOut.next
    | apply Kept.ite
    | apply KeptOut.ite
    | (intro s; have hs : Kept s0 s := ?_; clear_value s; rotate_left; subst s)
    | (intro x; subst x)
    | (split <;> (try lift_lets))
    | refine Kept.upd ?_ rfl rfl rfl rfl

theorem sendEvent_kept {s0 : State} (x : Session) (loss : Nat) (recs : List EventRec) (s : State) (h : Kept s0 s) : Kept s0 (sendEvent x loss recs s) := by
  unfold sendEvent
  try lift_lets
  repeat' with_reducible first
    | assumption
    | apply freshEnd_kept
    | apply pushReply_kept
    | apply updSession_kept
    | (intro s; have hs : Kept s0 s := ?_; clear_value s; rotate_left; subst s)
    | (intro x; subst x)
    | refine Kept.upd ?_ rfl rfl rfl rfl

theorem trimGone_kept {s0 : State} (s : State) (h : Kept s0 s) : Kept s0 (trimGone s) := by
  unfold trimGone
  repeat' with_reducible first
    | assumption
    | refine Kept.upd ?_ rfl rfl rfl rfl

theorem deliverEvents_kept {s0 : State} (x : Session) (w : List LogRec) (s : State) (h : Kept s0 s) : Kept s0 (deliverEvents x w s) := by
  unfold deliverEvents
  try lift_lets
  repeat' with_reducible first
    | assumption
    | apply trimGone_kept
    | apply updSession_kept
    | apply sendEvent_kept
    | apply Kept.ite
    | (intro s; have hs : Kept s0 s := ?_; clear_value s; rotate_left; subst s)
    | (intro x; subst x)
    | (split <;> (try lift_lets))
    | refine Kept.upd ?_ rfl rfl rfl rfl

theorem execEventMessage_kept {s0 : State} (t session : Nat) (s : State) (h : Kept s0 s) : KeptOut s0 (execEventMessage t session s) := by
  unfold execEventMessage
  try lift_lets
  repeat' with_reducible first
    | assumption
    | apply advance_kept
    | apply deliverEvents_kept
    | apply KeptOut.next
    | apply Kept.ite
    | apply KeptOut.ite
    | (intro s; have hs : Kept s0 s := ?_; clear_value s; rotate_left; subst s)
    | (intro x; subst x)
    | (split <;> (try lift_lets))
    | refine Kept.upd ?_ rfl rfl rfl rfl

theorem windowEvent_kept {s0 : State} (s : State) (id : Nat) (h : Kept s0 s) : Kept s0 (windowEvent s id) := by
  unfold windowEvent
  try lift_lets
  repeat' with_reducible first
    | assumption
    | apply updSession_kept
    | apply sendEvent_kept
    | apply Kept.ite
    | (intro s; have hs : Kept s0 s := ?_; clear_value s; rotate_left; subst s)
    | (intro x; subst x)
    | (split <;> (try lift_lets))
    | refine Kept.upd ?_ rfl rfl rfl rfl

theorem execEventWindowEnd_kept {s0 : State} (t : Nat) (s : State) (h : Kept s0 s) : KeptOut s0 (execEventWindowEnd t s) := by
  unfold execEventWindowEnd
  try lift_lets
  repeat' with_reducible first
    | assumption
    | apply advance_kept
    | apply windowEvent_kept
    | apply KeptOut.next
    | apply Kept.ite
    | apply KeptOut.ite
    | (intro s; have hs : Kept s0 s := ?_; clear_value s; rotate_left; subst s)
    | (intro x; subst x)
    | (intro s x hs)
    | refine Kept.foldl ?_ _ ?_
    | (split <;> (try lift_lets))

theorem openSession_kept {s0 : State} (m : Msg) (key nonce : List Byte) (s : State) (h : Kept s0 s) : Kept s0 (openSession m key nonce s) := by
  unfold openSession
  try lift_lets
  repeat' with_reducible first
    | assumption
    | apply record_kept
    | apply noteServed_kept
    | apply pushReply_kept
    | apply Kept.ite
    | (intro s; have hs : Kept s0 s := ?_; clear_value s; rotate_left; subst s)
    | (intro x; subst x)
    | (split <;> (try lift_lets))
    | refine Kept.upd ?_ rfl rfl rfl rfl

theorem execSessionOpen_kept {s0 : State} (t : Nat) (m : Msg) (nonce : List Byte) (s : State) (h : Kept s0 s) : KeptOut s0 (execSessionOpen t m nonce s) := by
  unfold execSessionOpen
  try lift_lets
  repeat' with_reducible first
    | assumption
    | apply serveUnknown_kept
    | apply advance_kept
    | apply dequeue_kept
    | apply answered_kept
    | apply noteServed_kept
    | apply replyUntagged_kept
    | apply openSession_kept
    | exact KeptOut.fault
    | apply KeptOut.next
    | apply Kept.ite
    | apply KeptOut.ite
    | (intro s; have hs : Kept s0 s := ?_; clear_value s; rotate_left; subst s)
    | (intro x; subst x)
    | (split <;> (try lift_lets))
    | refine Kept.upd ?_ rfl rfl rfl rfl

theorem execSessionClose_kept {s0 : State} (t : Nat) (m : Msg) (s : State) (h : Kept s0 s) : KeptOut s0 (execSessionClose t m s) := by
  unfold execSessionClose
  repeat' with_reducible first
    | assumption
    | apply serveThen_kept
    | apply loseSession_kept
    | apply record_kept
    | apply KeptOut.next
    | apply KeptAnswer.ok
    | apply Kept.ite
    | apply KeptOut.ite
    | apply KeptAnswer.ite
    | (intro s hs)
    | split

theorem addPending_kept {s0 : State} (m : Msg) (f : Pending → Pending) (s : State) (h : Kept s0 s) : Kept s0 (addPending m f s) := by
  unfold addPending
  repeat' with_reducible first
    | assumption
    | apply updSlot_kept
    | (intro s hs)
    | refine Kept.upd ?_ rfl rfl rfl rfl

theorem openSlot_kept {s0 : State} (n ty : Nat) (s : State) (h : Kept s0 s) : Kept s0 (openSlot n ty s) := by
  unfold openSlot
  repeat' with_reducible first
    | assumption
    | apply updSlot_kept
    | (intro s hs)

theorem execCreate_kept {s0 : State} (t : Nat) (m : Msg) (s : State) (h : Kept s0 s) : KeptOut s0 (execCreate t m s) := by
  unfold execCreate
  try lift_lets
  repeat' with_reducible first
    | assumption
    | apply serve_kept
    | apply openSlot_kept
    | apply checked_kept
    | apply KeptOut.next
    | apply KeptAnswer.ok
    | (intro s; have hs : Kept s0 s := ?_; clear_value s; rotate_left; subst s)
    | (intro x; subst x)
    | (intro s hs)

theorem execConfigure_kept {s0 : State} (t : Nat) (m : Msg) (s : State) (h : Kept s0 s) : KeptOut s0 (execConfigure t m s) := by
  unfold execConfigure
  try lift_lets
  repeat' with_reducible first
    | assumption
    | apply serve_kept
    | apply checked_kept
    | apply addPending_kept
    | apply KeptOut.next
    | apply KeptAnswer.ok
    | (intro s; have hs : Kept s0 s := ?_; clear_value s; rotate_left; subst s)
    | (intro x; subst x)
    | (intro s hs)
    | refine Kept.upd ?_ rfl rfl rfl rfl

theorem execPlace_kept {s0 : State} (t : Nat) (m : Msg) (s : State) (h : Kept s0 s) : KeptOut s0 (execPlace t m s) := by
  unfold execPlace
  repeat' with_reducible first
    | assumption
    | apply serve_kept
    | apply checked_kept
    | apply addPending_kept
    | apply KeptOut.next
    | apply KeptAnswer.ok
    | (intro s hs)
    | refine Kept.upd ?_ rfl rfl rfl rfl

theorem execRelease_kept {s0 : State} (t : Nat) (m : Msg) (s : State) (h : Kept s0 s) : KeptOut s0 (execRelease t m s) := by
  unfold execRelease
  repeat' with_reducible first
    | assumption
    | apply serve_kept
    | apply checked_kept
    | apply addPending_kept
    | apply KeptOut.next
    | apply KeptAnswer.ok
    | (intro s hs)
    | refine Kept.upd ?_ rfl rfl rfl rfl

theorem execDestroy_kept {s0 : State} (t : Nat) (m : Msg) (s : State) (h : Kept s0 s) : KeptOut s0 (execDestroy t m s) := by
  unfold execDestroy
  repeat' with_reducible first
    | assumption
    | apply serve_kept
    | apply checked_kept
    | apply addPending_kept
    | apply KeptOut.next
    | apply KeptAnswer.ok
    | (intro s hs)
    | refine Kept.upd ?_ rfl rfl rfl rfl

theorem flipWork_kept {s0 : State} (m : Msg) (s : State) (h : Kept s0 s) : KeptAnswer s0 (flipWork m s) := by
  unfold flipWork
  repeat' with_reducible first
    | assumption
    | apply addPending_kept
    | apply KeptAnswer.ok
    | refine Kept.upd ?_ rfl rfl rfl rfl

theorem execFlip_kept {s0 : State} (t : Nat) (m : Msg) (s : State) (h : Kept s0 s) : KeptOut s0 (execFlip t m s) := by
  unfold execFlip
  repeat' with_reducible first
    | assumption
    | apply serve_kept
    | apply checked_kept
    | apply flipWork_kept
    | apply crcGuard_kept
    | apply KeptOut.next
    | apply KeptAnswer.ok
    | apply Kept.ite
    | apply KeptOut.ite
    | apply KeptAnswer.ite
    | (intro s hs)
    | split

theorem execAbort_kept {s0 : State} (t : Nat) (m : Msg) (s : State) (h : Kept s0 s) : KeptOut s0 (execAbort t m s) := by
  unfold execAbort
  repeat' with_reducible first
    | assumption
    | apply serve_kept
    | apply dropPending_kept
    | apply KeptOut.next
    | apply KeptAnswer.ok
    | (intro s hs)

theorem execChunkWrite_kept {s0 : State} (t : Nat) (m : Msg) (s : State) (h : Kept s0 s) : KeptOut s0 (execChunkWrite t m s) := by
  unfold execChunkWrite
  repeat' with_reducible first
    | assumption
    | apply serve_kept
    | apply checked_kept
    | apply updSlot_kept
    | apply KeptOut.next
    | apply KeptAnswer.ok
    | (intro s hs)

theorem execCurveWrite_kept {s0 : State} (t : Nat) (m : Msg) (s : State) (h : Kept s0 s) : KeptOut s0 (execCurveWrite t m s) := by
  unfold execCurveWrite
  try lift_lets
  repeat' with_reducible first
    | assumption
    | apply serve_kept
    | apply checked_kept
    | apply KeptOut.next
    | apply KeptAnswer.ok
    | (intro s; have hs : Kept s0 s := ?_; clear_value s; rotate_left; subst s)
    | (intro x; subst x)
    | (intro s hs)
    | refine Kept.upd ?_ rfl rfl rfl rfl

theorem execBlendProgramWrite_kept {s0 : State} (t : Nat) (m : Msg) (s : State) (h : Kept s0 s) : KeptOut s0 (execBlendProgramWrite t m s) := by
  unfold execBlendProgramWrite
  repeat' with_reducible first
    | assumption
    | apply serve_kept
    | apply checked_kept
    | apply KeptOut.next
    | apply KeptAnswer.ok
    | (intro s hs)
    | refine Kept.upd ?_ rfl rfl rfl rfl

theorem acceptCommit_kept {s0 : State} (p : Proposal) (id m : Nat) (pl : Placing) (s : State) (h : Kept s0 s) : Kept s0 (acceptCommit p id m pl s) := by
  unfold acceptCommit
  try lift_lets
  repeat' with_reducible first
    | assumption
    | apply updSlot_kept
    | apply Kept.ite
    | (intro s; have hs : Kept s0 s := ?_; clear_value s; rotate_left; subst s)
    | (intro x; subst x)
    | (intro s x hs)
    | (intro s hs)
    | refine Kept.foldl ?_ _ ?_
    | (split <;> (try lift_lets))
    | refine Kept.upd ?_ rfl rfl rfl rfl

theorem applyNow_kept {s0 : State} (s : State) (h : Kept s0 s) : Kept s0 (applyNow s) := by
  unfold applyNow
  try lift_lets
  repeat' with_reducible first
    | assumption
    | apply retireDue_kept
    | apply applyDue_kept
    | apply Kept.ite
    | (intro s; have hs : Kept s0 s := ?_; clear_value s; rotate_left; subst s)
    | (intro x; subst x)
    | (split <;> (try lift_lets))
    | refine Kept.upd ?_ rfl rfl rfl rfl

theorem commitBody_kept {s0 : State} (m : Msg) (s : State) (h : Kept s0 s) : KeptAnswer s0 (commitBody m s) := by
  unfold commitBody
  try lift_lets
  repeat' with_reducible first
    | assumption
    | apply checked_kept
    | apply applyNow_kept
    | apply acceptCommit_kept
    | exact KeptAnswer.fail
    | apply KeptAnswer.ok
    | apply Kept.ite
    | apply KeptAnswer.ite
    | (intro s; have hs : Kept s0 s := ?_; clear_value s; rotate_left; subst s)
    | (intro x; subst x)
    | (split <;> (try lift_lets))

theorem execCommit_kept {s0 : State} (t : Nat) (m : Msg) (s : State) (h : Kept s0 s) : KeptOut s0 (execCommit t m s) := by
  unfold execCommit
  repeat' with_reducible first
    | assumption
    | apply serve_kept
    | apply commitBody_kept
    | apply KeptOut.next

theorem handOff_kept {s0 : State} (slot count : Nat) (f : List ShadeObj → List ShadeObj) (s : State) (h : Kept s0 s) : Kept s0 (handOff slot count f s) := by
  unfold handOff
  try lift_lets
  repeat' with_reducible first
    | assumption
    | apply updSlot_kept
    | (intro s; have hs : Kept s0 s := ?_; clear_value s; rotate_left; subst s)
    | (intro x; subst x)
    | (intro s hs)
    | refine Kept.upd ?_ rfl rfl rfl rfl

theorem execShadeUpdate_kept {s0 : State} (t : Nat) (m : Msg) (s : State) (h : Kept s0 s) : KeptOut s0 (execShadeUpdate t m s) := by
  unfold execShadeUpdate
  try lift_lets
  repeat' with_reducible first
    | assumption
    | apply serve_kept
    | apply checked_kept
    | apply handOff_kept
    | apply KeptOut.next
    | apply KeptAnswer.ok
    | (intro s; have hs : Kept s0 s := ?_; clear_value s; rotate_left; subst s)
    | (intro x; subst x)
    | (intro s x hs)
    | (intro s hs)
    | refine Kept.foldl ?_ _ ?_

theorem execShadeClear_kept {s0 : State} (t : Nat) (m : Msg) (s : State) (h : Kept s0 s) : KeptOut s0 (execShadeClear t m s) := by
  unfold execShadeClear
  repeat' with_reducible first
    | assumption
    | apply serve_kept
    | apply checked_kept
    | apply handOff_kept
    | apply KeptOut.next
    | apply KeptAnswer.ok
    | (intro s hs)

theorem sealTable_kept {s0 : State} (slot : Nat) (s : State) (h : Kept s0 s) : KeptAnswer s0 (sealTable slot s) := by
  unfold sealTable
  try lift_lets
  repeat' with_reducible first
    | assumption
    | apply updSlot_kept
    | apply KeptAnswer.ok
    | apply KeptAnswer.failIn
    | (intro s; have hs : Kept s0 s := ?_; clear_value s; rotate_left; subst s)
    | (intro x; subst x)
    | (intro s hs)
    | (split <;> (try lift_lets))
    | refine Kept.upd ?_ rfl rfl rfl rfl

theorem execGlyphSeal_kept {s0 : State} (t : Nat) (m : Msg) (s : State) (h : Kept s0 s) : KeptOut s0 (execGlyphSeal t m s) := by
  unfold execGlyphSeal
  repeat' with_reducible first
    | assumption
    | apply serve_kept
    | apply checked_kept
    | apply sealTable_kept
    | apply KeptOut.next
    | apply KeptAnswer.ok
    | (intro s hs)

theorem takeCommits_kept {s0 : State} (k : Nat) (cs : List Commit) (moved : List Item) (s : State) (h : Kept s0 s) : Kept s0 (takeCommits k cs moved s) := by
  unfold takeCommits
  try lift_lets
  repeat' with_reducible first
    | assumption
    | (intro s; have hs : Kept s0 s := ?_; clear_value s; rotate_left; subst s)
    | (intro x; subst x)
    | (split <;> (try lift_lets))
    | refine Kept.upd ?_ rfl rfl rfl rfl

theorem acceptChange_kept {s0 : State} (profile period k : Nat) (s : State) (h : Kept s0 s) : Kept s0 (acceptChange profile period k s) := by
  unfold acceptChange
  try lift_lets
  repeat' with_reducible first
    | assumption
    | apply Kept.ite
    | (intro s; have hs : Kept s0 s := ?_; clear_value s; rotate_left; subst s)
    | (intro x; subst x)
    | (split <;> (try lift_lets))
    | refine Kept.upd ?_ rfl rfl rfl rfl

theorem changeNow_kept {s0 : State} (profile period : Nat) (s : State) (h : Kept s0 s) : Kept s0 (changeNow profile period s) := by
  unfold changeNow
  try lift_lets
  repeat' with_reducible first
    | assumption
    | (intro s; have hs : Kept s0 s := ?_; clear_value s; rotate_left; subst s)
    | (intro x; subst x)
    | refine Kept.upd ?_ rfl rfl rfl rfl

theorem timingBody_kept {s0 : State} (m : Msg) (s : State) (h : Kept s0 s) : KeptAnswer s0 (timingBody m s) := by
  unfold timingBody
  try lift_lets
  repeat' with_reducible first
    | assumption
    | apply applyNow_kept
    | apply changeNow_kept
    | apply takeCommits_kept
    | apply acceptChange_kept
    | exact KeptAnswer.fail
    | apply KeptAnswer.ok
    | apply Kept.ite
    | apply KeptAnswer.ite
    | (intro s; have hs : Kept s0 s := ?_; clear_value s; rotate_left; subst s)
    | (intro x; subst x)
    | (split <;> (try lift_lets))
    | refine Kept.upd ?_ rfl rfl rfl rfl

theorem execTimingChange_kept {s0 : State} (t : Nat) (m : Msg) (s : State) (h : Kept s0 s) : KeptOut s0 (execTimingChange t m s) := by
  unfold execTimingChange
  repeat' with_reducible first
    | assumption
    | apply serve_kept
    | apply checked_kept
    | apply timingBody_kept
    | apply KeptOut.next
    | apply KeptAnswer.ok
    | (intro s hs)

theorem execTimingAnchor_kept {s0 : State} (t : Nat) (m : Msg) (s : State) (h : Kept s0 s) : KeptOut s0 (execTimingAnchor t m s) := by
  unfold execTimingAnchor
  try lift_lets
  repeat' with_reducible first
    | assumption
    | apply serve_kept
    | apply checked_kept
    | apply KeptOut.next
    | apply KeptAnswer.ok
    | (intro s; have hs : Kept s0 s := ?_; clear_value s; rotate_left; subst s)
    | (intro x; subst x)
    | (intro s hs)
    | refine Kept.upd ?_ rfl rfl rfl rfl

theorem execHostScaleWrite_kept {s0 : State} (t : Nat) (m : Msg) (s : State) (h : Kept s0 s) : KeptOut s0 (execHostScaleWrite t m s) := by
  unfold execHostScaleWrite
  try lift_lets
  repeat' with_reducible first
    | assumption
    | apply serve_kept
    | apply checked_kept
    | apply KeptOut.next
    | apply KeptAnswer.ok
    | (intro s; have hs : Kept s0 s := ?_; clear_value s; rotate_left; subst s)
    | (intro x; subst x)
    | (intro s hs)
    | refine Kept.upd ?_ rfl rfl rfl rfl

theorem monitorSmall_kept {s0 : State} (c : MonitorConfig) (s : State) (h : Kept s0 s) : Kept s0 (monitorSmall c s) := by
  unfold monitorSmall
  try lift_lets
  repeat' with_reducible first
    | assumption
    | apply Kept.ite
    | (intro s; have hs : Kept s0 s := ?_; clear_value s; rotate_left; subst s)
    | (intro x; subst x)
    | (split <;> (try lift_lets))
    | refine Kept.upd ?_ rfl rfl rfl rfl

theorem monitorFrom_kept {s0 : State} (c : MonitorConfig) (k : Nat) (s : State) (h : Kept s0 s) : Kept s0 (monitorFrom c k s) := by
  unfold monitorFrom
  try lift_lets
  repeat' with_reducible first
    | assumption
    | apply Kept.ite
    | (intro s; have hs : Kept s0 s := ?_; clear_value s; rotate_left; subst s)
    | (intro x; subst x)
    | (split <;> (try lift_lets))
    | refine Kept.upd ?_ rfl rfl rfl rfl

theorem monitorPlace_kept {s0 : State} (m : Msg) (c : MonitorConfig) (s : State) (h : Kept s0 s) : KeptAnswer s0 (monitorPlace m c s) := by
  unfold monitorPlace
  try lift_lets
  repeat' with_reducible first
    | assumption
    | apply applyNow_kept
    | apply monitorFrom_kept
    | exact KeptAnswer.fail
    | apply KeptAnswer.ok
    | apply Kept.ite
    | apply KeptAnswer.ite
    | (intro s; have hs : Kept s0 s := ?_; clear_value s; rotate_left; subst s)
    | (intro x; subst x)
    | (split <;> (try lift_lets))
    | refine Kept.upd ?_ rfl rfl rfl rfl

theorem execMonitorConfigWrite_kept {s0 : State} (t : Nat) (m : Msg) (s : State) (h : Kept s0 s) : KeptOut s0 (execMonitorConfigWrite t m s) := by
  unfold execMonitorConfigWrite
  try lift_lets
  repeat' with_reducible first
    | assumption
    | apply serve_kept
    | apply checked_kept
    | apply monitorSmall_kept
    | apply monitorPlace_kept
    | apply KeptOut.next
    | apply KeptAnswer.ok
    | apply Kept.ite
    | apply KeptOut.ite
    | apply KeptAnswer.ite
    | (intro s; have hs : Kept s0 s := ?_; clear_value s; rotate_left; subst s)
    | (intro x; subst x)
    | (intro s hs)
    | (split <;> (try lift_lets))

theorem execLogRead_kept {s0 : State} (t : Nat) (m : Msg) (s : State) (h : Kept s0 s) : KeptOut s0 (execLogRead t m s) := by
  unfold execLogRead
  repeat' with_reducible first
    | assumption
    | apply serve_kept
    | apply KeptOut.next
    | apply KeptAnswer.ok
    | (intro s hs)

theorem execEventFilter_kept {s0 : State} (t : Nat) (m : Msg) (s : State) (h : Kept s0 s) : KeptOut s0 (execEventFilter t m s) := by
  unfold execEventFilter
  repeat' with_reducible first
    | assumption
    | apply serve_kept
    | apply updSession_kept
    | apply KeptOut.next
    | apply KeptAnswer.ok
    | (intro s hs)
    | refine Kept.upd ?_ rfl rfl rfl rfl

theorem execFaultMapRead_kept {s0 : State} (t : Nat) (m : Msg) (s : State) (h : Kept s0 s) : KeptOut s0 (execFaultMapRead t m s) := by
  unfold execFaultMapRead
  try lift_lets
  repeat' with_reducible first
    | assumption
    | apply serve_kept
    | apply checked_kept
    | apply KeptOut.next
    | apply KeptAnswer.ok
    | (intro s; have hs : Kept s0 s := ?_; clear_value s; rotate_left; subst s)
    | (intro x; subst x)
    | (intro s hs)

theorem execScalerCoeffRead_kept {s0 : State} (t : Nat) (m : Msg) (s : State) (h : Kept s0 s) : KeptOut s0 (execScalerCoeffRead t m s) := by
  unfold execScalerCoeffRead
  repeat' with_reducible first
    | assumption
    | apply serve_kept
    | apply checked_kept
    | apply KeptOut.next
    | apply KeptAnswer.ok
    | (intro s hs)

theorem execChestStage_kept {s0 : State} (t : Nat) (m : Msg) (s : State) (h : Kept s0 s) : KeptOut s0 (execChestStage t m s) := by
  unfold execChestStage
  repeat' with_reducible first
    | assumption
    | apply serve_kept
    | apply checked_kept
    | apply KeptOut.next
    | apply KeptAnswer.ok
    | (intro s hs)
    | refine Kept.upd ?_ rfl rfl rfl rfl

theorem startActivation_kept {s0 : State} (m : Msg) (s : State) (h : Kept s0 s) : Kept s0 (startActivation m s) := by
  unfold startActivation
  try lift_lets
  repeat' with_reducible first
    | assumption
    | apply cvuStart_kept
    | (intro s; have hs : Kept s0 s := ?_; clear_value s; rotate_left; subst s)
    | (intro x; subst x)
    | refine Kept.upd ?_ rfl rfl rfl rfl

theorem execChestActivate_kept {s0 : State} (t : Nat) (m : Msg) (s : State) (h : Kept s0 s) : KeptOut s0 (execChestActivate t m s) := by
  unfold execChestActivate
  try lift_lets
  repeat' with_reducible first
    | assumption
    | apply serveUnknown_kept
    | apply advance_kept
    | apply dequeue_kept
    | apply answered_kept
    | apply startActivation_kept
    | apply KeptOut.next
    | apply Kept.ite
    | apply KeptOut.ite
    | (intro s; have hs : Kept s0 s := ?_; clear_value s; rotate_left; subst s)
    | (intro x; subst x)
    | (split <;> (try lift_lets))
    | refine Kept.upd ?_ rfl rfl rfl rfl

theorem bindChest_kept {s0 : State} (img : ChestImage) (ref m : Nat) (s : State) (h : Kept s0 s) : Kept s0 (bindChest img ref m s) := by
  unfold bindChest
  try lift_lets
  repeat' with_reducible first
    | assumption
    | apply Kept.ite
    | (intro s; have hs : Kept s0 s := ?_; clear_value s; rotate_left; subst s)
    | (intro x; subst x)
    | (split <;> (try lift_lets))
    | refine Kept.upd ?_ rfl rfl rfl rfl

theorem execChestRefComplete_kept {s0 : State} (t : Nat) (s : State) (h : Kept s0 s) : KeptOut s0 (execChestRefComplete t s) := by
  unfold execChestRefComplete
  try lift_lets
  repeat' with_reducible first
    | assumption
    | apply advance_kept
    | apply answered_kept
    | apply bindChest_kept
    | apply cvuEnd_kept
    | apply KeptOut.next
    | apply Kept.ite
    | apply KeptOut.ite
    | (intro s; have hs : Kept s0 s := ?_; clear_value s; rotate_left; subst s)
    | (intro x; subst x)
    | (split <;> (try lift_lets))
    | refine Kept.upd ?_ rfl rfl rfl rfl

theorem execSettleStage_kept {s0 : State} (t : Nat) (m : Msg) (s : State) (h : Kept s0 s) : KeptOut s0 (execSettleStage t m s) := by
  unfold execSettleStage
  repeat' with_reducible first
    | assumption
    | apply serve_kept
    | apply checked_kept
    | apply KeptOut.next
    | apply KeptAnswer.ok
    | (intro s hs)
    | refine Kept.upd ?_ rfl rfl rfl rfl

theorem startLatches_kept {s0 : State} (levels : List Nat) (codes : Mem Nat) (s : State) (h : Kept s0 s) : Kept s0 (startLatches levels codes s) := by
  unfold startLatches
  repeat' with_reducible first
    | assumption
    | refine Kept.upd ?_ rfl rfl rfl rfl

theorem settleWork_kept {s0 : State} (m : Msg) (s : State) (h : Kept s0 s) : KeptAnswer s0 (settleWork m s) := by
  unfold settleWork
  try lift_lets
  repeat' with_reducible first
    | assumption
    | apply startLatches_kept
    | apply KeptAnswer.ok
    | apply KeptAnswer.failIn
    | apply Kept.ite
    | apply KeptAnswer.ite
    | (intro s; have hs : Kept s0 s := ?_; clear_value s; rotate_left; subst s)
    | (intro x; subst x)
    | (split <;> (try lift_lets))

theorem execSettleActivate_kept {s0 : State} (t : Nat) (m : Msg) (s : State) (h : Kept s0 s) : KeptOut s0 (execSettleActivate t m s) := by
  unfold execSettleActivate
  repeat' with_reducible first
    | assumption
    | apply serve_kept
    | apply checked_kept
    | apply crcGuard_kept
    | apply settleWork_kept
    | apply KeptOut.next
    | apply KeptAnswer.ok
    | (intro s hs)

theorem execSafetyStore_kept {s0 : State} (t : Nat) (m : Msg) (s : State) (h : Kept s0 s) : KeptOut s0 (execSafetyStore t m s) := by
  unfold execSafetyStore
  repeat' with_reducible first
    | assumption
    | apply serve_kept
    | apply checked_kept
    | apply startLong_kept
    | apply KeptOut.next
    | apply KeptAnswer.ok
    | (intro s hs)
    | refine Kept.upd ?_ rfl rfl rfl rfl

theorem execSafetyStoreOutcome_kept {s0 : State} (t : Nat) (erased : Bool) (s : State) (h : Kept s0 s) : KeptOut s0 (execSafetyStoreOutcome t erased s) := by
  unfold execSafetyStoreOutcome
  try lift_lets
  repeat' with_reducible first
    | assumption
    | apply storeOutcome_kept
    | apply advance_kept
    | apply KeptOut.next
    | (intro s; have hs : Kept s0 s := ?_; clear_value s; rotate_left; subst s)
    | (intro x; subst x)
    | (intro s hs)
    | refine Kept.upd ?_ rfl rfl rfl rfl

theorem execHoldDemand_kept {s0 : State} (t : Nat) (m : Msg) (s : State) (h : Kept s0 s) : KeptOut s0 (execHoldDemand t m s) := by
  unfold execHoldDemand
  repeat' with_reducible first
    | assumption
    | apply serve_kept
    | apply goSafe_kept
    | apply KeptOut.next
    | apply KeptAnswer.ok
    | (intro s hs)

theorem startRecovery_kept {s0 : State} (s : State) (h : Kept s0 s) : Kept s0 (startRecovery s) := by
  unfold startRecovery
  try lift_lets
  repeat' with_reducible first
    | assumption
    | apply closeSwitch_kept
    | (intro s; have hs : Kept s0 s := ?_; clear_value s; rotate_left; subst s)
    | (intro x; subst x)
    | refine Kept.upd ?_ rfl rfl rfl rfl

theorem execRecover_kept {s0 : State} (t : Nat) (m : Msg) (s : State) (h : Kept s0 s) : KeptOut s0 (execRecover t m s) := by
  unfold execRecover
  repeat' with_reducible first
    | assumption
    | apply serve_kept
    | apply checked_kept
    | apply startRecovery_kept
    | apply KeptOut.next
    | apply KeptAnswer.ok
    | (intro s hs)

theorem execFaultForceSet_kept {s0 : State} (t : Nat) (m : Msg) (s : State) (h : Kept s0 s) : KeptOut s0 (execFaultForceSet t m s) := by
  unfold execFaultForceSet
  try lift_lets
  repeat' with_reducible first
    | assumption
    | apply serveThen_kept
    | apply checked_kept
    | apply assertSource_kept
    | apply dataLost_kept
    | apply KeptOut.next
    | apply KeptAnswer.ok
    | apply Kept.ite
    | apply KeptOut.ite
    | apply KeptAnswer.ite
    | (intro s; have hs : Kept s0 s := ?_; clear_value s; rotate_left; subst s)
    | (intro x; subst x)
    | (intro s hs)
    | (split <;> (try lift_lets))

theorem execFaultForceClear_kept {s0 : State} (t : Nat) (m : Msg) (s : State) (h : Kept s0 s) : KeptOut s0 (execFaultForceClear t m s) := by
  unfold execFaultForceClear
  repeat' with_reducible first
    | assumption
    | apply serve_kept
    | apply checked_kept
    | apply endForce_kept
    | apply KeptOut.next
    | apply KeptAnswer.ok
    | (intro s hs)

theorem reactRaised_kept {s0 : State} (src : Nat) (s : State) (h : Kept s0 s) : Kept s0 (reactRaised src s) := by
  unfold reactRaised
  repeat' with_reducible first
    | assumption
    | apply react_kept
    | apply Kept.ite
    | split

theorem configureFault_kept {s0 : State} (src r : Nat) (s : State) (h : Kept s0 s) : Kept s0 (configureFault src r s) := by
  unfold configureFault
  try lift_lets
  repeat' with_reducible first
    | assumption
    | apply reactRaised_kept
    | apply Kept.ite
    | (intro s; have hs : Kept s0 s := ?_; clear_value s; rotate_left; subst s)
    | (intro x; subst x)
    | (split <;> (try lift_lets))
    | refine Kept.upd ?_ rfl rfl rfl rfl

theorem execFaultConfig_kept {s0 : State} (t : Nat) (m : Msg) (s : State) (h : Kept s0 s) : KeptOut s0 (execFaultConfig t m s) := by
  unfold execFaultConfig
  repeat' with_reducible first
    | assumption
    | apply serve_kept
    | apply checked_kept
    | apply configureFault_kept
    | apply KeptOut.next
    | apply KeptAnswer.ok
    | (intro s hs)

theorem setMirror_kept {s0 : State} (v : Nat) (s : State) (h : Kept s0 s) : Kept s0 (setMirror v s) := by
  unfold setMirror
  try lift_lets
  repeat' with_reducible first
    | assumption
    | apply cvuJob_kept
    | apply cvuStart_kept
    | apply Kept.ite
    | (intro s; have hs : Kept s0 s := ?_; clear_value s; rotate_left; subst s)
    | (intro x; subst x)
    | (split <;> (try lift_lets))
    | refine Kept.upd ?_ rfl rfl rfl rfl

theorem execCompConfigWrite_kept {s0 : State} (t : Nat) (m : Msg) (s : State) (h : Kept s0 s) : KeptOut s0 (execCompConfigWrite t m s) := by
  unfold execCompConfigWrite
  repeat' with_reducible first
    | assumption
    | apply serve_kept
    | apply checked_kept
    | apply setMirror_kept
    | apply KeptOut.next
    | apply KeptAnswer.ok
    | (intro s hs)

theorem execGovBudgetWrite_kept {s0 : State} (t : Nat) (m : Msg) (s : State) (h : Kept s0 s) : KeptOut s0 (execGovBudgetWrite t m s) := by
  unfold execGovBudgetWrite
  try lift_lets
  repeat' with_reducible first
    | assumption
    | apply serve_kept
    | apply checked_kept
    | apply KeptOut.next
    | apply KeptAnswer.ok
    | (intro s; have hs : Kept s0 s := ?_; clear_value s; rotate_left; subst s)
    | (intro x; subst x)
    | (intro s hs)
    | refine Kept.upd ?_ rfl rfl rfl rfl

theorem execHostTimeoutWrite_kept {s0 : State} (t : Nat) (m : Msg) (s : State) (h : Kept s0 s) : KeptOut s0 (execHostTimeoutWrite t m s) := by
  unfold execHostTimeoutWrite
  try lift_lets
  repeat' with_reducible first
    | assumption
    | apply serve_kept
    | apply checked_kept
    | apply KeptOut.next
    | apply KeptAnswer.ok
    | (intro s; have hs : Kept s0 s := ?_; clear_value s; rotate_left; subst s)
    | (intro x; subst x)
    | (intro s hs)
    | refine Kept.upd ?_ rfl rfl rfl rfl

theorem execSdimConfigWrite_kept {s0 : State} (t : Nat) (m : Msg) (s : State) (h : Kept s0 s) : KeptOut s0 (execSdimConfigWrite t m s) := by
  unfold execSdimConfigWrite
  try lift_lets
  repeat' with_reducible first
    | assumption
    | apply serve_kept
    | apply checked_kept
    | apply KeptOut.next
    | apply KeptAnswer.ok
    | (intro s; have hs : Kept s0 s := ?_; clear_value s; rotate_left; subst s)
    | (intro x; subst x)
    | (intro s hs)
    | refine Kept.upd ?_ rfl rfl rfl rfl

theorem holdWarm_kept {s0 : State} (s : State) (h : Kept s0 s) : Kept s0 (holdWarm s) := by
  unfold holdWarm
  repeat' with_reducible first
    | assumption
    | refine Kept.upd ?_ rfl rfl rfl rfl

theorem execCalRun_kept {s0 : State} (t : Nat) (m : Msg) (s : State) (h : Kept s0 s) : KeptOut s0 (execCalRun t m s) := by
  unfold execCalRun
  repeat' with_reducible first
    | assumption
    | apply serve_kept
    | apply checked_kept
    | apply startLong_kept
    | apply holdWarm_kept
    | apply KeptOut.next
    | apply KeptAnswer.ok
    | (intro s hs)

theorem applyRun_kept {s0 : State} (fields : List (Nat × Int × Int × Int)) (s : State) (h : Kept s0 s) : Kept s0 (applyRun fields s) := by
  unfold applyRun
  try lift_lets
  repeat' with_reducible first
    | assumption
    | apply record_kept
    | apply endLong_kept
    | apply setCalData_kept
    | (intro s; have hs : Kept s0 s := ?_; clear_value s; rotate_left; subst s)
    | (intro x; subst x)
    | (intro s x hs)
    | refine Kept.foldl ?_ _ ?_

theorem judgeRun_kept {s0 : State} (p q : CalPass) (s : State) (h : Kept s0 s) : Kept s0 (judgeRun p q s) := by
  unfold judgeRun
  try lift_lets
  repeat' with_reducible first
    | assumption
    | apply rejectRun_kept
    | apply applyRun_kept
    | apply Kept.ite
    | (intro s; have hs : Kept s0 s := ?_; clear_value s; rotate_left; subst s)
    | (intro x; subst x)
    | (split <;> (try lift_lets))

theorem startPass_kept {s0 : State} (s : State) (h : Kept s0 s) : Kept s0 (startPass s) := by
  unfold startPass
  repeat' with_reducible first
    | assumption
    | apply refNotReady_kept
    | apply Kept.ite
    | split
    | refine Kept.upd ?_ rfl rfl rfl rfl

theorem endPass_kept {s0 : State} (p : CalPass) (s : State) (h : Kept s0 s) : Kept s0 (endPass p s) := by
  unfold endPass
  try lift_lets
  repeat' with_reducible first
    | assumption
    | apply rejectRun_kept
    | apply Kept.ite
    | (intro s; have hs : Kept s0 s := ?_; clear_value s; rotate_left; subst s)
    | (intro x; subst x)
    | (split <;> (try lift_lets))
    | refine Kept.upd ?_ rfl rfl rfl rfl

theorem execCalRunOutcome_kept {s0 : State} (t : Nat) (e : CalStep) (s : State) (h : Kept s0 s) : KeptOut s0 (execCalRunOutcome t e s) := by
  unfold execCalRunOutcome
  try lift_lets
  repeat' with_reducible first
    | assumption
    | apply advance_kept
    | apply startPass_kept
    | apply endPass_kept
    | apply judgeRun_kept
    | exact KeptOut.fault
    | apply KeptOut.next
    | apply Kept.ite
    | apply KeptOut.ite
    | (intro s; have hs : Kept s0 s := ?_; clear_value s; rotate_left; subst s)
    | (intro x; subst x)
    | (split <;> (try lift_lets))
    | refine Kept.upd ?_ rfl rfl rfl rfl

theorem execCalRead_kept {s0 : State} (t : Nat) (m : Msg) (s : State) (h : Kept s0 s) : KeptOut s0 (execCalRead t m s) := by
  unfold execCalRead
  try lift_lets
  repeat' with_reducible first
    | assumption
    | apply serve_kept
    | apply checked_kept
    | apply KeptOut.next
    | apply KeptAnswer.ok
    | (intro s; have hs : Kept s0 s := ?_; clear_value s; rotate_left; subst s)
    | (intro x; subst x)
    | (intro s hs)

theorem execCalWrite_kept {s0 : State} (t : Nat) (m : Msg) (s : State) (h : Kept s0 s) : KeptOut s0 (execCalWrite t m s) := by
  unfold execCalWrite
  repeat' with_reducible first
    | assumption
    | apply serve_kept
    | apply checked_kept
    | apply setCalData_kept
    | apply KeptOut.next
    | apply KeptAnswer.ok
    | (intro s hs)

theorem execCalStore_kept {s0 : State} (t : Nat) (m : Msg) (s : State) (h : Kept s0 s) : KeptOut s0 (execCalStore t m s) := by
  unfold execCalStore
  repeat' with_reducible first
    | assumption
    | apply serve_kept
    | apply checked_kept
    | apply startLong_kept
    | apply KeptOut.next
    | apply KeptAnswer.ok
    | (intro s hs)
    | refine Kept.upd ?_ rfl rfl rfl rfl

theorem writeSlot_kept {s0 : State} (s : State) (h : Kept s0 s) : Kept s0 (writeSlot s) := by
  unfold writeSlot
  try lift_lets
  repeat' with_reducible first
    | assumption
    | apply cvuJob_kept
    | apply endSource_kept
    | apply record_kept
    | (intro s; have hs : Kept s0 s := ?_; clear_value s; rotate_left; subst s)
    | (intro x; subst x)
    | refine Kept.upd ?_ rfl rfl rfl rfl

theorem execCalStoreOutcome_kept {s0 : State} (t : Nat) (erased : Bool) (s : State) (h : Kept s0 s) : KeptOut s0 (execCalStoreOutcome t erased s) := by
  unfold execCalStoreOutcome
  repeat' with_reducible first
    | assumption
    | apply storeOutcome_kept
    | apply writeSlot_kept
    | apply advance_kept
    | apply KeptOut.next

theorem writeUniformity_kept {s0 : State} (first : Nat) (us : List Nat) (s : State) (h : Kept s0 s) : Kept s0 (writeUniformity first us s) := by
  unfold writeUniformity
  try lift_lets
  repeat' with_reducible first
    | assumption
    | (intro s; have hs : Kept s0 s := ?_; clear_value s; rotate_left; subst s)
    | (intro x; subst x)
    | (intro s x hs)
    | refine Kept.foldl ?_ _ ?_
    | refine Kept.upd ?_ rfl rfl rfl rfl

theorem execCorrChunk_kept {s0 : State} (t : Nat) (m : Msg) (s : State) (h : Kept s0 s) : KeptOut s0 (execCorrChunk t m s) := by
  unfold execCorrChunk
  repeat' with_reducible first
    | assumption
    | apply serve_kept
    | apply checked_kept
    | apply crcGuard_kept
    | apply writeUniformity_kept
    | apply KeptOut.next
    | apply KeptAnswer.ok
    | apply KeptAnswer.failIn
    | (intro s hs)
    | split
    | refine Kept.upd ?_ rfl rfl rfl rfl

theorem stageCurve_kept {s0 : State} (m : Msg) (s : State) (h : Kept s0 s) : Kept s0 (stageCurve m s) := by
  unfold stageCurve
  try lift_lets
  repeat' with_reducible first
    | assumption
    | (intro s; have hs : Kept s0 s := ?_; clear_value s; rotate_left; subst s)
    | (intro x; subst x)
    | (intro s x hs)
    | refine Kept.foldl ?_ _ ?_
    | refine Kept.upd ?_ rfl rfl rfl rfl

theorem applyCurve_kept {s0 : State} (n : Nat) (s : State) (h : Kept s0 s) : KeptAnswer s0 (applyCurve n s) := by
  unfold applyCurve
  try lift_lets
  repeat' with_reducible first
    | assumption
    | apply KeptAnswer.ok
    | apply KeptAnswer.failIn
    | (intro s; have hs : Kept s0 s := ?_; clear_value s; rotate_left; subst s)
    | (intro x; subst x)
    | (split <;> (try lift_lets))
    | refine Kept.upd ?_ rfl rfl rfl rfl

theorem execTcurveWrite_kept {s0 : State} (t : Nat) (m : Msg) (s : State) (h : Kept s0 s) : KeptOut s0 (execTcurveWrite t m s) := by
  unfold execTcurveWrite
  repeat' with_reducible first
    | assumption
    | apply serve_kept
    | apply checked_kept
    | apply stageCurve_kept
    | apply KeptOut.next
    | apply KeptAnswer.ok
    | (intro s hs)

theorem execTcurveApply_kept {s0 : State} (t : Nat) (m : Msg) (s : State) (h : Kept s0 s) : KeptOut s0 (execTcurveApply t m s) := by
  unfold execTcurveApply
  repeat' with_reducible first
    | assumption
    | apply serve_kept
    | apply checked_kept
    | apply applyCurve_kept
    | apply stageCurve_kept
    | apply KeptOut.next
    | apply KeptAnswer.ok
    | (intro s hs)

theorem execAgeingCurveWrite_kept {s0 : State} (t : Nat) (m : Msg) (s : State) (h : Kept s0 s) : KeptOut s0 (execAgeingCurveWrite t m s) := by
  unfold execAgeingCurveWrite
  repeat' with_reducible first
    | assumption
    | apply serve_kept
    | apply checked_kept
    | apply KeptOut.next
    | apply KeptAnswer.ok
    | (intro s hs)
    | refine Kept.upd ?_ rfl rfl rfl rfl

theorem execVfModelRewrite_kept {s0 : State} (t : Nat) (s : State) (h : Kept s0 s) : KeptOut s0 (execVfModelRewrite t s) := by
  unfold execVfModelRewrite
  try lift_lets
  repeat' with_reducible first
    | assumption
    | apply advance_kept
    | apply rewriteModel_kept
    | apply KeptOut.next
    | apply Kept.ite
    | apply KeptOut.ite
    | (intro s; have hs : Kept s0 s := ?_; clear_value s; rotate_left; subst s)
    | (intro x; subst x)
    | (split <;> (try lift_lets))

theorem startIdleRamp_kept {s0 : State} (s : State) (h : Kept s0 s) : Kept s0 (startIdleRamp s) := by
  unfold startIdleRamp
  repeat' with_reducible first
    | assumption
    | apply Kept.ite
    | split
    | refine Kept.upd ?_ rfl rfl rfl rfl

theorem execIdleRequest_kept {s0 : State} (t : Nat) (m : Msg) (s : State) (h : Kept s0 s) : KeptOut s0 (execIdleRequest t m s) := by
  unfold execIdleRequest
  repeat' with_reducible first
    | assumption
    | apply serve_kept
    | apply startIdleRamp_kept
    | apply KeptOut.next
    | apply KeptAnswer.ok
    | (intro s hs)

theorem wakeToLight_kept {s0 : State} (s : State) (h : Kept s0 s) : Kept s0 (wakeToLight s) := by
  unfold wakeToLight
  repeat' with_reducible first
    | assumption
    | apply enterFull_kept
    | apply interruptRun_kept

theorem execWakeToLight_kept {s0 : State} (t : Nat) (m : Msg) (s : State) (h : Kept s0 s) : KeptOut s0 (execWakeToLight t m s) := by
  unfold execWakeToLight
  repeat' with_reducible first
    | assumption
    | apply serve_kept
    | apply wakeToLight_kept
    | apply KeptOut.next
    | apply KeptAnswer.ok
    | (intro s hs)

theorem refuse_kept {s0 : State} (id : Nat) (s : State) (h : Kept s0 s) : Kept s0 (refuse id s) := by
  unfold refuse
  repeat' with_reducible first
    | assumption
    | apply record_kept
    | refine Kept.upd ?_ rfl rfl rfl rfl

theorem headNow_kept {s0 : State} (s : State) (h : Kept s0 s) : Kept s0 (headNow s) := by
  unfold headNow
  try lift_lets
  repeat' with_reducible first
    | assumption
    | apply becomeHead_kept
    | apply endSource_kept
    | (intro s; have hs : Kept s0 s := ?_; clear_value s; rotate_left; subst s)
    | (intro x; subst x)
    | refine Kept.upd ?_ rfl rfl rfl rfl

theorem writeSync_kept {s0 : State} (c : SyncConfig) (s : State) (h : Kept s0 s) : Kept s0 (writeSync c s) := by
  unfold writeSync
  try lift_lets
  repeat' with_reducible first
    | assumption
    | apply headNow_kept
    | apply Kept.ite
    | (intro s; have hs : Kept s0 s := ?_; clear_value s; rotate_left; subst s)
    | (intro x; subst x)
    | (split <;> (try lift_lets))
    | refine Kept.upd ?_ rfl rfl rfl rfl

theorem execSyncConfigWrite_kept {s0 : State} (t : Nat) (m : Msg) (s : State) (h : Kept s0 s) : KeptOut s0 (execSyncConfigWrite t m s) := by
  unfold execSyncConfigWrite
  try lift_lets
  repeat' with_reducible first
    | assumption
    | apply serve_kept
    | apply checked_kept
    | apply writeSync_kept
    | apply KeptOut.next
    | apply KeptAnswer.ok
    | (intro s; have hs : Kept s0 s := ?_; clear_value s; rotate_left; subst s)
    | (intro x; subst x)
    | (intro s hs)

theorem execSyncEnumerate_kept {s0 : State} (t : Nat) (m : Msg) (s : State) (h : Kept s0 s) : KeptOut s0 (execSyncEnumerate t m s) := by
  unfold execSyncEnumerate
  repeat' with_reducible first
    | assumption
    | apply serve_kept
    | apply checked_kept
    | apply becomeHead_kept
    | apply KeptOut.next
    | apply KeptAnswer.ok
    | (intro s hs)

theorem execReadWord_kept {s0 : State} (t : Nat) (m : Msg) (s : State) (h : Kept s0 s) : KeptOut s0 (execReadWord t m s) := by
  unfold execReadWord
  repeat' with_reducible first
    | assumption
    | apply serve_kept
    | apply checked_kept
    | apply KeptOut.next
    | apply KeptAnswer.ok
    | (intro s hs)

theorem recordIntent_kept {s0 : State} (bytes : Nat) (s : State) (h : Kept s0 s) : Kept s0 (recordIntent bytes s) := by
  unfold recordIntent
  repeat' with_reducible first
    | assumption
    | apply writeControl_kept
    | refine Kept.upd ?_ rfl rfl rfl rfl

theorem execUpdateIntent_kept {s0 : State} (t : Nat) (m : Msg) (boot : BootInputs) (s : State) (h : Kept s0 s) : KeptOut s0 (execUpdateIntent t m boot s) := by
  unfold execUpdateIntent
  try lift_lets
  repeat' with_reducible first
    | assumption
    | apply serveThen_kept
    | apply checked_kept
    | apply recordIntent_kept
    | apply warmStart_kept
    | apply KeptOut.next
    | apply KeptAnswer.ok
    | (intro s; have hs : Kept s0 s := ?_; clear_value s; rotate_left; subst s)
    | (intro x; subst x)
    | (intro s hs)

theorem beginBlock_kept {s0 : State} (start : Nat) (s : State) (h : Kept s0 s) : Kept s0 (beginBlock start s) := by
  unfold beginBlock
  try lift_lets
  repeat' with_reducible first
    | assumption
    | apply writeControl_kept
    | apply Kept.ite
    | (intro s; have hs : Kept s0 s := ?_; clear_value s; rotate_left; subst s)
    | (intro x; subst x)
    | (split <;> (try lift_lets))
    | refine Kept.upd ?_ rfl rfl rfl rfl

theorem fillBlock_kept {s0 : State} (bs : List Byte) (s : State) (h : Kept s0 s) : Kept s0 (fillBlock bs s) := by
  unfold fillBlock
  repeat' with_reducible first
    | assumption
    | split
    | refine Kept.upd ?_ rfl rfl rfl rfl

theorem programBlock_kept {s0 : State} (s : State) (h : Kept s0 s) : Kept s0 (programBlock s) := by
  unfold programBlock
  split
  · dsimp only
    split
    · exact h
    · exact writeControl_kept _ _ (Kept.upd h rfl rfl rfl rfl)
  · exact h

theorem writeBytes_kept {s0 : State} (at_ : Nat) (bs : List Byte) (s : State) (h : Kept s0 s) : Kept s0 (writeBytes at_ bs s) := by
  unfold writeBytes
  try lift_lets
  repeat' with_reducible first
    | assumption
    | apply beginBlock_kept
    | apply programBlock_kept
    | apply fillBlock_kept
    | apply Kept.ite
    | (intro s; have hs : Kept s0 s := ?_; clear_value s; rotate_left; subst s)
    | (intro x; subst x)
    | (split <;> (try lift_lets))

theorem execUpdateBlock_kept {s0 : State} (t : Nat) (m : Msg) (s : State) (h : Kept s0 s) : KeptOut s0 (execUpdateBlock t m s) := by
  unfold execUpdateBlock
  try lift_lets
  repeat' with_reducible first
    | assumption
    | apply serve_kept
    | apply writeBytes_kept
    | apply checked_kept
    | apply KeptOut.next
    | apply KeptAnswer.ok
    | (intro s; have hs : Kept s0 s := ?_; clear_value s; rotate_left; subst s)
    | (intro x; subst x)
    | (intro s hs)

theorem execUpdateVerify_kept {s0 : State} (t : Nat) (m : Msg) (s : State) (h : Kept s0 s) : KeptOut s0 (execUpdateVerify t m s) := by
  unfold execUpdateVerify
  try lift_lets
  repeat' with_reducible first
    | assumption
    | apply serve_kept
    | apply checked_kept
    | apply startLong_kept
    | apply KeptOut.next
    | apply KeptAnswer.ok
    | (intro s; have hs : Kept s0 s := ?_; clear_value s; rotate_left; subst s)
    | (intro x; subst x)
    | (intro s hs)

theorem verifyOutcome_kept {s0 : State} (v : ImageVerdict) (s : State) (h : Kept s0 s) : Kept s0 (verifyOutcome v s) := by
  unfold verifyOutcome
  try lift_lets
  repeat' with_reducible first
    | assumption
    | apply record_kept
    | apply writeControl_kept
    | apply endLong_kept
    | apply Kept.ite
    | (intro s; have hs : Kept s0 s := ?_; clear_value s; rotate_left; subst s)
    | (intro x; subst x)
    | (split <;> (try lift_lets))
    | refine Kept.upd ?_ rfl rfl rfl rfl

theorem execUpdateVerifyOutcome_kept {s0 : State} (t : Nat) (v : ImageVerdict) (s : State) (h : Kept s0 s) : KeptOut s0 (execUpdateVerifyOutcome t v s) := by
  unfold execUpdateVerifyOutcome
  try lift_lets
  repeat' with_reducible first
    | assumption
    | apply advance_kept
    | apply verifyOutcome_kept
    | apply KeptOut.next
    | apply Kept.ite
    | apply KeptOut.ite
    | (intro s; have hs : Kept s0 s := ?_; clear_value s; rotate_left; subst s)
    | (intro x; subst x)
    | (split <;> (try lift_lets))

theorem execUpdateActivate_kept {s0 : State} (t : Nat) (m : Msg) (boot : BootInputs) (s : State) (h : Kept s0 s) : KeptOut s0 (execUpdateActivate t m boot s) := by
  unfold execUpdateActivate
  repeat' with_reducible first
    | assumption
    | apply serveThen_kept
    | apply checked_kept
    | apply writeControl_kept
    | apply warmStart_kept
    | apply KeptOut.next
    | apply KeptAnswer.ok
    | (intro s hs)
    | refine Kept.upd ?_ rfl rfl rfl rfl

end Sys2Proof.Machine
end

