-- ==== Sys2Proof/Laws/Memory.lean ====
section
/-! SUPPORT. The sparse stores: a read after a write, and the canonical form, which every operation keeps. -/

namespace Sys2Proof.Machine

variable {β : Type}

theorem memRead_memInsert (d : β) (m : Mem β) (a j : Nat) (v : β) :
    memRead d (memInsert m a v) j = if j = a then v else memRead d m j := by
  induction m with
  | nil => simp only [memInsert, memRead, eq_comm]
  | cons e m ih =>
    obtain ⟨k, w⟩ := e
    simp only [memInsert]
    split
    · by_cases h : j = a
      · simp [memRead, h]
      · have : ¬ a = j := fun g => h g.symm
        simp [memRead, h, this]
    · split
      · next h => subst h; by_cases g : j = k
                  · simp [memRead, g]
                  · have : ¬ k = j := fun x => g x.symm
                    simp [memRead, g, this]
      · simp only [memRead, ih]
        by_cases g : k = j
        · subst g; simp [*]
        · simp [g]

theorem memRead_of_lt [DecidableEq β] {d : β} {lo : Nat} {m : Mem β} (h : memWfFrom d lo m = true) {j : Nat} (hj : j < lo) :
    memRead d m j = d := by
  induction m generalizing lo with
  | nil => rfl
  | cons e m ih =>
    obtain ⟨k, v⟩ := e
    simp only [memWfFrom, Bool.and_eq_true, decide_eq_true_eq] at h
    have : k ≠ j := by omega
    simp [memRead, this]
    exact ih h.2 (by omega)

theorem memRead_memErase [DecidableEq β] {d : β} {lo : Nat} {m : Mem β} (h : memWfFrom d lo m = true) (a j : Nat) :
    memRead d (memErase m a) j = if j = a then d else memRead d m j := by
  induction m generalizing lo with
  | nil => by_cases h : j = a <;> simp [memErase, memRead]
  | cons e m ih =>
    obtain ⟨k, v⟩ := e
    simp only [memWfFrom, Bool.and_eq_true, decide_eq_true_eq] at h
    simp only [memErase]
    split
    · next g =>
      subst g
      by_cases x : j = k
      · subst x; simpa using memRead_of_lt h.2 (by omega)
      · have : ¬ k = j := fun y => x y.symm
        simp [memRead, x, this]
    · split
      · by_cases x : j = a
        · subst x
          simp only [if_true]
          have : k ≠ j := by omega
          simp only [memRead, this, if_false]
          exact memRead_of_lt h.2 (by omega)
        · simp [x]
      · simp only [memRead, ih h.2]
        by_cases x : k = j
        · subst x; simp [*]
        · simp [x]

theorem memWfFrom_memErase [DecidableEq β] {d : β} {lo : Nat} {m : Mem β} (h : memWfFrom d lo m = true) (a : Nat) :
    memWfFrom d lo (memErase m a) = true := by
  have mono : ∀ {m : Mem β} {a b : Nat}, a ≤ b → memWfFrom d b m = true → memWfFrom d a m = true := by
    intro m a b hab g
    cases m with
    | nil => rfl
    | cons e m =>
      simp only [memWfFrom, Bool.and_eq_true, decide_eq_true_eq] at g ⊢
      exact ⟨⟨by omega, g.1.2⟩, g.2⟩
  induction m generalizing lo with
  | nil => rfl
  | cons e m ih =>
    obtain ⟨k, v⟩ := e
    simp only [memWfFrom, Bool.and_eq_true, decide_eq_true_eq] at h
    simp only [memErase]
    split
    · exact mono (by omega) h.2
    · split
      · simp [memWfFrom, h]
      · simp [memWfFrom, h.1, ih h.2]

theorem memWfFrom_memInsert [DecidableEq β] {d : β} {lo : Nat} {m : Mem β} (h : memWfFrom d lo m = true) {a : Nat} (ha : lo ≤ a) {v : β}
    (hv : v ≠ d) : memWfFrom d lo (memInsert m a v) = true := by
  induction m generalizing lo with
  | nil => simp [memInsert, memWfFrom, ha, hv]
  | cons e m ih =>
    obtain ⟨k, w⟩ := e
    simp only [memWfFrom, Bool.and_eq_true, decide_eq_true_eq] at h
    simp only [memInsert]
    split
    · simp only [memWfFrom, Bool.and_eq_true, decide_eq_true_eq]
      exact ⟨⟨ha, hv⟩, ⟨by omega, h.1.2⟩, h.2⟩
    · split
      · next g => subst g; simp [memWfFrom, h.1.1, hv, h.2]
      · simp only [memWfFrom, Bool.and_eq_true, decide_eq_true_eq]
        exact ⟨h.1, ih h.2 (by omega)⟩

/-- Every write keeps the canonical form. -/
theorem memWf_memWrite [DecidableEq β] {d : β} {m : Mem β} (h : memWf d m = true) (a : Nat) (v : β) : memWf d (memWrite d m a v) = true := by
  unfold memWrite
  split
  · exact memWfFrom_memErase h a
  · next hv => exact memWfFrom_memInsert h (Nat.zero_le _) hv

/-- A read after a write gives the value written; every other key reads as before. -/
theorem memRead_memWrite [DecidableEq β] {d : β} {m : Mem β} (h : memWf d m = true) (a j : Nat) (v : β) :
    memRead d (memWrite d m a v) j = if j = a then v else memRead d m j := by
  unfold memWrite
  split
  · next hv => subst hv; exact memRead_memErase h a j
  · exact memRead_memInsert d m a j v

theorem memWf_memWriteList [DecidableEq β] {d : β} (vs : List β) {m : Mem β} (h : memWf d m = true) (a : Nat) :
    memWf d (memWriteList d m a vs) = true := by
  induction vs generalizing m a with
  | nil => exact h
  | cons v vs ih => exact ih (memWf_memWrite h a v) (a + 1)

/-- Consecutive writes store the list and leave every other key alone. -/
theorem memRead_memWriteList [DecidableEq β] {d : β} (vs : List β) {m : Mem β} (h : memWf d m = true) (a j : Nat) :
    memRead d (memWriteList d m a vs) j = if a ≤ j ∧ j < a + vs.length then vs.getD (j - a) d else memRead d m j := by
  induction vs generalizing m a with
  | nil => simp [memWriteList, show ¬ (a ≤ j ∧ j < a) from by omega]
  | cons v vs ih =>
    simp only [memWriteList, ih (memWf_memWrite h a v) (a + 1), memRead_memWrite h, List.length_cons]
    by_cases g : j = a
    · subst g; simp [show ¬ (j + 1 ≤ j) from by omega]
    · by_cases x : a + 1 ≤ j
      · have : j - a = (j - (a + 1)) + 1 := by omega
        simp only [this, List.getD_cons_succ, g, if_false]
        by_cases y : j < a + 1 + vs.length
        · simp [x, y, show a ≤ j ∧ j < a + (vs.length + 1) from ⟨by omega, by omega⟩]
        · simp [y, show ¬ (j < a + (vs.length + 1)) from by omega]
      · simp [show ¬ (a + 1 ≤ j) from x, show ¬ (a ≤ j) from by omega, g]

end Sys2Proof.Machine
end

