-- ==== Sys2Proof/Laws/State.lean ====
section
/-! SUPPORT. What each shared operation leaves as it is: one lemma for each part of the state. -/

namespace Sys2Proof.Machine


/-! ### updCvu -/

@[simp] theorem updCvu_mode (unit : Nat) (f : Cvu → Cvu) (s : State) : (updCvu unit f s).mode = s.mode := rfl
@[simp] theorem updCvu_time (unit : Nat) (f : Cvu → Cvu) (s : State) : (updCvu unit f s).time = s.time := rfl
@[simp] theorem updCvu_log (unit : Nat) (f : Cvu → Cvu) (s : State) : (updCvu unit f s).log = s.log := rfl
@[simp] theorem updCvu_cfg (unit : Nat) (f : Cvu → Cvu) (s : State) : (updCvu unit f s).cfg = s.cfg := rfl
@[simp] theorem updCvu_arr (unit : Nat) (f : Cvu → Cvu) (s : State) : (updCvu unit f s).arr = s.arr := rfl
@[simp] theorem updCvu_sched (unit : Nat) (f : Cvu → Cvu) (s : State) : (updCvu unit f s).sched = s.sched := rfl
@[simp] theorem updCvu_comp (unit : Nat) (f : Cvu → Cvu) (s : State) : (updCvu unit f s).comp = s.comp := rfl
@[simp] theorem updCvu_mon (unit : Nat) (f : Cvu → Cvu) (s : State) : (updCvu unit f s).mon = s.mon := rfl
@[simp] theorem updCvu_gov (unit : Nat) (f : Cvu → Cvu) (s : State) : (updCvu unit f s).gov = s.gov := rfl
@[simp] theorem updCvu_drw (unit : Nat) (f : Cvu → Cvu) (s : State) : (updCvu unit f s).drw = s.drw := rfl
@[simp] theorem updCvu_sync (unit : Nat) (f : Cvu → Cvu) (s : State) : (updCvu unit f s).sync = s.sync := rfl
@[simp] theorem updCvu_flt (unit : Nat) (f : Cvu → Cvu) (s : State) : (updCvu unit f s).flt = s.flt := rfl
@[simp] theorem updCvu_dim (unit : Nat) (f : Cvu → Cvu) (s : State) : (updCvu unit f s).dim = s.dim := rfl
@[simp] theorem updCvu_rake (unit : Nat) (f : Cvu → Cvu) (s : State) : (updCvu unit f s).rake = s.rake := rfl
@[simp] theorem updCvu_conv (unit : Nat) (f : Cvu → Cvu) (s : State) : (updCvu unit f s).conv = s.conv := rfl
@[simp] theorem updCvu_link (unit : Nat) (f : Cvu → Cvu) (s : State) : (updCvu unit f s).link = s.link := rfl
@[simp] theorem updCvu_can (unit : Nat) (f : Cvu → Cvu) (s : State) : (updCvu unit f s).can = s.can := rfl
@[simp] theorem updCvu_gate (unit : Nat) (f : Cvu → Cvu) (s : State) : (updCvu unit f s).gate = s.gate := rfl
@[simp] theorem updCvu_mp (unit : Nat) (f : Cvu → Cvu) (s : State) : (updCvu unit f s).mp = s.mp := rfl
@[simp] theorem updCvu_dram (unit : Nat) (f : Cvu → Cvu) (s : State) : (updCvu unit f s).dram = s.dram := rfl
@[simp] theorem updCvu_pwr (unit : Nat) (f : Cvu → Cvu) (s : State) : (updCvu unit f s).pwr = s.pwr := rfl
@[simp] theorem updCvu_upd (unit : Nat) (f : Cvu → Cvu) (s : State) : (updCvu unit f s).upd = s.upd := rfl
@[simp] theorem updCvu_flash (unit : Nat) (f : Cvu → Cvu) (s : State) : (updCvu unit f s).flash = s.flash := rfl
@[simp] theorem updCvu_fuse (unit : Nat) (f : Cvu → Cvu) (s : State) : (updCvu unit f s).fuse = s.fuse := rfl
@[simp] theorem updCvu_pending (unit : Nat) (f : Cvu → Cvu) (s : State) : (updCvu unit f s).pending = s.pending := rfl

/-! ### cvuJob -/

@[simp] theorem cvuJob_mode (unit value : Nat) (expected : Option Nat) (s : State) : (cvuJob unit value expected s).mode = s.mode := rfl
@[simp] theorem cvuJob_time (unit value : Nat) (expected : Option Nat) (s : State) : (cvuJob unit value expected s).time = s.time := rfl
@[simp] theorem cvuJob_log (unit value : Nat) (expected : Option Nat) (s : State) : (cvuJob unit value expected s).log = s.log := rfl
@[simp] theorem cvuJob_cfg (unit value : Nat) (expected : Option Nat) (s : State) : (cvuJob unit value expected s).cfg = s.cfg := rfl
@[simp] theorem cvuJob_arr (unit value : Nat) (expected : Option Nat) (s : State) : (cvuJob unit value expected s).arr = s.arr := rfl
@[simp] theorem cvuJob_sched (unit value : Nat) (expected : Option Nat) (s : State) : (cvuJob unit value expected s).sched = s.sched := rfl
@[simp] theorem cvuJob_comp (unit value : Nat) (expected : Option Nat) (s : State) : (cvuJob unit value expected s).comp = s.comp := rfl
@[simp] theorem cvuJob_mon (unit value : Nat) (expected : Option Nat) (s : State) : (cvuJob unit value expected s).mon = s.mon := rfl
@[simp] theorem cvuJob_gov (unit value : Nat) (expected : Option Nat) (s : State) : (cvuJob unit value expected s).gov = s.gov := rfl
@[simp] theorem cvuJob_drw (unit value : Nat) (expected : Option Nat) (s : State) : (cvuJob unit value expected s).drw = s.drw := rfl
@[simp] theorem cvuJob_sync (unit value : Nat) (expected : Option Nat) (s : State) : (cvuJob unit value expected s).sync = s.sync := rfl
@[simp] theorem cvuJob_flt (unit value : Nat) (expected : Option Nat) (s : State) : (cvuJob unit value expected s).flt = s.flt := rfl
@[simp] theorem cvuJob_dim (unit value : Nat) (expected : Option Nat) (s : State) : (cvuJob unit value expected s).dim = s.dim := rfl
@[simp] theorem cvuJob_rake (unit value : Nat) (expected : Option Nat) (s : State) : (cvuJob unit value expected s).rake = s.rake := rfl
@[simp] theorem cvuJob_conv (unit value : Nat) (expected : Option Nat) (s : State) : (cvuJob unit value expected s).conv = s.conv := rfl
@[simp] theorem cvuJob_link (unit value : Nat) (expected : Option Nat) (s : State) : (cvuJob unit value expected s).link = s.link := rfl
@[simp] theorem cvuJob_can (unit value : Nat) (expected : Option Nat) (s : State) : (cvuJob unit value expected s).can = s.can := rfl
@[simp] theorem cvuJob_gate (unit value : Nat) (expected : Option Nat) (s : State) : (cvuJob unit value expected s).gate = s.gate := rfl
@[simp] theorem cvuJob_mp (unit value : Nat) (expected : Option Nat) (s : State) : (cvuJob unit value expected s).mp = s.mp := rfl
@[simp] theorem cvuJob_dram (unit value : Nat) (expected : Option Nat) (s : State) : (cvuJob unit value expected s).dram = s.dram := rfl
@[simp] theorem cvuJob_pwr (unit value : Nat) (expected : Option Nat) (s : State) : (cvuJob unit value expected s).pwr = s.pwr := rfl
@[simp] theorem cvuJob_upd (unit value : Nat) (expected : Option Nat) (s : State) : (cvuJob unit value expected s).upd = s.upd := rfl
@[simp] theorem cvuJob_flash (unit value : Nat) (expected : Option Nat) (s : State) : (cvuJob unit value expected s).flash = s.flash := rfl
@[simp] theorem cvuJob_fuse (unit value : Nat) (expected : Option Nat) (s : State) : (cvuJob unit value expected s).fuse = s.fuse := rfl
@[simp] theorem cvuJob_pending (unit value : Nat) (expected : Option Nat) (s : State) : (cvuJob unit value expected s).pending = s.pending := rfl

/-! ### cvuEnd -/

@[simp] theorem cvuEnd_mode (unit value : Nat) (s : State) : (cvuEnd unit value s).mode = s.mode := rfl
@[simp] theorem cvuEnd_time (unit value : Nat) (s : State) : (cvuEnd unit value s).time = s.time := rfl
@[simp] theorem cvuEnd_log (unit value : Nat) (s : State) : (cvuEnd unit value s).log = s.log := rfl
@[simp] theorem cvuEnd_cfg (unit value : Nat) (s : State) : (cvuEnd unit value s).cfg = s.cfg := rfl
@[simp] theorem cvuEnd_arr (unit value : Nat) (s : State) : (cvuEnd unit value s).arr = s.arr := rfl
@[simp] theorem cvuEnd_sched (unit value : Nat) (s : State) : (cvuEnd unit value s).sched = s.sched := rfl
@[simp] theorem cvuEnd_comp (unit value : Nat) (s : State) : (cvuEnd unit value s).comp = s.comp := rfl
@[simp] theorem cvuEnd_mon (unit value : Nat) (s : State) : (cvuEnd unit value s).mon = s.mon := rfl
@[simp] theorem cvuEnd_gov (unit value : Nat) (s : State) : (cvuEnd unit value s).gov = s.gov := rfl
@[simp] theorem cvuEnd_drw (unit value : Nat) (s : State) : (cvuEnd unit value s).drw = s.drw := rfl
@[simp] theorem cvuEnd_sync (unit value : Nat) (s : State) : (cvuEnd unit value s).sync = s.sync := rfl
@[simp] theorem cvuEnd_flt (unit value : Nat) (s : State) : (cvuEnd unit value s).flt = s.flt := rfl
@[simp] theorem cvuEnd_dim (unit value : Nat) (s : State) : (cvuEnd unit value s).dim = s.dim := rfl
@[simp] theorem cvuEnd_rake (unit value : Nat) (s : State) : (cvuEnd unit value s).rake = s.rake := rfl
@[simp] theorem cvuEnd_conv (unit value : Nat) (s : State) : (cvuEnd unit value s).conv = s.conv := rfl
@[simp] theorem cvuEnd_link (unit value : Nat) (s : State) : (cvuEnd unit value s).link = s.link := rfl
@[simp] theorem cvuEnd_can (unit value : Nat) (s : State) : (cvuEnd unit value s).can = s.can := rfl
@[simp] theorem cvuEnd_gate (unit value : Nat) (s : State) : (cvuEnd unit value s).gate = s.gate := rfl
@[simp] theorem cvuEnd_mp (unit value : Nat) (s : State) : (cvuEnd unit value s).mp = s.mp := rfl
@[simp] theorem cvuEnd_dram (unit value : Nat) (s : State) : (cvuEnd unit value s).dram = s.dram := rfl
@[simp] theorem cvuEnd_pwr (unit value : Nat) (s : State) : (cvuEnd unit value s).pwr = s.pwr := rfl
@[simp] theorem cvuEnd_upd (unit value : Nat) (s : State) : (cvuEnd unit value s).upd = s.upd := rfl
@[simp] theorem cvuEnd_flash (unit value : Nat) (s : State) : (cvuEnd unit value s).flash = s.flash := rfl
@[simp] theorem cvuEnd_fuse (unit value : Nat) (s : State) : (cvuEnd unit value s).fuse = s.fuse := rfl
@[simp] theorem cvuEnd_pending (unit value : Nat) (s : State) : (cvuEnd unit value s).pending = s.pending := rfl

/-! ### cvuStart -/

@[simp] theorem cvuStart_mode (unit : Nat) (compare : Bool) (s : State) : (cvuStart unit compare s).mode = s.mode := rfl
@[simp] theorem cvuStart_time (unit : Nat) (compare : Bool) (s : State) : (cvuStart unit compare s).time = s.time := rfl
@[simp] theorem cvuStart_log (unit : Nat) (compare : Bool) (s : State) : (cvuStart unit compare s).log = s.log := rfl
@[simp] theorem cvuStart_cfg (unit : Nat) (compare : Bool) (s : State) : (cvuStart unit compare s).cfg = s.cfg := rfl
@[simp] theorem cvuStart_arr (unit : Nat) (compare : Bool) (s : State) : (cvuStart unit compare s).arr = s.arr := rfl
@[simp] theorem cvuStart_sched (unit : Nat) (compare : Bool) (s : State) : (cvuStart unit compare s).sched = s.sched := rfl
@[simp] theorem cvuStart_comp (unit : Nat) (compare : Bool) (s : State) : (cvuStart unit compare s).comp = s.comp := rfl
@[simp] theorem cvuStart_mon (unit : Nat) (compare : Bool) (s : State) : (cvuStart unit compare s).mon = s.mon := rfl
@[simp] theorem cvuStart_gov (unit : Nat) (compare : Bool) (s : State) : (cvuStart unit compare s).gov = s.gov := rfl
@[simp] theorem cvuStart_drw (unit : Nat) (compare : Bool) (s : State) : (cvuStart unit compare s).drw = s.drw := rfl
@[simp] theorem cvuStart_sync (unit : Nat) (compare : Bool) (s : State) : (cvuStart unit compare s).sync = s.sync := rfl
@[simp] theorem cvuStart_flt (unit : Nat) (compare : Bool) (s : State) : (cvuStart unit compare s).flt = s.flt := rfl
@[simp] theorem cvuStart_dim (unit : Nat) (compare : Bool) (s : State) : (cvuStart unit compare s).dim = s.dim := rfl
@[simp] theorem cvuStart_rake (unit : Nat) (compare : Bool) (s : State) : (cvuStart unit compare s).rake = s.rake := rfl
@[simp] theorem cvuStart_conv (unit : Nat) (compare : Bool) (s : State) : (cvuStart unit compare s).conv = s.conv := rfl
@[simp] theorem cvuStart_link (unit : Nat) (compare : Bool) (s : State) : (cvuStart unit compare s).link = s.link := rfl
@[simp] theorem cvuStart_can (unit : Nat) (compare : Bool) (s : State) : (cvuStart unit compare s).can = s.can := rfl
@[simp] theorem cvuStart_gate (unit : Nat) (compare : Bool) (s : State) : (cvuStart unit compare s).gate = s.gate := rfl
@[simp] theorem cvuStart_mp (unit : Nat) (compare : Bool) (s : State) : (cvuStart unit compare s).mp = s.mp := rfl
@[simp] theorem cvuStart_dram (unit : Nat) (compare : Bool) (s : State) : (cvuStart unit compare s).dram = s.dram := rfl
@[simp] theorem cvuStart_pwr (unit : Nat) (compare : Bool) (s : State) : (cvuStart unit compare s).pwr = s.pwr := rfl
@[simp] theorem cvuStart_upd (unit : Nat) (compare : Bool) (s : State) : (cvuStart unit compare s).upd = s.upd := rfl
@[simp] theorem cvuStart_flash (unit : Nat) (compare : Bool) (s : State) : (cvuStart unit compare s).flash = s.flash := rfl
@[simp] theorem cvuStart_fuse (unit : Nat) (compare : Bool) (s : State) : (cvuStart unit compare s).fuse = s.fuse := rfl
@[simp] theorem cvuStart_pending (unit : Nat) (compare : Bool) (s : State) : (cvuStart unit compare s).pending = s.pending := rfl

/-! ### cvuAbandon -/

@[simp] theorem cvuAbandon_mode (unit : Nat) (s : State) : (cvuAbandon unit s).mode = s.mode := rfl
@[simp] theorem cvuAbandon_time (unit : Nat) (s : State) : (cvuAbandon unit s).time = s.time := rfl
@[simp] theorem cvuAbandon_log (unit : Nat) (s : State) : (cvuAbandon unit s).log = s.log := rfl
@[simp] theorem cvuAbandon_cfg (unit : Nat) (s : State) : (cvuAbandon unit s).cfg = s.cfg := rfl
@[simp] theorem cvuAbandon_arr (unit : Nat) (s : State) : (cvuAbandon unit s).arr = s.arr := rfl
@[simp] theorem cvuAbandon_sched (unit : Nat) (s : State) : (cvuAbandon unit s).sched = s.sched := rfl
@[simp] theorem cvuAbandon_comp (unit : Nat) (s : State) : (cvuAbandon unit s).comp = s.comp := rfl
@[simp] theorem cvuAbandon_mon (unit : Nat) (s : State) : (cvuAbandon unit s).mon = s.mon := rfl
@[simp] theorem cvuAbandon_gov (unit : Nat) (s : State) : (cvuAbandon unit s).gov = s.gov := rfl
@[simp] theorem cvuAbandon_drw (unit : Nat) (s : State) : (cvuAbandon unit s).drw = s.drw := rfl
@[simp] theorem cvuAbandon_sync (unit : Nat) (s : State) : (cvuAbandon unit s).sync = s.sync := rfl
@[simp] theorem cvuAbandon_flt (unit : Nat) (s : State) : (cvuAbandon unit s).flt = s.flt := rfl
@[simp] theorem cvuAbandon_dim (unit : Nat) (s : State) : (cvuAbandon unit s).dim = s.dim := rfl
@[simp] theorem cvuAbandon_rake (unit : Nat) (s : State) : (cvuAbandon unit s).rake = s.rake := rfl
@[simp] theorem cvuAbandon_conv (unit : Nat) (s : State) : (cvuAbandon unit s).conv = s.conv := rfl
@[simp] theorem cvuAbandon_link (unit : Nat) (s : State) : (cvuAbandon unit s).link = s.link := rfl
@[simp] theorem cvuAbandon_can (unit : Nat) (s : State) : (cvuAbandon unit s).can = s.can := rfl
@[simp] theorem cvuAbandon_gate (unit : Nat) (s : State) : (cvuAbandon unit s).gate = s.gate := rfl
@[simp] theorem cvuAbandon_mp (unit : Nat) (s : State) : (cvuAbandon unit s).mp = s.mp := rfl
@[simp] theorem cvuAbandon_dram (unit : Nat) (s : State) : (cvuAbandon unit s).dram = s.dram := rfl
@[simp] theorem cvuAbandon_pwr (unit : Nat) (s : State) : (cvuAbandon unit s).pwr = s.pwr := rfl
@[simp] theorem cvuAbandon_upd (unit : Nat) (s : State) : (cvuAbandon unit s).upd = s.upd := rfl
@[simp] theorem cvuAbandon_flash (unit : Nat) (s : State) : (cvuAbandon unit s).flash = s.flash := rfl
@[simp] theorem cvuAbandon_fuse (unit : Nat) (s : State) : (cvuAbandon unit s).fuse = s.fuse := rfl
@[simp] theorem cvuAbandon_pending (unit : Nat) (s : State) : (cvuAbandon unit s).pending = s.pending := rfl

/-! ### advance -/

@[simp] theorem advance_mode (t : Nat) (s : State) : (advance t s).mode = s.mode := by unfold advance; split <;> simp
@[simp] theorem advance_log (t : Nat) (s : State) : (advance t s).log = s.log := by unfold advance; split <;> simp
@[simp] theorem advance_cfg (t : Nat) (s : State) : (advance t s).cfg = s.cfg := by unfold advance; split <;> simp
@[simp] theorem advance_arr (t : Nat) (s : State) : (advance t s).arr = s.arr := by unfold advance; split <;> simp
@[simp] theorem advance_sched (t : Nat) (s : State) : (advance t s).sched = s.sched := by unfold advance; split <;> simp
@[simp] theorem advance_comp (t : Nat) (s : State) : (advance t s).comp = s.comp := by unfold advance; split <;> simp
@[simp] theorem advance_mon (t : Nat) (s : State) : (advance t s).mon = s.mon := by unfold advance; split <;> simp
@[simp] theorem advance_gov (t : Nat) (s : State) : (advance t s).gov = s.gov := by unfold advance; split <;> simp
@[simp] theorem advance_drw (t : Nat) (s : State) : (advance t s).drw = s.drw := by unfold advance; split <;> simp
@[simp] theorem advance_sync (t : Nat) (s : State) : (advance t s).sync = s.sync := by unfold advance; split <;> simp
@[simp] theorem advance_flt (t : Nat) (s : State) : (advance t s).flt = s.flt := by unfold advance; split <;> simp
@[simp] theorem advance_dim (t : Nat) (s : State) : (advance t s).dim = s.dim := by unfold advance; split <;> simp
@[simp] theorem advance_rake (t : Nat) (s : State) : (advance t s).rake = s.rake := by unfold advance; split <;> simp
@[simp] theorem advance_conv (t : Nat) (s : State) : (advance t s).conv = s.conv := by unfold advance; split <;> simp
@[simp] theorem advance_link (t : Nat) (s : State) : (advance t s).link = s.link := by unfold advance; split <;> simp
@[simp] theorem advance_can (t : Nat) (s : State) : (advance t s).can = s.can := by unfold advance; split <;> simp
@[simp] theorem advance_gate (t : Nat) (s : State) : (advance t s).gate = s.gate := by unfold advance; split <;> simp
@[simp] theorem advance_mp (t : Nat) (s : State) : (advance t s).mp = s.mp := by unfold advance; split <;> simp
@[simp] theorem advance_dram (t : Nat) (s : State) : (advance t s).dram = s.dram := by unfold advance; split <;> simp
@[simp] theorem advance_pwr (t : Nat) (s : State) : (advance t s).pwr = s.pwr := by unfold advance; split <;> simp
@[simp] theorem advance_upd (t : Nat) (s : State) : (advance t s).upd = s.upd := by unfold advance; split <;> simp
@[simp] theorem advance_flash (t : Nat) (s : State) : (advance t s).flash = s.flash := by unfold advance; split <;> simp
@[simp] theorem advance_fuse (t : Nat) (s : State) : (advance t s).fuse = s.fuse := by unfold advance; split <;> simp
@[simp] theorem advance_cvus (t : Nat) (s : State) : (advance t s).cvus = s.cvus := by unfold advance; split <;> simp
@[simp] theorem advance_pending (t : Nat) (s : State) : (advance t s).pending = s.pending := by unfold advance; split <;> simp

/-! ### recordAt -/

@[simp] theorem recordAt_mode (at_ source code data : Nat) (s : State) : (recordAt at_ source code data s).mode = s.mode :=
    by simp only [recordAt]
@[simp] theorem recordAt_time (at_ source code data : Nat) (s : State) : (recordAt at_ source code data s).time = s.time :=
    by simp only [recordAt]
@[simp] theorem recordAt_cfg (at_ source code data : Nat) (s : State) : (recordAt at_ source code data s).cfg = s.cfg :=
    by simp only [recordAt]
@[simp] theorem recordAt_arr (at_ source code data : Nat) (s : State) : (recordAt at_ source code data s).arr = s.arr :=
    by simp only [recordAt]
@[simp] theorem recordAt_sched (at_ source code data : Nat) (s : State) : (recordAt at_ source code data s).sched = s.sched :=
    by simp only [recordAt]
@[simp] theorem recordAt_comp (at_ source code data : Nat) (s : State) : (recordAt at_ source code data s).comp = s.comp :=
    by simp only [recordAt]
@[simp] theorem recordAt_mon (at_ source code data : Nat) (s : State) : (recordAt at_ source code data s).mon = s.mon :=
    by simp only [recordAt]
@[simp] theorem recordAt_gov (at_ source code data : Nat) (s : State) : (recordAt at_ source code data s).gov = s.gov :=
    by simp only [recordAt]
@[simp] theorem recordAt_drw (at_ source code data : Nat) (s : State) : (recordAt at_ source code data s).drw = s.drw :=
    by simp only [recordAt]
@[simp] theorem recordAt_sync (at_ source code data : Nat) (s : State) : (recordAt at_ source code data s).sync = s.sync :=
    by simp only [recordAt]
@[simp] theorem recordAt_flt (at_ source code data : Nat) (s : State) : (recordAt at_ source code data s).flt = s.flt :=
    by simp only [recordAt]
@[simp] theorem recordAt_dim (at_ source code data : Nat) (s : State) : (recordAt at_ source code data s).dim = s.dim :=
    by simp only [recordAt]
@[simp] theorem recordAt_rake (at_ source code data : Nat) (s : State) : (recordAt at_ source code data s).rake = s.rake :=
    by simp only [recordAt]
@[simp] theorem recordAt_conv (at_ source code data : Nat) (s : State) : (recordAt at_ source code data s).conv = s.conv :=
    by simp only [recordAt]
@[simp] theorem recordAt_link (at_ source code data : Nat) (s : State) : (recordAt at_ source code data s).link = s.link :=
    by simp only [recordAt]
@[simp] theorem recordAt_can (at_ source code data : Nat) (s : State) : (recordAt at_ source code data s).can = s.can :=
    by simp only [recordAt]
@[simp] theorem recordAt_gate (at_ source code data : Nat) (s : State) : (recordAt at_ source code data s).gate = s.gate :=
    by simp only [recordAt]
@[simp] theorem recordAt_mp (at_ source code data : Nat) (s : State) : (recordAt at_ source code data s).mp = s.mp :=
    by simp only [recordAt]
@[simp] theorem recordAt_dram (at_ source code data : Nat) (s : State) : (recordAt at_ source code data s).dram = s.dram :=
    by simp only [recordAt]
@[simp] theorem recordAt_pwr (at_ source code data : Nat) (s : State) : (recordAt at_ source code data s).pwr = s.pwr :=
    by simp only [recordAt]
@[simp] theorem recordAt_upd (at_ source code data : Nat) (s : State) : (recordAt at_ source code data s).upd = s.upd :=
    by simp only [recordAt]
@[simp] theorem recordAt_flash (at_ source code data : Nat) (s : State) : (recordAt at_ source code data s).flash = s.flash :=
    by simp only [recordAt]
@[simp] theorem recordAt_fuse (at_ source code data : Nat) (s : State) : (recordAt at_ source code data s).fuse = s.fuse :=
    by simp only [recordAt]
@[simp] theorem recordAt_cvus (at_ source code data : Nat) (s : State) : (recordAt at_ source code data s).cvus = s.cvus :=
    by simp only [recordAt]
@[simp] theorem recordAt_pending (at_ source code data : Nat) (s : State) : (recordAt at_ source code data s).pending = s.pending :=
    by simp only [recordAt]

/-! ### record -/

@[simp] theorem record_mode (source code data : Nat) (s : State) : (record source code data s).mode = s.mode :=
    by unfold record; (repeat' split) <;> simp
@[simp] theorem record_time (source code data : Nat) (s : State) : (record source code data s).time = s.time :=
    by unfold record; (repeat' split) <;> simp
@[simp] theorem record_cfg (source code data : Nat) (s : State) : (record source code data s).cfg = s.cfg :=
    by unfold record; (repeat' split) <;> simp
@[simp] theorem record_arr (source code data : Nat) (s : State) : (record source code data s).arr = s.arr :=
    by unfold record; (repeat' split) <;> simp
@[simp] theorem record_sched (source code data : Nat) (s : State) : (record source code data s).sched = s.sched :=
    by unfold record; (repeat' split) <;> simp
@[simp] theorem record_comp (source code data : Nat) (s : State) : (record source code data s).comp = s.comp :=
    by unfold record; (repeat' split) <;> simp
@[simp] theorem record_mon (source code data : Nat) (s : State) : (record source code data s).mon = s.mon :=
    by unfold record; (repeat' split) <;> simp
@[simp] theorem record_gov (source code data : Nat) (s : State) : (record source code data s).gov = s.gov :=
    by unfold record; (repeat' split) <;> simp
@[simp] theorem record_drw (source code data : Nat) (s : State) : (record source code data s).drw = s.drw :=
    by unfold record; (repeat' split) <;> simp
@[simp] theorem record_sync (source code data : Nat) (s : State) : (record source code data s).sync = s.sync :=
    by unfold record; (repeat' split) <;> simp
@[simp] theorem record_flt (source code data : Nat) (s : State) : (record source code data s).flt = s.flt :=
    by unfold record; (repeat' split) <;> simp
@[simp] theorem record_dim (source code data : Nat) (s : State) : (record source code data s).dim = s.dim :=
    by unfold record; (repeat' split) <;> simp
@[simp] theorem record_rake (source code data : Nat) (s : State) : (record source code data s).rake = s.rake :=
    by unfold record; (repeat' split) <;> simp
@[simp] theorem record_conv (source code data : Nat) (s : State) : (record source code data s).conv = s.conv :=
    by unfold record; (repeat' split) <;> simp
@[simp] theorem record_link (source code data : Nat) (s : State) : (record source code data s).link = s.link :=
    by unfold record; (repeat' split) <;> simp
@[simp] theorem record_can (source code data : Nat) (s : State) : (record source code data s).can = s.can :=
    by unfold record; (repeat' split) <;> simp
@[simp] theorem record_gate (source code data : Nat) (s : State) : (record source code data s).gate = s.gate :=
    by unfold record; (repeat' split) <;> simp
@[simp] theorem record_mp (source code data : Nat) (s : State) : (record source code data s).mp = s.mp :=
    by unfold record; (repeat' split) <;> simp
@[simp] theorem record_dram (source code data : Nat) (s : State) : (record source code data s).dram = s.dram :=
    by unfold record; (repeat' split) <;> simp
@[simp] theorem record_pwr (source code data : Nat) (s : State) : (record source code data s).pwr = s.pwr :=
    by unfold record; (repeat' split) <;> simp
@[simp] theorem record_upd (source code data : Nat) (s : State) : (record source code data s).upd = s.upd :=
    by unfold record; (repeat' split) <;> simp
@[simp] theorem record_flash (source code data : Nat) (s : State) : (record source code data s).flash = s.flash :=
    by unfold record; (repeat' split) <;> simp
@[simp] theorem record_fuse (source code data : Nat) (s : State) : (record source code data s).fuse = s.fuse :=
    by unfold record; (repeat' split) <;> simp
@[simp] theorem record_cvus (source code data : Nat) (s : State) : (record source code data s).cvus = s.cvus :=
    by unfold record; (repeat' split) <;> simp
@[simp] theorem record_pending (source code data : Nat) (s : State) : (record source code data s).pending = s.pending :=
    by unfold record; (repeat' split) <;> simp

/-! ### selectSettle -/

@[simp] theorem selectSettle_mode (s : State) : (selectSettle s).mode = s.mode := by simp only [selectSettle]
@[simp] theorem selectSettle_time (s : State) : (selectSettle s).time = s.time := by simp only [selectSettle]
@[simp] theorem selectSettle_log (s : State) : (selectSettle s).log = s.log := by simp only [selectSettle]
@[simp] theorem selectSettle_cfg (s : State) : (selectSettle s).cfg = s.cfg := by simp only [selectSettle]
@[simp] theorem selectSettle_sched (s : State) : (selectSettle s).sched = s.sched := by simp only [selectSettle]
@[simp] theorem selectSettle_comp (s : State) : (selectSettle s).comp = s.comp := by simp only [selectSettle]
@[simp] theorem selectSettle_mon (s : State) : (selectSettle s).mon = s.mon := by simp only [selectSettle]
@[simp] theorem selectSettle_gov (s : State) : (selectSettle s).gov = s.gov := by simp only [selectSettle]
@[simp] theorem selectSettle_drw (s : State) : (selectSettle s).drw = s.drw := by simp only [selectSettle]
@[simp] theorem selectSettle_sync (s : State) : (selectSettle s).sync = s.sync := by simp only [selectSettle]
@[simp] theorem selectSettle_flt (s : State) : (selectSettle s).flt = s.flt := by simp only [selectSettle]
@[simp] theorem selectSettle_rake (s : State) : (selectSettle s).rake = s.rake := by simp only [selectSettle]
@[simp] theorem selectSettle_conv (s : State) : (selectSettle s).conv = s.conv := by simp only [selectSettle]
@[simp] theorem selectSettle_link (s : State) : (selectSettle s).link = s.link := by simp only [selectSettle]
@[simp] theorem selectSettle_can (s : State) : (selectSettle s).can = s.can := by simp only [selectSettle]
@[simp] theorem selectSettle_gate (s : State) : (selectSettle s).gate = s.gate := by simp only [selectSettle]
@[simp] theorem selectSettle_mp (s : State) : (selectSettle s).mp = s.mp := by simp only [selectSettle]
@[simp] theorem selectSettle_dram (s : State) : (selectSettle s).dram = s.dram := by simp only [selectSettle]
@[simp] theorem selectSettle_pwr (s : State) : (selectSettle s).pwr = s.pwr := by simp only [selectSettle]
@[simp] theorem selectSettle_upd (s : State) : (selectSettle s).upd = s.upd := by simp only [selectSettle]
@[simp] theorem selectSettle_flash (s : State) : (selectSettle s).flash = s.flash := by simp only [selectSettle]
@[simp] theorem selectSettle_fuse (s : State) : (selectSettle s).fuse = s.fuse := by simp only [selectSettle]
@[simp] theorem selectSettle_cvus (s : State) : (selectSettle s).cvus = s.cvus := by simp only [selectSettle]
@[simp] theorem selectSettle_pending (s : State) : (selectSettle s).pending = s.pending := by simp only [selectSettle]

/-! ### drvLow -/

@[simp] theorem drvLow_mode (s : State) : (drvLow s).mode = s.mode := by simp only [drvLow]
@[simp] theorem drvLow_time (s : State) : (drvLow s).time = s.time := by simp only [drvLow]
@[simp] theorem drvLow_log (s : State) : (drvLow s).log = s.log := by simp only [drvLow]
@[simp] theorem drvLow_cfg (s : State) : (drvLow s).cfg = s.cfg := by simp only [drvLow]
@[simp] theorem drvLow_sched (s : State) : (drvLow s).sched = s.sched := by simp only [drvLow]
@[simp] theorem drvLow_comp (s : State) : (drvLow s).comp = s.comp := by simp only [drvLow]
@[simp] theorem drvLow_mon (s : State) : (drvLow s).mon = s.mon := by simp only [drvLow]
@[simp] theorem drvLow_gov (s : State) : (drvLow s).gov = s.gov := by simp only [drvLow]
@[simp] theorem drvLow_drw (s : State) : (drvLow s).drw = s.drw := by simp only [drvLow]
@[simp] theorem drvLow_sync (s : State) : (drvLow s).sync = s.sync := by simp only [drvLow]
@[simp] theorem drvLow_flt (s : State) : (drvLow s).flt = s.flt := by simp only [drvLow]
@[simp] theorem drvLow_dim (s : State) : (drvLow s).dim = s.dim := by simp only [drvLow]
@[simp] theorem drvLow_rake (s : State) : (drvLow s).rake = s.rake := by simp only [drvLow]
@[simp] theorem drvLow_conv (s : State) : (drvLow s).conv = s.conv := by simp only [drvLow]
@[simp] theorem drvLow_link (s : State) : (drvLow s).link = s.link := by simp only [drvLow]
@[simp] theorem drvLow_can (s : State) : (drvLow s).can = s.can := by simp only [drvLow]
@[simp] theorem drvLow_gate (s : State) : (drvLow s).gate = s.gate := by simp only [drvLow]
@[simp] theorem drvLow_mp (s : State) : (drvLow s).mp = s.mp := by simp only [drvLow]
@[simp] theorem drvLow_dram (s : State) : (drvLow s).dram = s.dram := by simp only [drvLow]
@[simp] theorem drvLow_pwr (s : State) : (drvLow s).pwr = s.pwr := by simp only [drvLow]
@[simp] theorem drvLow_upd (s : State) : (drvLow s).upd = s.upd := by simp only [drvLow]
@[simp] theorem drvLow_flash (s : State) : (drvLow s).flash = s.flash := by simp only [drvLow]
@[simp] theorem drvLow_fuse (s : State) : (drvLow s).fuse = s.fuse := by simp only [drvLow]
@[simp] theorem drvLow_cvus (s : State) : (drvLow s).cvus = s.cvus := by simp only [drvLow]
@[simp] theorem drvLow_pending (s : State) : (drvLow s).pending = s.pending := by simp only [drvLow]

/-! ### openSwitch -/

@[simp] theorem openSwitch_mode (cause : Nat) (s : State) : (openSwitch cause s).mode = s.mode := by unfold openSwitch; split <;> simp
@[simp] theorem openSwitch_time (cause : Nat) (s : State) : (openSwitch cause s).time = s.time := by unfold openSwitch; split <;> simp
@[simp] theorem openSwitch_cfg (cause : Nat) (s : State) : (openSwitch cause s).cfg = s.cfg := by unfold openSwitch; split <;> simp
@[simp] theorem openSwitch_sched (cause : Nat) (s : State) : (openSwitch cause s).sched = s.sched := by unfold openSwitch; split <;> simp
@[simp] theorem openSwitch_comp (cause : Nat) (s : State) : (openSwitch cause s).comp = s.comp := by unfold openSwitch; split <;> simp
@[simp] theorem openSwitch_mon (cause : Nat) (s : State) : (openSwitch cause s).mon = s.mon := by unfold openSwitch; split <;> simp
@[simp] theorem openSwitch_gov (cause : Nat) (s : State) : (openSwitch cause s).gov = s.gov := by unfold openSwitch; split <;> simp
@[simp] theorem openSwitch_drw (cause : Nat) (s : State) : (openSwitch cause s).drw = s.drw := by unfold openSwitch; split <;> simp
@[simp] theorem openSwitch_sync (cause : Nat) (s : State) : (openSwitch cause s).sync = s.sync := by unfold openSwitch; split <;> simp
@[simp] theorem openSwitch_dim (cause : Nat) (s : State) : (openSwitch cause s).dim = s.dim := by unfold openSwitch; split <;> simp
@[simp] theorem openSwitch_rake (cause : Nat) (s : State) : (openSwitch cause s).rake = s.rake := by unfold openSwitch; split <;> simp
@[simp] theorem openSwitch_conv (cause : Nat) (s : State) : (openSwitch cause s).conv = s.conv := by unfold openSwitch; split <;> simp
@[simp] theorem openSwitch_link (cause : Nat) (s : State) : (openSwitch cause s).link = s.link := by unfold openSwitch; split <;> simp
@[simp] theorem openSwitch_can (cause : Nat) (s : State) : (openSwitch cause s).can = s.can := by unfold openSwitch; split <;> simp
@[simp] theorem openSwitch_gate (cause : Nat) (s : State) : (openSwitch cause s).gate = s.gate := by unfold openSwitch; split <;> simp
@[simp] theorem openSwitch_mp (cause : Nat) (s : State) : (openSwitch cause s).mp = s.mp := by unfold openSwitch; split <;> simp
@[simp] theorem openSwitch_dram (cause : Nat) (s : State) : (openSwitch cause s).dram = s.dram := by unfold openSwitch; split <;> simp
@[simp] theorem openSwitch_pwr (cause : Nat) (s : State) : (openSwitch cause s).pwr = s.pwr := by unfold openSwitch; split <;> simp
@[simp] theorem openSwitch_upd (cause : Nat) (s : State) : (openSwitch cause s).upd = s.upd := by unfold openSwitch; split <;> simp
@[simp] theorem openSwitch_flash (cause : Nat) (s : State) : (openSwitch cause s).flash = s.flash := by unfold openSwitch; split <;> simp
@[simp] theorem openSwitch_fuse (cause : Nat) (s : State) : (openSwitch cause s).fuse = s.fuse := by unfold openSwitch; split <;> simp
@[simp] theorem openSwitch_cvus (cause : Nat) (s : State) : (openSwitch cause s).cvus = s.cvus := by unfold openSwitch; split <;> simp
@[simp] theorem openSwitch_pending (cause : Nat) (s : State) : (openSwitch cause s).pending = s.pending :=
    by unfold openSwitch; split <;> simp

/-! ### closeSwitch -/

@[simp] theorem closeSwitch_mode (s : State) : (closeSwitch s).mode = s.mode := by unfold closeSwitch; split <;> simp
@[simp] theorem closeSwitch_time (s : State) : (closeSwitch s).time = s.time := by unfold closeSwitch; split <;> simp
@[simp] theorem closeSwitch_cfg (s : State) : (closeSwitch s).cfg = s.cfg := by unfold closeSwitch; split <;> simp
@[simp] theorem closeSwitch_sched (s : State) : (closeSwitch s).sched = s.sched := by unfold closeSwitch; split <;> simp
@[simp] theorem closeSwitch_comp (s : State) : (closeSwitch s).comp = s.comp := by unfold closeSwitch; split <;> simp
@[simp] theorem closeSwitch_mon (s : State) : (closeSwitch s).mon = s.mon := by unfold closeSwitch; split <;> simp
@[simp] theorem closeSwitch_gov (s : State) : (closeSwitch s).gov = s.gov := by unfold closeSwitch; split <;> simp
@[simp] theorem closeSwitch_drw (s : State) : (closeSwitch s).drw = s.drw := by unfold closeSwitch; split <;> simp
@[simp] theorem closeSwitch_sync (s : State) : (closeSwitch s).sync = s.sync := by unfold closeSwitch; split <;> simp
@[simp] theorem closeSwitch_flt (s : State) : (closeSwitch s).flt = s.flt := by unfold closeSwitch; split <;> simp
@[simp] theorem closeSwitch_dim (s : State) : (closeSwitch s).dim = s.dim := by unfold closeSwitch; split <;> simp
@[simp] theorem closeSwitch_rake (s : State) : (closeSwitch s).rake = s.rake := by unfold closeSwitch; split <;> simp
@[simp] theorem closeSwitch_conv (s : State) : (closeSwitch s).conv = s.conv := by unfold closeSwitch; split <;> simp
@[simp] theorem closeSwitch_link (s : State) : (closeSwitch s).link = s.link := by unfold closeSwitch; split <;> simp
@[simp] theorem closeSwitch_can (s : State) : (closeSwitch s).can = s.can := by unfold closeSwitch; split <;> simp
@[simp] theorem closeSwitch_gate (s : State) : (closeSwitch s).gate = s.gate := by unfold closeSwitch; split <;> simp
@[simp] theorem closeSwitch_mp (s : State) : (closeSwitch s).mp = s.mp := by unfold closeSwitch; split <;> simp
@[simp] theorem closeSwitch_dram (s : State) : (closeSwitch s).dram = s.dram := by unfold closeSwitch; split <;> simp
@[simp] theorem closeSwitch_pwr (s : State) : (closeSwitch s).pwr = s.pwr := by unfold closeSwitch; split <;> simp
@[simp] theorem closeSwitch_upd (s : State) : (closeSwitch s).upd = s.upd := by unfold closeSwitch; split <;> simp
@[simp] theorem closeSwitch_flash (s : State) : (closeSwitch s).flash = s.flash := by unfold closeSwitch; split <;> simp
@[simp] theorem closeSwitch_fuse (s : State) : (closeSwitch s).fuse = s.fuse := by unfold closeSwitch; split <;> simp
@[simp] theorem closeSwitch_cvus (s : State) : (closeSwitch s).cvus = s.cvus := by unfold closeSwitch; split <;> simp
@[simp] theorem closeSwitch_pending (s : State) : (closeSwitch s).pending = s.pending := by unfold closeSwitch; split <;> simp

/-! ### readdress -/

@[simp] theorem readdress_mode (s : State) : (readdress s).mode = s.mode := by unfold readdress; dsimp only; (repeat' split) <;> simp
@[simp] theorem readdress_time (s : State) : (readdress s).time = s.time := by unfold readdress; dsimp only; (repeat' split) <;> simp
@[simp] theorem readdress_log (s : State) : (readdress s).log = s.log := by unfold readdress; dsimp only; (repeat' split) <;> simp
@[simp] theorem readdress_cfg (s : State) : (readdress s).cfg = s.cfg := by unfold readdress; dsimp only; (repeat' split) <;> simp
@[simp] theorem readdress_arr (s : State) : (readdress s).arr = s.arr := by unfold readdress; dsimp only; (repeat' split) <;> simp
@[simp] theorem readdress_sched (s : State) : (readdress s).sched = s.sched := by unfold readdress; dsimp only; (repeat' split) <;> simp
@[simp] theorem readdress_comp (s : State) : (readdress s).comp = s.comp := by unfold readdress; dsimp only; (repeat' split) <;> simp
@[simp] theorem readdress_mon (s : State) : (readdress s).mon = s.mon := by unfold readdress; dsimp only; (repeat' split) <;> simp
@[simp] theorem readdress_gov (s : State) : (readdress s).gov = s.gov := by unfold readdress; dsimp only; (repeat' split) <;> simp
@[simp] theorem readdress_drw (s : State) : (readdress s).drw = s.drw := by unfold readdress; dsimp only; (repeat' split) <;> simp
@[simp] theorem readdress_sync (s : State) : (readdress s).sync = s.sync := by unfold readdress; dsimp only; (repeat' split) <;> simp
@[simp] theorem readdress_flt (s : State) : (readdress s).flt = s.flt := by unfold readdress; dsimp only; (repeat' split) <;> simp
@[simp] theorem readdress_dim (s : State) : (readdress s).dim = s.dim := by unfold readdress; dsimp only; (repeat' split) <;> simp
@[simp] theorem readdress_rake (s : State) : (readdress s).rake = s.rake := by unfold readdress; dsimp only; (repeat' split) <;> simp
@[simp] theorem readdress_conv (s : State) : (readdress s).conv = s.conv := by unfold readdress; dsimp only; (repeat' split) <;> simp
@[simp] theorem readdress_can (s : State) : (readdress s).can = s.can := by unfold readdress; dsimp only; (repeat' split) <;> simp
@[simp] theorem readdress_gate (s : State) : (readdress s).gate = s.gate := by unfold readdress; dsimp only; (repeat' split) <;> simp
@[simp] theorem readdress_mp (s : State) : (readdress s).mp = s.mp := by unfold readdress; dsimp only; (repeat' split) <;> simp
@[simp] theorem readdress_dram (s : State) : (readdress s).dram = s.dram := by unfold readdress; dsimp only; (repeat' split) <;> simp
@[simp] theorem readdress_pwr (s : State) : (readdress s).pwr = s.pwr := by unfold readdress; dsimp only; (repeat' split) <;> simp
@[simp] theorem readdress_upd (s : State) : (readdress s).upd = s.upd := by unfold readdress; dsimp only; (repeat' split) <;> simp
@[simp] theorem readdress_flash (s : State) : (readdress s).flash = s.flash := by unfold readdress; dsimp only; (repeat' split) <;> simp
@[simp] theorem readdress_fuse (s : State) : (readdress s).fuse = s.fuse := by unfold readdress; dsimp only; (repeat' split) <;> simp
@[simp] theorem readdress_cvus (s : State) : (readdress s).cvus = s.cvus := by unfold readdress; dsimp only; (repeat' split) <;> simp
@[simp] theorem readdress_pending (s : State) : (readdress s).pending = s.pending :=
    by unfold readdress; dsimp only; (repeat' split) <;> simp

/-! ### rakeUpdate -/

@[simp] theorem rakeUpdate_mode (s : State) : (rakeUpdate s).mode = s.mode := by unfold rakeUpdate; dsimp only; (repeat' split) <;> simp
@[simp] theorem rakeUpdate_time (s : State) : (rakeUpdate s).time = s.time := by unfold rakeUpdate; dsimp only; (repeat' split) <;> simp
@[simp] theorem rakeUpdate_cfg (s : State) : (rakeUpdate s).cfg = s.cfg := by unfold rakeUpdate; dsimp only; (repeat' split) <;> simp
@[simp] theorem rakeUpdate_arr (s : State) : (rakeUpdate s).arr = s.arr := by unfold rakeUpdate; dsimp only; (repeat' split) <;> simp
@[simp] theorem rakeUpdate_sched (s : State) : (rakeUpdate s).sched = s.sched := by unfold rakeUpdate; dsimp only; (repeat' split) <;> simp
@[simp] theorem rakeUpdate_comp (s : State) : (rakeUpdate s).comp = s.comp := by unfold rakeUpdate; dsimp only; (repeat' split) <;> simp
@[simp] theorem rakeUpdate_mon (s : State) : (rakeUpdate s).mon = s.mon := by unfold rakeUpdate; dsimp only; (repeat' split) <;> simp
@[simp] theorem rakeUpdate_gov (s : State) : (rakeUpdate s).gov = s.gov := by unfold rakeUpdate; dsimp only; (repeat' split) <;> simp
@[simp] theorem rakeUpdate_drw (s : State) : (rakeUpdate s).drw = s.drw := by unfold rakeUpdate; dsimp only; (repeat' split) <;> simp
@[simp] theorem rakeUpdate_sync (s : State) : (rakeUpdate s).sync = s.sync := by unfold rakeUpdate; dsimp only; (repeat' split) <;> simp
@[simp] theorem rakeUpdate_flt (s : State) : (rakeUpdate s).flt = s.flt := by unfold rakeUpdate; dsimp only; (repeat' split) <;> simp
@[simp] theorem rakeUpdate_dim (s : State) : (rakeUpdate s).dim = s.dim := by unfold rakeUpdate; dsimp only; (repeat' split) <;> simp
@[simp] theorem rakeUpdate_conv (s : State) : (rakeUpdate s).conv = s.conv := by unfold rakeUpdate; dsimp only; (repeat' split) <;> simp
@[simp] theorem rakeUpdate_link (s : State) : (rakeUpdate s).link = s.link := by unfold rakeUpdate; dsimp only; (repeat' split) <;> simp
@[simp] theorem rakeUpdate_can (s : State) : (rakeUpdate s).can = s.can := by unfold rakeUpdate; dsimp only; (repeat' split) <;> simp
@[simp] theorem rakeUpdate_gate (s : State) : (rakeUpdate s).gate = s.gate := by unfold rakeUpdate; dsimp only; (repeat' split) <;> simp
@[simp] theorem rakeUpdate_mp (s : State) : (rakeUpdate s).mp = s.mp := by unfold rakeUpdate; dsimp only; (repeat' split) <;> simp
@[simp] theorem rakeUpdate_dram (s : State) : (rakeUpdate s).dram = s.dram := by unfold rakeUpdate; dsimp only; (repeat' split) <;> simp
@[simp] theorem rakeUpdate_pwr (s : State) : (rakeUpdate s).pwr = s.pwr := by unfold rakeUpdate; dsimp only; (repeat' split) <;> simp
@[simp] theorem rakeUpdate_upd (s : State) : (rakeUpdate s).upd = s.upd := by unfold rakeUpdate; dsimp only; (repeat' split) <;> simp
@[simp] theorem rakeUpdate_flash (s : State) : (rakeUpdate s).flash = s.flash := by unfold rakeUpdate; dsimp only; (repeat' split) <;> simp
@[simp] theorem rakeUpdate_fuse (s : State) : (rakeUpdate s).fuse = s.fuse := by unfold rakeUpdate; dsimp only; (repeat' split) <;> simp
@[simp] theorem rakeUpdate_cvus (s : State) : (rakeUpdate s).cvus = s.cvus := by unfold rakeUpdate; dsimp only; (repeat' split) <;> simp
@[simp] theorem rakeUpdate_pending (s : State) : (rakeUpdate s).pending = s.pending :=
    by unfold rakeUpdate; dsimp only; (repeat' split) <;> simp

/-! ### updSlot -/

@[simp] theorem updSlot_mode (n : Nat) (f : Slot → Slot) (s : State) : (updSlot n f s).mode = s.mode := by simp only [updSlot]
@[simp] theorem updSlot_time (n : Nat) (f : Slot → Slot) (s : State) : (updSlot n f s).time = s.time := by simp only [updSlot]
@[simp] theorem updSlot_log (n : Nat) (f : Slot → Slot) (s : State) : (updSlot n f s).log = s.log := by simp only [updSlot]
@[simp] theorem updSlot_cfg (n : Nat) (f : Slot → Slot) (s : State) : (updSlot n f s).cfg = s.cfg := by simp only [updSlot]
@[simp] theorem updSlot_arr (n : Nat) (f : Slot → Slot) (s : State) : (updSlot n f s).arr = s.arr := by simp only [updSlot]
@[simp] theorem updSlot_sched (n : Nat) (f : Slot → Slot) (s : State) : (updSlot n f s).sched = s.sched := by simp only [updSlot]
@[simp] theorem updSlot_comp (n : Nat) (f : Slot → Slot) (s : State) : (updSlot n f s).comp = s.comp := by simp only [updSlot]
@[simp] theorem updSlot_mon (n : Nat) (f : Slot → Slot) (s : State) : (updSlot n f s).mon = s.mon := by simp only [updSlot]
@[simp] theorem updSlot_gov (n : Nat) (f : Slot → Slot) (s : State) : (updSlot n f s).gov = s.gov := by simp only [updSlot]
@[simp] theorem updSlot_sync (n : Nat) (f : Slot → Slot) (s : State) : (updSlot n f s).sync = s.sync := by simp only [updSlot]
@[simp] theorem updSlot_flt (n : Nat) (f : Slot → Slot) (s : State) : (updSlot n f s).flt = s.flt := by simp only [updSlot]
@[simp] theorem updSlot_dim (n : Nat) (f : Slot → Slot) (s : State) : (updSlot n f s).dim = s.dim := by simp only [updSlot]
@[simp] theorem updSlot_rake (n : Nat) (f : Slot → Slot) (s : State) : (updSlot n f s).rake = s.rake := by simp only [updSlot]
@[simp] theorem updSlot_conv (n : Nat) (f : Slot → Slot) (s : State) : (updSlot n f s).conv = s.conv := by simp only [updSlot]
@[simp] theorem updSlot_link (n : Nat) (f : Slot → Slot) (s : State) : (updSlot n f s).link = s.link := by simp only [updSlot]
@[simp] theorem updSlot_can (n : Nat) (f : Slot → Slot) (s : State) : (updSlot n f s).can = s.can := by simp only [updSlot]
@[simp] theorem updSlot_gate (n : Nat) (f : Slot → Slot) (s : State) : (updSlot n f s).gate = s.gate := by simp only [updSlot]
@[simp] theorem updSlot_mp (n : Nat) (f : Slot → Slot) (s : State) : (updSlot n f s).mp = s.mp := by simp only [updSlot]
@[simp] theorem updSlot_dram (n : Nat) (f : Slot → Slot) (s : State) : (updSlot n f s).dram = s.dram := by simp only [updSlot]
@[simp] theorem updSlot_pwr (n : Nat) (f : Slot → Slot) (s : State) : (updSlot n f s).pwr = s.pwr := by simp only [updSlot]
@[simp] theorem updSlot_upd (n : Nat) (f : Slot → Slot) (s : State) : (updSlot n f s).upd = s.upd := by simp only [updSlot]
@[simp] theorem updSlot_flash (n : Nat) (f : Slot → Slot) (s : State) : (updSlot n f s).flash = s.flash := by simp only [updSlot]
@[simp] theorem updSlot_fuse (n : Nat) (f : Slot → Slot) (s : State) : (updSlot n f s).fuse = s.fuse := by simp only [updSlot]
@[simp] theorem updSlot_cvus (n : Nat) (f : Slot → Slot) (s : State) : (updSlot n f s).cvus = s.cvus := by simp only [updSlot]
@[simp] theorem updSlot_pending (n : Nat) (f : Slot → Slot) (s : State) : (updSlot n f s).pending = s.pending := by simp only [updSlot]

/-! ### mapSlots -/

@[simp] theorem mapSlots_mode (f : Slot → Slot) (s : State) : (mapSlots f s).mode = s.mode := by simp only [mapSlots]
@[simp] theorem mapSlots_time (f : Slot → Slot) (s : State) : (mapSlots f s).time = s.time := by simp only [mapSlots]
@[simp] theorem mapSlots_log (f : Slot → Slot) (s : State) : (mapSlots f s).log = s.log := by simp only [mapSlots]
@[simp] theorem mapSlots_cfg (f : Slot → Slot) (s : State) : (mapSlots f s).cfg = s.cfg := by simp only [mapSlots]
@[simp] theorem mapSlots_arr (f : Slot → Slot) (s : State) : (mapSlots f s).arr = s.arr := by simp only [mapSlots]
@[simp] theorem mapSlots_sched (f : Slot → Slot) (s : State) : (mapSlots f s).sched = s.sched := by simp only [mapSlots]
@[simp] theorem mapSlots_comp (f : Slot → Slot) (s : State) : (mapSlots f s).comp = s.comp := by simp only [mapSlots]
@[simp] theorem mapSlots_mon (f : Slot → Slot) (s : State) : (mapSlots f s).mon = s.mon := by simp only [mapSlots]
@[simp] theorem mapSlots_gov (f : Slot → Slot) (s : State) : (mapSlots f s).gov = s.gov := by simp only [mapSlots]
@[simp] theorem mapSlots_sync (f : Slot → Slot) (s : State) : (mapSlots f s).sync = s.sync := by simp only [mapSlots]
@[simp] theorem mapSlots_flt (f : Slot → Slot) (s : State) : (mapSlots f s).flt = s.flt := by simp only [mapSlots]
@[simp] theorem mapSlots_dim (f : Slot → Slot) (s : State) : (mapSlots f s).dim = s.dim := by simp only [mapSlots]
@[simp] theorem mapSlots_rake (f : Slot → Slot) (s : State) : (mapSlots f s).rake = s.rake := by simp only [mapSlots]
@[simp] theorem mapSlots_conv (f : Slot → Slot) (s : State) : (mapSlots f s).conv = s.conv := by simp only [mapSlots]
@[simp] theorem mapSlots_link (f : Slot → Slot) (s : State) : (mapSlots f s).link = s.link := by simp only [mapSlots]
@[simp] theorem mapSlots_can (f : Slot → Slot) (s : State) : (mapSlots f s).can = s.can := by simp only [mapSlots]
@[simp] theorem mapSlots_gate (f : Slot → Slot) (s : State) : (mapSlots f s).gate = s.gate := by simp only [mapSlots]
@[simp] theorem mapSlots_mp (f : Slot → Slot) (s : State) : (mapSlots f s).mp = s.mp := by simp only [mapSlots]
@[simp] theorem mapSlots_dram (f : Slot → Slot) (s : State) : (mapSlots f s).dram = s.dram := by simp only [mapSlots]
@[simp] theorem mapSlots_pwr (f : Slot → Slot) (s : State) : (mapSlots f s).pwr = s.pwr := by simp only [mapSlots]
@[simp] theorem mapSlots_upd (f : Slot → Slot) (s : State) : (mapSlots f s).upd = s.upd := by simp only [mapSlots]
@[simp] theorem mapSlots_flash (f : Slot → Slot) (s : State) : (mapSlots f s).flash = s.flash := by simp only [mapSlots]
@[simp] theorem mapSlots_fuse (f : Slot → Slot) (s : State) : (mapSlots f s).fuse = s.fuse := by simp only [mapSlots]
@[simp] theorem mapSlots_cvus (f : Slot → Slot) (s : State) : (mapSlots f s).cvus = s.cvus := by simp only [mapSlots]
@[simp] theorem mapSlots_pending (f : Slot → Slot) (s : State) : (mapSlots f s).pending = s.pending := by simp only [mapSlots]

/-! ### dropPending -/

@[simp] theorem dropPending_mode (session : Nat) (s : State) : (dropPending session s).mode = s.mode :=
    by unfold dropPending; (repeat' split) <;> simp
@[simp] theorem dropPending_time (session : Nat) (s : State) : (dropPending session s).time = s.time :=
    by unfold dropPending; (repeat' split) <;> simp
@[simp] theorem dropPending_log (session : Nat) (s : State) : (dropPending session s).log = s.log :=
    by unfold dropPending; (repeat' split) <;> simp
@[simp] theorem dropPending_cfg (session : Nat) (s : State) : (dropPending session s).cfg = s.cfg :=
    by unfold dropPending; (repeat' split) <;> simp
@[simp] theorem dropPending_arr (session : Nat) (s : State) : (dropPending session s).arr = s.arr :=
    by unfold dropPending; (repeat' split) <;> simp
@[simp] theorem dropPending_sched (session : Nat) (s : State) : (dropPending session s).sched = s.sched :=
    by unfold dropPending; (repeat' split) <;> simp
@[simp] theorem dropPending_comp (session : Nat) (s : State) : (dropPending session s).comp = s.comp :=
    by unfold dropPending; (repeat' split) <;> simp
@[simp] theorem dropPending_mon (session : Nat) (s : State) : (dropPending session s).mon = s.mon :=
    by unfold dropPending; (repeat' split) <;> simp
@[simp] theorem dropPending_gov (session : Nat) (s : State) : (dropPending session s).gov = s.gov :=
    by unfold dropPending; (repeat' split) <;> simp
@[simp] theorem dropPending_sync (session : Nat) (s : State) : (dropPending session s).sync = s.sync :=
    by unfold dropPending; (repeat' split) <;> simp
@[simp] theorem dropPending_flt (session : Nat) (s : State) : (dropPending session s).flt = s.flt :=
    by unfold dropPending; (repeat' split) <;> simp
@[simp] theorem dropPending_dim (session : Nat) (s : State) : (dropPending session s).dim = s.dim :=
    by unfold dropPending; (repeat' split) <;> simp
@[simp] theorem dropPending_rake (session : Nat) (s : State) : (dropPending session s).rake = s.rake :=
    by unfold dropPending; (repeat' split) <;> simp
@[simp] theorem dropPending_conv (session : Nat) (s : State) : (dropPending session s).conv = s.conv :=
    by unfold dropPending; (repeat' split) <;> simp
@[simp] theorem dropPending_link (session : Nat) (s : State) : (dropPending session s).link = s.link :=
    by unfold dropPending; (repeat' split) <;> simp
@[simp] theorem dropPending_can (session : Nat) (s : State) : (dropPending session s).can = s.can :=
    by unfold dropPending; (repeat' split) <;> simp
@[simp] theorem dropPending_gate (session : Nat) (s : State) : (dropPending session s).gate = s.gate :=
    by unfold dropPending; (repeat' split) <;> simp
@[simp] theorem dropPending_mp (session : Nat) (s : State) : (dropPending session s).mp = s.mp :=
    by unfold dropPending; (repeat' split) <;> simp
@[simp] theorem dropPending_dram (session : Nat) (s : State) : (dropPending session s).dram = s.dram :=
    by unfold dropPending; (repeat' split) <;> simp
@[simp] theorem dropPending_pwr (session : Nat) (s : State) : (dropPending session s).pwr = s.pwr :=
    by unfold dropPending; (repeat' split) <;> simp
@[simp] theorem dropPending_upd (session : Nat) (s : State) : (dropPending session s).upd = s.upd :=
    by unfold dropPending; (repeat' split) <;> simp
@[simp] theorem dropPending_flash (session : Nat) (s : State) : (dropPending session s).flash = s.flash :=
    by unfold dropPending; (repeat' split) <;> simp
@[simp] theorem dropPending_fuse (session : Nat) (s : State) : (dropPending session s).fuse = s.fuse :=
    by unfold dropPending; (repeat' split) <;> simp
@[simp] theorem dropPending_cvus (session : Nat) (s : State) : (dropPending session s).cvus = s.cvus :=
    by unfold dropPending; (repeat' split) <;> simp
@[simp] theorem dropPending_pending (session : Nat) (s : State) : (dropPending session s).pending = s.pending :=
    by unfold dropPending; (repeat' split) <;> simp

/-! ### dropLong -/

@[simp] theorem dropLong_mode (s : State) : (dropLong s).mode = s.mode := by simp only [dropLong]
@[simp] theorem dropLong_time (s : State) : (dropLong s).time = s.time := by simp only [dropLong]
@[simp] theorem dropLong_log (s : State) : (dropLong s).log = s.log := by simp only [dropLong]
@[simp] theorem dropLong_cfg (s : State) : (dropLong s).cfg = s.cfg := by simp only [dropLong]
@[simp] theorem dropLong_arr (s : State) : (dropLong s).arr = s.arr := by simp only [dropLong]
@[simp] theorem dropLong_sched (s : State) : (dropLong s).sched = s.sched := by simp only [dropLong]
@[simp] theorem dropLong_comp (s : State) : (dropLong s).comp = s.comp := by simp only [dropLong]
@[simp] theorem dropLong_mon (s : State) : (dropLong s).mon = s.mon := by simp only [dropLong]
@[simp] theorem dropLong_gov (s : State) : (dropLong s).gov = s.gov := by simp only [dropLong]
@[simp] theorem dropLong_drw (s : State) : (dropLong s).drw = s.drw := by simp only [dropLong]
@[simp] theorem dropLong_sync (s : State) : (dropLong s).sync = s.sync := by simp only [dropLong]
@[simp] theorem dropLong_flt (s : State) : (dropLong s).flt = s.flt := by simp only [dropLong]
@[simp] theorem dropLong_dim (s : State) : (dropLong s).dim = s.dim := by simp only [dropLong]
@[simp] theorem dropLong_rake (s : State) : (dropLong s).rake = s.rake := by simp only [dropLong]
@[simp] theorem dropLong_conv (s : State) : (dropLong s).conv = s.conv := by simp only [dropLong]
@[simp] theorem dropLong_link (s : State) : (dropLong s).link = s.link := by simp only [dropLong]
@[simp] theorem dropLong_can (s : State) : (dropLong s).can = s.can := by simp only [dropLong]
@[simp] theorem dropLong_gate (s : State) : (dropLong s).gate = s.gate := by simp only [dropLong]
@[simp] theorem dropLong_dram (s : State) : (dropLong s).dram = s.dram := by simp only [dropLong]
@[simp] theorem dropLong_pwr (s : State) : (dropLong s).pwr = s.pwr := by simp only [dropLong]
@[simp] theorem dropLong_upd (s : State) : (dropLong s).upd = s.upd := by simp only [dropLong]
@[simp] theorem dropLong_fuse (s : State) : (dropLong s).fuse = s.fuse := by simp only [dropLong]
@[simp] theorem dropLong_cvus (s : State) : (dropLong s).cvus = s.cvus := by simp only [dropLong]
@[simp] theorem dropLong_pending (s : State) : (dropLong s).pending = s.pending := by simp only [dropLong]

/-! ### endLong -/

@[simp] theorem endLong_mode (opcode status : Nat) (s : State) : (endLong opcode status s).mode = s.mode :=
    by unfold endLong; (repeat' split) <;> simp
@[simp] theorem endLong_time (opcode status : Nat) (s : State) : (endLong opcode status s).time = s.time :=
    by unfold endLong; (repeat' split) <;> simp
@[simp] theorem endLong_cfg (opcode status : Nat) (s : State) : (endLong opcode status s).cfg = s.cfg :=
    by unfold endLong; (repeat' split) <;> simp
@[simp] theorem endLong_arr (opcode status : Nat) (s : State) : (endLong opcode status s).arr = s.arr :=
    by unfold endLong; (repeat' split) <;> simp
@[simp] theorem endLong_sched (opcode status : Nat) (s : State) : (endLong opcode status s).sched = s.sched :=
    by unfold endLong; (repeat' split) <;> simp
@[simp] theorem endLong_comp (opcode status : Nat) (s : State) : (endLong opcode status s).comp = s.comp :=
    by unfold endLong; (repeat' split) <;> simp
@[simp] theorem endLong_mon (opcode status : Nat) (s : State) : (endLong opcode status s).mon = s.mon :=
    by unfold endLong; (repeat' split) <;> simp
@[simp] theorem endLong_gov (opcode status : Nat) (s : State) : (endLong opcode status s).gov = s.gov :=
    by unfold endLong; (repeat' split) <;> simp
@[simp] theorem endLong_drw (opcode status : Nat) (s : State) : (endLong opcode status s).drw = s.drw :=
    by unfold endLong; (repeat' split) <;> simp
@[simp] theorem endLong_sync (opcode status : Nat) (s : State) : (endLong opcode status s).sync = s.sync :=
    by unfold endLong; (repeat' split) <;> simp
@[simp] theorem endLong_flt (opcode status : Nat) (s : State) : (endLong opcode status s).flt = s.flt :=
    by unfold endLong; (repeat' split) <;> simp
@[simp] theorem endLong_dim (opcode status : Nat) (s : State) : (endLong opcode status s).dim = s.dim :=
    by unfold endLong; (repeat' split) <;> simp
@[simp] theorem endLong_rake (opcode status : Nat) (s : State) : (endLong opcode status s).rake = s.rake :=
    by unfold endLong; (repeat' split) <;> simp
@[simp] theorem endLong_conv (opcode status : Nat) (s : State) : (endLong opcode status s).conv = s.conv :=
    by unfold endLong; (repeat' split) <;> simp
@[simp] theorem endLong_link (opcode status : Nat) (s : State) : (endLong opcode status s).link = s.link :=
    by unfold endLong; (repeat' split) <;> simp
@[simp] theorem endLong_can (opcode status : Nat) (s : State) : (endLong opcode status s).can = s.can :=
    by unfold endLong; (repeat' split) <;> simp
@[simp] theorem endLong_gate (opcode status : Nat) (s : State) : (endLong opcode status s).gate = s.gate :=
    by unfold endLong; (repeat' split) <;> simp
@[simp] theorem endLong_dram (opcode status : Nat) (s : State) : (endLong opcode status s).dram = s.dram :=
    by unfold endLong; (repeat' split) <;> simp
@[simp] theorem endLong_pwr (opcode status : Nat) (s : State) : (endLong opcode status s).pwr = s.pwr :=
    by unfold endLong; (repeat' split) <;> simp
@[simp] theorem endLong_upd (opcode status : Nat) (s : State) : (endLong opcode status s).upd = s.upd :=
    by unfold endLong; (repeat' split) <;> simp
@[simp] theorem endLong_flash (opcode status : Nat) (s : State) : (endLong opcode status s).flash = s.flash :=
    by unfold endLong; (repeat' split) <;> simp
@[simp] theorem endLong_fuse (opcode status : Nat) (s : State) : (endLong opcode status s).fuse = s.fuse :=
    by unfold endLong; (repeat' split) <;> simp
@[simp] theorem endLong_cvus (opcode status : Nat) (s : State) : (endLong opcode status s).cvus = s.cvus :=
    by unfold endLong; (repeat' split) <;> simp
@[simp] theorem endLong_pending (opcode status : Nat) (s : State) : (endLong opcode status s).pending = s.pending :=
    by unfold endLong; (repeat' split) <;> simp

/-! ### updSession -/

@[simp] theorem updSession_mode (id : Nat) (f : Session → Session) (s : State) : (updSession id f s).mode = s.mode :=
    by simp only [updSession]
@[simp] theorem updSession_time (id : Nat) (f : Session → Session) (s : State) : (updSession id f s).time = s.time :=
    by simp only [updSession]
@[simp] theorem updSession_log (id : Nat) (f : Session → Session) (s : State) : (updSession id f s).log = s.log := by simp only [updSession]
@[simp] theorem updSession_cfg (id : Nat) (f : Session → Session) (s : State) : (updSession id f s).cfg = s.cfg := by simp only [updSession]
@[simp] theorem updSession_arr (id : Nat) (f : Session → Session) (s : State) : (updSession id f s).arr = s.arr := by simp only [updSession]
@[simp] theorem updSession_sched (id : Nat) (f : Session → Session) (s : State) : (updSession id f s).sched = s.sched :=
    by simp only [updSession]
@[simp] theorem updSession_comp (id : Nat) (f : Session → Session) (s : State) : (updSession id f s).comp = s.comp :=
    by simp only [updSession]
@[simp] theorem updSession_mon (id : Nat) (f : Session → Session) (s : State) : (updSession id f s).mon = s.mon := by simp only [updSession]
@[simp] theorem updSession_gov (id : Nat) (f : Session → Session) (s : State) : (updSession id f s).gov = s.gov := by simp only [updSession]
@[simp] theorem updSession_drw (id : Nat) (f : Session → Session) (s : State) : (updSession id f s).drw = s.drw := by simp only [updSession]
@[simp] theorem updSession_sync (id : Nat) (f : Session → Session) (s : State) : (updSession id f s).sync = s.sync :=
    by simp only [updSession]
@[simp] theorem updSession_flt (id : Nat) (f : Session → Session) (s : State) : (updSession id f s).flt = s.flt := by simp only [updSession]
@[simp] theorem updSession_dim (id : Nat) (f : Session → Session) (s : State) : (updSession id f s).dim = s.dim := by simp only [updSession]
@[simp] theorem updSession_rake (id : Nat) (f : Session → Session) (s : State) : (updSession id f s).rake = s.rake :=
    by simp only [updSession]
@[simp] theorem updSession_conv (id : Nat) (f : Session → Session) (s : State) : (updSession id f s).conv = s.conv :=
    by simp only [updSession]
@[simp] theorem updSession_link (id : Nat) (f : Session → Session) (s : State) : (updSession id f s).link = s.link :=
    by simp only [updSession]
@[simp] theorem updSession_can (id : Nat) (f : Session → Session) (s : State) : (updSession id f s).can = s.can := by simp only [updSession]
@[simp] theorem updSession_mp (id : Nat) (f : Session → Session) (s : State) : (updSession id f s).mp = s.mp := by simp only [updSession]
@[simp] theorem updSession_dram (id : Nat) (f : Session → Session) (s : State) : (updSession id f s).dram = s.dram :=
    by simp only [updSession]
@[simp] theorem updSession_pwr (id : Nat) (f : Session → Session) (s : State) : (updSession id f s).pwr = s.pwr := by simp only [updSession]
@[simp] theorem updSession_upd (id : Nat) (f : Session → Session) (s : State) : (updSession id f s).upd = s.upd := by simp only [updSession]
@[simp] theorem updSession_flash (id : Nat) (f : Session → Session) (s : State) : (updSession id f s).flash = s.flash :=
    by simp only [updSession]
@[simp] theorem updSession_fuse (id : Nat) (f : Session → Session) (s : State) : (updSession id f s).fuse = s.fuse :=
    by simp only [updSession]
@[simp] theorem updSession_cvus (id : Nat) (f : Session → Session) (s : State) : (updSession id f s).cvus = s.cvus :=
    by simp only [updSession]
@[simp] theorem updSession_pending (id : Nat) (f : Session → Session) (s : State) : (updSession id f s).pending = s.pending :=
    by simp only [updSession]

/-! ### pushReply -/

@[simp] theorem pushReply_mode (bytes : List Byte) (r : Reply) (s : State) : (pushReply bytes r s).mode = s.mode :=
    by unfold pushReply transmit; dsimp only; (repeat' split) <;> rfl
@[simp] theorem pushReply_time (bytes : List Byte) (r : Reply) (s : State) : (pushReply bytes r s).time = s.time :=
    by unfold pushReply transmit; dsimp only; (repeat' split) <;> rfl
@[simp] theorem pushReply_log (bytes : List Byte) (r : Reply) (s : State) : (pushReply bytes r s).log = s.log :=
    by unfold pushReply transmit; dsimp only; (repeat' split) <;> rfl
@[simp] theorem pushReply_cfg (bytes : List Byte) (r : Reply) (s : State) : (pushReply bytes r s).cfg = s.cfg :=
    by unfold pushReply transmit; dsimp only; (repeat' split) <;> rfl
@[simp] theorem pushReply_arr (bytes : List Byte) (r : Reply) (s : State) : (pushReply bytes r s).arr = s.arr :=
    by unfold pushReply transmit; dsimp only; (repeat' split) <;> rfl
@[simp] theorem pushReply_sched (bytes : List Byte) (r : Reply) (s : State) : (pushReply bytes r s).sched = s.sched :=
    by unfold pushReply transmit; dsimp only; (repeat' split) <;> rfl
@[simp] theorem pushReply_comp (bytes : List Byte) (r : Reply) (s : State) : (pushReply bytes r s).comp = s.comp :=
    by unfold pushReply transmit; dsimp only; (repeat' split) <;> rfl
@[simp] theorem pushReply_mon (bytes : List Byte) (r : Reply) (s : State) : (pushReply bytes r s).mon = s.mon :=
    by unfold pushReply transmit; dsimp only; (repeat' split) <;> rfl
@[simp] theorem pushReply_gov (bytes : List Byte) (r : Reply) (s : State) : (pushReply bytes r s).gov = s.gov :=
    by unfold pushReply transmit; dsimp only; (repeat' split) <;> rfl
@[simp] theorem pushReply_drw (bytes : List Byte) (r : Reply) (s : State) : (pushReply bytes r s).drw = s.drw :=
    by unfold pushReply transmit; dsimp only; (repeat' split) <;> rfl
@[simp] theorem pushReply_sync (bytes : List Byte) (r : Reply) (s : State) : (pushReply bytes r s).sync = s.sync :=
    by unfold pushReply transmit; dsimp only; (repeat' split) <;> rfl
@[simp] theorem pushReply_flt (bytes : List Byte) (r : Reply) (s : State) : (pushReply bytes r s).flt = s.flt :=
    by unfold pushReply transmit; dsimp only; (repeat' split) <;> rfl
@[simp] theorem pushReply_dim (bytes : List Byte) (r : Reply) (s : State) : (pushReply bytes r s).dim = s.dim :=
    by unfold pushReply transmit; dsimp only; (repeat' split) <;> rfl
@[simp] theorem pushReply_rake (bytes : List Byte) (r : Reply) (s : State) : (pushReply bytes r s).rake = s.rake :=
    by unfold pushReply transmit; dsimp only; (repeat' split) <;> rfl
@[simp] theorem pushReply_conv (bytes : List Byte) (r : Reply) (s : State) : (pushReply bytes r s).conv = s.conv :=
    by unfold pushReply transmit; dsimp only; (repeat' split) <;> rfl
@[simp] theorem pushReply_mp (bytes : List Byte) (r : Reply) (s : State) : (pushReply bytes r s).mp = s.mp :=
    by unfold pushReply transmit; dsimp only; (repeat' split) <;> rfl
@[simp] theorem pushReply_dram (bytes : List Byte) (r : Reply) (s : State) : (pushReply bytes r s).dram = s.dram :=
    by unfold pushReply transmit; dsimp only; (repeat' split) <;> rfl
@[simp] theorem pushReply_pwr (bytes : List Byte) (r : Reply) (s : State) : (pushReply bytes r s).pwr = s.pwr :=
    by unfold pushReply transmit; dsimp only; (repeat' split) <;> rfl
@[simp] theorem pushReply_upd (bytes : List Byte) (r : Reply) (s : State) : (pushReply bytes r s).upd = s.upd :=
    by unfold pushReply transmit; dsimp only; (repeat' split) <;> rfl
@[simp] theorem pushReply_flash (bytes : List Byte) (r : Reply) (s : State) : (pushReply bytes r s).flash = s.flash :=
    by unfold pushReply transmit; dsimp only; (repeat' split) <;> rfl
@[simp] theorem pushReply_fuse (bytes : List Byte) (r : Reply) (s : State) : (pushReply bytes r s).fuse = s.fuse :=
    by unfold pushReply transmit; dsimp only; (repeat' split) <;> rfl
@[simp] theorem pushReply_cvus (bytes : List Byte) (r : Reply) (s : State) : (pushReply bytes r s).cvus = s.cvus :=
    by unfold pushReply transmit; dsimp only; (repeat' split) <;> rfl
@[simp] theorem pushReply_pending (bytes : List Byte) (r : Reply) (s : State) : (pushReply bytes r s).pending = s.pending :=
    by unfold pushReply transmit; dsimp only; (repeat' split) <;> rfl

/-! ### loseSession -/

@[simp] theorem loseSession_mode (id : Nat) (s : State) : (loseSession id s).mode = s.mode :=
    by unfold loseSession; (repeat' split) <;> simp
@[simp] theorem loseSession_time (id : Nat) (s : State) : (loseSession id s).time = s.time :=
    by unfold loseSession; (repeat' split) <;> simp
@[simp] theorem loseSession_log (id : Nat) (s : State) : (loseSession id s).log = s.log := by unfold loseSession; (repeat' split) <;> simp
@[simp] theorem loseSession_cfg (id : Nat) (s : State) : (loseSession id s).cfg = s.cfg := by unfold loseSession; (repeat' split) <;> simp
@[simp] theorem loseSession_arr (id : Nat) (s : State) : (loseSession id s).arr = s.arr := by unfold loseSession; (repeat' split) <;> simp
@[simp] theorem loseSession_sched (id : Nat) (s : State) : (loseSession id s).sched = s.sched :=
    by unfold loseSession; (repeat' split) <;> simp
@[simp] theorem loseSession_comp (id : Nat) (s : State) : (loseSession id s).comp = s.comp :=
    by unfold loseSession; (repeat' split) <;> simp
@[simp] theorem loseSession_mon (id : Nat) (s : State) : (loseSession id s).mon = s.mon := by unfold loseSession; (repeat' split) <;> simp
@[simp] theorem loseSession_gov (id : Nat) (s : State) : (loseSession id s).gov = s.gov := by unfold loseSession; (repeat' split) <;> simp
@[simp] theorem loseSession_sync (id : Nat) (s : State) : (loseSession id s).sync = s.sync :=
    by unfold loseSession; (repeat' split) <;> simp
@[simp] theorem loseSession_flt (id : Nat) (s : State) : (loseSession id s).flt = s.flt := by unfold loseSession; (repeat' split) <;> simp
@[simp] theorem loseSession_dim (id : Nat) (s : State) : (loseSession id s).dim = s.dim := by unfold loseSession; (repeat' split) <;> simp
@[simp] theorem loseSession_rake (id : Nat) (s : State) : (loseSession id s).rake = s.rake :=
    by unfold loseSession; (repeat' split) <;> simp
@[simp] theorem loseSession_conv (id : Nat) (s : State) : (loseSession id s).conv = s.conv :=
    by unfold loseSession; (repeat' split) <;> simp
@[simp] theorem loseSession_link (id : Nat) (s : State) : (loseSession id s).link = s.link :=
    by unfold loseSession; (repeat' split) <;> simp
@[simp] theorem loseSession_can (id : Nat) (s : State) : (loseSession id s).can = s.can := by unfold loseSession; (repeat' split) <;> simp
@[simp] theorem loseSession_mp (id : Nat) (s : State) : (loseSession id s).mp = s.mp := by unfold loseSession; (repeat' split) <;> simp
@[simp] theorem loseSession_dram (id : Nat) (s : State) : (loseSession id s).dram = s.dram :=
    by unfold loseSession; (repeat' split) <;> simp
@[simp] theorem loseSession_pwr (id : Nat) (s : State) : (loseSession id s).pwr = s.pwr := by unfold loseSession; (repeat' split) <;> simp
@[simp] theorem loseSession_upd (id : Nat) (s : State) : (loseSession id s).upd = s.upd := by unfold loseSession; (repeat' split) <;> simp
@[simp] theorem loseSession_flash (id : Nat) (s : State) : (loseSession id s).flash = s.flash :=
    by unfold loseSession; (repeat' split) <;> simp
@[simp] theorem loseSession_fuse (id : Nat) (s : State) : (loseSession id s).fuse = s.fuse :=
    by unfold loseSession; (repeat' split) <;> simp
@[simp] theorem loseSession_cvus (id : Nat) (s : State) : (loseSession id s).cvus = s.cvus :=
    by unfold loseSession; (repeat' split) <;> simp
@[simp] theorem loseSession_pending (id : Nat) (s : State) : (loseSession id s).pending = s.pending :=
    by unfold loseSession; (repeat' split) <;> simp

/-! ### countLost -/

@[simp] theorem countLost_mode (s : State) : (countLost s).mode = s.mode := by simp only [countLost]
@[simp] theorem countLost_time (s : State) : (countLost s).time = s.time := by simp only [countLost]
@[simp] theorem countLost_log (s : State) : (countLost s).log = s.log := by simp only [countLost]
@[simp] theorem countLost_cfg (s : State) : (countLost s).cfg = s.cfg := by simp only [countLost]
@[simp] theorem countLost_arr (s : State) : (countLost s).arr = s.arr := by simp only [countLost]
@[simp] theorem countLost_sched (s : State) : (countLost s).sched = s.sched := by simp only [countLost]
@[simp] theorem countLost_comp (s : State) : (countLost s).comp = s.comp := by simp only [countLost]
@[simp] theorem countLost_mon (s : State) : (countLost s).mon = s.mon := by simp only [countLost]
@[simp] theorem countLost_gov (s : State) : (countLost s).gov = s.gov := by simp only [countLost]
@[simp] theorem countLost_drw (s : State) : (countLost s).drw = s.drw := by simp only [countLost]
@[simp] theorem countLost_sync (s : State) : (countLost s).sync = s.sync := by simp only [countLost]
@[simp] theorem countLost_flt (s : State) : (countLost s).flt = s.flt := by simp only [countLost]
@[simp] theorem countLost_dim (s : State) : (countLost s).dim = s.dim := by simp only [countLost]
@[simp] theorem countLost_rake (s : State) : (countLost s).rake = s.rake := by simp only [countLost]
@[simp] theorem countLost_conv (s : State) : (countLost s).conv = s.conv := by simp only [countLost]
@[simp] theorem countLost_link (s : State) : (countLost s).link = s.link := by simp only [countLost]
@[simp] theorem countLost_can (s : State) : (countLost s).can = s.can := by simp only [countLost]
@[simp] theorem countLost_mp (s : State) : (countLost s).mp = s.mp := by simp only [countLost]
@[simp] theorem countLost_dram (s : State) : (countLost s).dram = s.dram := by simp only [countLost]
@[simp] theorem countLost_pwr (s : State) : (countLost s).pwr = s.pwr := by simp only [countLost]
@[simp] theorem countLost_upd (s : State) : (countLost s).upd = s.upd := by simp only [countLost]
@[simp] theorem countLost_flash (s : State) : (countLost s).flash = s.flash := by simp only [countLost]
@[simp] theorem countLost_fuse (s : State) : (countLost s).fuse = s.fuse := by simp only [countLost]
@[simp] theorem countLost_cvus (s : State) : (countLost s).cvus = s.cvus := by simp only [countLost]
@[simp] theorem countLost_pending (s : State) : (countLost s).pending = s.pending := by simp only [countLost]

/-! ### freshEnd -/

@[simp] theorem freshEnd_mode (last : Bool) (id : Nat) (s : State) : (freshEnd last id s).mode = s.mode :=
    by unfold freshEnd; (repeat' split) <;> simp
@[simp] theorem freshEnd_time (last : Bool) (id : Nat) (s : State) : (freshEnd last id s).time = s.time :=
    by unfold freshEnd; (repeat' split) <;> simp
@[simp] theorem freshEnd_cfg (last : Bool) (id : Nat) (s : State) : (freshEnd last id s).cfg = s.cfg :=
    by unfold freshEnd; (repeat' split) <;> simp
@[simp] theorem freshEnd_arr (last : Bool) (id : Nat) (s : State) : (freshEnd last id s).arr = s.arr :=
    by unfold freshEnd; (repeat' split) <;> simp
@[simp] theorem freshEnd_sched (last : Bool) (id : Nat) (s : State) : (freshEnd last id s).sched = s.sched :=
    by unfold freshEnd; (repeat' split) <;> simp
@[simp] theorem freshEnd_comp (last : Bool) (id : Nat) (s : State) : (freshEnd last id s).comp = s.comp :=
    by unfold freshEnd; (repeat' split) <;> simp
@[simp] theorem freshEnd_mon (last : Bool) (id : Nat) (s : State) : (freshEnd last id s).mon = s.mon :=
    by unfold freshEnd; (repeat' split) <;> simp
@[simp] theorem freshEnd_gov (last : Bool) (id : Nat) (s : State) : (freshEnd last id s).gov = s.gov :=
    by unfold freshEnd; (repeat' split) <;> simp
@[simp] theorem freshEnd_sync (last : Bool) (id : Nat) (s : State) : (freshEnd last id s).sync = s.sync :=
    by unfold freshEnd; (repeat' split) <;> simp
@[simp] theorem freshEnd_flt (last : Bool) (id : Nat) (s : State) : (freshEnd last id s).flt = s.flt :=
    by unfold freshEnd; (repeat' split) <;> simp
@[simp] theorem freshEnd_dim (last : Bool) (id : Nat) (s : State) : (freshEnd last id s).dim = s.dim :=
    by unfold freshEnd; (repeat' split) <;> simp
@[simp] theorem freshEnd_rake (last : Bool) (id : Nat) (s : State) : (freshEnd last id s).rake = s.rake :=
    by unfold freshEnd; (repeat' split) <;> simp
@[simp] theorem freshEnd_conv (last : Bool) (id : Nat) (s : State) : (freshEnd last id s).conv = s.conv :=
    by unfold freshEnd; (repeat' split) <;> simp
@[simp] theorem freshEnd_link (last : Bool) (id : Nat) (s : State) : (freshEnd last id s).link = s.link :=
    by unfold freshEnd; (repeat' split) <;> simp
@[simp] theorem freshEnd_can (last : Bool) (id : Nat) (s : State) : (freshEnd last id s).can = s.can :=
    by unfold freshEnd; (repeat' split) <;> simp
@[simp] theorem freshEnd_mp (last : Bool) (id : Nat) (s : State) : (freshEnd last id s).mp = s.mp :=
    by unfold freshEnd; (repeat' split) <;> simp
@[simp] theorem freshEnd_dram (last : Bool) (id : Nat) (s : State) : (freshEnd last id s).dram = s.dram :=
    by unfold freshEnd; (repeat' split) <;> simp
@[simp] theorem freshEnd_pwr (last : Bool) (id : Nat) (s : State) : (freshEnd last id s).pwr = s.pwr :=
    by unfold freshEnd; (repeat' split) <;> simp
@[simp] theorem freshEnd_upd (last : Bool) (id : Nat) (s : State) : (freshEnd last id s).upd = s.upd :=
    by unfold freshEnd; (repeat' split) <;> simp
@[simp] theorem freshEnd_flash (last : Bool) (id : Nat) (s : State) : (freshEnd last id s).flash = s.flash :=
    by unfold freshEnd; (repeat' split) <;> simp
@[simp] theorem freshEnd_fuse (last : Bool) (id : Nat) (s : State) : (freshEnd last id s).fuse = s.fuse :=
    by unfold freshEnd; (repeat' split) <;> simp
@[simp] theorem freshEnd_cvus (last : Bool) (id : Nat) (s : State) : (freshEnd last id s).cvus = s.cvus :=
    by unfold freshEnd; (repeat' split) <;> simp
@[simp] theorem freshEnd_pending (last : Bool) (id : Nat) (s : State) : (freshEnd last id s).pending = s.pending :=
    by unfold freshEnd; (repeat' split) <;> simp

/-! ### replyTagged -/

@[simp] theorem replyTagged_mode (m : Msg) (status detail : Nat) (data : List Byte) (s : State) : (replyTagged m status detail data s).mode = s.mode :=
    by unfold replyTagged; split <;> simp
@[simp] theorem replyTagged_time (m : Msg) (status detail : Nat) (data : List Byte) (s : State) : (replyTagged m status detail data s).time = s.time :=
    by unfold replyTagged; split <;> simp
@[simp] theorem replyTagged_log (m : Msg) (status detail : Nat) (data : List Byte) (s : State) : (replyTagged m status detail data s).log = s.log :=
    by unfold replyTagged; split <;> simp
@[simp] theorem replyTagged_cfg (m : Msg) (status detail : Nat) (data : List Byte) (s : State) : (replyTagged m status detail data s).cfg = s.cfg :=
    by unfold replyTagged; split <;> simp
@[simp] theorem replyTagged_arr (m : Msg) (status detail : Nat) (data : List Byte) (s : State) : (replyTagged m status detail data s).arr = s.arr :=
    by unfold replyTagged; split <;> simp
@[simp] theorem replyTagged_sched (m : Msg) (status detail : Nat) (data : List Byte) (s : State) : (replyTagged m status detail data s).sched = s.sched :=
    by unfold replyTagged; split <;> simp
@[simp] theorem replyTagged_comp (m : Msg) (status detail : Nat) (data : List Byte) (s : State) : (replyTagged m status detail data s).comp = s.comp :=
    by unfold replyTagged; split <;> simp
@[simp] theorem replyTagged_mon (m : Msg) (status detail : Nat) (data : List Byte) (s : State) : (replyTagged m status detail data s).mon = s.mon :=
    by unfold replyTagged; split <;> simp
@[simp] theorem replyTagged_gov (m : Msg) (status detail : Nat) (data : List Byte) (s : State) : (replyTagged m status detail data s).gov = s.gov :=
    by unfold replyTagged; split <;> simp
@[simp] theorem replyTagged_drw (m : Msg) (status detail : Nat) (data : List Byte) (s : State) : (replyTagged m status detail data s).drw = s.drw :=
    by unfold replyTagged; split <;> simp
@[simp] theorem replyTagged_sync (m : Msg) (status detail : Nat) (data : List Byte) (s : State) : (replyTagged m status detail data s).sync = s.sync :=
    by unfold replyTagged; split <;> simp
@[simp] theorem replyTagged_flt (m : Msg) (status detail : Nat) (data : List Byte) (s : State) : (replyTagged m status detail data s).flt = s.flt :=
    by unfold replyTagged; split <;> simp
@[simp] theorem replyTagged_dim (m : Msg) (status detail : Nat) (data : List Byte) (s : State) : (replyTagged m status detail data s).dim = s.dim :=
    by unfold replyTagged; split <;> simp
@[simp] theorem replyTagged_rake (m : Msg) (status detail : Nat) (data : List Byte) (s : State) : (replyTagged m status detail data s).rake = s.rake :=
    by unfold replyTagged; split <;> simp
@[simp] theorem replyTagged_conv (m : Msg) (status detail : Nat) (data : List Byte) (s : State) : (replyTagged m status detail data s).conv = s.conv :=
    by unfold replyTagged; split <;> simp
@[simp] theorem replyTagged_mp (m : Msg) (status detail : Nat) (data : List Byte) (s : State) : (replyTagged m status detail data s).mp = s.mp :=
    by unfold replyTagged; split <;> simp
@[simp] theorem replyTagged_dram (m : Msg) (status detail : Nat) (data : List Byte) (s : State) : (replyTagged m status detail data s).dram = s.dram :=
    by unfold replyTagged; split <;> simp
@[simp] theorem replyTagged_pwr (m : Msg) (status detail : Nat) (data : List Byte) (s : State) : (replyTagged m status detail data s).pwr = s.pwr :=
    by unfold replyTagged; split <;> simp
@[simp] theorem replyTagged_upd (m : Msg) (status detail : Nat) (data : List Byte) (s : State) : (replyTagged m status detail data s).upd = s.upd :=
    by unfold replyTagged; split <;> simp
@[simp] theorem replyTagged_flash (m : Msg) (status detail : Nat) (data : List Byte) (s : State) : (replyTagged m status detail data s).flash = s.flash :=
    by unfold replyTagged; split <;> simp
@[simp] theorem replyTagged_fuse (m : Msg) (status detail : Nat) (data : List Byte) (s : State) : (replyTagged m status detail data s).fuse = s.fuse :=
    by unfold replyTagged; split <;> simp
@[simp] theorem replyTagged_cvus (m : Msg) (status detail : Nat) (data : List Byte) (s : State) : (replyTagged m status detail data s).cvus = s.cvus :=
    by unfold replyTagged; split <;> simp
@[simp] theorem replyTagged_pending (m : Msg) (status detail : Nat) (data : List Byte) (s : State) : (replyTagged m status detail data s).pending = s.pending :=
    by unfold replyTagged; split <;> simp

/-! ### replyUntagged -/

@[simp] theorem replyUntagged_mode (m : Msg) (status detail : Nat) (s : State) : (replyUntagged m status detail s).mode = s.mode :=
    by unfold replyUntagged; (repeat' split) <;> simp
@[simp] theorem replyUntagged_time (m : Msg) (status detail : Nat) (s : State) : (replyUntagged m status detail s).time = s.time :=
    by unfold replyUntagged; (repeat' split) <;> simp
@[simp] theorem replyUntagged_log (m : Msg) (status detail : Nat) (s : State) : (replyUntagged m status detail s).log = s.log :=
    by unfold replyUntagged; (repeat' split) <;> simp
@[simp] theorem replyUntagged_cfg (m : Msg) (status detail : Nat) (s : State) : (replyUntagged m status detail s).cfg = s.cfg :=
    by unfold replyUntagged; (repeat' split) <;> simp
@[simp] theorem replyUntagged_arr (m : Msg) (status detail : Nat) (s : State) : (replyUntagged m status detail s).arr = s.arr :=
    by unfold replyUntagged; (repeat' split) <;> simp
@[simp] theorem replyUntagged_sched (m : Msg) (status detail : Nat) (s : State) : (replyUntagged m status detail s).sched = s.sched :=
    by unfold replyUntagged; (repeat' split) <;> simp
@[simp] theorem replyUntagged_comp (m : Msg) (status detail : Nat) (s : State) : (replyUntagged m status detail s).comp = s.comp :=
    by unfold replyUntagged; (repeat' split) <;> simp
@[simp] theorem replyUntagged_mon (m : Msg) (status detail : Nat) (s : State) : (replyUntagged m status detail s).mon = s.mon :=
    by unfold replyUntagged; (repeat' split) <;> simp
@[simp] theorem replyUntagged_gov (m : Msg) (status detail : Nat) (s : State) : (replyUntagged m status detail s).gov = s.gov :=
    by unfold replyUntagged; (repeat' split) <;> simp
@[simp] theorem replyUntagged_drw (m : Msg) (status detail : Nat) (s : State) : (replyUntagged m status detail s).drw = s.drw :=
    by unfold replyUntagged; (repeat' split) <;> simp
@[simp] theorem replyUntagged_sync (m : Msg) (status detail : Nat) (s : State) : (replyUntagged m status detail s).sync = s.sync :=
    by unfold replyUntagged; (repeat' split) <;> simp
@[simp] theorem replyUntagged_flt (m : Msg) (status detail : Nat) (s : State) : (replyUntagged m status detail s).flt = s.flt :=
    by unfold replyUntagged; (repeat' split) <;> simp
@[simp] theorem replyUntagged_dim (m : Msg) (status detail : Nat) (s : State) : (replyUntagged m status detail s).dim = s.dim :=
    by unfold replyUntagged; (repeat' split) <;> simp
@[simp] theorem replyUntagged_rake (m : Msg) (status detail : Nat) (s : State) : (replyUntagged m status detail s).rake = s.rake :=
    by unfold replyUntagged; (repeat' split) <;> simp
@[simp] theorem replyUntagged_conv (m : Msg) (status detail : Nat) (s : State) : (replyUntagged m status detail s).conv = s.conv :=
    by unfold replyUntagged; (repeat' split) <;> simp
@[simp] theorem replyUntagged_mp (m : Msg) (status detail : Nat) (s : State) : (replyUntagged m status detail s).mp = s.mp :=
    by unfold replyUntagged; (repeat' split) <;> simp
@[simp] theorem replyUntagged_dram (m : Msg) (status detail : Nat) (s : State) : (replyUntagged m status detail s).dram = s.dram :=
    by unfold replyUntagged; (repeat' split) <;> simp
@[simp] theorem replyUntagged_pwr (m : Msg) (status detail : Nat) (s : State) : (replyUntagged m status detail s).pwr = s.pwr :=
    by unfold replyUntagged; (repeat' split) <;> simp
@[simp] theorem replyUntagged_upd (m : Msg) (status detail : Nat) (s : State) : (replyUntagged m status detail s).upd = s.upd :=
    by unfold replyUntagged; (repeat' split) <;> simp
@[simp] theorem replyUntagged_flash (m : Msg) (status detail : Nat) (s : State) : (replyUntagged m status detail s).flash = s.flash :=
    by unfold replyUntagged; (repeat' split) <;> simp
@[simp] theorem replyUntagged_fuse (m : Msg) (status detail : Nat) (s : State) : (replyUntagged m status detail s).fuse = s.fuse :=
    by unfold replyUntagged; (repeat' split) <;> simp
@[simp] theorem replyUntagged_cvus (m : Msg) (status detail : Nat) (s : State) : (replyUntagged m status detail s).cvus = s.cvus :=
    by unfold replyUntagged; (repeat' split) <;> simp
@[simp] theorem replyUntagged_pending (m : Msg) (status detail : Nat) (s : State) : (replyUntagged m status detail s).pending = s.pending :=
    by unfold replyUntagged; (repeat' split) <;> simp

/-! ### replyTo -/

@[simp] theorem replyTo_mode (m : Msg) (status detail : Nat) (data : List Byte) (s : State) : (replyTo m status detail data s).mode = s.mode :=
    by unfold replyTo; (repeat' split) <;> simp
@[simp] theorem replyTo_time (m : Msg) (status detail : Nat) (data : List Byte) (s : State) : (replyTo m status detail data s).time = s.time :=
    by unfold replyTo; (repeat' split) <;> simp
@[simp] theorem replyTo_log (m : Msg) (status detail : Nat) (data : List Byte) (s : State) : (replyTo m status detail data s).log = s.log :=
    by unfold replyTo; (repeat' split) <;> simp
@[simp] theorem replyTo_cfg (m : Msg) (status detail : Nat) (data : List Byte) (s : State) : (replyTo m status detail data s).cfg = s.cfg :=
    by unfold replyTo; (repeat' split) <;> simp
@[simp] theorem replyTo_arr (m : Msg) (status detail : Nat) (data : List Byte) (s : State) : (replyTo m status detail data s).arr = s.arr :=
    by unfold replyTo; (repeat' split) <;> simp
@[simp] theorem replyTo_sched (m : Msg) (status detail : Nat) (data : List Byte) (s : State) : (replyTo m status detail data s).sched = s.sched :=
    by unfold replyTo; (repeat' split) <;> simp
@[simp] theorem replyTo_comp (m : Msg) (status detail : Nat) (data : List Byte) (s : State) : (replyTo m status detail data s).comp = s.comp :=
    by unfold replyTo; (repeat' split) <;> simp
@[simp] theorem replyTo_mon (m : Msg) (status detail : Nat) (data : List Byte) (s : State) : (replyTo m status detail data s).mon = s.mon :=
    by unfold replyTo; (repeat' split) <;> simp
@[simp] theorem replyTo_gov (m : Msg) (status detail : Nat) (data : List Byte) (s : State) : (replyTo m status detail data s).gov = s.gov :=
    by unfold replyTo; (repeat' split) <;> simp
@[simp] theorem replyTo_drw (m : Msg) (status detail : Nat) (data : List Byte) (s : State) : (replyTo m status detail data s).drw = s.drw :=
    by unfold replyTo; (repeat' split) <;> simp
@[simp] theorem replyTo_sync (m : Msg) (status detail : Nat) (data : List Byte) (s : State) : (replyTo m status detail data s).sync = s.sync :=
    by unfold replyTo; (repeat' split) <;> simp
@[simp] theorem replyTo_flt (m : Msg) (status detail : Nat) (data : List Byte) (s : State) : (replyTo m status detail data s).flt = s.flt :=
    by unfold replyTo; (repeat' split) <;> simp
@[simp] theorem replyTo_dim (m : Msg) (status detail : Nat) (data : List Byte) (s : State) : (replyTo m status detail data s).dim = s.dim :=
    by unfold replyTo; (repeat' split) <;> simp
@[simp] theorem replyTo_rake (m : Msg) (status detail : Nat) (data : List Byte) (s : State) : (replyTo m status detail data s).rake = s.rake :=
    by unfold replyTo; (repeat' split) <;> simp
@[simp] theorem replyTo_conv (m : Msg) (status detail : Nat) (data : List Byte) (s : State) : (replyTo m status detail data s).conv = s.conv :=
    by unfold replyTo; (repeat' split) <;> simp
@[simp] theorem replyTo_mp (m : Msg) (status detail : Nat) (data : List Byte) (s : State) : (replyTo m status detail data s).mp = s.mp :=
    by unfold replyTo; (repeat' split) <;> simp
@[simp] theorem replyTo_dram (m : Msg) (status detail : Nat) (data : List Byte) (s : State) : (replyTo m status detail data s).dram = s.dram :=
    by unfold replyTo; (repeat' split) <;> simp
@[simp] theorem replyTo_pwr (m : Msg) (status detail : Nat) (data : List Byte) (s : State) : (replyTo m status detail data s).pwr = s.pwr :=
    by unfold replyTo; (repeat' split) <;> simp
@[simp] theorem replyTo_upd (m : Msg) (status detail : Nat) (data : List Byte) (s : State) : (replyTo m status detail data s).upd = s.upd :=
    by unfold replyTo; (repeat' split) <;> simp
@[simp] theorem replyTo_flash (m : Msg) (status detail : Nat) (data : List Byte) (s : State) : (replyTo m status detail data s).flash = s.flash :=
    by unfold replyTo; (repeat' split) <;> simp
@[simp] theorem replyTo_fuse (m : Msg) (status detail : Nat) (data : List Byte) (s : State) : (replyTo m status detail data s).fuse = s.fuse :=
    by unfold replyTo; (repeat' split) <;> simp
@[simp] theorem replyTo_cvus (m : Msg) (status detail : Nat) (data : List Byte) (s : State) : (replyTo m status detail data s).cvus = s.cvus :=
    by unfold replyTo; (repeat' split) <;> simp
@[simp] theorem replyTo_pending (m : Msg) (status detail : Nat) (data : List Byte) (s : State) : (replyTo m status detail data s).pending = s.pending :=
    by unfold replyTo; (repeat' split) <;> simp

/-! ### addShadow -/

@[simp] theorem addShadow_mode (a : Action) (s : State) : (addShadow a s).mode = s.mode := by unfold addShadow; split <;> simp
@[simp] theorem addShadow_time (a : Action) (s : State) : (addShadow a s).time = s.time := by unfold addShadow; split <;> simp
@[simp] theorem addShadow_log (a : Action) (s : State) : (addShadow a s).log = s.log := by unfold addShadow; split <;> simp
@[simp] theorem addShadow_cfg (a : Action) (s : State) : (addShadow a s).cfg = s.cfg := by unfold addShadow; split <;> simp
@[simp] theorem addShadow_arr (a : Action) (s : State) : (addShadow a s).arr = s.arr := by unfold addShadow; split <;> simp
@[simp] theorem addShadow_sched (a : Action) (s : State) : (addShadow a s).sched = s.sched := by unfold addShadow; split <;> simp
@[simp] theorem addShadow_comp (a : Action) (s : State) : (addShadow a s).comp = s.comp := by unfold addShadow; split <;> simp
@[simp] theorem addShadow_mon (a : Action) (s : State) : (addShadow a s).mon = s.mon := by unfold addShadow; split <;> simp
@[simp] theorem addShadow_gov (a : Action) (s : State) : (addShadow a s).gov = s.gov := by unfold addShadow; split <;> simp
@[simp] theorem addShadow_drw (a : Action) (s : State) : (addShadow a s).drw = s.drw := by unfold addShadow; split <;> simp
@[simp] theorem addShadow_sync (a : Action) (s : State) : (addShadow a s).sync = s.sync := by unfold addShadow; split <;> simp
@[simp] theorem addShadow_dim (a : Action) (s : State) : (addShadow a s).dim = s.dim := by unfold addShadow; split <;> simp
@[simp] theorem addShadow_rake (a : Action) (s : State) : (addShadow a s).rake = s.rake := by unfold addShadow; split <;> simp
@[simp] theorem addShadow_conv (a : Action) (s : State) : (addShadow a s).conv = s.conv := by unfold addShadow; split <;> simp
@[simp] theorem addShadow_link (a : Action) (s : State) : (addShadow a s).link = s.link := by unfold addShadow; split <;> simp
@[simp] theorem addShadow_can (a : Action) (s : State) : (addShadow a s).can = s.can := by unfold addShadow; split <;> simp
@[simp] theorem addShadow_gate (a : Action) (s : State) : (addShadow a s).gate = s.gate := by unfold addShadow; split <;> simp
@[simp] theorem addShadow_mp (a : Action) (s : State) : (addShadow a s).mp = s.mp := by unfold addShadow; split <;> simp
@[simp] theorem addShadow_dram (a : Action) (s : State) : (addShadow a s).dram = s.dram := by unfold addShadow; split <;> simp
@[simp] theorem addShadow_pwr (a : Action) (s : State) : (addShadow a s).pwr = s.pwr := by unfold addShadow; split <;> simp
@[simp] theorem addShadow_upd (a : Action) (s : State) : (addShadow a s).upd = s.upd := by unfold addShadow; split <;> simp
@[simp] theorem addShadow_flash (a : Action) (s : State) : (addShadow a s).flash = s.flash := by unfold addShadow; split <;> simp
@[simp] theorem addShadow_fuse (a : Action) (s : State) : (addShadow a s).fuse = s.fuse := by unfold addShadow; split <;> simp
@[simp] theorem addShadow_cvus (a : Action) (s : State) : (addShadow a s).cvus = s.cvus := by unfold addShadow; split <;> simp
@[simp] theorem addShadow_pending (a : Action) (s : State) : (addShadow a s).pending = s.pending := by unfold addShadow; split <;> simp

/-! ### withholdCurrent -/

@[simp] theorem withholdCurrent_mode (s : State) : (withholdCurrent s).mode = s.mode := by unfold withholdCurrent; (repeat' split) <;> simp
@[simp] theorem withholdCurrent_time (s : State) : (withholdCurrent s).time = s.time := by unfold withholdCurrent; (repeat' split) <;> simp
@[simp] theorem withholdCurrent_log (s : State) : (withholdCurrent s).log = s.log := by unfold withholdCurrent; (repeat' split) <;> simp
@[simp] theorem withholdCurrent_cfg (s : State) : (withholdCurrent s).cfg = s.cfg := by unfold withholdCurrent; (repeat' split) <;> simp
@[simp] theorem withholdCurrent_arr (s : State) : (withholdCurrent s).arr = s.arr := by unfold withholdCurrent; (repeat' split) <;> simp
@[simp] theorem withholdCurrent_comp (s : State) : (withholdCurrent s).comp = s.comp := by unfold withholdCurrent; (repeat' split) <;> simp
@[simp] theorem withholdCurrent_mon (s : State) : (withholdCurrent s).mon = s.mon := by unfold withholdCurrent; (repeat' split) <;> simp
@[simp] theorem withholdCurrent_gov (s : State) : (withholdCurrent s).gov = s.gov := by unfold withholdCurrent; (repeat' split) <;> simp
@[simp] theorem withholdCurrent_drw (s : State) : (withholdCurrent s).drw = s.drw := by unfold withholdCurrent; (repeat' split) <;> simp
@[simp] theorem withholdCurrent_sync (s : State) : (withholdCurrent s).sync = s.sync := by unfold withholdCurrent; (repeat' split) <;> simp
@[simp] theorem withholdCurrent_flt (s : State) : (withholdCurrent s).flt = s.flt := by unfold withholdCurrent; (repeat' split) <;> simp
@[simp] theorem withholdCurrent_dim (s : State) : (withholdCurrent s).dim = s.dim := by unfold withholdCurrent; (repeat' split) <;> simp
@[simp] theorem withholdCurrent_rake (s : State) : (withholdCurrent s).rake = s.rake := by unfold withholdCurrent; (repeat' split) <;> simp
@[simp] theorem withholdCurrent_conv (s : State) : (withholdCurrent s).conv = s.conv := by unfold withholdCurrent; (repeat' split) <;> simp
@[simp] theorem withholdCurrent_link (s : State) : (withholdCurrent s).link = s.link := by unfold withholdCurrent; (repeat' split) <;> simp
@[simp] theorem withholdCurrent_can (s : State) : (withholdCurrent s).can = s.can := by unfold withholdCurrent; (repeat' split) <;> simp
@[simp] theorem withholdCurrent_gate (s : State) : (withholdCurrent s).gate = s.gate := by unfold withholdCurrent; (repeat' split) <;> simp
@[simp] theorem withholdCurrent_mp (s : State) : (withholdCurrent s).mp = s.mp := by unfold withholdCurrent; (repeat' split) <;> simp
@[simp] theorem withholdCurrent_dram (s : State) : (withholdCurrent s).dram = s.dram := by unfold withholdCurrent; (repeat' split) <;> simp
@[simp] theorem withholdCurrent_pwr (s : State) : (withholdCurrent s).pwr = s.pwr := by unfold withholdCurrent; (repeat' split) <;> simp
@[simp] theorem withholdCurrent_upd (s : State) : (withholdCurrent s).upd = s.upd := by unfold withholdCurrent; (repeat' split) <;> simp
@[simp] theorem withholdCurrent_flash (s : State) : (withholdCurrent s).flash = s.flash :=
    by unfold withholdCurrent; (repeat' split) <;> simp
@[simp] theorem withholdCurrent_fuse (s : State) : (withholdCurrent s).fuse = s.fuse := by unfold withholdCurrent; (repeat' split) <;> simp
@[simp] theorem withholdCurrent_cvus (s : State) : (withholdCurrent s).cvus = s.cvus := by unfold withholdCurrent; (repeat' split) <;> simp
@[simp] theorem withholdCurrent_pending (s : State) : (withholdCurrent s).pending = s.pending :=
    by unfold withholdCurrent; (repeat' split) <;> simp

/-! ### addWithhold -/

@[simp] theorem addWithhold_mode (s : State) : (addWithhold s).mode = s.mode := by unfold addWithhold; dsimp only; (repeat' split) <;> simp
@[simp] theorem addWithhold_time (s : State) : (addWithhold s).time = s.time := by unfold addWithhold; dsimp only; (repeat' split) <;> simp
@[simp] theorem addWithhold_log (s : State) : (addWithhold s).log = s.log := by unfold addWithhold; dsimp only; (repeat' split) <;> simp
@[simp] theorem addWithhold_cfg (s : State) : (addWithhold s).cfg = s.cfg := by unfold addWithhold; dsimp only; (repeat' split) <;> simp
@[simp] theorem addWithhold_arr (s : State) : (addWithhold s).arr = s.arr := by unfold addWithhold; dsimp only; (repeat' split) <;> simp
@[simp] theorem addWithhold_comp (s : State) : (addWithhold s).comp = s.comp := by unfold addWithhold; dsimp only; (repeat' split) <;> simp
@[simp] theorem addWithhold_mon (s : State) : (addWithhold s).mon = s.mon := by unfold addWithhold; dsimp only; (repeat' split) <;> simp
@[simp] theorem addWithhold_gov (s : State) : (addWithhold s).gov = s.gov := by unfold addWithhold; dsimp only; (repeat' split) <;> simp
@[simp] theorem addWithhold_drw (s : State) : (addWithhold s).drw = s.drw := by unfold addWithhold; dsimp only; (repeat' split) <;> simp
@[simp] theorem addWithhold_sync (s : State) : (addWithhold s).sync = s.sync := by unfold addWithhold; dsimp only; (repeat' split) <;> simp
@[simp] theorem addWithhold_flt (s : State) : (addWithhold s).flt = s.flt := by unfold addWithhold; dsimp only; (repeat' split) <;> simp
@[simp] theorem addWithhold_dim (s : State) : (addWithhold s).dim = s.dim := by unfold addWithhold; dsimp only; (repeat' split) <;> simp
@[simp] theorem addWithhold_rake (s : State) : (addWithhold s).rake = s.rake := by unfold addWithhold; dsimp only; (repeat' split) <;> simp
@[simp] theorem addWithhold_conv (s : State) : (addWithhold s).conv = s.conv := by unfold addWithhold; dsimp only; (repeat' split) <;> simp
@[simp] theorem addWithhold_link (s : State) : (addWithhold s).link = s.link := by unfold addWithhold; dsimp only; (repeat' split) <;> simp
@[simp] theorem addWithhold_can (s : State) : (addWithhold s).can = s.can := by unfold addWithhold; dsimp only; (repeat' split) <;> simp
@[simp] theorem addWithhold_gate (s : State) : (addWithhold s).gate = s.gate := by unfold addWithhold; dsimp only; (repeat' split) <;> simp
@[simp] theorem addWithhold_mp (s : State) : (addWithhold s).mp = s.mp := by unfold addWithhold; dsimp only; (repeat' split) <;> simp
@[simp] theorem addWithhold_dram (s : State) : (addWithhold s).dram = s.dram := by unfold addWithhold; dsimp only; (repeat' split) <;> simp
@[simp] theorem addWithhold_pwr (s : State) : (addWithhold s).pwr = s.pwr := by unfold addWithhold; dsimp only; (repeat' split) <;> simp
@[simp] theorem addWithhold_upd (s : State) : (addWithhold s).upd = s.upd := by unfold addWithhold; dsimp only; (repeat' split) <;> simp
@[simp] theorem addWithhold_flash (s : State) : (addWithhold s).flash = s.flash :=
    by unfold addWithhold; dsimp only; (repeat' split) <;> simp
@[simp] theorem addWithhold_fuse (s : State) : (addWithhold s).fuse = s.fuse := by unfold addWithhold; dsimp only; (repeat' split) <;> simp
@[simp] theorem addWithhold_cvus (s : State) : (addWithhold s).cvus = s.cvus := by unfold addWithhold; dsimp only; (repeat' split) <;> simp
@[simp] theorem addWithhold_pending (s : State) : (addWithhold s).pending = s.pending :=
    by unfold addWithhold; dsimp only; (repeat' split) <;> simp

/-! ### switchOff -/

@[simp] theorem switchOff_mode (slots : List Nat) (s : State) : (switchOff slots s).mode = s.mode :=
    by unfold switchOff; (repeat' split) <;> simp
@[simp] theorem switchOff_time (slots : List Nat) (s : State) : (switchOff slots s).time = s.time :=
    by unfold switchOff; (repeat' split) <;> simp
@[simp] theorem switchOff_log (slots : List Nat) (s : State) : (switchOff slots s).log = s.log :=
    by unfold switchOff; (repeat' split) <;> simp
@[simp] theorem switchOff_cfg (slots : List Nat) (s : State) : (switchOff slots s).cfg = s.cfg :=
    by unfold switchOff; (repeat' split) <;> simp
@[simp] theorem switchOff_arr (slots : List Nat) (s : State) : (switchOff slots s).arr = s.arr :=
    by unfold switchOff; (repeat' split) <;> simp
@[simp] theorem switchOff_comp (slots : List Nat) (s : State) : (switchOff slots s).comp = s.comp :=
    by unfold switchOff; (repeat' split) <;> simp
@[simp] theorem switchOff_mon (slots : List Nat) (s : State) : (switchOff slots s).mon = s.mon :=
    by unfold switchOff; (repeat' split) <;> simp
@[simp] theorem switchOff_gov (slots : List Nat) (s : State) : (switchOff slots s).gov = s.gov :=
    by unfold switchOff; (repeat' split) <;> simp
@[simp] theorem switchOff_drw (slots : List Nat) (s : State) : (switchOff slots s).drw = s.drw :=
    by unfold switchOff; (repeat' split) <;> simp
@[simp] theorem switchOff_sync (slots : List Nat) (s : State) : (switchOff slots s).sync = s.sync :=
    by unfold switchOff; (repeat' split) <;> simp
@[simp] theorem switchOff_flt (slots : List Nat) (s : State) : (switchOff slots s).flt = s.flt :=
    by unfold switchOff; (repeat' split) <;> simp
@[simp] theorem switchOff_dim (slots : List Nat) (s : State) : (switchOff slots s).dim = s.dim :=
    by unfold switchOff; (repeat' split) <;> simp
@[simp] theorem switchOff_rake (slots : List Nat) (s : State) : (switchOff slots s).rake = s.rake :=
    by unfold switchOff; (repeat' split) <;> simp
@[simp] theorem switchOff_conv (slots : List Nat) (s : State) : (switchOff slots s).conv = s.conv :=
    by unfold switchOff; (repeat' split) <;> simp
@[simp] theorem switchOff_link (slots : List Nat) (s : State) : (switchOff slots s).link = s.link :=
    by unfold switchOff; (repeat' split) <;> simp
@[simp] theorem switchOff_can (slots : List Nat) (s : State) : (switchOff slots s).can = s.can :=
    by unfold switchOff; (repeat' split) <;> simp
@[simp] theorem switchOff_gate (slots : List Nat) (s : State) : (switchOff slots s).gate = s.gate :=
    by unfold switchOff; (repeat' split) <;> simp
@[simp] theorem switchOff_mp (slots : List Nat) (s : State) : (switchOff slots s).mp = s.mp := by unfold switchOff; (repeat' split) <;> simp
@[simp] theorem switchOff_dram (slots : List Nat) (s : State) : (switchOff slots s).dram = s.dram :=
    by unfold switchOff; (repeat' split) <;> simp
@[simp] theorem switchOff_pwr (slots : List Nat) (s : State) : (switchOff slots s).pwr = s.pwr :=
    by unfold switchOff; (repeat' split) <;> simp
@[simp] theorem switchOff_upd (slots : List Nat) (s : State) : (switchOff slots s).upd = s.upd :=
    by unfold switchOff; (repeat' split) <;> simp
@[simp] theorem switchOff_flash (slots : List Nat) (s : State) : (switchOff slots s).flash = s.flash :=
    by unfold switchOff; (repeat' split) <;> simp
@[simp] theorem switchOff_fuse (slots : List Nat) (s : State) : (switchOff slots s).fuse = s.fuse :=
    by unfold switchOff; (repeat' split) <;> simp
@[simp] theorem switchOff_cvus (slots : List Nat) (s : State) : (switchOff slots s).cvus = s.cvus :=
    by unfold switchOff; (repeat' split) <;> simp
@[simp] theorem switchOff_pending (slots : List Nat) (s : State) : (switchOff slots s).pending = s.pending :=
    by unfold switchOff; (repeat' split) <;> simp

/-! ### recordFault -/

@[simp] theorem recordFault_mode (src kind reaction data : Nat) (forced : Bool) (s : State) : (recordFault src kind reaction data forced s).mode = s.mode :=
    by unfold recordFault; dsimp only; (repeat' split) <;> simp
@[simp] theorem recordFault_time (src kind reaction data : Nat) (forced : Bool) (s : State) : (recordFault src kind reaction data forced s).time = s.time :=
    by unfold recordFault; dsimp only; (repeat' split) <;> simp
@[simp] theorem recordFault_cfg (src kind reaction data : Nat) (forced : Bool) (s : State) : (recordFault src kind reaction data forced s).cfg = s.cfg :=
    by unfold recordFault; dsimp only; (repeat' split) <;> simp
@[simp] theorem recordFault_arr (src kind reaction data : Nat) (forced : Bool) (s : State) : (recordFault src kind reaction data forced s).arr = s.arr :=
    by unfold recordFault; dsimp only; (repeat' split) <;> simp
@[simp] theorem recordFault_sched (src kind reaction data : Nat) (forced : Bool) (s : State) : (recordFault src kind reaction data forced s).sched = s.sched :=
    by unfold recordFault; dsimp only; (repeat' split) <;> simp
@[simp] theorem recordFault_comp (src kind reaction data : Nat) (forced : Bool) (s : State) : (recordFault src kind reaction data forced s).comp = s.comp :=
    by unfold recordFault; dsimp only; (repeat' split) <;> simp
@[simp] theorem recordFault_mon (src kind reaction data : Nat) (forced : Bool) (s : State) : (recordFault src kind reaction data forced s).mon = s.mon :=
    by unfold recordFault; dsimp only; (repeat' split) <;> simp
@[simp] theorem recordFault_gov (src kind reaction data : Nat) (forced : Bool) (s : State) : (recordFault src kind reaction data forced s).gov = s.gov :=
    by unfold recordFault; dsimp only; (repeat' split) <;> simp
@[simp] theorem recordFault_drw (src kind reaction data : Nat) (forced : Bool) (s : State) : (recordFault src kind reaction data forced s).drw = s.drw :=
    by unfold recordFault; dsimp only; (repeat' split) <;> simp
@[simp] theorem recordFault_sync (src kind reaction data : Nat) (forced : Bool) (s : State) : (recordFault src kind reaction data forced s).sync = s.sync :=
    by unfold recordFault; dsimp only; (repeat' split) <;> simp
@[simp] theorem recordFault_dim (src kind reaction data : Nat) (forced : Bool) (s : State) : (recordFault src kind reaction data forced s).dim = s.dim :=
    by unfold recordFault; dsimp only; (repeat' split) <;> simp
@[simp] theorem recordFault_rake (src kind reaction data : Nat) (forced : Bool) (s : State) : (recordFault src kind reaction data forced s).rake = s.rake :=
    by unfold recordFault; dsimp only; (repeat' split) <;> simp
@[simp] theorem recordFault_conv (src kind reaction data : Nat) (forced : Bool) (s : State) : (recordFault src kind reaction data forced s).conv = s.conv :=
    by unfold recordFault; dsimp only; (repeat' split) <;> simp
@[simp] theorem recordFault_link (src kind reaction data : Nat) (forced : Bool) (s : State) : (recordFault src kind reaction data forced s).link = s.link :=
    by unfold recordFault; dsimp only; (repeat' split) <;> simp
@[simp] theorem recordFault_can (src kind reaction data : Nat) (forced : Bool) (s : State) : (recordFault src kind reaction data forced s).can = s.can :=
    by unfold recordFault; dsimp only; (repeat' split) <;> simp
@[simp] theorem recordFault_gate (src kind reaction data : Nat) (forced : Bool) (s : State) : (recordFault src kind reaction data forced s).gate = s.gate :=
    by unfold recordFault; dsimp only; (repeat' split) <;> simp
@[simp] theorem recordFault_mp (src kind reaction data : Nat) (forced : Bool) (s : State) : (recordFault src kind reaction data forced s).mp = s.mp :=
    by unfold recordFault; dsimp only; (repeat' split) <;> simp
@[simp] theorem recordFault_dram (src kind reaction data : Nat) (forced : Bool) (s : State) : (recordFault src kind reaction data forced s).dram = s.dram :=
    by unfold recordFault; dsimp only; (repeat' split) <;> simp
@[simp] theorem recordFault_pwr (src kind reaction data : Nat) (forced : Bool) (s : State) : (recordFault src kind reaction data forced s).pwr = s.pwr :=
    by unfold recordFault; dsimp only; (repeat' split) <;> simp
@[simp] theorem recordFault_upd (src kind reaction data : Nat) (forced : Bool) (s : State) : (recordFault src kind reaction data forced s).upd = s.upd :=
    by unfold recordFault; dsimp only; (repeat' split) <;> simp
@[simp] theorem recordFault_flash (src kind reaction data : Nat) (forced : Bool) (s : State) : (recordFault src kind reaction data forced s).flash = s.flash :=
    by unfold recordFault; dsimp only; (repeat' split) <;> simp
@[simp] theorem recordFault_fuse (src kind reaction data : Nat) (forced : Bool) (s : State) : (recordFault src kind reaction data forced s).fuse = s.fuse :=
    by unfold recordFault; dsimp only; (repeat' split) <;> simp
@[simp] theorem recordFault_cvus (src kind reaction data : Nat) (forced : Bool) (s : State) : (recordFault src kind reaction data forced s).cvus = s.cvus :=
    by unfold recordFault; dsimp only; (repeat' split) <;> simp
@[simp] theorem recordFault_pending (src kind reaction data : Nat) (forced : Bool) (s : State) : (recordFault src kind reaction data forced s).pending = s.pending :=
    by unfold recordFault; dsimp only; (repeat' split) <;> simp

/-! ### kindHardware -/

@[simp] theorem kindHardware_mode (kind cause : Nat) (s : State) : (kindHardware kind cause s).mode = s.mode :=
    by unfold kindHardware; split <;> simp
@[simp] theorem kindHardware_time (kind cause : Nat) (s : State) : (kindHardware kind cause s).time = s.time :=
    by unfold kindHardware; split <;> simp
@[simp] theorem kindHardware_cfg (kind cause : Nat) (s : State) : (kindHardware kind cause s).cfg = s.cfg :=
    by unfold kindHardware; split <;> simp
@[simp] theorem kindHardware_sched (kind cause : Nat) (s : State) : (kindHardware kind cause s).sched = s.sched :=
    by unfold kindHardware; split <;> simp
@[simp] theorem kindHardware_comp (kind cause : Nat) (s : State) : (kindHardware kind cause s).comp = s.comp :=
    by unfold kindHardware; split <;> simp
@[simp] theorem kindHardware_mon (kind cause : Nat) (s : State) : (kindHardware kind cause s).mon = s.mon :=
    by unfold kindHardware; split <;> simp
@[simp] theorem kindHardware_gov (kind cause : Nat) (s : State) : (kindHardware kind cause s).gov = s.gov :=
    by unfold kindHardware; split <;> simp
@[simp] theorem kindHardware_drw (kind cause : Nat) (s : State) : (kindHardware kind cause s).drw = s.drw :=
    by unfold kindHardware; split <;> simp
@[simp] theorem kindHardware_sync (kind cause : Nat) (s : State) : (kindHardware kind cause s).sync = s.sync :=
    by unfold kindHardware; split <;> simp
@[simp] theorem kindHardware_rake (kind cause : Nat) (s : State) : (kindHardware kind cause s).rake = s.rake :=
    by unfold kindHardware; split <;> simp
@[simp] theorem kindHardware_conv (kind cause : Nat) (s : State) : (kindHardware kind cause s).conv = s.conv :=
    by unfold kindHardware; split <;> simp
@[simp] theorem kindHardware_link (kind cause : Nat) (s : State) : (kindHardware kind cause s).link = s.link :=
    by unfold kindHardware; split <;> simp
@[simp] theorem kindHardware_can (kind cause : Nat) (s : State) : (kindHardware kind cause s).can = s.can :=
    by unfold kindHardware; split <;> simp
@[simp] theorem kindHardware_gate (kind cause : Nat) (s : State) : (kindHardware kind cause s).gate = s.gate :=
    by unfold kindHardware; split <;> simp
@[simp] theorem kindHardware_mp (kind cause : Nat) (s : State) : (kindHardware kind cause s).mp = s.mp :=
    by unfold kindHardware; split <;> simp
@[simp] theorem kindHardware_dram (kind cause : Nat) (s : State) : (kindHardware kind cause s).dram = s.dram :=
    by unfold kindHardware; split <;> simp
@[simp] theorem kindHardware_pwr (kind cause : Nat) (s : State) : (kindHardware kind cause s).pwr = s.pwr :=
    by unfold kindHardware; split <;> simp
@[simp] theorem kindHardware_upd (kind cause : Nat) (s : State) : (kindHardware kind cause s).upd = s.upd :=
    by unfold kindHardware; split <;> simp
@[simp] theorem kindHardware_flash (kind cause : Nat) (s : State) : (kindHardware kind cause s).flash = s.flash :=
    by unfold kindHardware; split <;> simp
@[simp] theorem kindHardware_fuse (kind cause : Nat) (s : State) : (kindHardware kind cause s).fuse = s.fuse :=
    by unfold kindHardware; split <;> simp
@[simp] theorem kindHardware_cvus (kind cause : Nat) (s : State) : (kindHardware kind cause s).cvus = s.cvus :=
    by unfold kindHardware; split <;> simp
@[simp] theorem kindHardware_pending (kind cause : Nat) (s : State) : (kindHardware kind cause s).pending = s.pending :=
    by unfold kindHardware; split <;> simp

/-! ### raiseReaction -/

@[simp] theorem raiseReaction_mode (r : Nat) (s : State) : (raiseReaction r s).mode = s.mode := by simp only [raiseReaction]
@[simp] theorem raiseReaction_time (r : Nat) (s : State) : (raiseReaction r s).time = s.time := by simp only [raiseReaction]
@[simp] theorem raiseReaction_log (r : Nat) (s : State) : (raiseReaction r s).log = s.log := by simp only [raiseReaction]
@[simp] theorem raiseReaction_cfg (r : Nat) (s : State) : (raiseReaction r s).cfg = s.cfg := by simp only [raiseReaction]
@[simp] theorem raiseReaction_arr (r : Nat) (s : State) : (raiseReaction r s).arr = s.arr := by simp only [raiseReaction]
@[simp] theorem raiseReaction_sched (r : Nat) (s : State) : (raiseReaction r s).sched = s.sched := by simp only [raiseReaction]
@[simp] theorem raiseReaction_comp (r : Nat) (s : State) : (raiseReaction r s).comp = s.comp := by simp only [raiseReaction]
@[simp] theorem raiseReaction_mon (r : Nat) (s : State) : (raiseReaction r s).mon = s.mon := by simp only [raiseReaction]
@[simp] theorem raiseReaction_gov (r : Nat) (s : State) : (raiseReaction r s).gov = s.gov := by simp only [raiseReaction]
@[simp] theorem raiseReaction_drw (r : Nat) (s : State) : (raiseReaction r s).drw = s.drw := by simp only [raiseReaction]
@[simp] theorem raiseReaction_sync (r : Nat) (s : State) : (raiseReaction r s).sync = s.sync := by simp only [raiseReaction]
@[simp] theorem raiseReaction_dim (r : Nat) (s : State) : (raiseReaction r s).dim = s.dim := by simp only [raiseReaction]
@[simp] theorem raiseReaction_rake (r : Nat) (s : State) : (raiseReaction r s).rake = s.rake := by simp only [raiseReaction]
@[simp] theorem raiseReaction_conv (r : Nat) (s : State) : (raiseReaction r s).conv = s.conv := by simp only [raiseReaction]
@[simp] theorem raiseReaction_link (r : Nat) (s : State) : (raiseReaction r s).link = s.link := by simp only [raiseReaction]
@[simp] theorem raiseReaction_can (r : Nat) (s : State) : (raiseReaction r s).can = s.can := by simp only [raiseReaction]
@[simp] theorem raiseReaction_gate (r : Nat) (s : State) : (raiseReaction r s).gate = s.gate := by simp only [raiseReaction]
@[simp] theorem raiseReaction_mp (r : Nat) (s : State) : (raiseReaction r s).mp = s.mp := by simp only [raiseReaction]
@[simp] theorem raiseReaction_dram (r : Nat) (s : State) : (raiseReaction r s).dram = s.dram := by simp only [raiseReaction]
@[simp] theorem raiseReaction_pwr (r : Nat) (s : State) : (raiseReaction r s).pwr = s.pwr := by simp only [raiseReaction]
@[simp] theorem raiseReaction_upd (r : Nat) (s : State) : (raiseReaction r s).upd = s.upd := by simp only [raiseReaction]
@[simp] theorem raiseReaction_flash (r : Nat) (s : State) : (raiseReaction r s).flash = s.flash := by simp only [raiseReaction]
@[simp] theorem raiseReaction_fuse (r : Nat) (s : State) : (raiseReaction r s).fuse = s.fuse := by simp only [raiseReaction]
@[simp] theorem raiseReaction_cvus (r : Nat) (s : State) : (raiseReaction r s).cvus = s.cvus := by simp only [raiseReaction]
@[simp] theorem raiseReaction_pending (r : Nat) (s : State) : (raiseReaction r s).pending = s.pending := by simp only [raiseReaction]

/-! ### goSafe -/

@[simp] theorem goSafe_time (kind cause : Nat) (s : State) : (goSafe kind cause s).time = s.time :=
    by unfold goSafe; dsimp only; (repeat' split) <;> simp
@[simp] theorem goSafe_cfg (kind cause : Nat) (s : State) : (goSafe kind cause s).cfg = s.cfg :=
    by unfold goSafe; dsimp only; (repeat' split) <;> simp
@[simp] theorem goSafe_sched (kind cause : Nat) (s : State) : (goSafe kind cause s).sched = s.sched :=
    by unfold goSafe; dsimp only; (repeat' split) <;> simp
@[simp] theorem goSafe_comp (kind cause : Nat) (s : State) : (goSafe kind cause s).comp = s.comp :=
    by unfold goSafe; dsimp only; (repeat' split) <;> simp
@[simp] theorem goSafe_mon (kind cause : Nat) (s : State) : (goSafe kind cause s).mon = s.mon :=
    by unfold goSafe; dsimp only; (repeat' split) <;> simp
@[simp] theorem goSafe_gov (kind cause : Nat) (s : State) : (goSafe kind cause s).gov = s.gov :=
    by unfold goSafe; dsimp only; (repeat' split) <;> simp
@[simp] theorem goSafe_drw (kind cause : Nat) (s : State) : (goSafe kind cause s).drw = s.drw :=
    by unfold goSafe; dsimp only; (repeat' split) <;> simp
@[simp] theorem goSafe_sync (kind cause : Nat) (s : State) : (goSafe kind cause s).sync = s.sync :=
    by unfold goSafe; dsimp only; (repeat' split) <;> simp
@[simp] theorem goSafe_conv (kind cause : Nat) (s : State) : (goSafe kind cause s).conv = s.conv :=
    by unfold goSafe; dsimp only; (repeat' split) <;> simp
@[simp] theorem goSafe_link (kind cause : Nat) (s : State) : (goSafe kind cause s).link = s.link :=
    by unfold goSafe; dsimp only; (repeat' split) <;> simp
@[simp] theorem goSafe_can (kind cause : Nat) (s : State) : (goSafe kind cause s).can = s.can :=
    by unfold goSafe; dsimp only; (repeat' split) <;> simp
@[simp] theorem goSafe_gate (kind cause : Nat) (s : State) : (goSafe kind cause s).gate = s.gate :=
    by unfold goSafe; dsimp only; (repeat' split) <;> simp
@[simp] theorem goSafe_mp (kind cause : Nat) (s : State) : (goSafe kind cause s).mp = s.mp :=
    by unfold goSafe; dsimp only; (repeat' split) <;> simp
@[simp] theorem goSafe_dram (kind cause : Nat) (s : State) : (goSafe kind cause s).dram = s.dram :=
    by unfold goSafe; dsimp only; (repeat' split) <;> simp
@[simp] theorem goSafe_pwr (kind cause : Nat) (s : State) : (goSafe kind cause s).pwr = s.pwr :=
    by unfold goSafe; dsimp only; (repeat' split) <;> simp
@[simp] theorem goSafe_upd (kind cause : Nat) (s : State) : (goSafe kind cause s).upd = s.upd :=
    by unfold goSafe; dsimp only; (repeat' split) <;> simp
@[simp] theorem goSafe_flash (kind cause : Nat) (s : State) : (goSafe kind cause s).flash = s.flash :=
    by unfold goSafe; dsimp only; (repeat' split) <;> simp
@[simp] theorem goSafe_fuse (kind cause : Nat) (s : State) : (goSafe kind cause s).fuse = s.fuse :=
    by unfold goSafe; dsimp only; (repeat' split) <;> simp
@[simp] theorem goSafe_cvus (kind cause : Nat) (s : State) : (goSafe kind cause s).cvus = s.cvus :=
    by unfold goSafe; dsimp only; (repeat' split) <;> simp
@[simp] theorem goSafe_pending (kind cause : Nat) (s : State) : (goSafe kind cause s).pending = s.pending :=
    by unfold goSafe; dsimp only; (repeat' split) <;> simp

/-! ### deliverShadowed -/

@[simp] theorem deliverShadowed_mode (src data : Nat) (forced : Bool) (s : State) : (deliverShadowed src data forced s).mode = s.mode :=
    by unfold deliverShadowed; dsimp only; (repeat' split) <;> simp
@[simp] theorem deliverShadowed_time (src data : Nat) (forced : Bool) (s : State) : (deliverShadowed src data forced s).time = s.time :=
    by unfold deliverShadowed; dsimp only; (repeat' split) <;> simp
@[simp] theorem deliverShadowed_cfg (src data : Nat) (forced : Bool) (s : State) : (deliverShadowed src data forced s).cfg = s.cfg :=
    by unfold deliverShadowed; dsimp only; (repeat' split) <;> simp
@[simp] theorem deliverShadowed_arr (src data : Nat) (forced : Bool) (s : State) : (deliverShadowed src data forced s).arr = s.arr :=
    by unfold deliverShadowed; dsimp only; (repeat' split) <;> simp
@[simp] theorem deliverShadowed_sched (src data : Nat) (forced : Bool) (s : State) : (deliverShadowed src data forced s).sched = s.sched :=
    by unfold deliverShadowed; dsimp only; (repeat' split) <;> simp
@[simp] theorem deliverShadowed_comp (src data : Nat) (forced : Bool) (s : State) : (deliverShadowed src data forced s).comp = s.comp :=
    by unfold deliverShadowed; dsimp only; (repeat' split) <;> simp
@[simp] theorem deliverShadowed_mon (src data : Nat) (forced : Bool) (s : State) : (deliverShadowed src data forced s).mon = s.mon :=
    by unfold deliverShadowed; dsimp only; (repeat' split) <;> simp
@[simp] theorem deliverShadowed_gov (src data : Nat) (forced : Bool) (s : State) : (deliverShadowed src data forced s).gov = s.gov :=
    by unfold deliverShadowed; dsimp only; (repeat' split) <;> simp
@[simp] theorem deliverShadowed_drw (src data : Nat) (forced : Bool) (s : State) : (deliverShadowed src data forced s).drw = s.drw :=
    by unfold deliverShadowed; dsimp only; (repeat' split) <;> simp
@[simp] theorem deliverShadowed_sync (src data : Nat) (forced : Bool) (s : State) : (deliverShadowed src data forced s).sync = s.sync :=
    by unfold deliverShadowed; dsimp only; (repeat' split) <;> simp
@[simp] theorem deliverShadowed_dim (src data : Nat) (forced : Bool) (s : State) : (deliverShadowed src data forced s).dim = s.dim :=
    by unfold deliverShadowed; dsimp only; (repeat' split) <;> simp
@[simp] theorem deliverShadowed_rake (src data : Nat) (forced : Bool) (s : State) : (deliverShadowed src data forced s).rake = s.rake :=
    by unfold deliverShadowed; dsimp only; (repeat' split) <;> simp
@[simp] theorem deliverShadowed_conv (src data : Nat) (forced : Bool) (s : State) : (deliverShadowed src data forced s).conv = s.conv :=
    by unfold deliverShadowed; dsimp only; (repeat' split) <;> simp
@[simp] theorem deliverShadowed_link (src data : Nat) (forced : Bool) (s : State) : (deliverShadowed src data forced s).link = s.link :=
    by unfold deliverShadowed; dsimp only; (repeat' split) <;> simp
@[simp] theorem deliverShadowed_can (src data : Nat) (forced : Bool) (s : State) : (deliverShadowed src data forced s).can = s.can :=
    by unfold deliverShadowed; dsimp only; (repeat' split) <;> simp
@[simp] theorem deliverShadowed_gate (src data : Nat) (forced : Bool) (s : State) : (deliverShadowed src data forced s).gate = s.gate :=
    by unfold deliverShadowed; dsimp only; (repeat' split) <;> simp
@[simp] theorem deliverShadowed_mp (src data : Nat) (forced : Bool) (s : State) : (deliverShadowed src data forced s).mp = s.mp :=
    by unfold deliverShadowed; dsimp only; (repeat' split) <;> simp
@[simp] theorem deliverShadowed_dram (src data : Nat) (forced : Bool) (s : State) : (deliverShadowed src data forced s).dram = s.dram :=
    by unfold deliverShadowed; dsimp only; (repeat' split) <;> simp
@[simp] theorem deliverShadowed_pwr (src data : Nat) (forced : Bool) (s : State) : (deliverShadowed src data forced s).pwr = s.pwr :=
    by unfold deliverShadowed; dsimp only; (repeat' split) <;> simp
@[simp] theorem deliverShadowed_upd (src data : Nat) (forced : Bool) (s : State) : (deliverShadowed src data forced s).upd = s.upd :=
    by unfold deliverShadowed; dsimp only; (repeat' split) <;> simp
@[simp] theorem deliverShadowed_flash (src data : Nat) (forced : Bool) (s : State) : (deliverShadowed src data forced s).flash = s.flash :=
    by unfold deliverShadowed; dsimp only; (repeat' split) <;> simp
@[simp] theorem deliverShadowed_fuse (src data : Nat) (forced : Bool) (s : State) : (deliverShadowed src data forced s).fuse = s.fuse :=
    by unfold deliverShadowed; dsimp only; (repeat' split) <;> simp
@[simp] theorem deliverShadowed_cvus (src data : Nat) (forced : Bool) (s : State) : (deliverShadowed src data forced s).cvus = s.cvus :=
    by unfold deliverShadowed; dsimp only; (repeat' split) <;> simp
@[simp] theorem deliverShadowed_pending (src data : Nat) (forced : Bool) (s : State) : (deliverShadowed src data forced s).pending = s.pending :=
    by unfold deliverShadowed; dsimp only; (repeat' split) <;> simp

/-! ### phyOff -/

@[simp] theorem phyOff_mode (s : State) : (phyOff s).mode = s.mode := by simp only [phyOff]
@[simp] theorem phyOff_time (s : State) : (phyOff s).time = s.time := by simp only [phyOff]
@[simp] theorem phyOff_log (s : State) : (phyOff s).log = s.log := by simp only [phyOff]
@[simp] theorem phyOff_cfg (s : State) : (phyOff s).cfg = s.cfg := by simp only [phyOff]
@[simp] theorem phyOff_arr (s : State) : (phyOff s).arr = s.arr := by simp only [phyOff]
@[simp] theorem phyOff_sched (s : State) : (phyOff s).sched = s.sched := by simp only [phyOff]
@[simp] theorem phyOff_comp (s : State) : (phyOff s).comp = s.comp := by simp only [phyOff]
@[simp] theorem phyOff_mon (s : State) : (phyOff s).mon = s.mon := by simp only [phyOff]
@[simp] theorem phyOff_gov (s : State) : (phyOff s).gov = s.gov := by simp only [phyOff]
@[simp] theorem phyOff_drw (s : State) : (phyOff s).drw = s.drw := by simp only [phyOff]
@[simp] theorem phyOff_sync (s : State) : (phyOff s).sync = s.sync := by simp only [phyOff]
@[simp] theorem phyOff_flt (s : State) : (phyOff s).flt = s.flt := by simp only [phyOff]
@[simp] theorem phyOff_dim (s : State) : (phyOff s).dim = s.dim := by simp only [phyOff]
@[simp] theorem phyOff_rake (s : State) : (phyOff s).rake = s.rake := by simp only [phyOff]
@[simp] theorem phyOff_conv (s : State) : (phyOff s).conv = s.conv := by simp only [phyOff]
@[simp] theorem phyOff_can (s : State) : (phyOff s).can = s.can := by simp only [phyOff]
@[simp] theorem phyOff_gate (s : State) : (phyOff s).gate = s.gate := by simp only [phyOff]
@[simp] theorem phyOff_mp (s : State) : (phyOff s).mp = s.mp := by simp only [phyOff]
@[simp] theorem phyOff_dram (s : State) : (phyOff s).dram = s.dram := by simp only [phyOff]
@[simp] theorem phyOff_pwr (s : State) : (phyOff s).pwr = s.pwr := by simp only [phyOff]
@[simp] theorem phyOff_upd (s : State) : (phyOff s).upd = s.upd := by simp only [phyOff]
@[simp] theorem phyOff_flash (s : State) : (phyOff s).flash = s.flash := by simp only [phyOff]
@[simp] theorem phyOff_fuse (s : State) : (phyOff s).fuse = s.fuse := by simp only [phyOff]
@[simp] theorem phyOff_cvus (s : State) : (phyOff s).cvus = s.cvus := by simp only [phyOff]
@[simp] theorem phyOff_pending (s : State) : (phyOff s).pending = s.pending := by simp only [phyOff]

/-! ### dequeue -/

@[simp] theorem dequeue_mode (m : Msg) (s : State) : (dequeue m s).mode = s.mode := by unfold dequeue; split <;> simp
@[simp] theorem dequeue_time (m : Msg) (s : State) : (dequeue m s).time = s.time := by unfold dequeue; split <;> simp
@[simp] theorem dequeue_log (m : Msg) (s : State) : (dequeue m s).log = s.log := by unfold dequeue; split <;> simp
@[simp] theorem dequeue_cfg (m : Msg) (s : State) : (dequeue m s).cfg = s.cfg := by unfold dequeue; split <;> simp
@[simp] theorem dequeue_arr (m : Msg) (s : State) : (dequeue m s).arr = s.arr := by unfold dequeue; split <;> simp
@[simp] theorem dequeue_sched (m : Msg) (s : State) : (dequeue m s).sched = s.sched := by unfold dequeue; split <;> simp
@[simp] theorem dequeue_comp (m : Msg) (s : State) : (dequeue m s).comp = s.comp := by unfold dequeue; split <;> simp
@[simp] theorem dequeue_mon (m : Msg) (s : State) : (dequeue m s).mon = s.mon := by unfold dequeue; split <;> simp
@[simp] theorem dequeue_gov (m : Msg) (s : State) : (dequeue m s).gov = s.gov := by unfold dequeue; split <;> simp
@[simp] theorem dequeue_drw (m : Msg) (s : State) : (dequeue m s).drw = s.drw := by unfold dequeue; split <;> simp
@[simp] theorem dequeue_sync (m : Msg) (s : State) : (dequeue m s).sync = s.sync := by unfold dequeue; split <;> simp
@[simp] theorem dequeue_flt (m : Msg) (s : State) : (dequeue m s).flt = s.flt := by unfold dequeue; split <;> simp
@[simp] theorem dequeue_dim (m : Msg) (s : State) : (dequeue m s).dim = s.dim := by unfold dequeue; split <;> simp
@[simp] theorem dequeue_rake (m : Msg) (s : State) : (dequeue m s).rake = s.rake := by unfold dequeue; split <;> simp
@[simp] theorem dequeue_conv (m : Msg) (s : State) : (dequeue m s).conv = s.conv := by unfold dequeue; split <;> simp
@[simp] theorem dequeue_link (m : Msg) (s : State) : (dequeue m s).link = s.link := by unfold dequeue; split <;> simp
@[simp] theorem dequeue_can (m : Msg) (s : State) : (dequeue m s).can = s.can := by unfold dequeue; split <;> simp
@[simp] theorem dequeue_mp (m : Msg) (s : State) : (dequeue m s).mp = s.mp := by unfold dequeue; split <;> simp
@[simp] theorem dequeue_dram (m : Msg) (s : State) : (dequeue m s).dram = s.dram := by unfold dequeue; split <;> simp
@[simp] theorem dequeue_pwr (m : Msg) (s : State) : (dequeue m s).pwr = s.pwr := by unfold dequeue; split <;> simp
@[simp] theorem dequeue_upd (m : Msg) (s : State) : (dequeue m s).upd = s.upd := by unfold dequeue; split <;> simp
@[simp] theorem dequeue_flash (m : Msg) (s : State) : (dequeue m s).flash = s.flash := by unfold dequeue; split <;> simp
@[simp] theorem dequeue_fuse (m : Msg) (s : State) : (dequeue m s).fuse = s.fuse := by unfold dequeue; split <;> simp
@[simp] theorem dequeue_cvus (m : Msg) (s : State) : (dequeue m s).cvus = s.cvus := by unfold dequeue; split <;> simp
@[simp] theorem dequeue_pending (m : Msg) (s : State) : (dequeue m s).pending = s.pending := by unfold dequeue; split <;> simp

/-! ### noteServed -/

@[simp] theorem noteServed_mode (m : Msg) (status : Nat) (key : Option (List Byte)) (old s : State) : (noteServed m status key old s).mode = s.mode :=
    by simp only [noteServed]
@[simp] theorem noteServed_time (m : Msg) (status : Nat) (key : Option (List Byte)) (old s : State) : (noteServed m status key old s).time = s.time :=
    by simp only [noteServed]
@[simp] theorem noteServed_log (m : Msg) (status : Nat) (key : Option (List Byte)) (old s : State) : (noteServed m status key old s).log = s.log :=
    by simp only [noteServed]
@[simp] theorem noteServed_cfg (m : Msg) (status : Nat) (key : Option (List Byte)) (old s : State) : (noteServed m status key old s).cfg = s.cfg :=
    by simp only [noteServed]
@[simp] theorem noteServed_arr (m : Msg) (status : Nat) (key : Option (List Byte)) (old s : State) : (noteServed m status key old s).arr = s.arr :=
    by simp only [noteServed]
@[simp] theorem noteServed_sched (m : Msg) (status : Nat) (key : Option (List Byte)) (old s : State) : (noteServed m status key old s).sched = s.sched :=
    by simp only [noteServed]
@[simp] theorem noteServed_comp (m : Msg) (status : Nat) (key : Option (List Byte)) (old s : State) : (noteServed m status key old s).comp = s.comp :=
    by simp only [noteServed]
@[simp] theorem noteServed_mon (m : Msg) (status : Nat) (key : Option (List Byte)) (old s : State) : (noteServed m status key old s).mon = s.mon :=
    by simp only [noteServed]
@[simp] theorem noteServed_gov (m : Msg) (status : Nat) (key : Option (List Byte)) (old s : State) : (noteServed m status key old s).gov = s.gov :=
    by simp only [noteServed]
@[simp] theorem noteServed_drw (m : Msg) (status : Nat) (key : Option (List Byte)) (old s : State) : (noteServed m status key old s).drw = s.drw :=
    by simp only [noteServed]
@[simp] theorem noteServed_sync (m : Msg) (status : Nat) (key : Option (List Byte)) (old s : State) : (noteServed m status key old s).sync = s.sync :=
    by simp only [noteServed]
@[simp] theorem noteServed_flt (m : Msg) (status : Nat) (key : Option (List Byte)) (old s : State) : (noteServed m status key old s).flt = s.flt :=
    by simp only [noteServed]
@[simp] theorem noteServed_dim (m : Msg) (status : Nat) (key : Option (List Byte)) (old s : State) : (noteServed m status key old s).dim = s.dim :=
    by simp only [noteServed]
@[simp] theorem noteServed_rake (m : Msg) (status : Nat) (key : Option (List Byte)) (old s : State) : (noteServed m status key old s).rake = s.rake :=
    by simp only [noteServed]
@[simp] theorem noteServed_conv (m : Msg) (status : Nat) (key : Option (List Byte)) (old s : State) : (noteServed m status key old s).conv = s.conv :=
    by simp only [noteServed]
@[simp] theorem noteServed_link (m : Msg) (status : Nat) (key : Option (List Byte)) (old s : State) : (noteServed m status key old s).link = s.link :=
    by simp only [noteServed]
@[simp] theorem noteServed_can (m : Msg) (status : Nat) (key : Option (List Byte)) (old s : State) : (noteServed m status key old s).can = s.can :=
    by simp only [noteServed]
@[simp] theorem noteServed_gate (m : Msg) (status : Nat) (key : Option (List Byte)) (old s : State) : (noteServed m status key old s).gate = s.gate :=
    by simp only [noteServed]
@[simp] theorem noteServed_dram (m : Msg) (status : Nat) (key : Option (List Byte)) (old s : State) : (noteServed m status key old s).dram = s.dram :=
    by simp only [noteServed]
@[simp] theorem noteServed_pwr (m : Msg) (status : Nat) (key : Option (List Byte)) (old s : State) : (noteServed m status key old s).pwr = s.pwr :=
    by simp only [noteServed]
@[simp] theorem noteServed_upd (m : Msg) (status : Nat) (key : Option (List Byte)) (old s : State) : (noteServed m status key old s).upd = s.upd :=
    by simp only [noteServed]
@[simp] theorem noteServed_flash (m : Msg) (status : Nat) (key : Option (List Byte)) (old s : State) : (noteServed m status key old s).flash = s.flash :=
    by simp only [noteServed]
@[simp] theorem noteServed_fuse (m : Msg) (status : Nat) (key : Option (List Byte)) (old s : State) : (noteServed m status key old s).fuse = s.fuse :=
    by simp only [noteServed]
@[simp] theorem noteServed_cvus (m : Msg) (status : Nat) (key : Option (List Byte)) (old s : State) : (noteServed m status key old s).cvus = s.cvus :=
    by simp only [noteServed]
@[simp] theorem noteServed_pending (m : Msg) (status : Nat) (key : Option (List Byte)) (old s : State) : (noteServed m status key old s).pending = s.pending :=
    by simp only [noteServed]

/-! ### answered -/

@[simp] theorem answered_mode (m : Msg) (status detail : Nat) (data : List Byte) (s : State) : (answered m status detail data s).mode = s.mode :=
    by unfold answered; (repeat' split) <;> simp
@[simp] theorem answered_time (m : Msg) (status detail : Nat) (data : List Byte) (s : State) : (answered m status detail data s).time = s.time :=
    by unfold answered; (repeat' split) <;> simp
@[simp] theorem answered_cfg (m : Msg) (status detail : Nat) (data : List Byte) (s : State) : (answered m status detail data s).cfg = s.cfg :=
    by unfold answered; (repeat' split) <;> simp
@[simp] theorem answered_arr (m : Msg) (status detail : Nat) (data : List Byte) (s : State) : (answered m status detail data s).arr = s.arr :=
    by unfold answered; (repeat' split) <;> simp
@[simp] theorem answered_sched (m : Msg) (status detail : Nat) (data : List Byte) (s : State) : (answered m status detail data s).sched = s.sched :=
    by unfold answered; (repeat' split) <;> simp
@[simp] theorem answered_comp (m : Msg) (status detail : Nat) (data : List Byte) (s : State) : (answered m status detail data s).comp = s.comp :=
    by unfold answered; (repeat' split) <;> simp
@[simp] theorem answered_mon (m : Msg) (status detail : Nat) (data : List Byte) (s : State) : (answered m status detail data s).mon = s.mon :=
    by unfold answered; (repeat' split) <;> simp
@[simp] theorem answered_gov (m : Msg) (status detail : Nat) (data : List Byte) (s : State) : (answered m status detail data s).gov = s.gov :=
    by unfold answered; (repeat' split) <;> simp
@[simp] theorem answered_sync (m : Msg) (status detail : Nat) (data : List Byte) (s : State) : (answered m status detail data s).sync = s.sync :=
    by unfold answered; (repeat' split) <;> simp
@[simp] theorem answered_flt (m : Msg) (status detail : Nat) (data : List Byte) (s : State) : (answered m status detail data s).flt = s.flt :=
    by unfold answered; (repeat' split) <;> simp
@[simp] theorem answered_dim (m : Msg) (status detail : Nat) (data : List Byte) (s : State) : (answered m status detail data s).dim = s.dim :=
    by unfold answered; (repeat' split) <;> simp
@[simp] theorem answered_rake (m : Msg) (status detail : Nat) (data : List Byte) (s : State) : (answered m status detail data s).rake = s.rake :=
    by unfold answered; (repeat' split) <;> simp
@[simp] theorem answered_conv (m : Msg) (status detail : Nat) (data : List Byte) (s : State) : (answered m status detail data s).conv = s.conv :=
    by unfold answered; (repeat' split) <;> simp
@[simp] theorem answered_dram (m : Msg) (status detail : Nat) (data : List Byte) (s : State) : (answered m status detail data s).dram = s.dram :=
    by unfold answered; (repeat' split) <;> simp
@[simp] theorem answered_pwr (m : Msg) (status detail : Nat) (data : List Byte) (s : State) : (answered m status detail data s).pwr = s.pwr :=
    by unfold answered; (repeat' split) <;> simp
@[simp] theorem answered_upd (m : Msg) (status detail : Nat) (data : List Byte) (s : State) : (answered m status detail data s).upd = s.upd :=
    by unfold answered; (repeat' split) <;> simp
@[simp] theorem answered_flash (m : Msg) (status detail : Nat) (data : List Byte) (s : State) : (answered m status detail data s).flash = s.flash :=
    by unfold answered; (repeat' split) <;> simp
@[simp] theorem answered_fuse (m : Msg) (status detail : Nat) (data : List Byte) (s : State) : (answered m status detail data s).fuse = s.fuse :=
    by unfold answered; (repeat' split) <;> simp
@[simp] theorem answered_cvus (m : Msg) (status detail : Nat) (data : List Byte) (s : State) : (answered m status detail data s).cvus = s.cvus :=
    by unfold answered; (repeat' split) <;> simp
@[simp] theorem answered_pending (m : Msg) (status detail : Nat) (data : List Byte) (s : State) : (answered m status detail data s).pending = s.pending :=
    by unfold answered; (repeat' split) <;> simp

/-! ### startLong -/

@[simp] theorem startLong_mode (m : Msg) (s : State) : (startLong m s).mode = s.mode := by simp only [startLong]
@[simp] theorem startLong_time (m : Msg) (s : State) : (startLong m s).time = s.time := by simp only [startLong]
@[simp] theorem startLong_log (m : Msg) (s : State) : (startLong m s).log = s.log := by simp only [startLong]
@[simp] theorem startLong_cfg (m : Msg) (s : State) : (startLong m s).cfg = s.cfg := by simp only [startLong]
@[simp] theorem startLong_arr (m : Msg) (s : State) : (startLong m s).arr = s.arr := by simp only [startLong]
@[simp] theorem startLong_sched (m : Msg) (s : State) : (startLong m s).sched = s.sched := by simp only [startLong]
@[simp] theorem startLong_comp (m : Msg) (s : State) : (startLong m s).comp = s.comp := by simp only [startLong]
@[simp] theorem startLong_mon (m : Msg) (s : State) : (startLong m s).mon = s.mon := by simp only [startLong]
@[simp] theorem startLong_gov (m : Msg) (s : State) : (startLong m s).gov = s.gov := by simp only [startLong]
@[simp] theorem startLong_drw (m : Msg) (s : State) : (startLong m s).drw = s.drw := by simp only [startLong]
@[simp] theorem startLong_sync (m : Msg) (s : State) : (startLong m s).sync = s.sync := by simp only [startLong]
@[simp] theorem startLong_flt (m : Msg) (s : State) : (startLong m s).flt = s.flt := by simp only [startLong]
@[simp] theorem startLong_dim (m : Msg) (s : State) : (startLong m s).dim = s.dim := by simp only [startLong]
@[simp] theorem startLong_rake (m : Msg) (s : State) : (startLong m s).rake = s.rake := by simp only [startLong]
@[simp] theorem startLong_conv (m : Msg) (s : State) : (startLong m s).conv = s.conv := by simp only [startLong]
@[simp] theorem startLong_link (m : Msg) (s : State) : (startLong m s).link = s.link := by simp only [startLong]
@[simp] theorem startLong_can (m : Msg) (s : State) : (startLong m s).can = s.can := by simp only [startLong]
@[simp] theorem startLong_gate (m : Msg) (s : State) : (startLong m s).gate = s.gate := by simp only [startLong]
@[simp] theorem startLong_dram (m : Msg) (s : State) : (startLong m s).dram = s.dram := by simp only [startLong]
@[simp] theorem startLong_pwr (m : Msg) (s : State) : (startLong m s).pwr = s.pwr := by simp only [startLong]
@[simp] theorem startLong_upd (m : Msg) (s : State) : (startLong m s).upd = s.upd := by simp only [startLong]
@[simp] theorem startLong_flash (m : Msg) (s : State) : (startLong m s).flash = s.flash := by simp only [startLong]
@[simp] theorem startLong_fuse (m : Msg) (s : State) : (startLong m s).fuse = s.fuse := by simp only [startLong]
@[simp] theorem startLong_cvus (m : Msg) (s : State) : (startLong m s).cvus = s.cvus := by simp only [startLong]
@[simp] theorem startLong_pending (m : Msg) (s : State) : (startLong m s).pending = s.pending := by simp only [startLong]

/-! ### takeSlTrim -/

@[simp] theorem takeSlTrim_mode (s : State) : (takeSlTrim s).mode = s.mode := by simp only [takeSlTrim]
@[simp] theorem takeSlTrim_time (s : State) : (takeSlTrim s).time = s.time := by simp only [takeSlTrim]
@[simp] theorem takeSlTrim_log (s : State) : (takeSlTrim s).log = s.log := by simp only [takeSlTrim]
@[simp] theorem takeSlTrim_cfg (s : State) : (takeSlTrim s).cfg = s.cfg := by simp only [takeSlTrim]
@[simp] theorem takeSlTrim_sched (s : State) : (takeSlTrim s).sched = s.sched := by simp only [takeSlTrim]
@[simp] theorem takeSlTrim_comp (s : State) : (takeSlTrim s).comp = s.comp := by simp only [takeSlTrim]
@[simp] theorem takeSlTrim_mon (s : State) : (takeSlTrim s).mon = s.mon := by simp only [takeSlTrim]
@[simp] theorem takeSlTrim_gov (s : State) : (takeSlTrim s).gov = s.gov := by simp only [takeSlTrim]
@[simp] theorem takeSlTrim_drw (s : State) : (takeSlTrim s).drw = s.drw := by simp only [takeSlTrim]
@[simp] theorem takeSlTrim_sync (s : State) : (takeSlTrim s).sync = s.sync := by simp only [takeSlTrim]
@[simp] theorem takeSlTrim_flt (s : State) : (takeSlTrim s).flt = s.flt := by simp only [takeSlTrim]
@[simp] theorem takeSlTrim_dim (s : State) : (takeSlTrim s).dim = s.dim := by simp only [takeSlTrim]
@[simp] theorem takeSlTrim_rake (s : State) : (takeSlTrim s).rake = s.rake := by simp only [takeSlTrim]
@[simp] theorem takeSlTrim_conv (s : State) : (takeSlTrim s).conv = s.conv := by simp only [takeSlTrim]
@[simp] theorem takeSlTrim_link (s : State) : (takeSlTrim s).link = s.link := by simp only [takeSlTrim]
@[simp] theorem takeSlTrim_can (s : State) : (takeSlTrim s).can = s.can := by simp only [takeSlTrim]
@[simp] theorem takeSlTrim_gate (s : State) : (takeSlTrim s).gate = s.gate := by simp only [takeSlTrim]
@[simp] theorem takeSlTrim_mp (s : State) : (takeSlTrim s).mp = s.mp := by simp only [takeSlTrim]
@[simp] theorem takeSlTrim_dram (s : State) : (takeSlTrim s).dram = s.dram := by simp only [takeSlTrim]
@[simp] theorem takeSlTrim_pwr (s : State) : (takeSlTrim s).pwr = s.pwr := by simp only [takeSlTrim]
@[simp] theorem takeSlTrim_upd (s : State) : (takeSlTrim s).upd = s.upd := by simp only [takeSlTrim]
@[simp] theorem takeSlTrim_flash (s : State) : (takeSlTrim s).flash = s.flash := by simp only [takeSlTrim]
@[simp] theorem takeSlTrim_fuse (s : State) : (takeSlTrim s).fuse = s.fuse := by simp only [takeSlTrim]
@[simp] theorem takeSlTrim_cvus (s : State) : (takeSlTrim s).cvus = s.cvus := by simp only [takeSlTrim]
@[simp] theorem takeSlTrim_pending (s : State) : (takeSlTrim s).pending = s.pending := by simp only [takeSlTrim]

/-! ### setCalData -/

@[simp] theorem setCalData_mode (c : CalData) (s : State) : (setCalData c s).mode = s.mode :=
    by unfold setCalData; dsimp only; (repeat' split) <;> simp
@[simp] theorem setCalData_time (c : CalData) (s : State) : (setCalData c s).time = s.time :=
    by unfold setCalData; dsimp only; (repeat' split) <;> simp
@[simp] theorem setCalData_log (c : CalData) (s : State) : (setCalData c s).log = s.log :=
    by unfold setCalData; dsimp only; (repeat' split) <;> simp
@[simp] theorem setCalData_cfg (c : CalData) (s : State) : (setCalData c s).cfg = s.cfg :=
    by unfold setCalData; dsimp only; (repeat' split) <;> simp
@[simp] theorem setCalData_sched (c : CalData) (s : State) : (setCalData c s).sched = s.sched :=
    by unfold setCalData; dsimp only; (repeat' split) <;> simp
@[simp] theorem setCalData_comp (c : CalData) (s : State) : (setCalData c s).comp = s.comp :=
    by unfold setCalData; dsimp only; (repeat' split) <;> simp
@[simp] theorem setCalData_mon (c : CalData) (s : State) : (setCalData c s).mon = s.mon :=
    by unfold setCalData; dsimp only; (repeat' split) <;> simp
@[simp] theorem setCalData_gov (c : CalData) (s : State) : (setCalData c s).gov = s.gov :=
    by unfold setCalData; dsimp only; (repeat' split) <;> simp
@[simp] theorem setCalData_drw (c : CalData) (s : State) : (setCalData c s).drw = s.drw :=
    by unfold setCalData; dsimp only; (repeat' split) <;> simp
@[simp] theorem setCalData_sync (c : CalData) (s : State) : (setCalData c s).sync = s.sync :=
    by unfold setCalData; dsimp only; (repeat' split) <;> simp
@[simp] theorem setCalData_flt (c : CalData) (s : State) : (setCalData c s).flt = s.flt :=
    by unfold setCalData; dsimp only; (repeat' split) <;> simp
@[simp] theorem setCalData_dim (c : CalData) (s : State) : (setCalData c s).dim = s.dim :=
    by unfold setCalData; dsimp only; (repeat' split) <;> simp
@[simp] theorem setCalData_rake (c : CalData) (s : State) : (setCalData c s).rake = s.rake :=
    by unfold setCalData; dsimp only; (repeat' split) <;> simp
@[simp] theorem setCalData_link (c : CalData) (s : State) : (setCalData c s).link = s.link :=
    by unfold setCalData; dsimp only; (repeat' split) <;> simp
@[simp] theorem setCalData_can (c : CalData) (s : State) : (setCalData c s).can = s.can :=
    by unfold setCalData; dsimp only; (repeat' split) <;> simp
@[simp] theorem setCalData_gate (c : CalData) (s : State) : (setCalData c s).gate = s.gate :=
    by unfold setCalData; dsimp only; (repeat' split) <;> simp
@[simp] theorem setCalData_mp (c : CalData) (s : State) : (setCalData c s).mp = s.mp :=
    by unfold setCalData; dsimp only; (repeat' split) <;> simp
@[simp] theorem setCalData_dram (c : CalData) (s : State) : (setCalData c s).dram = s.dram :=
    by unfold setCalData; dsimp only; (repeat' split) <;> simp
@[simp] theorem setCalData_pwr (c : CalData) (s : State) : (setCalData c s).pwr = s.pwr :=
    by unfold setCalData; dsimp only; (repeat' split) <;> simp
@[simp] theorem setCalData_upd (c : CalData) (s : State) : (setCalData c s).upd = s.upd :=
    by unfold setCalData; dsimp only; (repeat' split) <;> simp
@[simp] theorem setCalData_flash (c : CalData) (s : State) : (setCalData c s).flash = s.flash :=
    by unfold setCalData; dsimp only; (repeat' split) <;> simp
@[simp] theorem setCalData_fuse (c : CalData) (s : State) : (setCalData c s).fuse = s.fuse :=
    by unfold setCalData; dsimp only; (repeat' split) <;> simp
@[simp] theorem setCalData_cvus (c : CalData) (s : State) : (setCalData c s).cvus = s.cvus :=
    by unfold setCalData; dsimp only; (repeat' split) <;> simp
@[simp] theorem setCalData_pending (c : CalData) (s : State) : (setCalData c s).pending = s.pending :=
    by unfold setCalData; dsimp only; (repeat' split) <;> simp

/-! ### busyReply -/

@[simp] theorem busyReply_mode (m : Msg) (s : State) : (busyReply m s).mode = s.mode := by unfold busyReply; split <;> simp
@[simp] theorem busyReply_time (m : Msg) (s : State) : (busyReply m s).time = s.time := by unfold busyReply; split <;> simp
@[simp] theorem busyReply_cfg (m : Msg) (s : State) : (busyReply m s).cfg = s.cfg := by unfold busyReply; split <;> simp
@[simp] theorem busyReply_arr (m : Msg) (s : State) : (busyReply m s).arr = s.arr := by unfold busyReply; split <;> simp
@[simp] theorem busyReply_sched (m : Msg) (s : State) : (busyReply m s).sched = s.sched := by unfold busyReply; split <;> simp
@[simp] theorem busyReply_comp (m : Msg) (s : State) : (busyReply m s).comp = s.comp := by unfold busyReply; split <;> simp
@[simp] theorem busyReply_mon (m : Msg) (s : State) : (busyReply m s).mon = s.mon := by unfold busyReply; split <;> simp
@[simp] theorem busyReply_gov (m : Msg) (s : State) : (busyReply m s).gov = s.gov := by unfold busyReply; split <;> simp
@[simp] theorem busyReply_sync (m : Msg) (s : State) : (busyReply m s).sync = s.sync := by unfold busyReply; split <;> simp
@[simp] theorem busyReply_flt (m : Msg) (s : State) : (busyReply m s).flt = s.flt := by unfold busyReply; split <;> simp
@[simp] theorem busyReply_dim (m : Msg) (s : State) : (busyReply m s).dim = s.dim := by unfold busyReply; split <;> simp
@[simp] theorem busyReply_rake (m : Msg) (s : State) : (busyReply m s).rake = s.rake := by unfold busyReply; split <;> simp
@[simp] theorem busyReply_conv (m : Msg) (s : State) : (busyReply m s).conv = s.conv := by unfold busyReply; split <;> simp
@[simp] theorem busyReply_mp (m : Msg) (s : State) : (busyReply m s).mp = s.mp := by unfold busyReply; split <;> simp
@[simp] theorem busyReply_dram (m : Msg) (s : State) : (busyReply m s).dram = s.dram := by unfold busyReply; split <;> simp
@[simp] theorem busyReply_pwr (m : Msg) (s : State) : (busyReply m s).pwr = s.pwr := by unfold busyReply; split <;> simp
@[simp] theorem busyReply_upd (m : Msg) (s : State) : (busyReply m s).upd = s.upd := by unfold busyReply; split <;> simp
@[simp] theorem busyReply_flash (m : Msg) (s : State) : (busyReply m s).flash = s.flash := by unfold busyReply; split <;> simp
@[simp] theorem busyReply_fuse (m : Msg) (s : State) : (busyReply m s).fuse = s.fuse := by unfold busyReply; split <;> simp
@[simp] theorem busyReply_cvus (m : Msg) (s : State) : (busyReply m s).cvus = s.cvus := by unfold busyReply; split <;> simp
@[simp] theorem busyReply_pending (m : Msg) (s : State) : (busyReply m s).pending = s.pending := by unfold busyReply; split <;> simp

/-! ### replaceReply -/

@[simp] theorem replaceReply_mode (old new : Reply) (s : State) : (replaceReply old new s).mode = s.mode :=
    by unfold replaceReply; split <;> simp
@[simp] theorem replaceReply_time (old new : Reply) (s : State) : (replaceReply old new s).time = s.time :=
    by unfold replaceReply; split <;> simp
@[simp] theorem replaceReply_log (old new : Reply) (s : State) : (replaceReply old new s).log = s.log :=
    by unfold replaceReply; split <;> simp
@[simp] theorem replaceReply_cfg (old new : Reply) (s : State) : (replaceReply old new s).cfg = s.cfg :=
    by unfold replaceReply; split <;> simp
@[simp] theorem replaceReply_arr (old new : Reply) (s : State) : (replaceReply old new s).arr = s.arr :=
    by unfold replaceReply; split <;> simp
@[simp] theorem replaceReply_sched (old new : Reply) (s : State) : (replaceReply old new s).sched = s.sched :=
    by unfold replaceReply; split <;> simp
@[simp] theorem replaceReply_comp (old new : Reply) (s : State) : (replaceReply old new s).comp = s.comp :=
    by unfold replaceReply; split <;> simp
@[simp] theorem replaceReply_mon (old new : Reply) (s : State) : (replaceReply old new s).mon = s.mon :=
    by unfold replaceReply; split <;> simp
@[simp] theorem replaceReply_gov (old new : Reply) (s : State) : (replaceReply old new s).gov = s.gov :=
    by unfold replaceReply; split <;> simp
@[simp] theorem replaceReply_drw (old new : Reply) (s : State) : (replaceReply old new s).drw = s.drw :=
    by unfold replaceReply; split <;> simp
@[simp] theorem replaceReply_sync (old new : Reply) (s : State) : (replaceReply old new s).sync = s.sync :=
    by unfold replaceReply; split <;> simp
@[simp] theorem replaceReply_flt (old new : Reply) (s : State) : (replaceReply old new s).flt = s.flt :=
    by unfold replaceReply; split <;> simp
@[simp] theorem replaceReply_dim (old new : Reply) (s : State) : (replaceReply old new s).dim = s.dim :=
    by unfold replaceReply; split <;> simp
@[simp] theorem replaceReply_rake (old new : Reply) (s : State) : (replaceReply old new s).rake = s.rake :=
    by unfold replaceReply; split <;> simp
@[simp] theorem replaceReply_conv (old new : Reply) (s : State) : (replaceReply old new s).conv = s.conv :=
    by unfold replaceReply; split <;> simp
@[simp] theorem replaceReply_link (old new : Reply) (s : State) : (replaceReply old new s).link = s.link :=
    by unfold replaceReply; split <;> simp
@[simp] theorem replaceReply_mp (old new : Reply) (s : State) : (replaceReply old new s).mp = s.mp := by unfold replaceReply; split <;> simp
@[simp] theorem replaceReply_dram (old new : Reply) (s : State) : (replaceReply old new s).dram = s.dram :=
    by unfold replaceReply; split <;> simp
@[simp] theorem replaceReply_pwr (old new : Reply) (s : State) : (replaceReply old new s).pwr = s.pwr :=
    by unfold replaceReply; split <;> simp
@[simp] theorem replaceReply_upd (old new : Reply) (s : State) : (replaceReply old new s).upd = s.upd :=
    by unfold replaceReply; split <;> simp
@[simp] theorem replaceReply_flash (old new : Reply) (s : State) : (replaceReply old new s).flash = s.flash :=
    by unfold replaceReply; split <;> simp
@[simp] theorem replaceReply_fuse (old new : Reply) (s : State) : (replaceReply old new s).fuse = s.fuse :=
    by unfold replaceReply; split <;> simp
@[simp] theorem replaceReply_cvus (old new : Reply) (s : State) : (replaceReply old new s).cvus = s.cvus :=
    by unfold replaceReply; split <;> simp
@[simp] theorem replaceReply_pending (old new : Reply) (s : State) : (replaceReply old new s).pending = s.pending :=
    by unfold replaceReply; split <;> simp

/-! ### updMon -/

@[simp] theorem updMon_mode (frame : Nat) (f : MonFrame → MonFrame) (s : State) : (updMon frame f s).mode = s.mode := by simp only [updMon]
@[simp] theorem updMon_time (frame : Nat) (f : MonFrame → MonFrame) (s : State) : (updMon frame f s).time = s.time := by simp only [updMon]
@[simp] theorem updMon_log (frame : Nat) (f : MonFrame → MonFrame) (s : State) : (updMon frame f s).log = s.log := by simp only [updMon]
@[simp] theorem updMon_cfg (frame : Nat) (f : MonFrame → MonFrame) (s : State) : (updMon frame f s).cfg = s.cfg := by simp only [updMon]
@[simp] theorem updMon_arr (frame : Nat) (f : MonFrame → MonFrame) (s : State) : (updMon frame f s).arr = s.arr := by simp only [updMon]
@[simp] theorem updMon_sched (frame : Nat) (f : MonFrame → MonFrame) (s : State) : (updMon frame f s).sched = s.sched :=
    by simp only [updMon]
@[simp] theorem updMon_comp (frame : Nat) (f : MonFrame → MonFrame) (s : State) : (updMon frame f s).comp = s.comp := by simp only [updMon]
@[simp] theorem updMon_gov (frame : Nat) (f : MonFrame → MonFrame) (s : State) : (updMon frame f s).gov = s.gov := by simp only [updMon]
@[simp] theorem updMon_drw (frame : Nat) (f : MonFrame → MonFrame) (s : State) : (updMon frame f s).drw = s.drw := by simp only [updMon]
@[simp] theorem updMon_sync (frame : Nat) (f : MonFrame → MonFrame) (s : State) : (updMon frame f s).sync = s.sync := by simp only [updMon]
@[simp] theorem updMon_flt (frame : Nat) (f : MonFrame → MonFrame) (s : State) : (updMon frame f s).flt = s.flt := by simp only [updMon]
@[simp] theorem updMon_dim (frame : Nat) (f : MonFrame → MonFrame) (s : State) : (updMon frame f s).dim = s.dim := by simp only [updMon]
@[simp] theorem updMon_rake (frame : Nat) (f : MonFrame → MonFrame) (s : State) : (updMon frame f s).rake = s.rake := by simp only [updMon]
@[simp] theorem updMon_conv (frame : Nat) (f : MonFrame → MonFrame) (s : State) : (updMon frame f s).conv = s.conv := by simp only [updMon]
@[simp] theorem updMon_link (frame : Nat) (f : MonFrame → MonFrame) (s : State) : (updMon frame f s).link = s.link := by simp only [updMon]
@[simp] theorem updMon_can (frame : Nat) (f : MonFrame → MonFrame) (s : State) : (updMon frame f s).can = s.can := by simp only [updMon]
@[simp] theorem updMon_gate (frame : Nat) (f : MonFrame → MonFrame) (s : State) : (updMon frame f s).gate = s.gate := by simp only [updMon]
@[simp] theorem updMon_mp (frame : Nat) (f : MonFrame → MonFrame) (s : State) : (updMon frame f s).mp = s.mp := by simp only [updMon]
@[simp] theorem updMon_dram (frame : Nat) (f : MonFrame → MonFrame) (s : State) : (updMon frame f s).dram = s.dram := by simp only [updMon]
@[simp] theorem updMon_pwr (frame : Nat) (f : MonFrame → MonFrame) (s : State) : (updMon frame f s).pwr = s.pwr := by simp only [updMon]
@[simp] theorem updMon_upd (frame : Nat) (f : MonFrame → MonFrame) (s : State) : (updMon frame f s).upd = s.upd := by simp only [updMon]
@[simp] theorem updMon_flash (frame : Nat) (f : MonFrame → MonFrame) (s : State) : (updMon frame f s).flash = s.flash :=
    by simp only [updMon]
@[simp] theorem updMon_fuse (frame : Nat) (f : MonFrame → MonFrame) (s : State) : (updMon frame f s).fuse = s.fuse := by simp only [updMon]
@[simp] theorem updMon_cvus (frame : Nat) (f : MonFrame → MonFrame) (s : State) : (updMon frame f s).cvus = s.cvus := by simp only [updMon]
@[simp] theorem updMon_pending (frame : Nat) (f : MonFrame → MonFrame) (s : State) : (updMon frame f s).pending = s.pending :=
    by simp only [updMon]

/-! ### updCur -/

@[simp] theorem updCur_mode (f : CompFrame → CompFrame) (s : State) : (updCur f s).mode = s.mode := by simp only [updCur]
@[simp] theorem updCur_time (f : CompFrame → CompFrame) (s : State) : (updCur f s).time = s.time := by simp only [updCur]
@[simp] theorem updCur_log (f : CompFrame → CompFrame) (s : State) : (updCur f s).log = s.log := by simp only [updCur]
@[simp] theorem updCur_cfg (f : CompFrame → CompFrame) (s : State) : (updCur f s).cfg = s.cfg := by simp only [updCur]
@[simp] theorem updCur_arr (f : CompFrame → CompFrame) (s : State) : (updCur f s).arr = s.arr := by simp only [updCur]
@[simp] theorem updCur_comp (f : CompFrame → CompFrame) (s : State) : (updCur f s).comp = s.comp := by simp only [updCur]
@[simp] theorem updCur_mon (f : CompFrame → CompFrame) (s : State) : (updCur f s).mon = s.mon := by simp only [updCur]
@[simp] theorem updCur_gov (f : CompFrame → CompFrame) (s : State) : (updCur f s).gov = s.gov := by simp only [updCur]
@[simp] theorem updCur_drw (f : CompFrame → CompFrame) (s : State) : (updCur f s).drw = s.drw := by simp only [updCur]
@[simp] theorem updCur_sync (f : CompFrame → CompFrame) (s : State) : (updCur f s).sync = s.sync := by simp only [updCur]
@[simp] theorem updCur_flt (f : CompFrame → CompFrame) (s : State) : (updCur f s).flt = s.flt := by simp only [updCur]
@[simp] theorem updCur_dim (f : CompFrame → CompFrame) (s : State) : (updCur f s).dim = s.dim := by simp only [updCur]
@[simp] theorem updCur_rake (f : CompFrame → CompFrame) (s : State) : (updCur f s).rake = s.rake := by simp only [updCur]
@[simp] theorem updCur_conv (f : CompFrame → CompFrame) (s : State) : (updCur f s).conv = s.conv := by simp only [updCur]
@[simp] theorem updCur_link (f : CompFrame → CompFrame) (s : State) : (updCur f s).link = s.link := by simp only [updCur]
@[simp] theorem updCur_can (f : CompFrame → CompFrame) (s : State) : (updCur f s).can = s.can := by simp only [updCur]
@[simp] theorem updCur_gate (f : CompFrame → CompFrame) (s : State) : (updCur f s).gate = s.gate := by simp only [updCur]
@[simp] theorem updCur_mp (f : CompFrame → CompFrame) (s : State) : (updCur f s).mp = s.mp := by simp only [updCur]
@[simp] theorem updCur_dram (f : CompFrame → CompFrame) (s : State) : (updCur f s).dram = s.dram := by simp only [updCur]
@[simp] theorem updCur_pwr (f : CompFrame → CompFrame) (s : State) : (updCur f s).pwr = s.pwr := by simp only [updCur]
@[simp] theorem updCur_upd (f : CompFrame → CompFrame) (s : State) : (updCur f s).upd = s.upd := by simp only [updCur]
@[simp] theorem updCur_flash (f : CompFrame → CompFrame) (s : State) : (updCur f s).flash = s.flash := by simp only [updCur]
@[simp] theorem updCur_fuse (f : CompFrame → CompFrame) (s : State) : (updCur f s).fuse = s.fuse := by simp only [updCur]
@[simp] theorem updCur_cvus (f : CompFrame → CompFrame) (s : State) : (updCur f s).cvus = s.cvus := by simp only [updCur]
@[simp] theorem updCur_pending (f : CompFrame → CompFrame) (s : State) : (updCur f s).pending = s.pending := by simp only [updCur]

end Sys2Proof.Machine
end

