-- ==== Sys2Proof/Laws/Messages.lean ====
section
/-! SUPPORT. What the service of a message can do: it waits, it is answered by the common checks, or its body decides. -/

namespace Sys2Proof.Machine

theorem serveThen_waits {t : Nat} {r : Row} {ab : State → Bool} {m : Msg} {body : State → Answer} {after : State → State} {s : State}
    (h : isServed r m (ready t s) = false) : serveThen t r ab m body after s = .next (ready t s) := by
  unfold ready at *
  simp [serveThen, h]

theorem serveThen_refused {t : Nat} {r : Row} {ab : State → Bool} {m : Msg} {body : State → Answer} {after : State → State} {s : State}
    {st d : Nat} (h : isServed r m (ready t s) = true) (e : commonCheck r (ab (taken t m s)) m (taken t m s) = some (st, d)) :
    serveThen t r ab m body after s = .next (done m st d [] (taken t m s)) := by
  unfold taken done ready at *
  simp [serveThen, h, e]

theorem serveThen_admitted {t : Nat} {r : Row} {ab : State → Bool} {m : Msg} {body : State → Answer} {after : State → State} {s : State}
    (h : admitted t r ab m s = true) : serveThen t r ab m body after s = match body (taken t m s) with
      | .ok data u => .next (serveUnknown (after (answered m 0 0 data u)))
      | .fail st d => .next (done m st d [] (taken t m s))
      | .failIn st d u => .next (done m st d [] u) := by
  unfold admitted taken done ready at *
  simp only [Bool.and_eq_true, Option.isNone_iff_eq_none] at h
  simp only [serveThen, h.1, h.2, eOk]
  cases body (dequeue m (serveUnknown (advance t s))) <;> rfl

theorem serve_admitted {t : Nat} {r : Row} {ab : State → Bool} {m : Msg} {body : State → Answer} {s : State}
    (h : admitted t r ab m s = true) : serve t r ab m body s = match body (taken t m s) with
      | .ok data u => .next (done m 0 0 data u)
      | .fail st d => .next (done m st d [] (taken t m s))
      | .failIn st d u => .next (done m st d [] u) := serveThen_admitted h

/-- A message of the catalogue that is next is served as it stands: nothing is answered before it. -/
theorem serveUnknown_known {s : State} {m : Msg} (h : nextToServe s = some m) (k : catalogue.contains m.opcode = true) :
    serveUnknown s = s := by
  unfold serveUnknown
  generalize s.gate.sessions.foldl _ 0 = n
  cases n with
  | zero => rfl
  | succ n =>
    have k2 : m.opcode ∈ catalogue := by simpa using k
    simp [serveUnknowns, h, k2]

/-- With nothing waiting, nothing is answered. -/
theorem serveUnknown_none {s : State} (h : nextToServe s = none) : serveUnknown s = s := by
  unfold serveUnknown
  generalize s.gate.sessions.foldl _ 0 = n
  cases n with
  | zero => rfl
  | succ n => simp [serveUnknowns, h]

/-- While the MP does not run, nothing is answered. -/
theorem serveUnknown_stopped {s : State} (h : mpRuns s = false) : serveUnknown s = s := by
  unfold serveUnknown
  generalize s.gate.sessions.foldl _ 0 = n
  cases n with
  | zero => rfl
  | succ n => simp only [serveUnknowns]; split <;> simp [h]

/-! ### What the service leaves as it is -/

@[simp] theorem serveUnknowns_mode (n : Nat) (s : State) : (serveUnknowns n s).mode = s.mode := by
  induction n generalizing s with
  | zero => rfl
  | succ n ih =>
    simp only [serveUnknowns]
    split
    · split <;> simp [ih]
    · rfl

@[simp] theorem serveUnknowns_time (n : Nat) (s : State) : (serveUnknowns n s).time = s.time := by
  induction n generalizing s with
  | zero => rfl
  | succ n ih =>
    simp only [serveUnknowns]
    split
    · split <;> simp [ih]
    · rfl

@[simp] theorem serveUnknowns_cfg (n : Nat) (s : State) : (serveUnknowns n s).cfg = s.cfg := by
  induction n generalizing s with
  | zero => rfl
  | succ n ih =>
    simp only [serveUnknowns]
    split
    · split <;> simp [ih]
    · rfl

@[simp] theorem serveUnknowns_arr (n : Nat) (s : State) : (serveUnknowns n s).arr = s.arr := by
  induction n generalizing s with
  | zero => rfl
  | succ n ih =>
    simp only [serveUnknowns]
    split
    · split <;> simp [ih]
    · rfl

@[simp] theorem serveUnknowns_sched (n : Nat) (s : State) : (serveUnknowns n s).sched = s.sched := by
  induction n generalizing s with
  | zero => rfl
  | succ n ih =>
    simp only [serveUnknowns]
    split
    · split <;> simp [ih]
    · rfl

@[simp] theorem serveUnknowns_comp (n : Nat) (s : State) : (serveUnknowns n s).comp = s.comp := by
  induction n generalizing s with
  | zero => rfl
  | succ n ih =>
    simp only [serveUnknowns]
    split
    · split <;> simp [ih]
    · rfl

@[simp] theorem serveUnknowns_mon (n : Nat) (s : State) : (serveUnknowns n s).mon = s.mon := by
  induction n generalizing s with
  | zero => rfl
  | succ n ih =>
    simp only [serveUnknowns]
    split
    · split <;> simp [ih]
    · rfl

@[simp] theorem serveUnknowns_gov (n : Nat) (s : State) : (serveUnknowns n s).gov = s.gov := by
  induction n generalizing s with
  | zero => rfl
  | succ n ih =>
    simp only [serveUnknowns]
    split
    · split <;> simp [ih]
    · rfl

@[simp] theorem serveUnknowns_sync (n : Nat) (s : State) : (serveUnknowns n s).sync = s.sync := by
  induction n generalizing s with
  | zero => rfl
  | succ n ih =>
    simp only [serveUnknowns]
    split
    · split <;> simp [ih]
    · rfl

@[simp] theorem serveUnknowns_flt (n : Nat) (s : State) : (serveUnknowns n s).flt = s.flt := by
  induction n generalizing s with
  | zero => rfl
  | succ n ih =>
    simp only [serveUnknowns]
    split
    · split <;> simp [ih]
    · rfl

@[simp] theorem serveUnknowns_dim (n : Nat) (s : State) : (serveUnknowns n s).dim = s.dim := by
  induction n generalizing s with
  | zero => rfl
  | succ n ih =>
    simp only [serveUnknowns]
    split
    · split <;> simp [ih]
    · rfl

@[simp] theorem serveUnknowns_rake (n : Nat) (s : State) : (serveUnknowns n s).rake = s.rake := by
  induction n generalizing s with
  | zero => rfl
  | succ n ih =>
    simp only [serveUnknowns]
    split
    · split <;> simp [ih]
    · rfl

@[simp] theorem serveUnknowns_conv (n : Nat) (s : State) : (serveUnknowns n s).conv = s.conv := by
  induction n generalizing s with
  | zero => rfl
  | succ n ih =>
    simp only [serveUnknowns]
    split
    · split <;> simp [ih]
    · rfl

@[simp] theorem serveUnknowns_dram (n : Nat) (s : State) : (serveUnknowns n s).dram = s.dram := by
  induction n generalizing s with
  | zero => rfl
  | succ n ih =>
    simp only [serveUnknowns]
    split
    · split <;> simp [ih]
    · rfl

@[simp] theorem serveUnknowns_pwr (n : Nat) (s : State) : (serveUnknowns n s).pwr = s.pwr := by
  induction n generalizing s with
  | zero => rfl
  | succ n ih =>
    simp only [serveUnknowns]
    split
    · split <;> simp [ih]
    · rfl

@[simp] theorem serveUnknowns_upd (n : Nat) (s : State) : (serveUnknowns n s).upd = s.upd := by
  induction n generalizing s with
  | zero => rfl
  | succ n ih =>
    simp only [serveUnknowns]
    split
    · split <;> simp [ih]
    · rfl

@[simp] theorem serveUnknowns_flash (n : Nat) (s : State) : (serveUnknowns n s).flash = s.flash := by
  induction n generalizing s with
  | zero => rfl
  | succ n ih =>
    simp only [serveUnknowns]
    split
    · split <;> simp [ih]
    · rfl

@[simp] theorem serveUnknowns_fuse (n : Nat) (s : State) : (serveUnknowns n s).fuse = s.fuse := by
  induction n generalizing s with
  | zero => rfl
  | succ n ih =>
    simp only [serveUnknowns]
    split
    · split <;> simp [ih]
    · rfl

@[simp] theorem serveUnknowns_cvus (n : Nat) (s : State) : (serveUnknowns n s).cvus = s.cvus := by
  induction n generalizing s with
  | zero => rfl
  | succ n ih =>
    simp only [serveUnknowns]
    split
    · split <;> simp [ih]
    · rfl

@[simp] theorem serveUnknowns_pending (n : Nat) (s : State) : (serveUnknowns n s).pending = s.pending := by
  induction n generalizing s with
  | zero => rfl
  | succ n ih =>
    simp only [serveUnknowns]
    split
    · split <;> simp [ih]
    · rfl

@[simp] theorem serveUnknown_mode (s : State) : (serveUnknown s).mode = s.mode := serveUnknowns_mode _ s

@[simp] theorem serveUnknown_time (s : State) : (serveUnknown s).time = s.time := serveUnknowns_time _ s

@[simp] theorem serveUnknown_cfg (s : State) : (serveUnknown s).cfg = s.cfg := serveUnknowns_cfg _ s

@[simp] theorem serveUnknown_arr (s : State) : (serveUnknown s).arr = s.arr := serveUnknowns_arr _ s

@[simp] theorem serveUnknown_sched (s : State) : (serveUnknown s).sched = s.sched := serveUnknowns_sched _ s

@[simp] theorem serveUnknown_comp (s : State) : (serveUnknown s).comp = s.comp := serveUnknowns_comp _ s

@[simp] theorem serveUnknown_mon (s : State) : (serveUnknown s).mon = s.mon := serveUnknowns_mon _ s

@[simp] theorem serveUnknown_gov (s : State) : (serveUnknown s).gov = s.gov := serveUnknowns_gov _ s

@[simp] theorem serveUnknown_sync (s : State) : (serveUnknown s).sync = s.sync := serveUnknowns_sync _ s

@[simp] theorem serveUnknown_flt (s : State) : (serveUnknown s).flt = s.flt := serveUnknowns_flt _ s

@[simp] theorem serveUnknown_dim (s : State) : (serveUnknown s).dim = s.dim := serveUnknowns_dim _ s

@[simp] theorem serveUnknown_rake (s : State) : (serveUnknown s).rake = s.rake := serveUnknowns_rake _ s

@[simp] theorem serveUnknown_conv (s : State) : (serveUnknown s).conv = s.conv := serveUnknowns_conv _ s

@[simp] theorem serveUnknown_dram (s : State) : (serveUnknown s).dram = s.dram := serveUnknowns_dram _ s

@[simp] theorem serveUnknown_pwr (s : State) : (serveUnknown s).pwr = s.pwr := serveUnknowns_pwr _ s

@[simp] theorem serveUnknown_upd (s : State) : (serveUnknown s).upd = s.upd := serveUnknowns_upd _ s

@[simp] theorem serveUnknown_flash (s : State) : (serveUnknown s).flash = s.flash := serveUnknowns_flash _ s

@[simp] theorem serveUnknown_fuse (s : State) : (serveUnknown s).fuse = s.fuse := serveUnknowns_fuse _ s

@[simp] theorem serveUnknown_cvus (s : State) : (serveUnknown s).cvus = s.cvus := serveUnknowns_cvus _ s

@[simp] theorem serveUnknown_pending (s : State) : (serveUnknown s).pending = s.pending := serveUnknowns_pending _ s

@[simp] theorem ready_mode (t : Nat) (s : State) : (ready t s).mode = s.mode := by simp [ready]

@[simp] theorem taken_mode (t : Nat) (m : Msg) (s : State) : (taken t m s).mode = s.mode := by simp [taken]

@[simp] theorem done_mode (m : Msg) (st d : Nat) (data : List Byte) (s : State) : (done m st d data s).mode = s.mode := by simp [done]

@[simp] theorem done_time (m : Msg) (st d : Nat) (data : List Byte) (s : State) : (done m st d data s).time = s.time := by simp [done]

@[simp] theorem ready_cfg (t : Nat) (s : State) : (ready t s).cfg = s.cfg := by simp [ready]

@[simp] theorem taken_cfg (t : Nat) (m : Msg) (s : State) : (taken t m s).cfg = s.cfg := by simp [taken]

@[simp] theorem done_cfg (m : Msg) (st d : Nat) (data : List Byte) (s : State) : (done m st d data s).cfg = s.cfg := by simp [done]

@[simp] theorem ready_arr (t : Nat) (s : State) : (ready t s).arr = s.arr := by simp [ready]

@[simp] theorem taken_arr (t : Nat) (m : Msg) (s : State) : (taken t m s).arr = s.arr := by simp [taken]

@[simp] theorem done_arr (m : Msg) (st d : Nat) (data : List Byte) (s : State) : (done m st d data s).arr = s.arr := by simp [done]

@[simp] theorem ready_sched (t : Nat) (s : State) : (ready t s).sched = s.sched := by simp [ready]

@[simp] theorem taken_sched (t : Nat) (m : Msg) (s : State) : (taken t m s).sched = s.sched := by simp [taken]

@[simp] theorem done_sched (m : Msg) (st d : Nat) (data : List Byte) (s : State) : (done m st d data s).sched = s.sched := by simp [done]

@[simp] theorem ready_comp (t : Nat) (s : State) : (ready t s).comp = s.comp := by simp [ready]

@[simp] theorem taken_comp (t : Nat) (m : Msg) (s : State) : (taken t m s).comp = s.comp := by simp [taken]

@[simp] theorem done_comp (m : Msg) (st d : Nat) (data : List Byte) (s : State) : (done m st d data s).comp = s.comp := by simp [done]

@[simp] theorem ready_mon (t : Nat) (s : State) : (ready t s).mon = s.mon := by simp [ready]

@[simp] theorem taken_mon (t : Nat) (m : Msg) (s : State) : (taken t m s).mon = s.mon := by simp [taken]

@[simp] theorem done_mon (m : Msg) (st d : Nat) (data : List Byte) (s : State) : (done m st d data s).mon = s.mon := by simp [done]

@[simp] theorem ready_gov (t : Nat) (s : State) : (ready t s).gov = s.gov := by simp [ready]

@[simp] theorem taken_gov (t : Nat) (m : Msg) (s : State) : (taken t m s).gov = s.gov := by simp [taken]

@[simp] theorem done_gov (m : Msg) (st d : Nat) (data : List Byte) (s : State) : (done m st d data s).gov = s.gov := by simp [done]

@[simp] theorem ready_sync (t : Nat) (s : State) : (ready t s).sync = s.sync := by simp [ready]

@[simp] theorem taken_sync (t : Nat) (m : Msg) (s : State) : (taken t m s).sync = s.sync := by simp [taken]

@[simp] theorem done_sync (m : Msg) (st d : Nat) (data : List Byte) (s : State) : (done m st d data s).sync = s.sync := by simp [done]

@[simp] theorem ready_flt (t : Nat) (s : State) : (ready t s).flt = s.flt := by simp [ready]

@[simp] theorem taken_flt (t : Nat) (m : Msg) (s : State) : (taken t m s).flt = s.flt := by simp [taken]

@[simp] theorem done_flt (m : Msg) (st d : Nat) (data : List Byte) (s : State) : (done m st d data s).flt = s.flt := by simp [done]

@[simp] theorem ready_dim (t : Nat) (s : State) : (ready t s).dim = s.dim := by simp [ready]

@[simp] theorem taken_dim (t : Nat) (m : Msg) (s : State) : (taken t m s).dim = s.dim := by simp [taken]

@[simp] theorem done_dim (m : Msg) (st d : Nat) (data : List Byte) (s : State) : (done m st d data s).dim = s.dim := by simp [done]

@[simp] theorem ready_rake (t : Nat) (s : State) : (ready t s).rake = s.rake := by simp [ready]

@[simp] theorem taken_rake (t : Nat) (m : Msg) (s : State) : (taken t m s).rake = s.rake := by simp [taken]

@[simp] theorem done_rake (m : Msg) (st d : Nat) (data : List Byte) (s : State) : (done m st d data s).rake = s.rake := by simp [done]

@[simp] theorem ready_conv (t : Nat) (s : State) : (ready t s).conv = s.conv := by simp [ready]

@[simp] theorem taken_conv (t : Nat) (m : Msg) (s : State) : (taken t m s).conv = s.conv := by simp [taken]

@[simp] theorem done_conv (m : Msg) (st d : Nat) (data : List Byte) (s : State) : (done m st d data s).conv = s.conv := by simp [done]

@[simp] theorem ready_dram (t : Nat) (s : State) : (ready t s).dram = s.dram := by simp [ready]

@[simp] theorem taken_dram (t : Nat) (m : Msg) (s : State) : (taken t m s).dram = s.dram := by simp [taken]

@[simp] theorem done_dram (m : Msg) (st d : Nat) (data : List Byte) (s : State) : (done m st d data s).dram = s.dram := by simp [done]

@[simp] theorem ready_pwr (t : Nat) (s : State) : (ready t s).pwr = s.pwr := by simp [ready]

@[simp] theorem taken_pwr (t : Nat) (m : Msg) (s : State) : (taken t m s).pwr = s.pwr := by simp [taken]

@[simp] theorem done_pwr (m : Msg) (st d : Nat) (data : List Byte) (s : State) : (done m st d data s).pwr = s.pwr := by simp [done]

@[simp] theorem ready_upd (t : Nat) (s : State) : (ready t s).upd = s.upd := by simp [ready]

@[simp] theorem taken_upd (t : Nat) (m : Msg) (s : State) : (taken t m s).upd = s.upd := by simp [taken]

@[simp] theorem done_upd (m : Msg) (st d : Nat) (data : List Byte) (s : State) : (done m st d data s).upd = s.upd := by simp [done]

@[simp] theorem ready_flash (t : Nat) (s : State) : (ready t s).flash = s.flash := by simp [ready]

@[simp] theorem taken_flash (t : Nat) (m : Msg) (s : State) : (taken t m s).flash = s.flash := by simp [taken]

@[simp] theorem done_flash (m : Msg) (st d : Nat) (data : List Byte) (s : State) : (done m st d data s).flash = s.flash := by simp [done]

@[simp] theorem ready_fuse (t : Nat) (s : State) : (ready t s).fuse = s.fuse := by simp [ready]

@[simp] theorem taken_fuse (t : Nat) (m : Msg) (s : State) : (taken t m s).fuse = s.fuse := by simp [taken]

@[simp] theorem done_fuse (m : Msg) (st d : Nat) (data : List Byte) (s : State) : (done m st d data s).fuse = s.fuse := by simp [done]

@[simp] theorem ready_cvus (t : Nat) (s : State) : (ready t s).cvus = s.cvus := by simp [ready]

@[simp] theorem taken_cvus (t : Nat) (m : Msg) (s : State) : (taken t m s).cvus = s.cvus := by simp [taken]

@[simp] theorem done_cvus (m : Msg) (st d : Nat) (data : List Byte) (s : State) : (done m st d data s).cvus = s.cvus := by simp [done]

@[simp] theorem ready_pending (t : Nat) (s : State) : (ready t s).pending = s.pending := by simp [ready]

@[simp] theorem taken_pending (t : Nat) (m : Msg) (s : State) : (taken t m s).pending = s.pending := by simp [taken]

@[simp] theorem done_pending (m : Msg) (st d : Nat) (data : List Byte) (s : State) : (done m st d data s).pending = s.pending := by simp [done]

end Sys2Proof.Machine
end

