-- ==== Sys2Proof/Tests/Slice0.lean ====
section
/-!
SUPPORT. Own tests: a term that each check of well-formedness refuses, values that the spec states, and for each obligation with
hypotheses a state and operands that meet them.
-/

namespace Sys2Proof.Tests

open Sys2Proof Sys2Proof.Machine

set_option Elab.async false

/-! ### Terms -/

def ep0 : Endpoint := { viaCan := true, ip := 0, port := 0x400 }

/-- A message of session 1 with the queue, CONTEXT and payload given. -/
def msg (opcode flags context : Nat) (payload : List Byte) : Msg :=
  { ep := ep0, arrival := 0, version := 1, flags := flags, opcode := opcode, session := 1, sequence := 7, freshness := 1,
    length := payload.length, reserved := 0, context := context, payload := payload }

def lane : LaneSweep := { read := 0, write := 0 }

/-- Three trainings that pass, and units that compute the check string rightly. -/
def boot : BootInputs :=
  { training := [List.replicate 4 { read := 0xFFFF, write := 0xFFFF }], latchBad := none, loaderOk := true,
    cvu := List.replicate 4 0xCBF43926 }

def frame0 : EthFrame :=
  { port := .a, fcsOk := true, bytes := 64, pause := false, dst := 2, src := 3, tag := none, srcIp := 0, ip := none }

def req0 : DramReq :=
  { channel := 0, bank := 0, row := 0, block := 0, write := false, partialWord := false, urgency := .normal, composer := false, prot := true, owner := 0,
    ecc := .clean, draw := 1, arrival := 0 }

def noProbe : Probe := { leak := [], vf := [], held2a := [], held2b := [], sense3 := [] }

def sample (code : Nat) : Sample := { code := code, ovr := false, unr := false }

/-- Row 0 of frame 10, of the brightest codes. -/
def row0 : RowPacket := { row := 0, bank := .b, kind := 0, frame := 10, codes := List.replicate 2048 16383 }

def verdict : ImageVerdict := { sigOk := true, digest := List.replicate 32 0 }

/-! ### Ill-formed terms -/

theorem test_wf_time : (Instr.rearm 18446744073709551616).wf = false := by decide +kernel
theorem test_wf_source : (Instr.faultAssert 0 48 0).wf = false ∧ (Instr.faultAssert 0 0 65536).wf = false ∧ (Instr.faultLevelEnd 0 48).wf = false := by
  decide +kernel
theorem test_wf_message : (Instr.ping 0 { msg 0x0103 0 0 [] with length := 1 }).wf = false ∧ (Instr.ping 0 (msg 65536 0 0 [])).wf = false
    ∧ (Instr.ping 0 (msg 0x0103 256 0 [])).wf = false ∧ (Instr.ping 0 { msg 0x0103 0 0 [] with freshness := 4294967296 }).wf = false
    ∧ (Instr.ping 0 { msg 0x0103 0 0 [] with ep := { ep0 with port := 65536 } }).wf = false ∧ (Instr.ping 0 (msg 0x0103 0 0 [])).wf = true := by
  decide +kernel
theorem test_wf_trainings : (Instr.trainingRetry 0 []).wf = false ∧ (Instr.trainingRetry 0 (List.replicate 4 (List.replicate 4 lane))).wf = false
    ∧ (Instr.trainingRetry 0 [[lane]]).wf = false ∧ (Instr.trainingRetry 0 [List.replicate 4 lane]).wf = true := by decide +kernel
theorem test_wf_boot : (Instr.vinRise 12000 { boot with cvu := [] }).wf = false ∧ (Instr.vinRise 4294967296 boot).wf = false
    ∧ (Instr.moduleReset 0 { boot with cvu := [0, 0, 0, 4294967296] }).wf = false
    ∧ (Instr.vinRise 12000 { boot with latchBad := some 640 }).wf = false ∧ (Instr.vinRise 12000 { boot with latchBad := some 639 }).wf = true ∧ (Instr.vinRise 12000 boot).wf = true
    ∧ (Instr.resetModule 0 (msg 0x0104 0 0 []) { boot with training := [] }).wf = false
    ∧ (Instr.lastgaspSaveComplete 0 true 4294967296 boot).wf = false ∧ (Instr.wakeSource { src := .timer, pins := [] } 0 4294967296 0 boot).wf = false := by decide +kernel
theorem test_wf_verdict : (Instr.imageCheckComplete 0 { verdict with digest := [] } []).wf = false
    ∧ (Instr.updateVerifyOutcome 0 { verdict with digest := [] }).wf = false ∧ (Instr.imageCheckComplete 0 verdict [256]).wf = false := by decide +kernel
theorem test_wf_rows : (Instr.rowLatePoint 0 640 []).wf = false ∧ (Instr.rowTransferStart 0 0 true [9]).wf = false
    ∧ (Instr.rowTransferStart 0 640 true [0]).wf = false ∧ (Instr.rowTransferStart 0 0 true []).wf = false
    ∧ (Instr.rowPacket 0 { row0 with codes := [] } 0).wf = false ∧ (Instr.rowPacket 0 { row0 with kind := 1 } 0).wf = false
    ∧ (Instr.rowPacket 0 row0 4294967296).wf = false ∧ (Instr.rowPacket 0 row0 0).wf = true
    ∧ (Instr.latchRowCycle 0 { packet := row0, crc := 0 } (List.replicate 2048 0)).wf = false
    ∧ (Instr.latchRowCycle 0 { packet := { row0 with kind := 1 }, crc := 0 } [0]).wf = false
    ∧ (Instr.latchReadbackCheck 0 (List.replicate 2048 4)).wf = false := by decide +kernel
theorem test_wf_probe : (Instr.probeWindow 0 (some { noProbe with leak := [(2048, 0)] })).wf = false
    ∧ (Instr.sweepWindow 0 (some { noProbe with sense3 := [(2048, 0)] }) []).wf = false ∧ (Instr.sweepWindow 0 none [sample 4096]).wf = false := by
  decide +kernel
theorem test_wf_memories : (Instr.dramRequest 0 none 2).wf = false ∧ (Instr.dramRequest 0 (some { req0 with bank := 8 }) 0).wf = false
    ∧ (Instr.dramScrub 0 2 0 .clean).wf = false ∧ (Instr.dramScrub 0 0 256 .clean).wf = false ∧ (Instr.dqsDriftCheck 0 2 [0, 0] 1).wf = false
    ∧ (Instr.dqsDriftCheck 0 0 [0] 1).wf = false ∧ (Instr.dqsDriftCheck 0 0 [0, 0] 0).wf = false ∧ (Instr.neighbourRefresh 0 0 8 0).wf = false
    ∧ (Instr.neighbourRefresh 0 2 0 0).wf = false ∧ (Instr.panSramScrub 0 16 .clean).wf = false := by decide +kernel
theorem test_wf_ports : (Instr.linkUp 0 .a { speed := 0, master := true }).wf = false
    ∧ (Instr.linkUp 0 .a { speed := 4, master := true }).wf = false ∧ (Instr.canFrame 0 { id := 2048, fd := true, data := [] }).wf = false
    ∧ (Instr.canFrame 0 { id := 0, fd := true, data := List.replicate 65 0 }).wf = false ∧ (Instr.ethernetFrame 0 { frame0 with dst := 281474976710656 }).wf = false
    ∧ (Instr.ethernetFrame 0 { frame0 with tag := some (8, 0) }).wf = false ∧ (Instr.arpRequest 0 .a 4294967296).wf = false
    ∧ (Instr.psiferMessage 0 { ep0 with ip := 4294967296 } []).wf = false := by decide +kernel
theorem test_wf_others : (Instr.clockMon 0 8).wf = false ∧ (Instr.bufferMoveComplete 0 513).wf = false ∧ (Instr.mpLoadWindow 0 { busy := 101, need := 0 }).wf = false
    ∧ (Instr.linkDelayMeasure 0 4294967296).wf = false ∧ (Instr.chestCheckComplete 0 4294967296).wf = false ∧ (Instr.eventMessage 0 65536).wf = false
    ∧ (Instr.sessionOpen 0 (msg 0x0A01 0 0 []) []).wf = false ∧ (Instr.vinLow 0 true 4294967296).wf = false
    ∧ (Instr.sluiceSymbolReceived 0 (mkSym 2 0) (4 * 18446744073709551616)).wf = false := by decide +kernel
theorem test_wf_converters : (Instr.scan 0 []).wf = false ∧ (Instr.scan 0 (List.replicate 23 [])).wf = false
    ∧ (Instr.scan 0 (List.replicate 23 (List.replicate 8 (sample 4096)))).wf = false
    ∧ (Instr.scan 0 (List.replicate 23 (List.replicate 8 { sample 0 with ovr := true, unr := true }))).wf = false
    ∧ (Instr.scan 0 (List.replicate 23 (List.replicate 17 (sample 0)))).wf = false ∧ (Instr.selftest 0 [[sample 0]] []).wf = false
    ∧ (Instr.selftest 0 [[], [], [], [sample 4096]] []).wf = false ∧ (Instr.urgentRequest 0 30 (sample 0)).wf = false
    ∧ (Instr.urgentRequest 0 0 (sample 4096)).wf = false ∧ (Instr.shutdownComparator 0 9 (sample 0)).wf = false
    ∧ (Instr.shutdownComparator 0 20 (sample 0)).wf = false := by decide +kernel

/-! ### Values the spec states -/

/-- 20 Table 20.3: the check value of "123456789" under SET 0, and that of no bytes. -/
theorem test_crc_check_string : crc32 [0x31, 0x32, 0x33, 0x34, 0x35, 0x36, 0x37, 0x38, 0x39] = 0xCBF43926 ∧ crc32 [] = 0 := by decide +kernel

/-- 09 R217: SWIFT at PERIOD 100,000 on the factory anchor, FULL entered at TSC 2,300,045,000. -/
theorem test_first_frame_of_schedule : firstOfSchedule 0 0 100000 (rowPitch 2 false) 2300045000 = 23002
    ∧ gridSwap { profile := 2, period := 100000 } 23002 = 2300200000 := by decide +kernel

/-- 15 Table 15.3: a few default reactions, and 10 Table 10.10: a few factory values. -/
theorem test_factory_settings : State.reset.cfg.faults.getD 15 0 = 6 ∧ State.reset.cfg.faults.getD 18 0 = 5 ∧ State.reset.cfg.faults.length = 48
    ∧ State.reset.cfg.link.ipAddr = 10 * 16777216 + 42 * 65536 + 1 * 256 ∧ State.reset.cfg.timing.period = 500000 := by decide +kernel

/-- 01 Table 1.9: from OFF, VIN_RISE leads to BOOT with the TSC at 0. -/
theorem test_cold_start : (match exec (.vinRise 12000 boot) State.reset with
    | .next u => decide (u.mode.op = .boot) && decide (tsc u = 0) && decide (u.arr.bankSel = .a)
    | _ => false) = true := by decide +kernel

/-- A row above 639 is no command of the hardware. -/
theorem test_impossible_row : (match exec (.rowLatePoint 0 640 []) State.reset with | .fault _ => true | _ => false) = true := by decide +kernel

/-! ### Witnesses: states and operands that meet the hypotheses of the statements -/

def sess (d : Domain) (m : Msg) : Session :=
  { id := 1, domain := d, ep := ep0, evEp := ep0, lastArrival := 0, opened := 0, kHm := [], kMh := [], evNext := 0,
    high := if m.flags % 4 = 0 then [m] else [], norm := if m.flags % 4 = 1 then [m] else [], bulk := if m.flags % 4 = 2 then [m] else [] }

/-- A module in the state given, whose only session holds the message. -/
def readyIn (op : OpState) (d : Domain) (m : Msg) : State :=
  { State.reset with
    mode := { op := op, safeKind := if op = .safe then 2 else 0 }, flt := { running := true }, pwr := { flashAllowed := true },
    gate := { sessions := [sess d m] } }

/-- The message is served at TSC 0 and passes the common checks. -/
def adm (r : Row) (m : Msg) (s : State) : Bool := admitted 0 r unitFree m s

/-- A module with drawer slot 2 in the state and of the type given, under generation 1. -/
def drawer (sl : Slot) (s : State) : State := { s with drw := { s.drw with slots := s.drw.slots.set 2 { sl with gen := 1 } } }

/-- The schedule of the factory grid runs. -/
def scheduled (s : State) : State :=
  { s with sched := { s.sched with running := true, first := 10, nextComp := 10, nextSwap := 10 } }

theorem test_witness_StepRunsFront : { State.reset with pending := [.rearm 0] }.pending = [.rearm 0] ∧ State.reset.pending = []
    ∧ (readyIn .full .info (msg 0 0 0 [])).mode.op ≠ .off ∧ (readyIn .full .info (msg 0 0 0 [])).mode.op ≠ .standby
    ∧ State.reset.mode.op = .off := by decide +kernel

/-- A master that announced itself on port A a moment ago, and no other. -/
def heardMaster (s : State) : State :=
  { s with link := { s.link with aState := 2 },
           time := { s.time with propA := some (800, 0), annA := some { identity := [1], hops := 0, source := 1, arrived := 0, interval := 100000000 } } }

theorem test_witness_TrimClamped : TrimOk State.reset
    ∧ (let s := heardMaster (readyIn .full .info (msg 0 0 0 []))
       clockRuns s = true ∧ linkUpOn s .a = true ∧ servoRuns s = true ∧ (-7 : Int) ≤ -7 ∧ (-7 : Int) ≤ 0
       ∧ (bestMaster s).map (·.1) = some .a) := by unfold TrimOk; decide +kernel

theorem test_witness_FusesOnlyForward : FuseOk State.reset.fuse ∧ mayBlow (.rearm 0) = false := by unfold FuseOk; decide +kernel

theorem test_witness_OnlyASluiceTogglesBankSel : maySwap (.rearm 0) = false ∧ movesPower (.rearm 0) = false ∧ maySwap (.timedSwap 0 true) = true := by
  decide +kernel

def pingMsg : Msg := msg 0x0103 0 0 []

theorem test_witness_MessageWaits :
    (let s := { readyIn .full .info pingMsg with mp := { restarting := some 0 } }
     isServed rowPing pingMsg (ready 0 s) = false ∧ mpRuns (advance 0 s) = false)
    ∧ (let m := msg 0x0801 0 0 []
       let s := readyIn .full .light m
       isServed rowPing pingMsg (ready 0 s) = false ∧ nextToServe (advance 0 s) = some m ∧ catalogue.contains m.opcode = true)
    ∧ (messageRow (.ping 0 pingMsg)).isSome = true := by decide +kernel

/-- One message for each of the four common checks: another domain, a unit that is absent, another state, a CONTEXT that is not 0. -/
theorem test_witness_CommonChecksInOrder :
    (let m := msg 0x0801 0 0 []
     isServed rowIdle m (ready 0 (readyIn .full .info m)) = true ∧ sessionDomain (readyIn .full .info m) m ≠ .light
     ∧ isServed rowIdle m (ready 0 (readyIn .safe .light m)) = true ∧ rowIdle.states .safe = false)
    ∧ (let m := msg 0x0303 0 0x0102 []
       let s := { readyIn .full .light m with fuse := { variant := .s } }
       isServed rowGlyphSeal m (ready 0 s) = true ∧ noGlyph s = true)
    ∧ (let m := { msg 0x0103 0xF8 1 [] with reserved := 1 }
       isServed rowPing m (ready 0 (readyIn .loader .info m)) = true ∧ ¬ (rowPing.shape m = true ∧ m.flags < 8 ∧ m.reserved = 0)) := by
  decide +kernel

theorem test_witness_AnswerIsOneReply : findSession (readyIn .full .info pingMsg) 1 = some (sess .info pingMsg)
    ∧ pingMsg.session ≠ 0 ∧ pingMsg.freshness ≠ 0xFFFFFFFF
    ∧ { sess .info pingMsg with freshOut := 0xFFFFFFFD }.freshOut < 0xFFFFFFFE ∧ msgNoReply { pingMsg with flags := 4 } = true
    ∧ msgNoReply pingMsg = false := by decide +kernel

theorem test_witness_SystemReads : adm rowPing pingMsg (readyIn .loader .info pingMsg) = true
    ∧ adm rowCaps (msg 0x0101 0 0 []) (readyIn .full .info (msg 0x0101 0 0 [])) = true
    ∧ (let m := msg 0x0102 0 1 []
       let s := readyIn .full .info m
       adm rowReadWord m s = true ∧ wordId m = 1 ∧ firstFail (wordChecks (wordId m) (wordArg m) (taken 0 m s)) = none)
    ∧ (let m := msg 0x0102 0 2 []
       let s := readyIn .full .info m
       adm rowReadWord m s = true ∧ wordId m = 2 ∧ firstFail (wordChecks (wordId m) (wordArg m) (taken 0 m s)) = none) := by decide +kernel

/-- The greatest values that LINK_CONFIG_WRITE takes. -/
def linkMax : List Byte :=
  [3, 3, 3, 1] ++ ipBytes 0 ++ ipBytes 0xDF000000 ++ [22, 7] ++ u16 4094 ++ ipBytes 0xDF000000 ++ u16 65535 ++ [0, 0] ++ ipBytes 0xEF000000 ++ u32 0

theorem test_witness_ConfigurationWrites_link :
    (let m := msg 0x0106 0 0 linkMax
     let p := linkMax
     adm rowLinkConfig m (readyIn .full .service m) = true ∧ le p 0 1 = 3 ∧ le p 3 1 = 1 ∧ ipAt p 8 % 2 ^ (32 - le p 12 1) = 0 ∧ le p 12 1 = 22
       ∧ le p 13 1 = 7 ∧ le p 14 2 = 4094 ∧ ipAt p 16 / 16777216 = 223 ∧ 1024 ≤ le p 20 2 ∧ ipAt p 24 / 16777216 = 239 ∧ le p 28 4 = 0)
    ∧ (let p : List Byte := [1, 2] ++ u16 0x7FE ++ [1, 0] ++ u16 1023
       adm rowCanConfig (msg 0x0107 0 0 p) (readyIn .full .service (msg 0x0107 0 0 p)) = true ∧ le p 2 2 = 0x7FE ∧ le p 4 1 = 1 ∧ le p 5 1 = 0 ∧ le p 6 2 = 1023)
    ∧ (let p : List Byte := u16 3600 ++ u16 16 ++ u32 0
       adm rowMailboxConfig (msg 0x0108 0 0 p) (readyIn .full .service (msg 0x0108 0 0 p)) = true ∧ le p 0 2 = 3600 ∧ le p 2 2 = 16)
    ∧ (let m := msg 0x060C 0 0 (u16 10000)
       adm rowHostTimeout m (readyIn .full .safety m) = true ∧ le m.payload 0 2 = 10000)
    ∧ (let m := msg 0x060B 0 0 (u16 100 ++ u16 8000 ++ u16 100 ++ u16 8000)
       adm rowGovBudget m (readyIn .full .safety m) = true ∧ le m.payload 0 2 = 100 ∧ le m.payload 6 2 = 8000)
    ∧ (let m := msg 0x0403 0 0 (u16 1023)
       adm rowHostScale m (readyIn .full .light m) = true ∧ le m.payload 0 2 = 1023)
    ∧ (let m := msg 0x060D 0 0 (u16 500 ++ u16 100 ++ [3, 0] ++ u16 30000)
       adm rowSdimConfig m (readyIn .full .safety m) = true ∧ (taken 0 m (readyIn .full .safety m)).dim.demand = false ∧ le m.payload 0 2 = 500
         ∧ le m.payload 2 2 = 100 ∧ le m.payload 4 1 = 3 ∧ le m.payload 6 2 = 30000)
    ∧ (let m := msg 0x0402 0 0 (u64 5 ++ u64 6)
       adm rowTimingAnchor m (readyIn .idle .light m) = true ∧ (taken 0 m (readyIn .idle .light m)).sched.running = false) := by decide +kernel

theorem test_witness_ConfigurationWrites_refused :
    (let m := msg 0x0403 0 0 (u16 1024)
     adm rowHostScale m (readyIn .full .light m) = true ∧ 1023 < le m.payload 0 2)
    ∧ (let m := msg 0x060C 0 0 (u16 49)
       adm rowHostTimeout m (readyIn .full .safety m) = true ∧ le m.payload 0 2 < 50)
    ∧ (let m := msg 0x060B 0 0 (u16 100 ++ u16 8001 ++ u16 100 ++ u16 100)
       adm rowGovBudget m (readyIn .full .safety m) = true ∧ le m.payload 0 2 = 100 ∧ 8000 < le m.payload 2 2)
    ∧ (let m := msg 0x0108 0 0 (u16 0 ++ u16 16 ++ u32 0)
       adm rowMailboxConfig m (readyIn .full .service m) = true ∧ le m.payload 0 2 < 1)
    ∧ (let m := msg 0x060D 0 0 (u64 0)
       let s := { readyIn .full .safety m with dim := { demand := true } }
       adm rowSdimConfig m s = true ∧ (taken 0 m s).dim.demand = true)
    ∧ (let m := msg 0x0402 0 0 (u64 0 ++ u64 0)
       let s := scheduled (readyIn .full .light m)
       adm rowTimingAnchor m s = true ∧ (taken 0 m s).sched.running = true)
    ∧ (let m := msg 0x0901 0 0 (u32 0)
       let s := scheduled (readyIn .full .light m)
       adm rowSyncConfig m s = true ∧ (taken 0 m s).sched.running = true)
    ∧ (let m := msg 0x060A 0 0 (u32 0)
       let s := scheduled (readyIn .full .safety m)
       adm rowCompConfig m s = true ∧ (taken 0 m s).sched.running = true) := by decide +kernel

/-- A long operation with the opcode runs. -/
def working (opcode : Nat) (s : State) : State := { s with mp := { s.mp with long := [{ opcode := opcode, arrival := 0 }] } }

theorem test_witness_StoresToFlash :
    (let m := msg 0x0105 0 0 []
     let s := readyIn .full .service m
     adm rowSettingsStore m s = true ∧ isRunning (taken 0 m s) 0x0105 = false ∧ (taken 0 m s).pwr.flashAllowed = true
     ∧ adm rowSettingsStore m (working 0x0105 s) = true ∧ isRunning (taken 0 m (working 0x0105 s)) 0x0105 = true
     ∧ adm rowSettingsStore m { s with pwr := {} } = true ∧ (taken 0 m { s with pwr := {} }).pwr.flashAllowed = false
     ∧ isRunning (advance 0 (working 0x0105 { s with pwr := {} })) 0x0105 = true)
    ∧ (let m := msg 0x0605 0 0 []
       adm rowSafetyStore m (readyIn .full .safety m) = true ∧ isRunning (taken 0 m (readyIn .full .safety m)) 0x0605 = false
       ∧ isRunning (advance 0 (working 0x0605 (readyIn .full .safety m))) 0x0605 = true)
    ∧ (let m := msg 0x0704 0 0 []
       adm rowCalStore m (readyIn .full .service m) = true ∧ isRunning (taken 0 m (readyIn .full .service m)) 0x0704 = false
       ∧ isRunning (advance 0 (working 0x0704 (readyIn .full .service m))) 0x0704 = true) := by decide +kernel

theorem test_witness_Resets :
    (let m := msg 0x0104 0 0 (u32 1)
     adm rowResetMp m (readyIn .full .service m) = true ∧ le m.payload 1 3 = 0 ∧ (taken 0 m (readyIn .full .service m)).mode.op ≠ .loader)
    ∧ (let m := msg 0x0104 0 0 (u32 0)
       adm rowResetModule m (readyIn .full .service m) = true ∧ le m.payload 0 1 = 0 ∧ le m.payload 1 3 = 0)
    ∧ (let s := { readyIn .full .service pingMsg with flt := { running := true, resetPending := true } }
       s.flt.resetPending = true ∧ s.mode.op ≠ .brownoutSave) := by decide +kernel

theorem test_witness_CreateOpensAFreeSlot :
    (let m := msg 0x0201 0 0 [4, 0, 0, 0]
     let s := readyIn .full .light m
     let a := taken 0 m s
     adm rowCreate m s = true ∧ a.drw.slots.length = 256 ∧ le m.payload 0 1 = 4 ∧ le m.payload 1 3 = 0 ∧ (slotAt a 2).st = .free
     ∧ (let full := { s with drw := { s.drw with slots := List.replicate 256 { gen := 1, st := .opened } } }
        adm rowCreate m full = true ∧ ∀ n < 256, 2 ≤ n → (slotAt (taken 0 m full) n).st ≠ .free))
    ∧ (let m := msg 0x0201 0 0 [0, 1, 255, 0]
       let s := readyIn .full .light m
       adm rowCreate m s = true ∧ le m.payload 1 1 = 1 ∧ le m.payload 2 1 = 255 ∧ (slotAt (taken 0 m s) 255).st = .free)
    ∧ (let m := msg 0x0201 0 0 [0, 1, 2, 0]
       adm rowCreate m (drawer { st := .placed } (readyIn .full .light m)) = true
       ∧ (slotAt (taken 0 m (drawer { st := .placed } (readyIn .full .light m))) 2).st = .placed
       ∧ (slotAt (taken 0 m (drawer { st := .retiring } (readyIn .full .light m))) 2).st = .retiring)
    ∧ (let m := msg 0x0201 0 0 [3, 0, 0, 0]
       let s := { readyIn .full .light m with fuse := { variant := .s } }
       adm rowCreate m s = true ∧ le m.payload 0 1 = 3 ∧ (taken 0 m s).fuse.variant ≠ .f) := by decide +kernel

/-- A descriptor of a STILL drawer of 16 × 8 pixels. -/
def stillBytes : List Byte :=
  [1, 0, 0, 0, 0, 0] ++ u16 0 ++ u16 16 ++ u16 8 ++ u16 0 ++ u16 0 ++ u16 16 ++ u16 8 ++ u16 0 ++ u16 0 ++ u16 16 ++ u16 8 ++ [0, 0, 0, 0] ++ u16 0 ++ u16 0

theorem test_witness_ChangesStayPending :
    (let m := msg 0x0202 0 0x0102 stillBytes
     let s := drawer { st := .opened, desc := { type := 1 } } (readyIn .full .light m)
     let a := taken 0 m s
     admitted 0 rowConfigure (configureAbsent m) m s = true ∧ handleValid a 0x0102 = true ∧ (slotAt a 2).pend = none ∧ m.length = 36
     ∧ firstFail (descriptorChecks 1 m.payload ++ paramsChecks 1 m.payload) = none
     ∧ (slotAt (taken 0 m (drawer { st := .opened, desc := { type := 4 } } (readyIn .full .light m))) 2).desc.type = 4
     ∧ (let n := msg 0x0202 0 0x0102 (List.replicate 40 0)
        let e := { readyIn .full .light n with fuse := { variant := .e } }
        isServed rowConfigure n (ready 0 e) = true ∧ sessionDomain (taken 0 n e) n = .light ∧ (taken 0 n e).fuse.variant = .e ∧ n.length = 40))
    ∧ (let m := msg 0x0203 0 0x0102 []
       let s := drawer { st := .opened } (readyIn .full .light m)
       adm rowPlace m s = true ∧ handleValid (taken 0 m s) 0x0102 = true ∧ (slotAt (taken 0 m s) 2).st = .opened
       ∧ handleValid (taken 0 m (drawer { st := .placed } (readyIn .full .light m))) 0x0102 = true
       ∧ adm rowPlace { m with context := 0x0202 } (drawer { st := .opened } (readyIn .full .light { m with context := 0x0202 })) = true
       ∧ handleValid (taken 0 m s) 0x0202 = false ∧ handleValid (taken 0 m s) 0x0100 = true)
    ∧ (let m := msg 0x0204 0 0x0102 []
       let s := drawer { st := .placed } (readyIn .full .light m)
       adm rowRelease m s = true ∧ (slotAt (taken 0 m s) 2).st = .placed ∧ handleValid (taken 0 m s) 0x0102 = true)
    ∧ (let m := msg 0x0205 0 0x0102 []
       let s := drawer { st := .retiring } (readyIn .full .light m)
       adm rowDestroy m s = true ∧ (slotAt (taken 0 m s) 2).st = .retiring ∧ handleValid (taken 0 m s) 0x0102 = true
       ∧ (slotAt (taken 0 m (drawer { st := .opened, pend := some { session := 2 } } (readyIn .full .light m))) 2).pend = some { session := 2 }) := by
  decide +kernel

/-- A PLACED STILL drawer of two pixels, with two buffers. -/
def still : Slot := { st := .placed, desc := { type := 1, srcW := 2, srcH := 1, cropW := 2, cropH := 1 }, buffers := [{}, {}] }

theorem test_witness_FlipAndAbort :
    (let m := msg 0x0206 0 0x0102 (u64 0)
     let s := drawer still (readyIn .full .light m)
     let a := taken 0 m s
     adm rowFlip m s = true ∧ handleValid a 0x0102 = true ∧ (slotAt a 2).pend = none ∧ (slotAt a 2).flipUntil = none ∧ (slotAt a 2).st = .placed
     ∧ (slotAt a 2).desc.type = 1 ∧ le m.payload 0 1 = 0 ∧ le m.payload 1 3 = 0 ∧ le m.payload 4 4 = 0)
    ∧ (let m := msg 0x0206 0 0x0102 (u64 0)
       let s := drawer { st := .placed, desc := { type := 3 }, sealed := true } (readyIn .full .light m)
       adm rowFlip m s = true ∧ (slotAt (taken 0 m s) 2).desc.type = 3 ∧ (slotAt (taken 0 m s) 2).sealed = true)
    ∧ (let m := msg 0x0206 0 0x0102 (u32 1 ++ u32 (crc32 (backBytes still)))
       let s := drawer still (readyIn .full .light m)
       adm rowFlip m s = true ∧ le m.payload 0 1 = 1 ∧ le m.payload 4 4 = crc32 (backBytes (slotAt (taken 0 m s) 2)))
    ∧ (let m := msg 0x0206 0 0x0102 (u32 1 ++ u32 1)
       let s := drawer still (readyIn .full .light m)
       adm rowFlip m s = true ∧ le m.payload 4 4 ≠ crc32 (backBytes (slotAt (taken 0 m s) 2)))
    ∧ (let m := msg 0x0208 0 0 []
       let s := drawer { st := .opened, pend := some { session := 2, place := true } } (readyIn .full .light m)
       adm rowAbort m s = true ∧ (slotAt (taken 0 m s) 2).pend = some { session := 2, place := true }) := by decide +kernel

/-- A PLACED drawer that its session will release. -/
def leaving : Slot := { still with pend := some { session := 1, release := true } }

theorem test_witness_CommitTakesItsFrame :
    (let m := msg 0x0207 0 0 (u64 0)
     (adm rowCommit m (readyIn .full .light m) = true ∧ (proposal (taken 0 m (readyIn .full .light m)) 1).isEmpty = true)
     ∧ (let s := drawer { st := .opened, pend := some { session := 1, place := true } } (readyIn .proofPending .light m)
        adm rowCommit m s = true ∧ (proposal (taken 0 m s) 1).changes.any (fun e => e.2.place) = true)
     ∧ (let s := scheduled (drawer leaving (readyIn .full .light m))
        let a := taken 0 m s
        let p := proposal a 1
        adm rowCommit m s = true ∧ p.isEmpty = false ∧ firstFail (commitChecks a p) = none ∧ (settleFrame a p 0 0).2.status = 0 ∧ a.sched.running = true)
     ∧ (let s := drawer { st := .opened, pend := some { session := 1, place := true } } (readyIn .full .light m)
        let a := taken 0 m s
        adm rowCommit m s = true ∧ (proposal a 1).isEmpty = false ∧ (firstFail (commitChecks a (proposal a 1))).isSome = true)) := by decide +kernel

theorem test_witness_EffectiveFrameIsFirst :
    (let g : Sched := { running := true, nextComp := 10 }
     g.change = none ∧ 0 < g.period ∧ 1 ≤ g.nextComp ∧ effectiveFrame g 5000000 0 0 = 10 ∧ effectiveFrame g 5000001 0 0 = 11) := by decide +kernel

theorem test_witness_UploadsLandInBackStores :
    (let m := msg 0x0209 0 (0x0102 + 65536 * 16383) [1]
     let s := drawer { st := .opened, desc := { type := 3 } } (readyIn .full .light m)
     let a := taken 0 m s
     adm rowChunkWrite m s = true ∧ handleValid a (m.context % 65536) = true ∧ (slotAt a 2).flipUntil = none ∧ (slotAt a 2).pend = none
     ∧ m.context / 65536 + m.length = 16384 ∧ m.payload.length = m.length ∧ memWf 0 (slotAt a 2).glyphBack = true)
    ∧ (let m := msg 0x0209 0 (0x0102 + 65536 * 16384) [1]
       let s := drawer { st := .opened, desc := { type := 3 } } (readyIn .full .light m)
       adm rowChunkWrite m s = true ∧ backLength (slotAt (taken 0 m s) 2) < m.context / 65536 + m.length)
    ∧ (let m := msg 0x0209 0 0x0102 [1]
       let s := drawer still (readyIn .full .light m)
       let a := taken 0 m s
       adm rowChunkWrite m s = true ∧ (slotAt a 2).desc.type = 1 ∧ (slotAt a 2).st = .placed ∧ m.context / 65536 + m.length ≤ bufferBytes (slotAt a 2).desc)
    ∧ (let m := msg 0x0209 0 0x0102 [1]
       let s := drawer { still with flipUntil := some 9 } (readyIn .full .light m)
       adm rowChunkWrite m s = true ∧ (slotAt (taken 0 m s) 2).flipUntil ≠ none ∧ (slotAt (taken 0 m s) 2).st = .placed
       ∧ (slotAt (taken 0 m (drawer { still with st := .opened } (readyIn .full .light m))) 2).st ≠ .placed
       ∧ (let g := msg 0x0209 0 0x0100 [1]
          adm rowChunkWrite g (readyIn .full .light g) = true ∧ handleValid (taken 0 g (readyIn .full .light g)) 0x0100 = true)
       ∧ (let g := msg 0x0209 0 0x0902 [1]
          adm rowChunkWrite g (readyIn .full .light g) = true ∧ handleValid (taken 0 g (readyIn .full .light g)) 0x0902 = false))
    ∧ (let m := msg 0x020A 0 7 (List.replicate 512 0)
       adm rowCurveWrite m (readyIn .full .light m) = true ∧ (taken 0 m (readyIn .full .light m)).drw.pendCurves = [])
    ∧ (let m := msg 0x020B 0 0 (u32 0)
       adm rowBlendProgram m (readyIn .full .light m) = true ∧ firstFail (blendChecks m (taken 0 m (readyIn .full .light m))) = none) := by decide +kernel

/-- An object of the ID given over the square of 2 px at the origin. -/
def square (id : Byte) (active : Byte) : List Byte :=
  [id, active, 15, 0] ++ u16 65535 ++ u16 0 ++ u64 0 ++ u16 0 ++ u16 0 ++ u32 0 ++ u32 0 ++ (u16 16 ++ u16 0) ++ (u16 16 ++ u16 16) ++ (u16 0 ++ u16 16)

theorem test_witness_ShadeAndGlyph :
    (let m := msg 0x0301 0 0x0102 (square 63 1)
     let s := drawer { st := .opened, desc := { type := 2 } } (readyIn .full .light m)
     let a := taken 0 m s
     admitted 0 rowShadeUpdate noShade m s = true ∧ handleValid a 0x0102 = true ∧ (slotAt a 2).desc.type = 2 ∧ m.length = 40
     ∧ firstFail ((List.range (m.length / 40)).flatMap fun k => shadeObjChecks m.payload (40 * k)) = none ∧ le m.payload 1 1 % 2 = 1
     ∧ a.sched.running = false ∧ (taken 0 m (scheduled s)).sched.running = true
     ∧ (taken 0 m (scheduled s)).sched.cutDone ≠ some (taken 0 m (scheduled s)).sched.nextComp
     ∧ (let e := { s with fuse := { variant := .e } }
        isServed rowShadeUpdate m (ready 0 e) = true ∧ sessionDomain (taken 0 m e) m = .light ∧ (taken 0 m e).fuse.variant = .e))
    ∧ (let m := msg 0x0302 0 0x0102 []
       let s := drawer { st := .opened, desc := { type := 2 } } (readyIn .full .light m)
       admitted 0 rowShadeClear noShade m s = true ∧ (slotAt (taken 0 m s) 2).desc.type = 2
       ∧ (let e := { s with fuse := { variant := .e } }
          isServed rowShadeClear m (ready 0 e) = true ∧ sessionDomain (taken 0 m e) m = .light ∧ (taken 0 m e).fuse.variant = .e))
    ∧ (let m := msg 0x0303 0 0x0102 []
       let s := drawer { st := .opened, desc := { type := 3, srcW := 1, srcH := 1 }, glyphBack := [(8, 16)] } (readyIn .full .light m)
       let a := taken 0 m s
       admitted 0 rowGlyphSeal noGlyph m s = true ∧ handleValid a 0x0102 = true ∧ (slotAt a 2).desc.type = 3
       ∧ glyphTableCheck (slotAt a 2).glyphBack (nextDesc a 2).srcW (nextDesc a 2).srcH = none ∧ glyphSegs (slotAt a 2).glyphBack (nextDesc a 2) ≤ 8192
       ∧ (glyphTableCheck [] 1 1).isSome = true
       ∧ (let e := { s with fuse := { variant := .s } }
          isServed rowGlyphSeal m (ready 0 e) = true ∧ sessionDomain (taken 0 m e) m = .light ∧ (taken 0 m e).fuse.variant ≠ .f)) := by decide +kernel

theorem test_witness_TimingChanges :
    (let m := msg 0x0401 0 0 ([2, 0] ++ u16 0 ++ u32 100000 ++ u64 0)
     let s := readyIn .idle .light m
     let a := taken 0 m s
     adm rowTimingChange m s = true ∧ le m.payload 0 1 = 2 ∧ periodOk 2 100000 = true ∧ a.sched.running = false ∧ (commitsAt a 0 100000).isSome = true
     ∧ (let r := scheduled s
        let b := taken 0 m r
        adm rowTimingChange m r = true ∧ b.sched.running = true ∧ periodMoves b 100000 = []
        ∧ (changeFrame b 2 0 0 false).isSome = true ∧ (commitsAt b ((changeFrame b 2 0 0 false).getD 0) 100000).isSome = true))
    ∧ (let m := msg 0x0401 0 0 ([3, 1] ++ u16 0 ++ u32 1 ++ u64 0)
       adm rowTimingChange m (readyIn .full .light m) = true ∧ periodOk 3 1 = false) := by decide +kernel

theorem test_witness_MonitorConfiguration :
    (let m := msg 0x0404 0 0 [1, 2, 0, 0, 1, 7, 0, 0]
     let s := { readyIn .full .light m with link := { aState := 2, aSpeed := 3 } }
     adm rowMonitorConfig m s = true ∧ firstFail (monitorChecks m.payload) = none ∧ monitorRateOk (taken 0 m s) (monitorConfigOf m.payload) = false)
    ∧ (let m := msg 0x0404 0 0 [0, 1, 0, 0, 255, 0, 0, 0]
       let s := readyIn .full .light m
       adm rowMonitorConfig m s = true ∧ firstFail (monitorChecks m.payload) = none ∧ monitorRateOk (taken 0 m s) (monitorConfigOf m.payload) = true
       ∧ monitorRing (monitorConfigOf m.payload) = monitorRing (taken 0 m s).cfg.mon ∧ adm rowMonitorConfig m (scheduled s) = true
       ∧ (taken 0 m (scheduled s)).sched.running = true)
    ∧ (let m := msg 0x0404 0 0 [1, 1, 0, 0, 255, 0, 0, 0]
       let s := readyIn .full .light m
       let a := taken 0 m s
       let c := monitorConfigOf m.payload
       adm rowMonitorConfig m s = true ∧ monitorRateOk a c = true ∧ monitorRing c ≠ monitorRing a.cfg.mon
       ∧ (placeSet a c (lastTable a) (lastBlend a) (periodFor a a.sched.nextComp)).1 = 0) := by decide +kernel

theorem test_witness_DiagnosticsRead :
    (let m := msg 0x0501 0 0 []
     adm rowLogRead m (readyIn .loader .info m) = true)
    ∧ (let m := msg 0x0502 0 0 (List.replicate 48 0)
       adm rowEventFilter m (readyIn .full .info m) = true)
    ∧ (let m := msg 0x0503 0 (327680 - 1436) (u16 1436 ++ u16 0)
       adm rowFaultMapRead m (readyIn .full .info m) = true ∧ le m.payload 0 2 = 1436 ∧ m.context + le m.payload 0 2 = 327680)
    ∧ (let m := msg 0x0503 0 327680 (u16 1 ++ u16 0)
       adm rowFaultMapRead m (readyIn .full .info m) = true ∧ 327680 < m.context + le m.payload 0 2)
    ∧ (let m := msg 0x0504 0 22 []
       adm rowScalerCoeff m (readyIn .full .info m) = true ∧ m.context % 4 = 2 ∧ m.context / 8 = 2)
    ∧ (let m := msg 0x0504 0 3 []
       adm rowScalerCoeff m (readyIn .full .info m) = true ∧ m.context % 4 = 3) := by decide +kernel

theorem test_witness_ChestUploads :
    (let m := msg 0x0601 0 2567 [1]
     let s := readyIn .full .safety m
     adm rowChestStage m s = true ∧ m.context + m.length = 2568 ∧ chestBusy m (taken 0 m s) = false
     ∧ (let b := { s with comp := { activation := some { image := {}, effectTsc := 0, msg := m } } }
        adm rowChestStage m b = true ∧ chestBusy m (taken 0 m b) = true))
    ∧ (let m := msg 0x0601 0 2568 [1]
       adm rowChestStage m (readyIn .full .safety m) = true ∧ 2568 < m.context + m.length)
    ∧ (let m := msg 0x0603 0 327679 [1]
       let s := readyIn .full .safety m
       adm rowSettleStage m s = true ∧ m.context + m.length = 327680 ∧ latchBusyNow (taken 0 m s).arr = false
       ∧ latchBusyNow (taken 0 m { s with arr := { latchBusy := true, latchRow := 1 } }).arr = true)
    ∧ (let m := msg 0x0603 0 327680 [1]
       adm rowSettleStage m (readyIn .full .safety m) = true ∧ 327680 < m.context + m.length)
    ∧ (let m := msg 0x0602 2 0 (u64 0 ++ u16 8 ++ u32 0 ++ u16 0)
       adm rowChestActivate m (readyIn .full .safety m) = true ∧ firstFail (chestChecks m (taken 0 m (readyIn .full .safety m))) = none)
    ∧ (let m := msg 0x0602 2 0 (u64 0 ++ u16 7 ++ u32 0 ++ u16 0)
       adm rowChestActivate m (readyIn .full .safety m) = true ∧ firstFail (chestChecks m (taken 0 m (readyIn .full .safety m))) = some (eRange, 8))
    ∧ (let m := msg 0x0602 2 0 (u64 0 ++ u16 8 ++ u32 0 ++ u16 0)
       let x : Activation := { image := {}, effectTsc := 0, msg := m }
       let s := { readyIn .full .safety { m with flags := 0 } with comp := { activation := some x } }
       s.comp.activation = some x ∧ mpRuns s = true ∧ x.msg.session ≠ 0 ∧ x.msg.flags / 4 % 2 = 0 ∧ (findSession (advance 0 s) 1).isSome = true
       ∧ (scheduled s).sched.running = true ∧ s.sched.running = false)
    ∧ (let s := { State.reset with cvus := [{}, {}, {}, { running := true }] }
       s.cvus.length = 4 ∧ (s.cvus.getD 3 {}).running = true) := by decide +kernel

theorem test_witness_HoldAndRecover :
    (let m := msg 0x0606 0 0 []
     adm rowHoldDemand m (readyIn .full .safety m) = true)
    ∧ (let m := msg 0x0607 0 0 []
       let s := readyIn .safe .safety m
       adm rowRecover m s = true ∧ (taken 0 m s).dim.proofSeen = false ∧ (∀ k < 48, hasBit (taken 0 m s).flt.status k = false)
       ∧ (let f := { s with flt := { s.flt with status := withBit 0 47 } }
          adm rowRecover m f = true ∧ hasBit (taken 0 m f).flt.status 47 = true)
       ∧ (let p := { s with dim := { proofSeen := true } }
          adm rowRecover m p = true ∧ (taken 0 m p).dim.demand = false ∧ (taken 0 m p).dim.proofSeen = true
          ∧ (∀ k < 48, blocksRecovery (taken 0 m p) k = false)
          ∧ (let c := { p with flt := { p.flt with status := withBit 0 39, cond := withBit 0 39 } }
             adm rowRecover m c = true ∧ blocksRecovery (taken 0 m c) 39 = true ∧ (∀ k < 48, isFatal k = true → hasBit (taken 0 m c).flt.status k = false)))) := by
  decide +kernel

theorem test_witness_ForceAndConfigure :
    (let m := msg 0x0608 0 0 [47, 1, 0, 0]
     adm rowForceSet m (readyIn .full .safety m) = true ∧ le m.payload 0 1 = 47 ∧ le m.payload 1 1 = 1 ∧ le m.payload 2 2 = 0)
    ∧ (let m := msg 0x0608 0 0 [0, 0, 0, 0]
       adm rowForceClear m (readyIn .full .safety m) = true ∧ le m.payload 0 1 = 0)
    ∧ (let m := msg 0x0609 0 0 [18, 5, 0, 0]
       adm rowFaultConfig m (readyIn .full .safety m) = true ∧ leastReactions.getD 18 0 ≤ le m.payload 1 1)
    ∧ (let m := msg 0x0609 0 0 [18, 0, 0, 0]
       adm rowFaultConfig m (readyIn .full .safety m) = true ∧ le m.payload 1 1 < leastReactions.getD 18 0)
    ∧ (let m := msg 0x060A 0 0 [3, 0, 0, 0]
       adm rowCompConfig m (readyIn .idle .safety m) = true ∧ (taken 0 m (readyIn .idle .safety m)).sched.running = false ∧ le m.payload 0 1 = 3) := by
  decide +kernel

/-- A reading of no flagged sample. -/
def cr (v : Int) : CalReading := { value := v, taint := 0, ovr := 0, unr := 0, replaced := 0 }

/-- A pass whose readings are those of an ideal module. -/
def pass0 : CalPass :=
  { offsetA := cr 0, offsetB := cr 0, refA := cr 40000, refB := cr 40000, tone := cr 0, skew := 0, irefA := cr 39321600, irefB := cr 39321600,
    sl := List.replicate 3 (cr 39321600), probe := cr 16384000 }

/-- The references of both converters are ready. -/
def warm (s : State) : State := { s with conv := { s.conv with aWarm := true, aReady := true, bWarm := true, bReady := true } }

theorem test_witness_CalibrationRun :
    (let m := msg 0x0701 0 0 []
     let s := readyIn .idle .service m
     adm rowCalRun m s = true ∧ isRunning (taken 0 m s) 0x0701 = false ∧ adm rowCalRun m (working 0x0701 s) = true
     ∧ isRunning (taken 0 m (working 0x0701 s)) 0x0701 = true)
    ∧ (let s := warm (working 0x0701 (readyIn .idle .service pingMsg))
       let a := advance 0 s
       let run := fun (l : List CalPass) => { s with conv := { s.conv with passFrom := some 0, passes := l } }
       isRunning a 0x0701 = true ∧ a.conv.passFrom = none ∧ a.conv.passes.length < 2 ∧ reserved a = false ∧ convReady a .a = true ∧ convReady a .b = true
       ∧ (advance 12000000 (run [])).conv.passFrom = some 0 ∧ 0 + 12000000 ≤ tsc (advance 12000000 (run [])) ∧ passOk (advance 12000000 (run [])) pass0 = true
       ∧ (∀ r ∈ passReadings a pass0, r.replaced ≤ 64) ∧ refPresent pass0.refA = true ∧ refPresent pass0.refB = true
       ∧ refPresent { pass0 with refA := cr 39199 }.refA = false
       ∧ (let flagged := { pass0 with offsetA := { cr 0 with taint := 65, replaced := 65 } }
          passOk (advance 12000000 (run [])) flagged = true ∧ ∃ r ∈ passReadings a flagged, 64 < r.replaced)
       ∧ convAgree a pass0 { pass0 with offsetA := cr 33 } = false
       ∧ convAgree a pass0 { pass0 with sl := List.replicate 3 (cr 39341261) } = true ∧ currentsAgree pass0 { pass0 with sl := List.replicate 3 (cr 39341261) } = false
       ∧ convAgree a pass0 pass0 = true ∧ currentsAgree pass0 pass0 = true
       ∧ (∀ e ∈ runFields a pass0 pass0, e.2.2.1 ≤ e.2.1 ∧ e.2.1 ≤ e.2.2.2)) := by decide +kernel

theorem test_witness_CalibrationData :
    (let m := msg 0x0702 0 0 (u16 512 ++ u16 0)
     adm rowCalRead m (readyIn .full .info m) = true ∧ le m.payload 0 2 = 512 ∧ m.context + le m.payload 0 2 = 512)
    ∧ (let m := msg 0x0703 0 24 (u16 512)
       let s := readyIn .full .service m
       adm rowCalWrite m s = true ∧ m.context + m.length ≤ 512 ∧ firstFail (calWriteChecks m (taken 0 m s)) = none ∧ isRunning (taken 0 m s) 0x0701 = false
       ∧ isRunning (taken 0 m (working 0x0704 s)) 0x0704 = true ∧ adm rowCalWrite m (working 0x0704 s) = true)
    ∧ (let m := msg 0x0707 0 0 ((List.range 32).flatMap fun k => u16 k ++ u16 16384)
       adm rowAgeingCurve m (readyIn .full .service m) = true ∧ firstFail (ageingChecks m.payload) = none)
    ∧ (let m := msg 0x0705 0 2621438 (u32 0 ++ u16 0)
       adm rowCorrChunk m (readyIn .full .service m) = true ∧ m.context % 2 = 0 ∧ m.context + (m.length - 4) = 2621440 ∧ crc32 (m.payload.drop 4) ≠ le m.payload 0 4)
    ∧ (let m := msg 0x0705 0 0 (u32 (crc32 (u16 0)) ++ u16 0)
       adm rowCorrChunk m (readyIn .full .service m) = true ∧ crc32 (m.payload.drop 4) = le m.payload 0 4)
    ∧ (let m := msg 0x0706 0 0 ([3, 0] ++ u16 1023 ++ u16 16383)
       adm rowTcurveWrite m (readyIn .full .service m) = true ∧ firstFail (tcurveChecks m (taken 0 m (readyIn .full .service m))) = none)
    ∧ (let m := msg 0x0706 0 0 ([0, 1] ++ u16 0 ++ u16 1)
       let s := readyIn .full .service m
       adm rowTcurveApply m s = true ∧ firstFail (tcurveChecks m (taken 0 m s)) = none
       ∧ badEntry ((stageCurve m (taken 0 m s)).conv.tstage.getD 0 []) = some 0)
    ∧ (let m := msg 0x0706 0 0 ([0, 1] ++ u16 0 ++ u16 0)
       let s := readyIn .full .service m
       adm rowTcurveApply m s = true ∧ badEntry ((stageCurve m (taken 0 m s)).conv.tstage.getD 0 []) = none) := by decide +kernel

/-- The linear table, which an empty store reads as, is one that may be applied. -/
theorem test_witness_AppliedCurveRises : badEntry [] = none := by decide +kernel

theorem test_witness_PowerRequests :
    (let m := msg 0x0801 0 0 []
     let s := readyIn .full .light m
     adm rowIdle m s = true ∧ (taken 0 m s).dim.idleRamp = none ∧ adm rowIdle m { s with dim := { idleRamp := some (0, 1, 0) } } = true)
    ∧ (let m := msg 0x0802 0 0 []
       adm rowWake m (readyIn .idle .light m) = true)
    ∧ (let m := msg 0x0803 0 0 (u16 0x1F ++ [2, 1] ++ u32 31536000)
       let s := readyIn .idle .service m
       adm rowStandby m s = true ∧ firstFail (standbyChecks m) = none ∧ refuser m (taken 0 m s) = none ∧ le m.payload 0 2 / 16 % 2 = 1
       ∧ refuser m (taken 0 m { s with dim := { demand := true } }) = some 1)
    ∧ (let m := msg 0x0803 0 0 (u16 0 ++ [1, 0] ++ u32 0)
       adm rowStandby m (readyIn .idle .service m) = true ∧ firstFail (standbyChecks m) = none ∧ refuser m (taken 0 m (readyIn .idle .service m)) = none
       ∧ le m.payload 0 2 / 2 % 2 = 0) := by decide +kernel

theorem test_witness_SyncRequests :
    (let m := msg 0x0901 0 0 (u16 512 ++ [1, 0])
     adm rowSyncConfig m (readyIn .idle .light m) = true ∧ le m.payload 0 2 = 512 ∧ le m.payload 2 1 = 1)
    ∧ (let m := msg 0x0901 0 0 (u16 1 ++ [0, 0])
       adm rowSyncConfig m (readyIn .idle .light m) = true ∧ le m.payload 2 1 = 0 ∧ (taken 0 m (readyIn .idle .light m)).sync.role ≠ .head)
    ∧ (let m := msg 0x0902 0 0 []
       let s := readyIn .idle .light m
       adm rowSyncEnumerate m s = true ∧ (taken 0 m s).sync.role ≠ .head ∧ (taken 0 m { s with sync := { role := .head } }).sync.role = .head
       ∧ adm rowSyncEnumerate m { s with sync := { role := .head } } = true) := by decide +kernel

/-- An opening request of the domain, which waits for the MP. -/
def openMsg (d : Byte) : Msg := { msg 0x0A01 0 0 ([d, 0, 0, 0] ++ List.replicate 16 7) with session := 0 }

theorem test_witness_SessionsOpenAndClose :
    (let m := openMsg 3
     let s := { readyIn .full .info pingMsg with gate := { openings := [m] } }
     let a := taken 0 m s
     mpRuns (ready 0 s) = true ∧ nextToServe (ready 0 s) = some m ∧ m.opcode = 0x0A01 ∧ m.session = 0 ∧ openChecks m a = none ∧ (domainKey a (openDomain m)).isSome = true
     ∧ (let f := { s with gate := { openings := [m], sessions := List.replicate 8 { sess .info pingMsg with high := [] } } }
        nextToServe (ready 0 f) = some m ∧ 8 ≤ (taken 0 m f).gate.sessions.length ∧ plainShape 20 m = true ∧ le m.payload 1 3 = 0))
    ∧ (let m := msg 0x0A02 0 0 []
       adm rowSessionClose m (readyIn .full .light m) = true ∧ (findSession (taken 0 m (readyIn .full .light m)) 1).isSome = true)
    ∧ (let s := readyIn .full .light pingMsg
       findSession (advance 6000000001 s) 1 = some (sess .light pingMsg) ∧ 0 + 100000000 * s.cfg.mailbox.sessionIdle < tsc (advance 6000000001 s)
       ∧ tsc (advance 6000000000 s) = 0 + 100000000 * s.cfg.mailbox.sessionIdle) := by decide +kernel

theorem test_witness_LifecycleAndZeroise :
    (let m := msg 0x0A03 0 0 ([2, 0, 0, 0] ++ u32 1)
     adm rowLifecycle m (readyIn .full .service m) = true ∧ le m.payload 0 1 = (taken 0 m (readyIn .full .service m)).fuse.lifecycle + 1
     ∧ le m.payload 4 4 = (taken 0 m (readyIn .full .service m)).fuse.serial % 4294967296)
    ∧ (let m := msg 0x0A03 0 0 ([3, 0, 0, 0] ++ u32 1)
       let s := readyIn .full .service m
       adm rowLifecycle m s = true ∧ le m.payload 0 1 ≠ (taken 0 m s).fuse.lifecycle + 1
       ∧ le m.payload 0 1 = (taken 0 m { s with fuse := { lifecycle := 2 } }).fuse.lifecycle + 1)
    ∧ (let m := msg 0x0A03 0 0 ([1, 0, 0, 0] ++ u32 1)
       let s := { readyIn .full .service m with fuse := { lifecycle := 0 } }
       adm rowLifecycle m s = true ∧ keysPresent (taken 0 m s) = true)
    ∧ (let m := msg 0x0A04 0 0 (u32 1)
       adm rowZeroise m (readyIn .loader .service m) = true ∧ le m.payload 0 4 = 1 ∧ adm rowZeroise { m with payload := u32 2 } (readyIn .loader .service { m with payload := u32 2 }) = true) := by
  decide +kernel

/-- An update in the stage given: 200,000 bytes, `n` of them received, the block at 65,536 in progress. -/
def updating (stage n : Nat) (s : State) : State :=
  { s with flash := { s.flash with control := { stage := stage, imageBytes := 200000, nextOffset := 65536 } },
           upd := { expected := n, block := some (65536, []) } }

theorem test_witness_UpdateGroup :
    (let m := msg 0x0B01 0 0 (u32 10485760 ++ u32 0)
     let s := readyIn .full .service m
     adm rowIntent m s = true ∧ le m.payload 0 4 = 10485760 ∧ s.mode.unconfirmed = false ∧ s.pwr.flashAllowed = true
     ∧ adm rowIntent m { s with mode := { op := .full, unconfirmed := true } } = true)
    ∧ (let m := msg 0x0B03 0 0 []
       let s := readyIn .loader .service m
       adm rowVerify m s = true ∧ isRunning s 0x0B03 = false ∧ s.flash.control.stage ≠ 2 ∧ isRunning (working 0x0B03 s) 0x0B03 = true
       ∧ verifyStatus { verdict with sigOk := false } (advance 0 s) ≠ 0
       ∧ verifyStatus verdict (advance 0 { s with flash := { s.flash with control := { stage := 3 } } }) = 0)
    ∧ (let m := msg 0x0B04 0 0 []
       let s := readyIn .loader .service m
       adm rowActivate m s = true ∧ s.upd.verifiedOk = false
       ∧ adm rowActivate m { s with upd := { verifiedOk := true }, flash := { s.flash with control := { stage := 3 } } } = true)
    ∧ (let m := msg 0x0B05 0 0 []
       let s := readyIn .full .service m
       adm rowConfirm m s = true ∧ s.mode.unconfirmed = false ∧ adm rowConfirm m { s with mode := { op := .full, unconfirmed := true } } = true)
    ∧ (let m := msg 0x0B02 0 70000 [1, 2]
       let s := updating 2 70000 (readyIn .loader .service m)
       let a := taken 0 m s
       adm rowBlock m s = true ∧ firstFail (blockChecks m a) = none ∧ m.context = a.upd.expected ∧ a.upd.block = some (65536, []) ∧ 65536 < m.context
       ∧ m.context + m.length < min (65536 + 65536) a.flash.control.imageBytes ∧ a.pwr.flashAllowed = true
       ∧ adm rowBlock m (updating 0 70000 s) = true ∧ adm rowBlock m (updating 4 70000 s) = true
       ∧ m.context ≠ (taken 0 m (updating 2 80000 s)).upd.expected ∧ m.context ≠ blockStart (taken 0 m (updating 2 80000 s))) := by decide +kernel

/-- A check value of SET 0 fits 32 bits. -/
theorem crc32_lt (bs : List Byte) : crc32 bs < 4294967296 := by
  have fold : ∀ (v : Nat) (l : List Nat) (acc k : Nat), acc < 2 ^ k →
      l.foldl (fun acc i => 2 * acc + (v >>> i) % 2) acc < 2 ^ (k + l.length) := by
    intro v l
    induction l with
    | nil => intro acc k h; simpa using h
    | cons x l ih =>
      intro acc k h
      have := ih (2 * acc + (v >>> x) % 2) (k + 1) (by have := Nat.mod_lt (v >>> x) (y := 2) (by decide); rw [Nat.pow_succ]; omega)
      simpa [Nat.add_assoc, Nat.add_comm 1] using this
  have h : ∀ v, reflectBits 32 v < 2 ^ 32 := fun v => by simpa [reflectBits] using fold v (List.range 32) 0 0 (by decide)
  show checkValue set0 _ < 2 ^ 32
  unfold checkValue
  exact Nat.xor_lt_two_pow (by simpa [set0] using h _) (by decide)

/-- SETTLE_ACTIVATE of the staged pattern that nothing was written to, with the CRC given. -/
def settleMsg (crc : Nat) : Msg := msg 0x0604 0 0 (u16 4095 ++ u16 4095 ++ u16 4095 ++ u16 0 ++ u32 crc)

theorem settleMsg_admitted (crc : Nat) : adm rowSettleActivate (settleMsg crc) (readyIn .full .safety (settleMsg crc)) = true := by
  have g : nextToServe (ready 0 (readyIn .full .safety (settleMsg crc))) = some (settleMsg crc) := rfl
  simp only [adm, admitted, isServed, g, Bool.and_eq_true, decide_eq_true_eq]
  exact ⟨⟨⟨⟨rfl, trivial⟩, rfl⟩, rfl⟩, rfl⟩

theorem settleMsg_crc (crc : Nat) (h : crc < 4294967296) : le (settleMsg crc).payload 8 4 = crc := by
  simp [settleMsg, msg, le, u16, u32, toLE]
  omega

theorem test_witness_SettleActivation :
    let c := crc32 (patternList [])
    let m := settleMsg c
    let s := readyIn .full .safety m
    (adm rowSettleActivate m s = true ∧ le m.payload 8 4 = crc32 (patternList (taken 0 m s).comp.settleStage) ∧ le m.payload 6 2 = 0
      ∧ latchBusyNow (taken 0 m s).arr = false)
    ∧ (let n := settleMsg ((c + 1) % 4294967296)
       adm rowSettleActivate n (readyIn .full .safety n) = true ∧ le n.payload 8 4 ≠ c) := by
  refine ⟨⟨settleMsg_admitted _, settleMsg_crc _ (crc32_lt _), rfl, rfl⟩, settleMsg_admitted _, ?_⟩
  have h := crc32_lt (patternList [])
  rw [settleMsg_crc _ (Nat.mod_lt _ (by decide))]
  omega

/-! ### Witnesses: events -/

/-- A module that runs in the state given, without waiting messages. -/
def runs (op : OpState) : State := { readyIn op .info pingMsg with gate := {} }

theorem test_witness_SupplyWatch : (runs .full).mode.op ≠ .off ∧ (runs .full).pwr.belowFrom = none
    ∧ (let s := { runs .full with pwr := { belowFrom := some 0 } }
       s.pwr.belowFrom ≠ none ∧ tsc (advance 2000 s) ≤ 0 + 2000 ∧ 0 + 2000 < tsc (advance 2001 s))
    ∧ (let s := { runs .full with pwr := { blindUntil := some 9 } }
       s.pwr.blindUntil = some 9 ∧ 9 ≤ tsc (advance 9 s) ∧ tsc (advance 8 s) < 9)
    ∧ crossesLow true 5800 = true ∧ crossesLow false 6400 = true ∧ crossesHigh true 36800 = true ∧ crossesHigh false 35200 = true
    ∧ (runs .full).pwr.holdReady = false ∧ { runs .full with pwr := { holdReady := true } }.pwr.holdReady = true
    ∧ (let s := { runs .full with pwr := { flashAllowed := true, slotWanted := true } }
       isFw s.mode.op = true ∧ s.mp.restarting = none ∧ s.pwr.flashAllowed = true ∧ s.pwr.slotWanted = true) := by decide +kernel

theorem test_witness_BrownoutSavesAndEnds :
    (let s := { runs .full with pwr := { belowFrom := some 0 } }
     isFw s.mode.op = true ∧ s.flt.running = true ∧ isShadowed s 36 0 = false ∧ s.pwr.belowFrom = some 0 ∧ 0 + 2000 < tsc (advance 2001 s))
    ∧ (runs .full).pwr.belowFrom = none ∧ (runs .brownoutSave).mode.op = .brownoutSave ∧ trainingOk boot.training = true
    ∧ seenAbove true 6001 = true ∧ seenAbove true 5800 = false
    ∧ { runs .brownoutSave with pwr := { saving := some (4, 0) } }.pwr.saving = some (4, 0) := by decide +kernel

theorem test_witness_StartsAndLoads : trainingOk boot.training = true ∧ State.reset.mode.op = .off ∧ (runs .boot).mode.op ≠ .off
    ∧ aboveStart 6001 = true ∧ aboveStart 5800 = false
    ∧ (let s := { runs .standby with pwr := { wakeSel := [.timer, .contact], timer := 5 } }
       s.mode.op = .standby ∧ s.pwr.wakeAtEntry = none ∧ s.pwr.wakeSel.contains .timer = true ∧ sourceActive .timer [] 5 s = true
       ∧ sourceActive .timer [] 4 s = false ∧ sourceActive .contact (List.replicate 4 .high) 0 s = true
       ∧ s.pwr.wakeSel.contains .canPattern = false
       ∧ { s with pwr := { wakeAtEntry := some .contact } }.pwr.wakeAtEntry.isSome = true)
    ∧ (let s := { runs .boot with dram := { trainFailed := some 0 }, upd := { loaderWait := some 0 } }
       s.mode.op = .boot ∧ s.dram.trainFailed = some 0 ∧ s.upd.loaderWait = some 0 ∧ 0 + 100000000 ≤ tsc (advance 100000000 s)
       ∧ tsc (advance 99999999 s) < 0 + 100000000)
    ∧ isFw (runs .full).mode.op = true ∧ (runs .full).conv.loaded = false ∧ (runs .full).mp.restarting = none ∧ (runs .full).rake.restored = false
    ∧ { runs .full with conv := { loaded := true }, rake := { restored := true } }.rake.restored = true := by decide +kernel

theorem test_witness_ImageCheckDecides :
    (let s := runs .boot
     s.mode.op = .boot ∧ s.dram.trainFailed = none ∧ s.upd.loaderWait = none ∧ s.flash.control.stage = 0 ∧ s.pwr.wakeReport = 0 ∧ s.flt.reaction < 5
     ∧ (let w := { s with pwr := { wakeReport := 1 } }
        w.pwr.wakeReport ≠ 0 ∧ tsc (advance 28799999 w) < 28800000 ∧ 28800000 ≤ tsc (advance 28800000 w))
     ∧ imageValid (advance 0 s) { verdict with sigOk := false } = false)
    ∧ (let s := { runs .boot with flash := { control := { stage := 3 } } }
       1 ≤ s.flash.control.stage ∧ s.flash.control.stage ≤ 3)
    ∧ (let s := { runs .boot with flash := { control := { stage := 4, boots := 3 } } }
       s.flash.control.stage = 4 ∧ 3 ≤ s.flash.control.boots)
    ∧ (let s := { runs .boot with flash := { control := { stage := 4, boots := 2 } }, flt := { running := true, reaction := 5, heldByReaction := true } }
       s.flash.control.stage = 4 ∧ s.flash.control.boots < 3 ∧ imageValid (advance 0 s) verdict = true ∧ verdict.digest = s.flash.control.digest
       ∧ 5 ≤ s.flt.reaction ∧ s.flt.heldByReaction = true)
    ∧ (let s := runs .boot
       s.flash.control.stage = 0 ∧ imageValid (advance 0 s) verdict = true ∧ verdict.digest = s.flash.control.digest) := by decide +kernel

theorem test_witness_AssertionsAreLatched : (runs .full).flt.running = true ∧ isShadowed (advance 0 (runs .full)) 47 0 = false
    ∧ unwatched (runs .full) 37 3 = true ∧ unwatched (runs .full) 47 3 = false
    ∧ (isLevel 29 = true ∧ hasBit (runs .full).flt.cond 29 = false ∧ hasBit (runs .full).flt.force 29 = false)
    ∧ (runs .full).flt.counts.length = 48 ∧ (runs .full).flt.datas.length = 48 ∧ isCorrected 47 = false ∧ (runs .full).flt.first = none
    ∧ (let s := { runs .full with flt := { running := true, shadows := [.cutoff] }, arr := { switchOpen := true } }
       isShadowed (advance 0 s) 44 0 = true ∧ isLevel 44 = true)
    ∧ (let s := { runs .full with flt := { running := true, shadows := [.compReinit] } }
       isShadowed (advance 0 s) 13 0 = true ∧ isLevel 13 = false)
    ∧ hasBit { runs .full with flt := { running := true, cond := withBit 0 29 } }.flt.cond 29 = true
    ∧ hasBit { runs .full with flt := { running := true, cond := withBit 0 32 } }.flt.cond 32 = true
    ∧ State.reset.flt.running = false ∧ isLevel 11 = false := by decide +kernel

theorem test_witness_LevelsShadowsRearm :
    (let s := { runs .full with flt := { running := true, cond := withBit 0 45, status := withBit 0 45 } }
     isLevel 37 = true ∧ hasBit { s with flt := { running := true, cond := withBit 0 37 } }.flt.cond 37 = true ∧ hasBit s.flt.force 37 = false
     ∧ hasBit { s with flt := { running := true, cond := withBit 0 37, force := withBit 0 37 } }.flt.force 37 = true
     ∧ isLevel 45 = false ∧ hasBit s.flt.cond 37 = false)
    ∧ (let s := { runs .full with flt := { running := true, shadows := [.mpRestart] } }
       s.flt.shadows.contains .mpRestart = true ∧ shadowOver .mpRestart (advance 1000000 s) = true ∧ shadowOver .mpRestart (advance 999999 s) = false
       ∧ (runs .full).flt.shadows.contains .mpRestart = false)
    ∧ (let s := { runs .idle with flt := { running := true, heldByReaction := true, reaction := 6 }, arr := { switchOpen := true } }
       rearmDue (advance 100000000 s) = true ∧ rearmDue (advance 99999999 s) = false ∧ s.mode.op = .idle ∧ s.dim.heldByDemand = false) := by decide +kernel

theorem test_witness_GovernorFaultCutsSettle : (runs .safe).mode.op = .safe ∧ (runs .safe).mode.safeKind = 2 ∧ (runs .safe).flt.running = true
    ∧ isShadowed (advance 0 (runs .safe)) 14 0 = false := by decide +kernel

theorem test_witness_DetectorsAssert : clockRuns (runs .full) = true ∧ (runs .full).fuse.variant ≠ .e ∧ arrayUp (runs .full) = true
    ∧ (let s := { runs .full with link := { aDown := some 0, bDown := some 0 }, time := { highFrom := some 0 } }
       s.link.aDown = some 0 ∧ s.link.bDown = some 0 ∧ 0 + 10000 < tsc (advance 10001 s) ∧ tsc (advance 10000 s) ≤ 0 + 10000
       ∧ s.time.highFrom = some 0 ∧ (scheduled s).sched.running = true ∧ 0 + 100000000 < tsc (advance 100000001 s)
       ∧ (runs .full).link.aDown = none ∧ (runs .full).time.highFrom = none)
    ∧ (let s := scheduled (runs .full)
       s.link.silenceFrom + 100000 * s.cfg.link.hostTimeout < tsc (advance 50000001 s) ∧ tsc (advance 50000000 s) ≤ s.link.silenceFrom + 100000 * s.cfg.link.hostTimeout)
    ∧ (let s := { runs .full with arr := { drvEn := true, switchOpen := false, droopFrom := some 0 } }
       s.arr.droopFrom = some 0 ∧ 0 + 2000000 < tsc (advance 2000001 s) ∧ bankLit s = true ∧ (runs .full).arr.droopFrom = none)
    ∧ (let s := { runs .full with sync := { carrier := true } }
       drives s = false ∧ s.sync.loss = false ∧ s.sync.lastSym + 30 < tsc (advance 31 s) ∧ tsc (advance 30 s) ≤ s.sync.lastSym + 30
       ∧ lossSuspended (advance 31 s) = false)
    ∧ (let s := { runs .full with arr := { switchOpen := false }, dim := { differs := some 0 } }
       true ≠ s.arr.switchOpen ∧ s.dim.differs = some 0 ∧ s.dim.differsNoted = false ∧ 0 + 500 < tsc (advance 501 s)
       ∧ tsc (advance 500 s) ≤ s.dim.differs.getD (tsc (advance 500 s)) + 500)
    ∧ (let s := { runs .full with arr := { vled := 4000, vledLow := some 0, vledHigh := some 0 } }
       let a := advance 10001 s
       vledTooLow 3899 a = true ∧ vledTooHigh 4301 a = true ∧ vledTooLow 3900 a = false ∧ vledTooHigh 4300 a = false
       ∧ s.arr.vledLow.getD (tsc a) + 2000 < tsc a ∧ s.arr.vledHigh.getD (tsc a) + 10000 < tsc a
       ∧ tsc (advance 2000 s) ≤ s.arr.vledLow.getD 0 + 2000)
    ∧ (let s := { runs .full with dim := { disagree := some 0, tDisc := 50, proofFrom := some 0, proofWindow := 5000 } }
       s.dim.disagree = some 0 ∧ hasBit s.flt.cond 16 = false ∧ 0 + 100000 * s.dim.tDisc + 100000 ≤ tsc (advance 5100000 s)
       ∧ tsc (advance 5099999 s) < 0 + 100000 * s.dim.tDisc + 100000 ∧ (runs .full).dim.disagree = none)
    ∧ (let s := { runs .full with dim := { demand := true, state := .ramp, i0 := 1000000, tEnd := 200000 } }
       let a := advance 100000 s
       100000 ≤ tsc a ∧ s.dim.idleRamp = none ∧ rampChecked s = true ∧ s.dim.rampWindow ≠ some (tsc a / 100000 - 1)
       ∧ overRamp a 0 10000000 s.dim.t0 s.dim.tEnd s.dim.i0 s.dim.iEnd = true ∧ overRamp a 0 0 s.dim.t0 s.dim.tEnd s.dim.i0 s.dim.iEnd = false
       ∧ { s with dim := { rampWindow := some 0 } }.dim.rampWindow = some (tsc a / 100000 - 1))
    ∧ (let s := { runs .full with gov := { windowsDone := 0 }, dim := { lastMean := 99000000 } }
       let a := advance 100000 s
       s.gov.windowsDone = tsc a / 100000 - 1 ∧ 21 * highBudget a 0 + 1000000 < 20 * s.dim.lastMean
       ∧ s.gov.windowsDone < tsc (advance 200000 s) / 100000 - 1
       ∧ tsc a / 100000 - 1 < { s with gov := { windowsDone := 1 } }.gov.windowsDone) := by decide +kernel

/-- A record that waits since TSC 0. -/
def rec0 : EventRec := { tsc := 0, node := 0, source := 0x147, code := 5, data := 0 }

theorem test_witness_MpWatchdogAndLoad : mpRuns (runs .loader) = true
    ∧ (runs .loader).mp.serviced + 5000000 < tsc (advance 5000001 (runs .loader)) ∧ isShadowed (advance 5000001 (runs .loader)) 1 0 = false
    ∧ (let s := { runs .full with mp := { restarting := some 0 } }
       s.mp.restarting = some 0 ∧ tsc (advance 15000000 s) ≤ 0 + 15000000 ∧ 0 + 15000000 < tsc (advance 15000001 s))
    ∧ (let s := runs .full
       s.mp.loadAt + 1000000 ≤ tsc (advance 1000000 s) ∧ tsc (advance 999999 s) < s.mp.loadAt + 1000000 ∧ s.mp.loadHigh = false
       ∧ 80 ≤ max 80 (queueShare 0 (advance 1000000 s)) ∧ max 69 (queueShare 0 (advance 1000000 s)) < 70
       ∧ { s with mp := { loadHigh := true } }.mp.loadHigh = true)
    ∧ { runs .full with gate := { muted := true } }.gate.authWindow < tsc (advance 100000000 (runs .full)) / 100000000
    ∧ (let x := { sess .info pingMsg with high := [] }
       let s := { runs .full with gate := { sessions := [x] }, log := { recs := [{ num := 0, event := rec0 }], written := 1 } }
       delivers s = true ∧ findSession (advance 100000 s) 1 = some x ∧ eventDue 100000 (waitingRecords (advance 100000 s) x) = true
       ∧ eventDue 99999 (waitingRecords (advance 99999 s) x) = false ∧ findSession (advance 0 (runs .full)) 1 = none
       ∧ delivers { s with mp := { restarting := some 0 } } = false) := by decide +kernel

/-- The bytes of a PING on session 1, with a tag of zeros. -/
def pingBytes : List Byte := headerBytes 1 0 0x0103 1 7 1 0 0 0 ++ List.replicate 8 0

theorem test_witness_GateChecksInOrder :
    (let s := { runs .full with sync := { role := .member }, can := {} }
     receives (advance 0 s) ep0 = true ∧ ([] : List Byte).length < 32
     ∧ 32 ≤ pingBytes.length ∧ (parseMsg ep0 0 pingBytes).version = 1 ∧ (parseMsg ep0 0 pingBytes).length = pingBytes.length - 32
     ∧ (parseMsg ep0 0 (2 :: pingBytes.drop 1)).version ≠ 1 ∧ (parseMsg ep0 0 (pingBytes ++ [0])).length ≠ (pingBytes ++ [0]).length - 32
     ∧ (parseMsg ep0 0 pingBytes).session = 1 ∧ findSession (advance 0 s) 1 = none
     ∧ (let x := { sess .info pingMsg with high := [], kHm := List.replicate 16 1 }
        let o := { s with gate := { sessions := [x] } }
        let tag := tagOf x.kHm (pingBytes.take (pingBytes.length - 8))
        let good := pingBytes.take (pingBytes.length - 8) ++ tag
        let m := parseMsg ep0 0 good
        findSession (advance 0 o) 1 = some x ∧ tag ≠ pingBytes.drop (pingBytes.length - 8)
        ∧ x.ep = ep0 ∧ good.drop (good.length - 8) = tag ∧ good.take (good.length - 8) = pingBytes.take (pingBytes.length - 8)
        ∧ m.length = good.length - 32 ∧ m.length ≤ 1440 ∧ m.flags % 4 ≠ 3 ∧ lastFresh x (m.flags % 4) < m.freshness ∧ m.opcode / 256 ≠ 0x0B
        ∧ (advance 0 o).mp.restarting = none ∧ (queueOf x (m.flags % 4)).length < queueDepth (m.flags % 4))) := by
  decide +kernel

theorem test_witness_TimeBaseFollows :
    (let s := heardMaster (runs .idle)
     s.mode.op = .idle ∧ s.mp.restarting = none ∧ (0 : Int) ≤ (advance 5 s).time.acc + (-5) * 4294967296 ∧ (runs .full).mode.op = .full
     ∧ clockRuns s = true ∧ linkUpOn s .a = true ∧ (pdelayOf s.time .a).elim true (fun x => decide (x + 100000000 ≤ 0)) = true
     ∧ { s with time := { pdelayA := some 0 } }.time.pdelayA = some 0
     ∧ (announceOf s.time .a).map (fun x => decide (x.arrived + 3 * x.interval < tsc (advance 300000001 s))) = some true
     ∧ (announceOf s.time .a).map (fun x => decide (tsc (advance 300000000 s) ≤ x.arrived + 3 * x.interval)) = some true
     ∧ servoRuns s = true ∧ servoRuns { s with mp := { restarting := some 0 } } = false)
    ∧ (let s := { runs .full with time := { syncAt := some (0, 100), gptp := 2 } }
       s.time.syncAt = some (0, 100) ∧ 0 + 3 * 100 < tsc (advance 301 s) ∧ tsc (advance 300 s) ≤ 0 + 3 * 100 ∧ s.time.gptp = 2
       ∧ (runs .full).time.gptp ≠ 2 ∧ (runs .full).time.syncAt = none) := by decide +kernel

theorem test_witness_FrameBoundary :
    (let s := scheduled (runs .full)
     s.sched.running = true ∧ s.mode.op = .full ∧ s.sched.cutDone ≠ some s.sched.nextComp ∧ cutoffAt s.sched 10 = tsc (advance 4494200 s)
     ∧ tsc (advance 4494199 s) < cutoffAt s.sched 10 ∧ s.sched.change = none ∧ compAt s.sched 10 = tsc (advance 4498200 s)
     ∧ tsc (advance 4498199 s) < compAt s.sched 10 ∧ s.drw.slots.length = 256 ∧ (runs .full).sched.running = false
     ∧ { s with sched := { s.sched with cutDone := some 10 } }.sched.cutDone = some { s with sched := { s.sched with cutDone := some 10 } }.sched.nextComp) := by
  decide +kernel

/-- A frame being composed on the factory grid. -/
def comp10 : CompFrame :=
  { frame := 10, layers := [], chest := {}, chestRef := 0, mirrorX := false, mirrorY := false, curves := [], corr := [], map := [], bridges := [],
    tLo := [], tHi := [], w := 0, cores := [], pitch := 300, profile := 1, period := 500000, prevSwap := 4500000, gap := false, swapTsc := 5000000,
    trim := 0 }

/-- The schedule with the frame being composed. -/
def composing (f : CompFrame) (s : State) : State :=
  { s with sched := { s.sched with running := true, first := 10, nextComp := 11, nextSwap := 10, swapTsc := 5000000, writeStart := 4500000, cur := some f } }

def layer0 (slot : Nat) : Layer :=
  { slot := slot, operator := 0, region := none, desc := {}, params := {}, buf := some 0, objects := [], cabinet := none, off := false }

/-- Row 0 with its CRC is good, in a packet for the bank on show it is not. -/
theorem test_row_packet_good : rowGood (composing comp10 (runs .full)) row0 (crc32 (packetBytes row0)) = true
    ∧ rowGood (composing comp10 (runs .full)) { row0 with bank := .a } 0 = false := by
  have h : decide (row0.bank ≠ (composing comp10 (runs .full)).arr.bankSel) = true := by decide
  have g : inOrder (composing comp10 (runs .full)).arr row0 = true := by decide
  have b : decide (({ row0 with bank := .a } : RowPacket).bank ≠ (composing comp10 (runs .full)).arr.bankSel) = false := by decide
  constructor
  · simp only [rowGood, crcGood, h, g]; simp
  · simp only [rowGood, b]; simp

theorem test_witness_RowsReachTheInactiveBank :
    (let f := { comp10 with nextRow := 639, layers := [layer0 0, layer0 2] }
     let s := composing f (runs .full)
     s.sched.cur = some f ∧ f.withheld = false ∧ f.nextRow = 639
     ∧ transferAt s.sched f 639 = some (tsc (advance 4691400 s) : Int) ∧ lateAt s.sched f 639 = some (tsc (advance 4691100 s) : Int)
     ∧ f.layers.any (fun x => x.slot = 2 && x.buf.isSome && x.cabinet.isNone && !x.off) = true ∧ (baseSlots s).contains 2 = false
     ∧ (s.mode.op = .full ∨ s.mode.op = .safe))
    ∧ (let s := composing comp10 (runs .full)
       let b := advance 4600000 s
       drivePacketOk row0 = true ∧ s.sched.running = true ∧ row0.bank ≠ s.arr.bankSel ∧ inOrder s.arr row0 = true ∧ row0.row < 639
       ∧ rowDue b row0 true = true ∧ rowDue (advance 0 s) row0 true = false
       ∧ rowDue b row0 false = true
       ∧ (let w := { s with arr := { writeRow := 639, writeFrame := 10 } }
          let p := { row0 with row := 639 }
          inOrder w.arr p = true ∧ rowDue (advance 4800000 w) p true = true ∧ w.sched.reinitAt = none ∧ w.arr.writeBad = false)) := by decide +kernel

theorem test_witness_SwapIsDecidedOnce :
    (let f := { comp10 with nextRow := 640 }
     let s := composing f (runs .full)
     (s.mode.op = .full ∨ s.mode.op = .safe) ∧ s.sched.cur = some f ∧ f.withheld = false ∧ f.checked = false ∧ f.scale = none ∧ s.sched.nextSwap = f.frame
     ∧ s.sched.running = true ∧ s.sched.decided = none ∧ swapOf s.sched 10 - 1000 = tsc (advance 4999000 s)
     ∧ tsc (advance 4998999 s) < swapOf s.sched 10 - 1000 ∧ (2 : Nat) ≠ { comp10 with checked := true, scale := some 0 }.nextRow)
    ∧ (let s := { scheduled (runs .full) with sync := { role := .head, sluiceSent := some 10 } }
       let d := { s with sched := { s.sched with decided := some true } }
       d.sched.decided = some true ∧ drives d = true ∧ d.sync.sluiceSent = some d.sched.nextSwap ∧ drivenAt d / 4 ≤ tsc (advance 5000000 d)
       ∧ (tsc (advance 4999999 d) : Int) < drivenAt d / 4 ∧ { s with sched := { s.sched with decided := some false } }.sched.decided = some false)
    ∧ (let s := { scheduled (runs .full) with sync := { role := .member, armed := some (10, 20000000), missed := 1 } }
       let d := { s with sched := { s.sched with decided := some true } }
       drives d = false ∧ d.sync.armed = some (d.sched.nextSwap % 65536, 20000000) ∧ 20000000 / 4 ≤ tsc (advance 5000000 d)
       ∧ (let q := { d with sync := { role := .member, missed := 1 } }
          drives q = false ∧ q.sync.armed = none ∧ swapOf q.sched 10 + 100 < tsc (advance 5000101 q) ∧ upstreamGone (advance 5000101 q) = true
          ∧ (tsc (advance 5000100 q) : Int) ≤ swapOf q.sched 10 + 100)) := by decide +kernel

theorem test_witness_GovernorStaysInBudget :
    (let t := govTerms (runs .full) { comp10 with sum := 1000000, scaleFloor := 1023 }
     0 ≤ t.budget ∧ 0 ≤ t.power)
    ∧ (let f := { comp10 with sum := 1310720 * 16383 }
       let s := { runs .full with cfg := { gov := { balanced := 100, precise := 100, swift := 100, cool := 100 } } }
       effectiveBudget s f.profile ≤ 100000)
    ∧ isAsserted { runs .full with flt := { running := true, status := withBit 0 34, cond := withBit 0 34 } } 34 = true := by decide +kernel

/-- A settle-latch packet of row 639 that sets nothing. -/
def latch639 : RowPacket := { row := 639, bank := .a, kind := 1, frame := 0, codes := List.replicate 2048 0 }

theorem test_witness_LatchCyclesWriteOneRow :
    (let s := { runs .full with arr := { latchBusy := true, latchRow := 639 } }
     let rb := memReadList 0 s.arr.pattern (2048 * 639) 2048
     readbackOk rb = true ∧ latchPacketOk latch639 = true ∧ memWf 0 s.arr.latches = true ∧ s.arr.latchBusy = true ∧ s.sched.running = false
     ∧ latch639.row = s.arr.latchRow ∧ rb ≠ List.replicate 2048 3 ∧ { s.arr with latchRetry := true }.latchRetry = true
     ∧ (let g := scheduled { runs .full with arr := { latchBusy := true, gapCycles := 32 } }
        latchGap (advance 0 g) = some 9 ∧ g.arr.gapFrame ≠ 9 ∧ latchGap (advance 4499700 g) = none)
     ∧ (runs .full).arr.latchBusy = false ∧ arrayUp (runs .full) = true ∧ (runs .full).arr.checkedAt = none ∧ (runs .full).sched.running = false
     ∧ rb = memReadList 0 (runs .full).arr.pattern (2048 * (runs .full).arr.checkRow) 2048
     ∧ (let c := { runs .full with arr := { checkedAt := some 100000 } }
        100000 / 100000 < tsc (advance 200000 c) / 100000 ∧ tsc (advance 199999 c) / 100000 ≤ 100000 / 100000)
     ∧ movesPower (.rearm 0) = false) := by decide +kernel

/-- A monitor frame of 160 packets, the rows given composed. -/
def monFrame (rows : Nat) (sent : Nat) : MonFrame :=
  { frame := 10, tap := 1, mode := 2, downOp := 0, rows := List.replicate rows [], sent := sent, shown := some true, layerOff := false,
    chestFail := false, scale := 0, swapTsc := 0, mirrorX := false, mirrorY := false, pcp := 0, crc := none }

theorem test_witness_MonitorStreamSends :
    (let s := { runs .full with mon := { ring := [monFrame 640 159] }, link := { aState := 2, aSpeed := 3, ip := some 1 } }
     let x := monFrame 640 159
     s.mon.ring = [x] ∧ x.sent < monitorPackets 2 ∧ s.link.aState = 2 ∧ rowsNeeded 2 (159 / packetsPerRow 2) = x.rows.length
     ∧ monitorStops (advance 0 s) x (monitorPacket (advance 0 s) x) = false
     ∧ monitorStops (advance 0 { s with link := {} }) x (monitorPacket (advance 0 s) x) = true
     ∧ (monFrame 639 159).rows.length < rowsNeeded 2 (159 / packetsPerRow 2) ∧ (runs .full).link.aState ≠ 2
     ∧ monitorEnded (composing { comp10 with frame := 10 } s) (monFrame 639 159) = false
     ∧ monitorPackets 2 ≤ (monFrame 640 160).sent ∧ (monFrame 640 160).shown ≠ none ∧ s.sched.decided ≠ some false ∧ s.sched.running = false
     ∧ monitorStops (advance 0 s) (monFrame 640 160) (brineHeader s 3 10 0 0 0 ++ trailerBytes (monFrame 640 160) 7) = false
     ∧ { monFrame 640 160 with crc := some 7 }.crc = some 7) := by decide +kernel

theorem test_witness_RakeWindowsInTurn :
    (let s := { runs .full with rake := { mode := 2, restored := true, nextRow := 639, snapFrom := 0 }, conv := { loaded := true } }
     let b := freshBase (advance 1002000 s)
     windowSlot b = some 0 ∧ mayStart b = true ∧ b.rake.windows ≤ 0 ∧ 0 < b.rake.rows
     ∧ windowSlot (freshBase (advance 1001999 s)) = none ∧ mayStart (freshBase (advance 1002000 (runs .full))) = false
     ∧ (let w := { s with rake := { s.rake with windows := 3, base := 1000000, rows := 11 } }
        0 < (freshBase (advance 1002000 w)).rake.windows)
     ∧ (let e := { s with rake := { s.rake with window := some { row := 639, start := 2000, sweep := false, ready := true, touched := [] } } }
        (endedWindow (advance 2400 e) false).isSome = true ∧ endedWindow (advance 2399 e) false = none)
     ∧ (let e := { s with rake := { s.rake with window := some { row := 639, start := 2000, sweep := true, ready := true, touched := [] } } }
        (endedWindow (advance 2400 e) true).isSome = true ∧ endedWindow (advance 2399 e) true = none ∧ ([] : List Sample).all sampleOk = true
        ∧ s.rake.cursor + 1 < cursorEnd s ∧ cursorEnd s ≤ { s.rake with cursor := cursorEnd s - 1 }.cursor + 1)
     ∧ (let c := freshBase (advance (1002000 + 500 * b.rake.rows) s)
        windowSlot c = some c.rake.rows ∧ c.rake.rows ≠ 0 ∧ c.rake.swept = false ∧ mayStart c = true ∧ sweepRuns c = true ∧ reserved c = false)
     ∧ isFw s.mode.op = true ∧ s.mp.restarting = none ∧ s.conv.loaded = true ∧ s.rake.vfAt = 0
     ∧ (let v := { s with rake := { s.rake with vfAt := 1 } }
        v.rake.vfAt ≠ 0 ∧ v.rake.vfAt + 100000000 = tsc (advance 100000001 v) ∧ tsc (advance 100000000 v) < v.rake.vfAt + 100000000)
     ∧ flashWork s = true ∧ s.rake.snapFrom + 8640000000 = tsc (advance 8640000000 s) ∧ tsc (advance 8639999999 s) < s.rake.snapFrom + 8640000000
     ∧ s.flash.delta.length < 24576 ∧ flashWork { s with pwr := {} } = false ∧ (runs .full).rake.restored = false) := by decide +kernel

theorem test_witness_SyncSymbols :
    (let s := { runs .full with sync := { role := .head } }
     slotDue (advance 10 s) = true ∧ drives s = true ∧ slotDue (advance 15 s) = false)
    ∧ (let s := { runs .full with sync := { role := .member, depth := 510, len := 512 } }
       listens s = true ∧ slotDue (advance 10 s) = true ∧ drives s = false ∧ s.sync.carrier = false ∧ s.sync.loss = false
       ∧ { s with sync := { carrier := true, loss := true } }.sync.carrier = true
       ∧ symOk (mkSym 3 511) = true ∧ (mkSym 3 511).type = 3 ∧ (mkSym 3 511).payload.toNat / 512 % 2 = 0 ∧ s.sched.running = false
       ∧ s.sync.depth < 511 ∧ (mkSym 3 512).payload.toNat / 512 % 2 = 1 ∧ (mkSym 3 511).payload.toNat % 512 ≠ s.sync.depth
       ∧ (mkSym 3 511).payload.toNat % 512 ≠ 0
       ∧ symOk (mkSym 4 0xFFFFFF) = true ∧ (mkSym 4 0xFFFFFF).type = 4 ∧ symOk { mkSym 1 0 with mark := 0 } = false
       ∧ (let r := scheduled s
          let x := mkSym 2 (if s.arr.bankSel.other = .a then 10 else 65546)
          symOk x = true ∧ x.type = 2 ∧ s.sync.role ≠ .islandHead ∧ isDuplicate x r = false ∧ r.sched.running = true
          ∧ x.payload.toNat % 65536 = r.sched.nextSwap % 65536 ∧ r.sync.armed = none
          ∧ (tsc (advance 5000100 r) : Int) = swapOf r.sched r.sched.nextSwap + 100 ∧ (mkSym 2 11).payload.toNat % 65536 ≠ r.sched.nextSwap % 65536
          ∧ isDuplicate x { r with sync := { r.sync with lastFrame := some 10 } } = true
          ∧ (mkSym 2 (if s.arr.bankSel.other = .a then 65546 else 10)).payload.toNat / 65536 % 2 ≠ (match s.arr.bankSel.other with | .a => 0 | .b => 1)))
    ∧ listens { runs .full with sync := { role := .islandHead } } = true
    ∧ (let s := { runs .full with sync := { windowEnd := 0 } }
       arrayUp s = true ∧ s.sync.started = false ∧ s.sync.windowEnd < tsc (advance 1 s) ∧ s.sync.heard = false ∧ { s with sync := { heard := true } }.sync.heard = true)
    ∧ (let s := { runs .full with sync := { loss := true, validRun := 16, measuring := true } }
       s.sync.loss = true ∧ 16 ≤ s.sync.validRun ∧ s.sync.measuring = true ∧ s.sched.running = false
       ∧ { s with sync := { loss := true, validRun := 15 } }.sync.validRun < 16) := by decide +kernel

theorem test_witness_LinkPortsForward :
    (let s := { runs .full with link := { aState := 2, bState := 2, aSpeed := 3, bSpeed := 3, ip := some 7 } }
     arrayUp s = true ∧ s.fuse.variant ≠ .e ∧ hasPort s frame0.port = true ∧ linkUpOn s frame0.port = true ∧ frame0.fcsOk = true
     ∧ frame0.pause = false ∧ frame0.bytes ≤ 1522 ∧ frame0.dst ≠ s.fuse.mac ∧ isGroup frame0.dst = false ∧ frame0.dst < 0x0180C2000000
     ∧ isGroup s.fuse.mac = false ∧ (s.fuse.mac < 0x0180C2000000 ∨ 0x0180C200000F < s.fuse.mac) ∧ linkUpOn s (otherPort frame0.port) = true
     ∧ cutsThrough (advance 0 s) frame0 = true ∧ s.link.ip = some 7 ∧ (8 : Nat) ≠ 7
     ∧ (let b := { s with link := { s.link with egressB := { busyUntil := 1000 } } }
        cutsThrough (advance 0 b) frame0 = false ∧ egressRoom 0 (egressQueue frame0.tag) 64 .b b.link = true)
     ∧ (let b := { s with link := { s.link with egressB := { waiting := [{ queue := egressQueue frame0.tag, bytes := 24513, joined := 0 }], busyUntil := 1000 } } }
        cutsThrough (advance 0 b) frame0 = false ∧ egressRoom 0 (egressQueue frame0.tag) 64 .b b.link = false)
     ∧ phyAllowed s.link.inForce .a 1 false = true ∧ phyAllowed s.link.inForce .a 3 false = false ∧ (runs .full).link.aState ≠ 2) := by decide +kernel

/-- A packet that the internal port accepts for the video UDP port. -/
def video0 (raw : List Byte) : Datagram :=
  { ip := { dst := 7, options := false, fragment := false, headerOk := true, udp := true, dstPort := 50111, udpOk := true }, payload := raw }

theorem test_witness_VideoAndServicePort :
    (let s := { runs .full with link := { ip := some 7 } }
     let raw : List Byte := [1, 1, 5, 0] ++ List.replicate 20 0
     let r : TableRow := { slot := 2, desc := { type := 0, stream := 5 }, params := {} }
     arrayUp s = true ∧ ipAccepted s (video0 raw).ip = true ∧ (video0 raw).ip.dstPort = 50111 ∧ ipAccepted (runs .full) { (video0 raw).ip with options := true } = false
     ∧ boundRows (advance 0 s) raw = [] ∧ brineBad r.desc raw = true
     ∧ (let p := { drawer { st := .placed, desc := r.desc } s with drw := { (drawer { st := .placed, desc := r.desc } s).drw with table := [r] } }
        boundRows (advance 0 p) raw ≠ [])
     ∧ canReqId s = some 0x400 ∧ canReqId s ≠ some 0x402 ∧ s.can.busOff = false ∧ s.can.rx = none ∧ s.can.sending = none
     ∧ { id := 0x400, fd := true, data := [7, 1, 2, 3, 4, 5, 6, 7] : CanFrame }.data = BitVec.ofNat 8 7 :: [1, 2, 3, 4, 5, 6, 7]
     ∧ ([] : List Byte).length < 1472
     ∧ (let q := { s with can := { rx := some { total := 9, bytes := [], next := 1, last := 0 } } }
        0 + 100000000 < tsc (advance 100000001 q) ∧ tsc (advance 100000000 q) ≤ 0 + 100000000 ∧ q.can.sending = none)
     ∧ (let q := { s with can := { sending := some { bytes := [1], sent := 0, next := 1, waits := 0, since := 0 } } }
        q.can.rx = none ∧ 0 + 100000000 < tsc (advance 100000001 q) ∧ q.can.sendq = [])
     ∧ { s with can := { busOff := true } }.can.busOff = true) := by decide +kernel

theorem test_witness_SafeDimDemands :
    (let s := { runs .full with dim := { samples := List.replicate 10 (true, true), sampledAt := some 100000 } }
     arrayUp s = true ∧ s.flt.running = true ∧ tsc (advance 110000 s) % 10000 = 0 ∧ 100000 + 10000 = tsc (advance 110000 s)
     ∧ (100000 ≠ tsc (advance 120000 s) ∧ 100000 + 10000 ≠ tsc (advance 120000 s)) ∧ tsc (advance 110001 s) % 10000 ≠ 0
     ∧ tsc (advance 100000 s) % 100000 = 0 ∧ s.dim.sampledAt = some (tsc (advance 100000 s)) ∧ s.dim.state = .quiet ∧ s.dim.demand = false
     ∧ s.dim.disagree = none ∧ s.dim.proofFrom = none ∧ tsc (advance 100001 s) % 100000 ≠ 0
     ∧ tenSamples (advance 200000 s) = false ∧ discrepancyDue (advance 200000 s) = false ∧ proofDue (advance 200000 s) = false)
    ∧ (let s := { runs .full with dim := { samples := List.replicate 10 (false, false), sampledAt := some 100000, state := .ramp, demand := true, tEnd := 100001 } }
       s.dim.state = .ramp ∧ s.dim.demand = true ∧ tsc (advance 100000 s) < s.dim.tEnd ∧ hasBit s.flt.cond 16 = false ∧ s.dim.tEnd = tsc (advance 100001 s)
       ∧ s.dim.idleRamp = none ∧ rampTickNow s.dim.t0 s.dim.tEnd (tsc (advance 100000 s)) = true
       ∧ { s with dim := { state := .applied } }.dim.state = .applied)
    ∧ (let s := { runs .full with arr := { drvEn := true, switchOpen := false }, dim := { idleRamp := some (0, 9, 0) } }
       bankLit s = true ∧ s.dim.state ≠ .ramp ∧ s.dim.idleRamp = some (0, 9, 0) ∧ 9 ≤ tsc (advance 9 s))
    ∧ (let s := { runs .full with arr := { switchOpen := false } }
       pulseState (advance 50000 s) = true ∧ pulseDue (advance 50000 s) = true ∧ pulseDeferred (advance 50000 s) = false ∧ s.dim.retest = false
       ∧ pulseDue (advance 49999 s) = false ∧ pulseDeferred (advance 50000 { s with pwr := { belowFrom := some 0 } }) = true
       ∧ s.dim.pulseWaits = false ∧ { s with dim := { pulseWaits := true, retest := true } }.dim.pulseWaits = true) := by decide +kernel

theorem test_witness_ConvertersAndHeat :
    (let l : List Sample := List.replicate 8 (sample 4095)
     (List.replicate 23 l).length = 23 ∧ (List.replicate 23 l).all (entryOk 8) = true ∧ scanDue (advance 5000 (runs .full)) = true
     ∧ reserved (advance 5000 (runs .full)) = false ∧ scanDue (advance 4999 (runs .full)) = false)
    ∧ (let s := { runs .full with gov := { step := 8 }, flt := { running := true, cond := withBit 0 29 } }
       s.gov.stepFrom + 100000000 = tsc (advance 100000000 s) ∧ tsc (advance 99999999 s) < s.gov.stepFrom + 100000000 ∧ hasBit s.flt.cond 29 = true
       ∧ hasBit (runs .full).flt.cond 29 = false)
    ∧ (let s := { runs .full with conv := { urgentUntil := some 310 } }
       s.conv.urgentUntil = some 310 ∧ tsc (advance 309 s) < 310 ∧ 310 ≤ tsc (advance 310 s) ∧ (runs .full).conv.urgentUntil = none
       ∧ sampleOk (sample 4095) = true ∧ isWarm (warm (runs .full)) (scanConv (warm (runs .full))) = true
       ∧ isWarm (runs .full) (scanConv (runs .full)) = false)
    ∧ (let z : List (List Sample) := List.replicate 4 (List.replicate 16 (sample 0))
       let s := runs .full
       z.length = 4 ∧ (z ++ z).all (entryOk 16) = true ∧ s.conv.selfAt = none
       ∧ selfFinding (z.map (selfResult s.conv.cal .a)) (z.map (selfResult s.conv.cal .b)) (advance 0 s) ≠ none
       ∧ (let g : List (List Sample) := [1200, 2048, 0, 3840].map fun c => List.replicate 16 (sample c)
          (g ++ g).all (entryOk 16) = true ∧ selfFinding (g.map (selfResult s.conv.cal .a)) (g.map (selfResult s.conv.cal .b)) (advance 0 s) = none)
       ∧ (let t := { s with conv := { selfAt := some 0 } }
          0 + 10000000 ≤ tsc (advance 10000000 t) ∧ tsc (advance 9999999 t) < 0 + 10000000))
    ∧ mpRuns (runs .full) = true ∧ hasConvB (runs .full) = true ∧ warmHeld (advance 0 (working 0x0701 (runs .full))) = true
    ∧ warmHeld (advance 50000 (runs .full)) = false ∧ (warm (runs .full)).conv.aWarm = true ∧ (runs .full).conv.aWarm = false := by decide +kernel

theorem test_witness_DramServesAndCounts :
    (let s := runs .full
     clockRuns s = true ∧ dramReqOk s req0 = true ∧ nextDram (advance 0 s) 0 = none ∧ s.dram.lanes.length = 4 ∧ s.dram.refresh.length = 2
     ∧ nextDram { s with dram := { queue := [req0] } } 0 = some req0 ∧ nextDram (enqueueDram req0 s) 0 = some req0
     ∧ nextDram (enqueueDram { req0 with channel := 1, block := 32 } s) 0 = none
     ∧ driftDue 1 (advance 0 s) = true ∧ driftDue 1 (advance 9999999 { s with dram := { driftAt := [none, some 0] } }) = false
     ∧ 0 < dramRows s ∧ s.dram.windowFrom.getD 1 0 + refreshWindow 1 s ≤ tsc (advance (refreshWindow 1 s) s)
     ∧ (let k := { s with dram := { tables := [(0, [(7, 4096)])] } }
        (7, 4096) ∈ memRead [] k.dram.tables 0 ∧ memWf [] k.dram.tables = true)) := by decide +kernel

end Sys2Proof.Tests
end

/-! ## What every command leaves unchanged -/

namespace Sys2Proof.Machine

/-- GPTP_MESSAGE alone writes TSC_TRIM. -/
def writesTrim : Instr → Bool
  | .gptpMessage _ _ _ => true
  | _ => false

/-- A command that neither moves the power, swaps a frame, blows a fuse nor writes TSC_TRIM keeps the queue, the fuses, BANK_SEL, TSC_TRIM
and the number of drawer slots. -/
theorem exec_kept {s0 : State} (c : Instr) (s : State) (h : Kept s0 s) (hp : movesPower c = false) (hs : maySwap c = false)
    (hf : mayBlow c = false) (hg : writesTrim c = false) : KeptOut s0 (exec c s) :=
  match c with
  | .vinRise _ _ => Bool.noConfusion hp
  | .lastgaspSaveComplete _ _ _ _ => Bool.noConfusion hp
  | .moduleReset _ _ => Bool.noConfusion hp
  | .standbyRequest _ _ _ => Bool.noConfusion hp
  | .wakeSource _ _ _ _ _ => Bool.noConfusion hp
  | .sluiceExecute _ _ => Bool.noConfusion hs
  | .timedSwap _ _ => Bool.noConfusion hs
  | .lifecycleAdvance _ _ => Bool.noConfusion hf
  | .zeroise _ _ => Bool.noConfusion hf
  | .updateConfirm _ _ => Bool.noConfusion hf
  | .gptpMessage _ _ _ => Bool.noConfusion hg
  | .trainingRetry t attempts => execTrainingRetry_kept t attempts s h
  | .imageCheckComplete t v draws => execImageCheckComplete_kept t v draws s h
  | .loaderCheckRetry t ok => execLoaderCheckRetry_kept t ok s h
  | .calLoadComplete t => execCalLoadComplete_kept t s h
  | .mapRestoreComplete t => execMapRestoreComplete_kept t s h
  | .vinBelowVbo t => execVinBelowVbo_kept t s h
  | .vinAboveVbo t => execVinAboveVbo_kept t s h
  | .brownout t => execBrownout_kept t s h
  | .vledBlindWindowEnd t => execVledBlindWindowEnd_kept t s h
  | .vinLow t low vin => execVinLow_kept t low vin s h
  | .vinHigh t high vin => execVinHigh_kept t high vin s h
  | .holdReady t ready => execHoldReady_kept t ready s h
  | .faultAssert t src data => execFaultAssert_kept t src data s h
  | .faultLevelEnd t src => execFaultLevelEnd_kept t src s h
  | .shadowEnd t action => execShadowEnd_kept t action s h
  | .rearm t => execRearm_kept t s h
  | .mpWatchdogService t => execMpWatchdogService_kept t s h
  | .mpWatchdogExpiry t inHand => execMpWatchdogExpiry_kept t inHand s h
  | .mpRestartEnd t => execMpRestartEnd_kept t s h
  | .mpRestartOverrun t => execMpRestartOverrun_kept t s h
  | .clockMon t clock => execClockMon_kept t clock s h
  | .tscStep t offset => execTscStep_kept t offset s h
  | .tscJump t => execTscJump_kept t s h
  | .syncReceiptTimeout t => execSyncReceiptTimeout_kept t s h
  | .compositionStart t => execCompositionStart_kept t s h
  | .contentCutoff t => execContentCutoff_kept t s h
  | .rowLatePoint t row late => execRowLatePoint_kept t row late s h
  | .rowTransferStart t row complete levels => execRowTransferStart_kept t row complete levels s h
  | .rowPacket t p crc => execRowPacket_kept t p crc s h
  | .chestCheckComplete t crc => execChestCheckComplete_kept t crc s h
  | .governorLatch t => execGovernorLatch_kept t s h
  | .wrdoneDeadline t => execWrdoneDeadline_kept t s h
  | .droopTimer t => execDroopTimer_kept t s h
  | .latchRowCycle t p readback => execLatchRowCycle_kept t p readback s h
  | .latchReadbackCheck t readback => execLatchReadbackCheck_kept t readback s h
  | .probeWindow t m => execProbeWindow_kept t m s h
  | .sweepWindow t m samples => execSweepWindow_kept t m samples s h
  | .vfModelRewrite t => execVfModelRewrite_kept t s h
  | .faultMapFlashWrite t => execFaultMapFlashWrite_kept t s h
  | .mapSnapshot t => execMapSnapshot_kept t s h
  | .monitorPacketSend t => execMonitorPacketSend_kept t s h
  | .monitorTrailer t => execMonitorTrailer_kept t s h
  | .symbolSlot t => execSymbolSlot_kept t s h
  | .symbolRepeat t sym => execSymbolRepeat_kept t sym s h
  | .sluiceSymbolReceived t sym tEnd => execSluiceSymbolReceived_kept t sym tEnd s h
  | .headReceived t sym => execHeadReceived_kept t sym s h
  | .enumReceived t sym => execEnumReceived_kept t sym s h
  | .startWindowEnd t => execStartWindowEnd_kept t s h
  | .syncLoss t => execSyncLoss_kept t s h
  | .syncLossEnd t => execSyncLossEnd_kept t s h
  | .linkDelayMeasure t delay => execLinkDelayMeasure_kept t delay s h
  | .brineVideoPacket t d => execBrineVideoPacket_kept t d s h
  | .bufferMoveComplete t item => execBufferMoveComplete_kept t item s h
  | .chestRefComplete t => execChestRefComplete_kept t s h
  | .linkDown t x => execLinkDown_kept t x s h
  | .linkUp t port mode => execLinkUp_kept t port mode s h
  | .linkDownTimeout t port => execLinkDownTimeout_kept t port s h
  | .ethernetFrame t f => execEthernetFrame_kept t f s h
  | .arpRequest t port target => execArpRequest_kept t port target s h
  | .hostSilent t => execHostSilent_kept t s h
  | .canFrame t f => execCanFrame_kept t f s h
  | .isotpTimeout t => execIsotpTimeout_kept t s h
  | .canBusOff t st => execCanBusOff_kept t st s h
  | .psiferMessage t ep raw => execPsiferMessage_kept t ep raw s h
  | .sessionIdleLost t session => execSessionIdleLost_kept t session s h
  | .authWindowEnd t => execAuthWindowEnd_kept t s h
  | .mpLoadWindow t w => execMpLoadWindow_kept t w s h
  | .eventMessage t session => execEventMessage_kept t session s h
  | .eventWindowEnd t => execEventWindowEnd_kept t s h
  | .caps t m => execCaps_kept t m s h
  | .readWord t m => execReadWord_kept t m s h
  | .ping t m => execPing_kept t m s h
  | .resetModule t m boot => execResetModule_kept t m boot s h
  | .resetMpOnly t m => execResetMpOnly_kept t m s h
  | .settingsStore t m => execSettingsStore_kept t m s h
  | .settingsStoreOutcome t erased => execSettingsStoreOutcome_kept t erased s h
  | .linkConfigWrite t m => execLinkConfigWrite_kept t m s h
  | .canConfigWrite t m => execCanConfigWrite_kept t m s h
  | .mailboxConfigWrite t m => execMailboxConfigWrite_kept t m s h
  | .create t m => execCreate_kept t m s h
  | .configure t m => execConfigure_kept t m s h
  | .place t m => execPlace_kept t m s h
  | .release t m => execRelease_kept t m s h
  | .destroy t m => execDestroy_kept t m s h
  | .flip t m => execFlip_kept t m s h
  | .commit t m => execCommit_kept t m s h
  | .abort t m => execAbort_kept t m s h
  | .chunkWrite t m => execChunkWrite_kept t m s h
  | .curveWrite t m => execCurveWrite_kept t m s h
  | .blendProgramWrite t m => execBlendProgramWrite_kept t m s h
  | .shadeUpdate t m => execShadeUpdate_kept t m s h
  | .shadeClear t m => execShadeClear_kept t m s h
  | .glyphSeal t m => execGlyphSeal_kept t m s h
  | .timingChange t m => execTimingChange_kept t m s h
  | .timingAnchor t m => execTimingAnchor_kept t m s h
  | .hostScaleWrite t m => execHostScaleWrite_kept t m s h
  | .monitorConfigWrite t m => execMonitorConfigWrite_kept t m s h
  | .logRead t m => execLogRead_kept t m s h
  | .eventFilter t m => execEventFilter_kept t m s h
  | .faultMapRead t m => execFaultMapRead_kept t m s h
  | .scalerCoeffRead t m => execScalerCoeffRead_kept t m s h
  | .chestStage t m => execChestStage_kept t m s h
  | .chestActivate t m => execChestActivate_kept t m s h
  | .settleStage t m => execSettleStage_kept t m s h
  | .settleActivate t m => execSettleActivate_kept t m s h
  | .safetyStore t m => execSafetyStore_kept t m s h
  | .safetyStoreOutcome t erased => execSafetyStoreOutcome_kept t erased s h
  | .holdDemand t m => execHoldDemand_kept t m s h
  | .recover t m => execRecover_kept t m s h
  | .faultForceSet t m => execFaultForceSet_kept t m s h
  | .faultForceClear t m => execFaultForceClear_kept t m s h
  | .faultConfig t m => execFaultConfig_kept t m s h
  | .compConfigWrite t m => execCompConfigWrite_kept t m s h
  | .govBudgetWrite t m => execGovBudgetWrite_kept t m s h
  | .hostTimeoutWrite t m => execHostTimeoutWrite_kept t m s h
  | .sdimConfigWrite t m => execSdimConfigWrite_kept t m s h
  | .calRun t m => execCalRun_kept t m s h
  | .calRunOutcome t e => execCalRunOutcome_kept t e s h
  | .calRead t m => execCalRead_kept t m s h
  | .calWrite t m => execCalWrite_kept t m s h
  | .calStore t m => execCalStore_kept t m s h
  | .calStoreOutcome t erased => execCalStoreOutcome_kept t erased s h
  | .corrChunk t m => execCorrChunk_kept t m s h
  | .tcurveWrite t m => execTcurveWrite_kept t m s h
  | .tcurveApply t m => execTcurveApply_kept t m s h
  | .ageingCurveWrite t m => execAgeingCurveWrite_kept t m s h
  | .idleRequest t m => execIdleRequest_kept t m s h
  | .wakeToLight t m => execWakeToLight_kept t m s h
  | .syncConfigWrite t m => execSyncConfigWrite_kept t m s h
  | .syncEnumerate t m => execSyncEnumerate_kept t m s h
  | .sessionOpen t m nonce => execSessionOpen_kept t m nonce s h
  | .sessionClose t m => execSessionClose_kept t m s h
  | .updateIntent t m boot => execUpdateIntent_kept t m boot s h
  | .updateBlock t m => execUpdateBlock_kept t m s h
  | .updateVerify t m => execUpdateVerify_kept t m s h
  | .updateVerifyOutcome t v => execUpdateVerifyOutcome_kept t v s h
  | .updateActivate t m boot => execUpdateActivate_kept t m boot s h
  | .scan t readings => execScan_kept t readings s h
  | .selftest t a b => execSelftest_kept t a b s h
  | .urgentRequest t input x => execUrgentRequest_kept t input x s h
  | .referenceModeAuto t conv => execReferenceModeAuto_kept t conv s h
  | .shutdownComparator t input x => execShutdownComparator_kept t input x s h
  | .thermalStep t => execThermalStep_kept t s h
  | .sdimFilterTick t => execSdimFilterTick_kept t s h
  | .rampTick t => execRampTick_kept t s h
  | .rampEnd t => execRampEnd_kept t s h
  | .rampEnvelope t mean => execRampEnvelope_kept t mean s h
  | .sdimDiscrepancy t => execSdimDiscrepancy_kept t s h
  | .proofMissing t => execProofMissing_kept t s h
  | .cutoffTestpulse t fallOk recoveryOk => execCutoffTestpulse_kept t fallOk recoveryOk s h
  | .switchReadback t isOpen => execSwitchReadback_kept t isOpen s h
  | .governorEnvelope t mean => execGovernorEnvelope_kept t mean s h
  | .vledRegulation t mv => execVledRegulation_kept t mv s h
  | .dramRequest t req channel => execDramRequest_kept t req channel s h
  | .dramScrub t channel owner ecc => execDramScrub_kept t channel owner ecc s h
  | .dqsDriftCheck t channel steps refresh => execDqsDriftCheck_kept t channel steps refresh s h
  | .neighbourRefresh t channel bank row => execNeighbourRefresh_kept t channel bank row s h
  | .panSramScrub t bank ecc => execPanSramScrub_kept t bank ecc s h
  | .lastgaspSlotErase t => execLastgaspSlotErase_kept t s h
  | .sdimSample t a b => execSdimSample_kept t a b s h
  | .refreshWindowStart t => execRefreshWindowStart_kept t s h
  | .referenceModeWarm t conv => execReferenceModeWarm_kept t conv s h
  | .convRefReady t conv => execConvRefReady_kept t conv s h
  | .pdelayRequest t port => execPdelayRequest_kept t port s h
  | .announceReceiptTimeout t port => execAnnounceReceiptTimeout_kept t port s h

/-! ### The commands beside them: what each changes of these parts -/

/-- The state that the outcome leads to, if any, is one that `P` describes. -/
def Leads (P : State → Prop) : Out → Prop
  | .next u => P u
  | _ => True

/-- The state that an answer of the MP carries, if any, is one that `P` describes. -/
def AnswerLeads (P : State → Prop) : Answer → Prop
  | .ok _ u => P u
  | .failIn _ _ u => P u
  | .fail _ _ => True

/-- `P` reads nothing but the parts that `Kept` names. -/
def ReadsKept (P : State → Prop) : Prop := ∀ s u, Kept s u → P s → P u

theorem Leads.of_next {P : State → Prop} {o : Out} {u : State} (h : Leads P o) (e : o = .next u) : P u := by
  subst e
  exact h

theorem Leads.next {P : State → Prop} {u : State} (h : P u) : Leads P (.next u) := h
theorem Leads.fault {P : State → Prop} {f : Fault} : Leads P (.fault f) := trivial
theorem Leads.ite {P : State → Prop} {a b : Out} {c : Prop} [Decidable c] (ha : Leads P a) (hb : Leads P b) :
    Leads P (if c then a else b) := by split <;> assumption

theorem AnswerLeads.ok {P : State → Prop} {d : List Byte} {u : State} (h : P u) : AnswerLeads P (.ok d u) := h
theorem AnswerLeads.failIn {P : State → Prop} {st d : Nat} {u : State} (h : P u) : AnswerLeads P (.failIn st d u) := h
theorem AnswerLeads.checked {P : State → Prop} {cs : List Check} {a : Answer} (h : AnswerLeads P a) :
    AnswerLeads P (Machine.checked cs a) := by
  unfold Machine.checked
  split
  · trivial
  · exact h

theorem Leads.imp {P Q : State → Prop} {o : Out} (h : Leads P o) (hPQ : ∀ u, P u → Q u) : Leads Q o :=
  match o with
  | .next u => hPQ u h
  | .fault _ => trivial
  | .refused _ => trivial

theorem KeptOut.leads {P : State → Prop} (hP : ReadsKept P) {s : State} {o : Out} (h : KeptOut s o) (hs : P s) : Leads P o :=
  Leads.imp (P := Kept s) h fun u k => hP s u k hs

/-- What the work of a message and the step after its answer keep, its service keeps. -/
theorem serveThen_leads {P : State → Prop} (hP : ReadsKept P) (t : Nat) (r : Row) (absent : State → Bool) (m : Msg) (body : State → Answer)
    (after : State → State) (s : State) (h : P s) (hb : ∀ s, P s → AnswerLeads P (body s)) (ha : ∀ s, P s → P (after s)) :
    Leads P (serveThen t r absent m body after s) := by
  have unknown : ∀ s, P s → P (serveUnknown s) := fun s => hP _ _ (serveUnknown_kept s (.refl s))
  have reply : ∀ st d data s, P s → P (answered m st d data s) := fun st d data s => hP _ _ (answered_kept m st d data s (.refl s))
  have h1 : P (serveUnknown (advance t s)) := unknown _ (hP _ _ (advance_kept t s (.refl s)) h)
  have h2 := hP _ _ (dequeue_kept m _ (.refl _)) h1
  have work := hb _ h2
  unfold serveThen
  refine Leads.ite (.next h1) ?_
  dsimp only
  split
  · exact .next (unknown _ (reply _ _ _ _ h2))
  · split
    · next e => exact .next (unknown _ (ha _ (reply _ _ _ _ (e ▸ work :))))
    · exact .next (unknown _ (reply _ _ _ _ h2))
    · next e => exact .next (unknown _ (reply _ _ _ _ (e ▸ work :)))

/-! #### Power (18 R415 to R420, 02 R46) -/

theorem coldStart_trim (cond : BitVec 64) (vin : Nat) (boot : BootInputs) (s : State) : (coldStart cond vin boot s).time.trim = 0 :=
  (bootSteps_kept true 0 boot _ (.refl _)).trim

theorem wakeStart_trim (src : WakeSrc) (lost : BitVec 5) (seconds vin : Nat) (boot : BootInputs) (s : State) :
    (wakeStart src lost seconds vin boot s).time.trim = 0 :=
  (checkSignatures_kept _ _ _ _ (bootSteps_kept _ _ _ _ (.refl _))).trim

theorem enterStandby_trim (m : Msg) (e : EntryWatch) (s : State) : (enterStandby m e s).time.trim = 0 := rfl

/-! #### Fuses (19 R430, R438, R446) -/

theorem zeroise_kept (s : State) :
    Kept { s with fuse := { s.fuse with keys := List.replicate 4 (List.replicate 16 0), imgPub := List.replicate 2 (List.replicate 64 0),
                                        zeroised := true, lifecycle := 3 } } (zeroise s) := by
  unfold zeroise
  obtain ⟨hpending, hfuse, hsel, htrim, hslots⟩ := loseAllSessions_kept _ (.refl { s with fuse := { s.fuse with
    keys := List.replicate 4 (List.replicate 16 0), imgPub := List.replicate 2 (List.replicate 64 0), zeroised := true } })
  exact record_kept _ _ _ _ ⟨hpending, congrArg (fun f : Fuses => { f with lifecycle := 3 }) hfuse, hsel, htrim, hslots⟩

theorem advanceTo_kept (target : Nat) (s : State) :
    Kept { s with fuse := { s.fuse with lifecycle := target, debugBlown := s.fuse.debugBlown || decide (2 ≤ target) } } (advanceTo target s) :=
  record_kept _ _ _ _ (.refl _)

theorem confirmImage_kept (s : State) : Kept { s with fuse := { s.fuse with rollback := raisedRollback s } } (confirmImage s) :=
  record_kept _ _ _ _ (Kept.upd (writeControl_kept _ _ (.refl _)) rfl rfl rfl rfl)

/-! #### The swap (05 R111, R132) -/

theorem executeSwap_kept (readback : Bool) (s : State) :
    Kept { s with arr := { s.arr with bankSel := s.arr.bankSel.other } } (executeSwap readback s) := by
  unfold executeSwap
  extract_lets array n t sync s1 s2 s3 s4 b gov s5 s6 s7 s8
  have h1 : Kept { s with arr := { s.arr with bankSel := s.arr.bankSel.other } } s1 := ⟨rfl, rfl, rfl, rfl, rfl⟩
  have h2 := takeIrefTrim_kept s1 h1
  have h3 : Kept _ s3 := Kept.ite (recovered_kept s2 h2) h2
  have h5 : Kept _ s5 := Kept.upd (swapLight_kept s3 h3) rfl rfl rfl rfl
  have h8 := passSwap_kept (some t) s7 (noteProfiles_kept n s6 (updMon_kept _ _ s5 h5))
  exact Kept.ite h8 (assertSource_kept _ _ _ s8 h8)

/-- A property that no fresh swap disturbs is kept by SLUICE_EXECUTE. -/
theorem execSluiceExecute_leads {P : State → Prop} (hP : ReadsKept P) (hswap : ∀ readback s, P s → P (executeSwap readback s))
    (t : Nat) (readback : Bool) (s : State) (h : P s) : Leads P (execSluiceExecute t readback s) := by
  have h1 : P (advance t s) := hP _ _ (advance_kept t s (.refl s)) h
  have h2 := hP _ _ (decideSwap_kept _ (noMiss_kept _ (.refl _))) h1
  have h3 : P (takeSwap readback (noMiss (advance t s))) := by
    unfold takeSwap
    dsimp only
    split
    · exact hswap _ _ h2
    · exact hP _ _ (passSwap_kept none _ (.refl _)) h2
  have h4 := hP _ _ (islandSwap_kept _ (.refl _)) h3
  unfold execSluiceExecute
  dsimp only
  refine Leads.ite (.next h1) (Leads.ite (Leads.ite (.next h4) (.next h1)) ?_)
  split
  · exact Leads.ite (.next h4) (.next h1)
  · exact .next h1

/-- A property that no fresh swap disturbs is kept by TIMED_SWAP. -/
theorem execTimedSwap_leads {P : State → Prop} (hP : ReadsKept P) (hswap : ∀ readback s, P s → P (executeSwap readback s))
    (t : Nat) (readback : Bool) (s : State) (h : P s) : Leads P (execTimedSwap t readback s) := by
  unfold execTimedSwap
  extract_lets s1 n s2 go first sync s3 s4 s5
  have h1 : P s1 := hP _ _ (advance_kept t s (.refl s)) h
  have k3 : Kept s1 s3 := Kept.upd (decideSwap_kept s1 (.refl s1)) rfl rfl rfl rfl
  have h4 : P s4 := hP _ _ (Kept.ite (record_kept _ _ _ s3 k3) k3) h1
  have h5 : P s5 := by
    refine hP _ _ (islandSwap_kept _ (.refl _)) ?_
    split
    · exact hswap _ _ h4
    · exact hP _ _ (passSwap_kept none s4 (.refl s4)) h4
  exact Leads.ite (.next h1) (.next (hP _ _ (Kept.ite (promote_kept s5 (.refl s5)) (.refl s5)) h5))

/-! #### The gPTP servo (10 R249 to R251) -/

theorem servo_kept {s0 : State} (offset trim : Int) (s : State) (h : Kept s0 s) :
    Kept { s0 with time := { s0.time with trim := clampTrim trim } } (servo offset trim s) := by
  obtain ⟨hpending, hfuse, hsel, -, hslots⟩ := h
  have written : ∀ b : TimeBase, b.trim = clampTrim trim →
      Kept { s0 with time := { s0.time with trim := clampTrim trim } } { s with time := b } :=
    fun b hb => ⟨hpending, hfuse, hsel, hb, hslots⟩
  unfold servo
  dsimp only
  refine followOffset_kept _ (Kept.ite (Kept.ite ?_ ?_) (Kept.ite ?_ ?_))
  · exact assertSource_kept _ _ _ _ (written _ rfl)
  · exact written _ rfl
  · exact endSource_kept _ _ (written _ rfl)
  · exact written _ rfl

theorem trim_setProp (p : Port) (x : Nat × Int) (b : TimeBase) : (setProp p x b).trim = b.trim := by cases p <;> rfl

/-- A gPTP frame keeps all these parts, but that a Sync may have the servo write TSC_TRIM. -/
theorem execGptpMessage_kept {s0 : State} (t : Nat) (port : Port) (msg : GptpMsg) (s : State) (h : Kept s0 s) :
    Leads (fun u => Kept s0 u ∨ ∃ v, Kept { s0 with time := { s0.time with trim := clampTrim v } } u) (execGptpMessage t port msg s) := by
  have h1 := advance_kept t s h
  unfold execGptpMessage
  dsimp only
  refine Leads.ite (.next (.inl h1)) ?_
  cases msg with
  | sync domain k offset trim correction rate residence =>
    refine Leads.ite (.next ?_) (.next (.inl h1))
    unfold takeSync
    have h2 := relaySync_kept port correction rate residence
      { advance t s with time := { (advance t s).time with syncAt := some (tsc (advance t s), gptpInterval k) } } (Kept.upd h1 rfl rfl rfl rfl)
    split
    · dsimp only
      split
      · exact .inr ⟨trim, servo_kept offset trim _ h2⟩
      · exact .inl h2
    · exact .inl h1
  | pdelayReq => exact .next (.inl (gptpSend_kept _ _ _ h1))
  | pdelayResp delay rate => exact .next (.inl (Kept.upd h1 rfl rfl rfl (trim_setProp _ _ _)))
  | announce domain k identity hops source =>
    exact Leads.ite (.next (.inl (takeAnnounce_kept _ _ _ h1))) (.next (.inl h1))

end Sys2Proof.Machine

/-! ## TSC_TRIM (01 R21, R22) -/

namespace Sys2Proof.Machine

theorem TrimOk.of_eq {s u : State} (e : u.time.trim = s.time.trim) (h : TrimOk s) : TrimOk u := by
  unfold TrimOk at h ⊢
  rwa [e]

theorem TrimOk.of_zero {s : State} (e : s.time.trim = 0) : TrimOk s := by
  unfold TrimOk
  omega

theorem trimOk_readsKept : ReadsKept TrimOk := fun _ _ k => .of_eq k.trim

theorem clampTrim_eq (v : Int) : clampTrim v = if v < -8589934 then -8589934 else if 8589934 < v then 8589934 else v := by
  unfold clampTrim
  split
  · omega
  · split <;> omega

theorem trimOk_clampTrim (v : Int) (s : State) : TrimOk { s with time := { s.time with trim := clampTrim v } } := by
  unfold TrimOk clampTrim
  dsimp only
  omega

theorem clockEdge_trim (s : State) : (clockEdge s).time.trim = s.time.trim := by
  unfold clockEdge
  split <;> rfl

theorem advance_trimOk (t : Nat) (s : State) (h : TrimOk s) : TrimOk (advance t s) := .of_eq (advance_kept t s (.refl s)).trim h

/-! ### Commands that move the power: TSC_TRIM stays or goes back to 0 -/

theorem execVinRise_trimOk (vin : Nat) (boot : BootInputs) (s : State) (h : TrimOk s) : Leads TrimOk (execVinRise vin boot s) :=
  .ite .fault (.ite (.next (.of_zero (coldStart_trim _ _ _ _))) (.next h))

theorem execLastgaspSaveComplete_trimOk (t : Nat) (above : Bool) (vin : Nat) (boot : BootInputs) (s : State) (h : TrimOk s) :
    Leads TrimOk (execLastgaspSaveComplete t above vin boot s) :=
  .ite (.next (advance_trimOk t s h)) (.ite .fault (.ite (.next (.of_zero (coldStart_trim _ _ _ _))) (.next (.of_zero rfl))))

theorem resetStart_trimOk (boot : BootInputs) (s : State) (h : TrimOk s) : TrimOk (resetStart boot s) := by
  unfold resetStart
  split
  · exact .of_zero (coldStart_trim _ _ _ _)
  · exact .of_eq (warmStart_kept boot s (.refl s)).trim h

theorem execModuleReset_trimOk (t : Nat) (boot : BootInputs) (s : State) (h : TrimOk s) : Leads TrimOk (execModuleReset t boot s) :=
  have hs := advance_trimOk t s h
  .ite (.ite .fault (.next (resetStart_trimOk boot _ hs))) (.next hs)

theorem execStandbyRequest_trimOk (t : Nat) (m : Msg) (e : EntryWatch) (s : State) (h : TrimOk s) :
    Leads TrimOk (execStandbyRequest t m e s) := by
  unfold execStandbyRequest
  refine serveThen_leads trimOk_readsKept _ _ _ _ _ _ _ h (fun s hs => .checked ?_) (fun s _ => .of_zero (enterStandby_trim m e s))
  split
  · exact .failIn (.of_eq (refuse_kept _ s (.refl s)).trim hs)
  · exact .ok hs

theorem execWakeSource_trimOk (e : WakeEvent) (lost : BitVec 5) (seconds vin : Nat) (boot : BootInputs) (s : State) (h : TrimOk s) :
    Leads TrimOk (execWakeSource e lost seconds vin boot s) :=
  .ite .fault (.ite (.next (.of_zero (wakeStart_trim _ _ _ _ _ _))) (.next h))

theorem exec_trimOk_of_movesPower (c : Instr) (s : State) (h : TrimOk s) (hc : movesPower c = true) : Leads TrimOk (exec c s) := by
  unfold movesPower at hc
  split at hc
  · exact execVinRise_trimOk _ _ s h
  · exact execLastgaspSaveComplete_trimOk _ _ _ _ s h
  · exact execModuleReset_trimOk _ _ s h
  · exact execStandbyRequest_trimOk _ _ _ s h
  · exact execWakeSource_trimOk _ _ _ _ _ s h
  · cases hc

/-! ### Commands that swap a frame, blow a fuse or run the servo -/

theorem exec_trimOk_of_maySwap (c : Instr) (s : State) (h : TrimOk s) (hc : maySwap c = true) : Leads TrimOk (exec c s) := by
  have swapped : ∀ readback s, TrimOk s → TrimOk (executeSwap readback s) := fun readback s => .of_eq (executeSwap_kept readback s).trim
  unfold maySwap at hc
  split at hc
  · exact execSluiceExecute_leads trimOk_readsKept swapped _ _ s h
  · exact execTimedSwap_leads trimOk_readsKept swapped _ _ s h
  · cases hc

theorem advanceTo_trimOk (target : Nat) (s : State) (h : TrimOk s) : TrimOk (advanceTo target s) := .of_eq (advanceTo_kept target s).trim h

theorem zeroise_trimOk (s : State) (h : TrimOk s) : TrimOk (zeroise s) := .of_eq (zeroise_kept s).trim h

theorem execLifecycleAdvance_trimOk (t : Nat) (m : Msg) (s : State) (h : TrimOk s) : Leads TrimOk (execLifecycleAdvance t m s) := by
  unfold execLifecycleAdvance
  refine serveThen_leads trimOk_readsKept _ _ _ _ _ _ _ h (fun s hs => .checked (.ok ?_)) (fun s hs => ?_)
  · split
    · exact hs
    · exact advanceTo_trimOk _ s hs
  · split
    · exact zeroise_trimOk _ (advanceTo_trimOk 3 s hs)
    · exact hs

theorem execZeroise_trimOk (t : Nat) (m : Msg) (s : State) (h : TrimOk s) : Leads TrimOk (execZeroise t m s) := by
  unfold execZeroise
  exact serveThen_leads trimOk_readsKept _ _ _ _ _ _ _ h (fun s hs => .checked (.ok hs)) zeroise_trimOk

theorem execUpdateConfirm_trimOk (t : Nat) (m : Msg) (s : State) (h : TrimOk s) : Leads TrimOk (execUpdateConfirm t m s) := by
  unfold execUpdateConfirm serve
  exact serveThen_leads trimOk_readsKept _ _ _ _ _ _ _ h (fun s hs => .checked (.ok (.of_eq (confirmImage_kept s).trim hs))) (fun _ hs => hs)

theorem exec_trimOk_of_mayBlow (c : Instr) (s : State) (h : TrimOk s) (hc : mayBlow c = true) : Leads TrimOk (exec c s) := by
  unfold mayBlow at hc
  split at hc
  · exact execLifecycleAdvance_trimOk _ _ s h
  · exact execZeroise_trimOk _ _ s h
  · exact execUpdateConfirm_trimOk _ _ s h
  · cases hc

theorem execGptpMessage_trimOk (t : Nat) (port : Port) (msg : GptpMsg) (s : State) (h : TrimOk s) :
    Leads TrimOk (execGptpMessage t port msg s) := by
  refine (execGptpMessage_kept t port msg s (.refl s)).imp fun u hu => ?_
  obtain k | ⟨v, k⟩ := hu
  · exact .of_eq k.trim h
  · exact .of_eq k.trim (trimOk_clampTrim v s)

theorem exec_trimOk_of_writesTrim (c : Instr) (s : State) (h : TrimOk s) (hc : writesTrim c = true) : Leads TrimOk (exec c s) := by
  unfold writesTrim at hc
  split at hc
  · exact execGptpMessage_trimOk _ _ _ s h
  · cases hc

/-! ### Every step -/

theorem exec_trimOk (c : Instr) (s : State) (h : TrimOk s) : Leads TrimOk (exec c s) := by
  cases hp : movesPower c with
  | true => exact exec_trimOk_of_movesPower c s h hp
  | false =>
  cases hs : maySwap c with
  | true => exact exec_trimOk_of_maySwap c s h hs
  | false =>
  cases hf : mayBlow c with
  | true => exact exec_trimOk_of_mayBlow c s h hf
  | false =>
  cases hg : writesTrim c with
  | true => exact exec_trimOk_of_writesTrim c s h hg
  | false => exact (exec_kept c s (.refl s) hp hs hf hg).leads trimOk_readsKept h

theorem step_trimOk (s : State) (h : TrimOk s) : Leads TrimOk (step s) := by
  unfold step
  split
  · exact .next (.of_eq (clockEdge_trim s) h)
  · exact exec_trimOk _ _ h

/-! ### The write for a Sync of the selected master -/

@[simp] theorem clockRuns_advance (t : Nat) (s : State) : clockRuns (advance t s) = clockRuns s := by
  simp only [clockRuns, advance_mode]

@[simp] theorem linkUpOn_advance (t : Nat) (s : State) (p : Port) : linkUpOn (advance t s) p = linkUpOn s p := by
  cases p <;> simp only [linkUpOn, advance_link]

@[simp] theorem servoRuns_advance (t : Nat) (s : State) : servoRuns (advance t s) = servoRuns s := by
  simp only [servoRuns, advance_mode, advance_mp]

/-- The BMCA compares what was announced and measured; the TSC is no part of it. -/
@[simp] theorem bestMaster_advance (t : Nat) (s : State) : bestMaster (advance t s) = bestMaster s := by
  unfold advance
  split <;> rfl

@[simp] theorem servoRuns_relaySync (port : Port) (correction rate : Int) (residence : Nat) (s : State) :
    servoRuns (relaySync port correction rate residence s) = servoRuns s := by
  unfold relaySync gptpSend
  dsimp only
  split
  · split <;> rfl
  · rfl

/-- The servo takes a Sync of the selected master (10 R250, R251). -/
theorem takeSync_trim (port : Port) (k offset trim correction rate : Int) (residence : Nat) (x : Announced) (s : State)
    (hrun : servoRuns s = true) (hbest : bestMaster s = some (port, x)) :
    (takeSync port k offset trim correction rate residence s).time.trim = clampTrim trim := by
  have hrelay : servoRuns { s with time := { s.time with syncAt := some (tsc s, gptpInterval k) } } = true := hrun
  unfold takeSync
  simp only [hbest, Option.elim_some, decide_true, if_true, servoRuns_relaySync, hrelay]
  exact (servo_kept offset trim _ (.refl _)).trim

theorem exec_sync_of_selectedMaster (t : Nat) (port : Port) (k offset trim correction rate : Int) (residence : Nat) (x : Announced) (s : State)
    (hclock : clockRuns s = true) (hlink : linkUpOn s port = true) (hrun : servoRuns s = true) (hlow : -7 ≤ k) (hhigh : k ≤ 0)
    (hbest : bestMaster s = some (port, x)) :
    NextIs (exec (.gptpMessage t port (.sync 0 k offset trim correction rate residence)) s) fun u => u.time.trim = clampTrim trim := by
  refine ⟨takeSync port k offset trim correction rate residence (advance t s), ?_, ?_⟩
  · change execGptpMessage t port (.sync 0 k offset trim correction rate residence) s = _
    simp only [execGptpMessage, clockRuns_advance, linkUpOn_advance, hclock, hlink, hlow, hhigh, Bool.not_true, Bool.or_self,
      Bool.false_eq_true, if_false, and_self, if_true]
  · exact takeSync_trim _ _ _ _ _ _ _ x _ ((servoRuns_advance t s).trans hrun) ((bestMaster_advance t s).trans hbest)

/-- Settles O7: only the servo writes TSC_TRIM, and it writes a clamped value; a start from power-off leaves 0. -/
theorem trimClamped : Obligations.TrimClamped := by
  unfold Obligations.TrimClamped
  refine ⟨fun s u h e => (step_trimOk s h).of_next e, fun t port k offset trim correction rate residence x s hclock hlink hrun hlow hhigh hbest => ?_⟩
  rw [← clampTrim_eq]
  exact exec_sync_of_selectedMaster t port k offset trim correction rate residence x s hclock hlink hrun hlow hhigh hbest

end Sys2Proof.Machine

/-! ## Drawer slots and CREATE (06 R141, R144, R147; 12 R295) -/

namespace Sys2Proof.Machine

/-! ### A slot after a change of one slot -/

theorem slotAt_updSlot_same {n : Nat} {s : State} (f : Slot → Slot) (h : n < s.drw.slots.length) :
    slotAt (updSlot n f s) n = f (slotAt s n) := by
  simp [slotAt, updSlot, listUpdate, h]

theorem slotAt_updSlot_ne {n k : Nat} (f : Slot → Slot) (s : State) (h : k ≠ n) : slotAt (updSlot n f s) k = slotAt s k := by
  simp [slotAt, updSlot, listUpdate, h.symm]

/-- The slot that CREATE leaves where it found `sl`. -/
def openedFrom (sl : Slot) (ty : Nat) : Slot := { gen := sl.gen % 255 + 1, st := .opened, desc := { type := ty } }

theorem slotAt_openSlot_same {n : Nat} {s : State} (ty : Nat) (h : n < s.drw.slots.length) :
    slotAt (openSlot n ty s) n = openedFrom (slotAt s n) ty :=
  slotAt_updSlot_same _ h

theorem slotAt_openSlot_ne {n k : Nat} (ty : Nat) (s : State) (h : k ≠ n) : slotAt (openSlot n ty s) k = slotAt s k :=
  slotAt_updSlot_ne _ s h

theorem handleOf_openSlot {n : Nat} {s : State} (ty : Nat) (h : n < s.drw.slots.length) :
    handleOf (openSlot n ty s) n = n + 256 * (openedFrom (slotAt s n) ty).gen := by
  rw [handleOf, slotAt_openSlot_same ty h]

/-- The handle of a slot in use is valid. -/
theorem handleValid_handleOf {n : Nat} {s : State} (hn : n < 256) (h : (slotAt s n).st ≠ .free) : handleValid s (handleOf s n) = true := by
  have hslot : handleOf s n % 256 = n := by unfold handleOf; omega
  have hgen : handleOf s n / 256 = (slotAt s n).gen := by unfold handleOf; omega
  simp [handleValid, hslot, hgen, h]

/-! ### The lowest FREE general slot -/

theorem freeSlot_eq (s : State) : freeSlot s = (List.range' 2 254).find? fun n => (slotAt s n).st = .free := by
  rw [freeSlot, List.range_eq_range', List.drop_range']

theorem freeSlot_eq_some {n : Nat} {s : State} (hlow : 2 ≤ n) (hhigh : n < 256) (hfree : (slotAt s n).st = .free)
    (hbelow : ∀ k, 2 ≤ k → k < n → (slotAt s k).st ≠ .free) : freeSlot s = some n := by
  rw [freeSlot_eq, List.find?_range'_eq_some]
  refine ⟨decide_eq_true hfree, List.mem_range'_1.2 ⟨hlow, by omega⟩, fun k h2 hk => ?_⟩
  simp [hbelow k h2 hk]

theorem freeSlot_eq_none {s : State} (h : ∀ n, 2 ≤ n → n < 256 → (slotAt s n).st ≠ .free) : freeSlot s = none := by
  rw [freeSlot_eq, List.find?_eq_none]
  intro n hn
  obtain ⟨hlow, hhigh⟩ := List.mem_range'_1.1 hn
  simp [h n hlow (by omega)]

/-! ### Fields of a payload -/

/-- A field is its first byte and, above it, the field of the bytes after it (R10). -/
theorem le_succ (bs : List Byte) (off n : Nat) : le bs off (n + 1) = le bs off 1 + 256 * le bs (off + 1) n := by
  unfold le
  rw [← List.tail_drop]
  cases bs.drop off <;> simp

theorem le_one_lt (bs : List Byte) (off : Nat) : le bs off 1 < 256 := by
  unfold le
  cases bs.drop off with
  | nil => simp
  | cons b rest => simpa using b.isLt

theorem le_three (bs : List Byte) (off : Nat) : le bs off 3 = le bs off 1 + 256 * (le bs (off + 1) 1 + 256 * le bs (off + 2) 1) := by
  rw [le_succ bs off 2, le_succ bs (off + 1) 1]

/-- A field of zeros has zeros in each of its parts. -/
theorem le_three_eq_zero {bs : List Byte} {off : Nat} (h : le bs off 3 = 0) :
    le bs off 1 = 0 ∧ le bs (off + 1) 1 = 0 ∧ le bs (off + 2) 1 = 0 := by
  rw [le_three] at h
  omega

/-! ### What the checks of CREATE decide -/

/-- The module has the unit that a drawer of a type needs. -/
def unitPresent (ty : Nat) (s : State) : Prop := (ty = 2 → s.fuse.variant ≠ .e) ∧ (ty = 3 → s.fuse.variant = .f)

/-- CREATE judges the unit of its drawer by the variant. -/
theorem unitCheck_iff (ty : Nat) (s : State) :
    (!(decide (ty = 2) && !hasShade s) && !(decide (ty = 3) && !hasGlyph s)) = true ↔ unitPresent ty s := by
  simp [unitPresent, hasShade, hasGlyph, Decidable.imp_iff_not_or]

theorem createChecks_absent {m : Msg} {s : State} (h : ¬ unitPresent (le m.payload 0 1) s) :
    firstFail (createChecks m s) = some (eAbsent, 0) := by
  simp only [createChecks, Bool.eq_false_iff.2 (mt (unitCheck_iff _ s).1 h), require, Bool.false_eq_true, if_false, firstFail]

/-- Without a slot number, CREATE is refused only for want of a FREE slot. -/
theorem createChecks_unnamed {m : Msg} {s : State} (hty : le m.payload 0 1 ≤ 4) (hunit : unitPresent (le m.payload 0 1) s)
    (hzero : le m.payload 1 3 = 0) : firstFail (createChecks m s) = require (freeSlot s).isSome eCapacity := by
  obtain ⟨hgiven, hslot, hlast⟩ := le_three_eq_zero hzero
  simp only [createChecks, (unitCheck_iff _ s).2 hunit]
  cases freeSlot s <;> simp [hty, hgiven, hslot, hlast, require, inRange, firstFail]

/-- What a CREATE that names a general slot in this state is refused with. -/
def slotRefusal : SlotState → Check
  | .free => none
  | .opened => some (eState, 0)
  | .placed => some (eState, 0)
  | .retiring => some (eBusy, 0)

/-- With a general slot named, CREATE is judged by the state of that slot. -/
theorem createChecks_named {m : Msg} {s : State} (hty : le m.payload 0 1 ≤ 4) (hunit : unitPresent (le m.payload 0 1) s)
    (hgiven : le m.payload 1 1 = 1) (hslot : 2 ≤ le m.payload 2 1) (hlast : le m.payload 3 1 = 0) :
    firstFail (createChecks m s) = slotRefusal (slotAt s (le m.payload 2 1)).st := by
  simp only [createChecks, (unitCheck_iff _ s).2 hunit]
  cases (slotAt s (le m.payload 2 1)).st <;> simp [hty, hgiven, hslot, hlast, require, inRange, firstFail, slotRefusal]

/-! ### The outcome of CREATE -/

theorem createSlot_unnamed {m : Msg} {s : State} {n : Nat} (hzero : le m.payload 1 3 = 0) (hfree : freeSlot s = some n) :
    createSlot m s = n := by
  simp [createSlot, (le_three_eq_zero hzero).1, hfree]

theorem createSlot_named {m : Msg} {s : State} (hgiven : le m.payload 1 1 = 1) : createSlot m s = le m.payload 2 1 := if_pos hgiven

section
variable {t : Nat} {m : Msg} {s : State} (hadm : admitted t rowCreate unitFree m s = true)
include hadm

theorem exec_create_refused {st d : Nat} (h : firstFail (createChecks m (taken t m s)) = some (st, d)) :
    exec (.create t m) s = .next (done m st d [] (taken t m s)) := by
  change execCreate t m s = _
  simp only [execCreate, serve_admitted hadm, checked, h]

theorem exec_create_passed {n : Nat} (h : firstFail (createChecks m (taken t m s)) = none) (hn : createSlot m (taken t m s) = n) :
    exec (.create t m) s =
      .next (done m 0 0 (u16 (handleOf (openSlot n (le m.payload 0 1) (taken t m s)) n) ++ [0, 0])
        (openSlot n (le m.payload 0 1) (taken t m s))) := by
  change execCreate t m s = _
  simp only [execCreate, serve_admitted hadm, checked, h, hn]
  rfl

/-- A CREATE that passes its checks opens the slot it takes, replies with its handle, and leaves every other slot. -/
theorem exec_create_opens {n : Nat} (hn : n < 256) (hslots : (taken t m s).drw.slots.length = 256)
    (hpass : firstFail (createChecks m (taken t m s)) = none) (htakes : createSlot m (taken t m s) = n) :
    let a := taken t m s
    let u := openSlot n (le m.payload 0 1) a
    let sl := openedFrom (slotAt a n) (le m.payload 0 1)
    exec (.create t m) s = .next (done m 0 0 (u16 (n + 256 * sl.gen) ++ [0, 0]) u)
      ∧ slotAt u n = sl ∧ (∀ k, k ≠ n → slotAt u k = slotAt a k) ∧ handleValid u (n + 256 * sl.gen) = true := by
  intro a u sl
  have hlen : n < a.drw.slots.length := hslots ▸ hn
  have hopened : slotAt u n = sl := slotAt_openSlot_same _ hlen
  have hhandle : handleOf u n = n + 256 * sl.gen := handleOf_openSlot _ hlen
  have hused : (slotAt u n).st ≠ .free := by rw [hopened]; exact SlotState.noConfusion
  rw [← hhandle]
  exact ⟨exec_create_passed hadm hpass htakes, hopened, fun k => slotAt_openSlot_ne _ a, handleValid_handleOf hn hused⟩

end

/-- Settles O15: the checks of CREATE decide by the unit, the fields and the slot; the slot that passes them is opened. -/
theorem createOpensAFreeSlot : Obligations.CreateOpensAFreeSlot := by
  intro t m s hadm
  refine ⟨fun hslots hty hunit hzero => ⟨fun n hlow hhigh hfree hbelow => ?_, fun hfull => ?_⟩,
    fun hslots hty hunit hgiven hslot hlast => ?_, fun habsent => exec_create_refused hadm (createChecks_absent habsent)⟩
  · have hlowest := freeSlot_eq_some hlow hhigh hfree hbelow
    refine exec_create_opens hadm hhigh hslots ?_ (createSlot_unnamed hzero hlowest)
    rw [createChecks_unnamed hty hunit hzero, hlowest]
    rfl
  · refine exec_create_refused hadm ?_
    rw [createChecks_unnamed hty hunit hzero, freeSlot_eq_none hfull]
    rfl
  · have hchecks := createChecks_named hty hunit hgiven hslot hlast
    refine ⟨fun hfree => ?_, fun hused => exec_create_refused hadm ?_, fun hretiring => exec_create_refused hadm ?_⟩
    · exact exec_create_opens hadm (le_one_lt _ _) hslots (hchecks.trans (congrArg slotRefusal hfree)) (createSlot_named hgiven)
    · obtain h | h := hused <;> exact hchecks.trans (congrArg slotRefusal h)
    · exact hchecks.trans (congrArg slotRefusal hretiring)

end Sys2Proof.Machine

/-! ## FS14 in the SETTLE beam (15 R356) -/

namespace Sys2Proof.Machine

/-! ### What CUTOFF does (Table 15.2) -/

theorem openSwitch_arr (cause : Nat) (s : State) : (openSwitch cause s).arr = { s.arr with switchOpen := true } := by
  unfold openSwitch
  split
  case isTrue hopen => rw [← hopen]
  case isFalse => simp

@[simp] theorem openSwitch_cond (cause : Nat) (s : State) : (openSwitch cause s).flt.cond = s.flt.cond := by
  unfold openSwitch
  split <;> simp

theorem kindHardware_cutoff_arr (cause : Nat) (s : State) :
    (kindHardware 4 cause s).arr = { s.arr with drvEn := false, droopFrom := none, switchOpen := true } :=
  openSwitch_arr cause (drvLow s)

@[simp] theorem kindHardware_cond (kind cause : Nat) (s : State) : (kindHardware kind cause s).flt.cond = s.flt.cond := by
  unfold kindHardware
  split <;> simp

@[simp] theorem goSafe_mode (kind cause : Nat) (s : State) :
    (goSafe kind cause s).mode = { s.mode with op := .safe, safeKind := max (if s.mode.op = .safe then s.mode.safeKind else 0) kind } := by
  unfold goSafe
  dsimp only
  (repeat' split) <;> simp

theorem goSafe_cutoff_arr (cause : Nat) (s : State) :
    (goSafe 4 cause s).arr = { s.arr with drvEn := false, droopFrom := none, switchOpen := true } := by
  rw [← kindHardware_cutoff_arr cause s]
  simp only [goSafe, or_true, if_true, apply_ite State.arr, record_arr, rakeUpdate_arr, ite_self]

@[simp] theorem goSafe_cond (kind cause : Nat) (s : State) : (goSafe kind cause s).flt.cond = s.flt.cond := by
  unfold goSafe
  dsimp only
  (repeat' split) <;> simp

/-- `u` is left by a CUTOFF carried out in SAFE from `s`: the array is dark behind an open switch, and no condition has changed. -/
structure CutOffFrom (s u : State) : Prop where
  safe : u.mode.op = .safe
  kind : u.mode.safeKind = 4
  dark : u.arr.drvEn = false
  opened : u.arr.switchOpen = true
  held : 6 ≤ u.flt.reaction
  cond : u.flt.cond = s.flt.cond

theorem react_cutoff_of_safe (src data : Nat) {s : State} (hsafe : s.mode.op = .safe) (hkind : s.mode.safeKind ≤ 4) :
    CutOffFrom s (react src data 6 s) where
  safe := by simp [react, hsafe]
  kind := by simp [react, hsafe, Nat.max_eq_right hkind]
  dark := by simp [react, hsafe, goSafe_cutoff_arr]
  opened := by simp [react, hsafe, goSafe_cutoff_arr]
  held := by simp only [react, hsafe]; exact Nat.le_max_right _ 6
  cond := by simp [react, hsafe, raiseReaction]

/-! ### What an assertion of FS14 does -/

@[simp] theorem recordFault_cond (src kind reaction data : Nat) (forced : Bool) (s : State) :
    (recordFault src kind reaction data forced s).flt.cond = s.flt.cond := by
  unfold recordFault
  dsimp only
  (repeat' split) <;> simp

@[simp] theorem latchFirst_cond (src now : Nat) (f : Collector) : (latchFirst src now f).cond = f.cond := by
  unfold latchFirst
  dsimp only
  (repeat' split) <;> rfl

/-- R356: the configured reaction of FS14 is not asked for. -/
theorem carriedOut_governor_of_settle {s : State} (data : Nat) (hsafe : s.mode.op = .safe) (hsettle : s.mode.safeKind = 2) :
    carriedOut s 14 data = 6 :=
  if_pos ⟨rfl, hsafe, hsettle⟩

theorem assertSource_pulse {src : Nat} {s : State} (data : Nat) (forced : Bool) (hpulse : isLevel src = false)
    (hrun : s.flt.running = true) : assertSource src data forced s = deliver src (data % 65536) forced true s := by
  simp [assertSource, hpulse, hrun]

/-- What `deliver` latches of an unshadowed assertion before its reaction is carried out. -/
def latchAssertion (src data : Nat) (s : State) : State :=
  let f := latchFirst src (tsc s) (countAssertion src data s.flt)
  { s with flt := { f with status := withBit f.status src, masked := withoutBit f.masked src } }

@[simp] theorem latchAssertion_mode (src data : Nat) (s : State) : (latchAssertion src data s).mode = s.mode := rfl

@[simp] theorem latchAssertion_cond (src data : Nat) (s : State) : (latchAssertion src data s).flt.cond = s.flt.cond := by
  simp [latchAssertion, countAssertion]

/-- An unshadowed assertion of FS14 is latched and recorded, and its reaction is all that follows. -/
theorem deliver_governor {data r : Nat} {forced act : Bool} {s : State} (hclear : isShadowed s 14 data = false)
    (hr : carriedOut (latchAssertion 14 data s) 14 data = r) (hne : r ≠ 0) :
    deliver 14 data forced act s = react 14 data r (recordFault 14 1 r data forced (latchAssertion 14 data s)) := by
  subst hr
  let u := latchAssertion 14 data s
  have hdeliver : deliver 14 data forced act s = react 14 data (carriedOut u 14 data)
      (if carriedOut u 14 data = 0 then u else recordFault 14 1 (carriedOut u 14 data) data forced u) :=
    (if_neg (Bool.eq_false_iff.mp hclear)).trans (ite_self _)
  rw [hdeliver, if_neg hne]

theorem deliver_governor_of_settle {data : Nat} (forced act : Bool) {s : State} (hsafe : s.mode.op = .safe)
    (hsettle : s.mode.safeKind = 2) (hclear : isShadowed s 14 data = false) :
    CutOffFrom s (deliver 14 data forced act s) := by
  have hcut : carriedOut (latchAssertion 14 data s) 14 data = 6 := carriedOut_governor_of_settle data hsafe hsettle
  rw [deliver_governor hclear hcut (by decide)]
  have hreact := react_cutoff_of_safe 14 data (s := recordFault 14 1 6 data forced (latchAssertion 14 data s))
    (by simpa) (by simp [hsettle])
  exact { hreact with cond := hreact.cond.trans (by simp) }

/-- The effects of FS29 and FS32 follow only a change of the conditions. -/
theorem heatEdges_of_cond_eq {s u : State} (h : u.flt.cond = s.flt.cond) : heatEdges s u = u := by
  simp [heatEdges, throttleEdge, dieEdge, h]

theorem exec_faultAssert_pulse {t src data : Nat} {s : State} (hsrc : src < 48) (hpulse : isLevel src = false)
    (hwatched : unwatched (advance t s) src data = false) (hrun : s.flt.running = true) :
    exec (.faultAssert t src data) s
      = .next (heatEdges (advance t s) (deliver src (data % 65536) false true (advance t s))) := by
  change execFaultAssert t src data s = _
  simp [execFaultAssert, hsrc, hwatched, assertSource_pulse, hpulse, hrun]

/-- Settles O43: R356 comes before the configured reaction, and a CUTOFF carried out in SAFE replaces the SETTLE beam. -/
theorem governorFaultCutsSettle : Obligations.GovernorFaultCutsSettle := by
  refine ⟨fun data s => carriedOut_governor_of_settle data, fun t data s hsafe hsettle hrun hclear => ?_⟩
  have hcut : CutOffFrom (advance t s) _ := deliver_governor_of_settle false true (by simpa) (by simpa) hclear
  have hexec := exec_faultAssert_pulse (t := t) (src := 14) (data := data) (by decide) rfl rfl hrun
  rw [heatEdges_of_cond_eq hcut.cond] at hexec
  exact ⟨_, hexec, hcut.safe, hcut.kind, hcut.dark, hcut.opened, hcut.held⟩

end Sys2Proof.Machine

/-! ## The queue, the drawer slots and the fuses (06 R141; 19 R430, R438, R446) -/

namespace Sys2Proof.Machine

theorem FuseForward.refl (f : Fuses) : FuseForward f f := ⟨Nat.le_refl _, Nat.le_refl _, id, id, rfl, rfl, rfl, rfl⟩

theorem FuseForward.trans {f g h : Fuses} (hfg : FuseForward f g) (hgh : FuseForward g h) : FuseForward f h := by
  obtain ⟨life, roll, zero, debug, variant, mac, serial, loader⟩ := hfg
  obtain ⟨life', roll', zero', debug', variant', mac', serial', loader'⟩ := hgh
  exact ⟨Nat.le_trans life life', Nat.le_trans roll roll', zero' ∘ zero, debug' ∘ debug, variant'.trans variant, mac'.trans mac, serial'.trans serial,
    loader'.trans loader⟩

/-- What every command keeps: the queue and the number of drawer slots. The fuses stay, or go forward within what is legal. -/
structure CoreKept (s u : State) : Prop where
  pending : u.pending = s.pending
  slots : u.drw.slots.length = s.drw.slots.length
  fuse : FuseOk s.fuse → FuseOk u.fuse ∧ FuseForward s.fuse u.fuse

/-- What every command that blows no fuse keeps: the queue, the number of drawer slots, and the fuses. -/
structure UnblownKept (s u : State) : Prop where
  pending : u.pending = s.pending
  slots : u.drw.slots.length = s.drw.slots.length
  fuse : u.fuse = s.fuse

theorem Kept.unblown {s u : State} (h : Kept s u) : UnblownKept s u := ⟨h.pending, h.slots, h.fuse⟩

theorem UnblownKept.trans {s t u : State} (h : UnblownKept s t) (g : UnblownKept t u) : UnblownKept s u :=
  ⟨g.pending.trans h.pending, g.slots.trans h.slots, g.fuse.trans h.fuse⟩

theorem UnblownKept.readsKept (s : State) : ReadsKept (UnblownKept s) := fun _ _ k h => h.trans k.unblown

theorem UnblownKept.core {s u : State} (h : UnblownKept s u) : CoreKept s u :=
  ⟨h.pending, h.slots, fun ok => h.fuse.symm ▸ ⟨ok, .refl _⟩⟩

theorem CoreKept.trans {s t u : State} (h : CoreKept s t) (g : CoreKept t u) : CoreKept s u where
  pending := g.pending.trans h.pending
  slots := g.slots.trans h.slots
  fuse ok := by
    obtain ⟨okt, fwd⟩ := h.fuse ok
    obtain ⟨oku, fwd'⟩ := g.fuse okt
    exact ⟨oku, fwd.trans fwd'⟩

theorem CoreKept.readsKept (s : State) : ReadsKept (CoreKept s) := fun _ _ k h => h.trans k.unblown.core

/-! ### Commands that move the power -/

theorem coldStart_unblown (cond : BitVec 64) (vin : Nat) (boot : BootInputs) (s : State) : UnblownKept s (coldStart cond vin boot s) :=
  UnblownKept.readsKept s _ _ (bootSteps_kept true 0 boot _ (.refl _)) ⟨rfl, List.length_map .., rfl⟩

theorem wakeStart_unblown (src : WakeSrc) (lost : BitVec 5) (seconds vin : Nat) (boot : BootInputs) (s : State) :
    UnblownKept s (wakeStart src lost seconds vin boot s) :=
  UnblownKept.readsKept s _ _ (checkSignatures_kept _ _ _ _ (bootSteps_kept _ _ _ _ (.refl _))) ⟨rfl, List.length_map .., rfl⟩

theorem dropPower_unblown (retain : Nat) (s : State) : UnblownKept s (dropPower retain s) := ⟨rfl, List.length_map .., rfl⟩

theorem enterStandby_unblown (m : Msg) (e : EntryWatch) (s : State) : UnblownKept s (enterStandby m e s) := by
  unfold enterStandby
  refine UnblownKept.trans (Kept.unblown ?_) (dropPower_unblown _ _)
  exact Kept.upd (record_kept _ _ _ _ (rakeUpdate_kept _ (Kept.upd (openSwitch_kept _ _ (loseAllSessions_kept _ (.refl s))) rfl rfl rfl rfl)))
    rfl rfl rfl rfl

theorem resetStart_unblown (boot : BootInputs) (s : State) : UnblownKept s (resetStart boot s) := by
  unfold resetStart
  split
  · have noted : UnblownKept s { s with pwr := { s.pwr with lgPending := 5 } } := ⟨rfl, rfl, rfl⟩
    exact noted.trans (coldStart_unblown _ _ _ _)
  · exact (warmStart_kept boot s (.refl s)).unblown

/-- The end of a brownout without VIN (18 R419): OFF keeps the flash, the fuses and the slots. -/
theorem powerOff_unblown (s : State) : UnblownKept s
    { State.reset with flash := s.flash, fuse := s.fuse, pending := s.pending, drw := { slots := s.drw.slots.map bootSlot },
                       pwr := { lgPending := s.pwr.lgPending } } :=
  ⟨rfl, List.length_map .., rfl⟩

theorem execVinRise_unblown (vin : Nat) (boot : BootInputs) (s : State) : Leads (UnblownKept s) (execVinRise vin boot s) :=
  .ite .fault (.ite (.next (coldStart_unblown _ _ _ _)) (.next (Kept.refl s).unblown))

theorem execWakeSource_unblown (e : WakeEvent) (lost : BitVec 5) (seconds vin : Nat) (boot : BootInputs) (s : State) :
    Leads (UnblownKept s) (execWakeSource e lost seconds vin boot s) :=
  .ite .fault (.ite (.next (wakeStart_unblown _ _ _ _ _ _)) (.next (Kept.refl s).unblown))

theorem execModuleReset_unblown (t : Nat) (boot : BootInputs) (s : State) : Leads (UnblownKept s) (execModuleReset t boot s) :=
  have hs := (advance_kept t s (.refl s)).unblown
  .ite (.ite .fault (.next (hs.trans (resetStart_unblown _ _)))) (.next hs)

theorem execLastgaspSaveComplete_unblown (t : Nat) (above : Bool) (vin : Nat) (boot : BootInputs) (s : State) :
    Leads (UnblownKept s) (execLastgaspSaveComplete t above vin boot s) := by
  have hs := (advance_kept t s (.refl s)).unblown
  unfold execLastgaspSaveComplete
  extract_lets a flash b
  have hb : UnblownKept s b := by
    unfold b
    split
    · exact hs.trans ⟨rfl, rfl, rfl⟩
    · exact hs
  exact .ite (.next hs) (.ite .fault (.ite (.next (hb.trans (coldStart_unblown _ _ _ _))) (.next (hb.trans (powerOff_unblown b)))))

theorem execStandbyRequest_unblown (t : Nat) (m : Msg) (e : EntryWatch) (s : State) : Leads (UnblownKept s) (execStandbyRequest t m e s) := by
  refine serveThen_leads (.readsKept s) _ _ _ _ _ _ _ (Kept.refl s).unblown (fun u hu => .checked ?_)
    (fun u hu => hu.trans (enterStandby_unblown m e u))
  split
  · exact .failIn (hu.trans (refuse_kept _ u (.refl u)).unblown)
  · exact .ok hu

theorem exec_unblown_of_movesPower (c : Instr) (s : State) (hc : movesPower c = true) : Leads (UnblownKept s) (exec c s) := by
  unfold movesPower at hc
  split at hc
  · exact execVinRise_unblown _ _ s
  · exact execLastgaspSaveComplete_unblown _ _ _ _ s
  · exact execModuleReset_unblown _ _ s
  · exact execStandbyRequest_unblown _ _ _ s
  · exact execWakeSource_unblown _ _ _ _ _ s
  · cases hc

/-! ### Commands that swap a frame or run the servo -/

theorem exec_unblown_of_maySwap (c : Instr) (s : State) (hc : maySwap c = true) : Leads (UnblownKept s) (exec c s) := by
  have swapped : ∀ readback u, UnblownKept s u → UnblownKept s (executeSwap readback u) := fun readback u hu => by
    obtain ⟨hpending, hfuse, -, -, hslots⟩ := executeSwap_kept readback u
    exact hu.trans ⟨hpending, hslots, hfuse⟩
  unfold maySwap at hc
  split at hc
  · exact execSluiceExecute_leads (.readsKept s) swapped _ _ s (Kept.refl s).unblown
  · exact execTimedSwap_leads (.readsKept s) swapped _ _ s (Kept.refl s).unblown
  · cases hc

theorem exec_unblown_of_writesTrim (c : Instr) (s : State) (hc : writesTrim c = true) : Leads (UnblownKept s) (exec c s) := by
  unfold writesTrim at hc
  split at hc
  · refine (execGptpMessage_kept _ _ _ s (.refl s)).imp fun u hu => ?_
    obtain k | ⟨v, hpending, hfuse, -, -, hslots⟩ := hu
    · exact k.unblown
    · exact ⟨hpending, hslots, hfuse⟩
  · cases hc

/-- Only LIFECYCLE_ADVANCE, ZEROISE and UPDATE_CONFIRM touch the fuses. -/
theorem exec_unblown (c : Instr) (s : State) (hf : mayBlow c = false) : Leads (UnblownKept s) (exec c s) := by
  cases hp : movesPower c with
  | true => exact exec_unblown_of_movesPower c s hp
  | false =>
  cases hs : maySwap c with
  | true => exact exec_unblown_of_maySwap c s hs
  | false =>
  cases hg : writesTrim c with
  | true => exact exec_unblown_of_writesTrim c s hg
  | false => exact (exec_kept c s (.refl s) hp hs hf hg).leads (.readsKept s) (Kept.refl s).unblown

/-! ### Lists of checks (12 R289) -/

@[simp] theorem firstFail_nil : firstFail [] = none := rfl

@[simp] theorem firstFail_require (ok : Bool) (st : Nat) (cs : List Check) :
    firstFail (require ok st :: cs) = if ok then firstFail cs else some (st, 0) := by cases ok <;> rfl

@[simp] theorem firstFail_inRange (ok : Bool) (off : Nat) (cs : List Check) :
    firstFail (inRange ok off :: cs) = if ok then firstFail cs else some (eRange, off) := by cases ok <;> rfl

theorem between_iff {v lo hi : Nat} : between v lo hi = true ↔ lo ≤ v ∧ v ≤ hi := by simp [between]

/-! ### Commands that blow fuses -/

/-- Zeroisation clears every key, so what a zeroised Locker reads as is as FuseOk says. -/
theorem zeroise_core (s : State) : CoreKept s (zeroise s) := by
  obtain ⟨hpending, hfuse, -, -, hslots⟩ := zeroise_kept s
  refine ⟨hpending, hslots, fun ok => ?_⟩
  obtain ⟨hlife, hroll, -⟩ := ok
  rw [hfuse]
  exact ⟨⟨Nat.le_refl _, hroll, fun _ => ⟨rfl, rfl⟩⟩, hlife, Nat.le_refl _, fun _ => rfl, id, rfl, rfl, rfl, rfl⟩

theorem advanceTo_core {target : Nat} {s : State} (hnext : s.fuse.lifecycle ≤ target) (hlast : target ≤ 3) : CoreKept s (advanceTo target s) := by
  obtain ⟨hpending, hfuse, -, -, hslots⟩ := advanceTo_kept target s
  refine ⟨hpending, hslots, fun ok => ?_⟩
  obtain ⟨-, hroll, hzero⟩ := ok
  rw [hfuse]
  exact ⟨⟨hlast, hroll, hzero⟩, hnext, Nat.le_refl _, id, fun h => by simp [h], rfl, rfl, rfl, rfl⟩

theorem raisedRollback_bounds {s : State} (h : s.fuse.rollback ≤ 64) : s.fuse.rollback ≤ raisedRollback s ∧ raisedRollback s ≤ 64 := by
  unfold raisedRollback
  split <;> omega

theorem confirmImage_core (s : State) : CoreKept s (confirmImage s) := by
  obtain ⟨hpending, hfuse, -, -, hslots⟩ := confirmImage_kept s
  refine ⟨hpending, hslots, fun ok => ?_⟩
  obtain ⟨hlife, hroll, hzero⟩ := ok
  obtain ⟨hup, hmost⟩ := raisedRollback_bounds hroll
  rw [hfuse]
  exact ⟨⟨hlife, hmost, hzero⟩, Nat.le_refl _, hup, id, id, rfl, rfl, rfl, rfl⟩

/-- Where the checks before the work have passed, the work keeps what it is shown to keep. -/
theorem AnswerLeads.checked_of_pass {P : State → Prop} {cs : List Check} {a : Answer} (h : firstFail cs = none → AnswerLeads P a) :
    AnswerLeads P (Machine.checked cs a) := by
  unfold Machine.checked
  split
  · trivial
  · next e => exact h e

/-- A LIFECYCLE_ADVANCE that passes its checks names the state after the present one. -/
theorem lifecycleChecks_pass {p : List Byte} {s : State} (h : firstFail (lifecycleChecks p s) = none) :
    le p 0 1 = s.fuse.lifecycle + 1 ∧ le p 0 1 ≤ 3 := by
  simp only [lifecycleChecks, firstFail_inRange, firstFail_require, between_iff, decide_eq_true_eq] at h
  (repeat' split at h) <;> simp_all

theorem execLifecycleAdvance_core (t : Nat) (m : Msg) (s : State) : Leads (CoreKept s) (execLifecycleAdvance t m s) := by
  refine serveThen_leads (.readsKept s) _ _ _ _ _ _ _ (Kept.refl s).unblown.core (fun u hu => .checked_of_pass fun hpass => .ok ?_)
    (fun u hu => ?_)
  · obtain ⟨hnext, hlast⟩ := lifecycleChecks_pass hpass
    split
    · exact hu
    · exact hu.trans (advanceTo_core (by omega) hlast)
  · split
    · refine hu.trans ⟨?_, ?_, fun ok => ?_⟩
      · exact (zeroise_core _).pending.trans (advanceTo_kept 3 u).pending
      · exact (zeroise_core _).slots.trans (advanceTo_kept 3 u).slots
      · exact ((advanceTo_core ok.1 (Nat.le_refl _)).trans (zeroise_core _)).fuse ok
    · exact hu

theorem execZeroise_core (t : Nat) (m : Msg) (s : State) : Leads (CoreKept s) (execZeroise t m s) :=
  serveThen_leads (.readsKept s) _ _ _ _ _ _ _ (Kept.refl s).unblown.core (fun _ hu => .checked (.ok hu)) (fun u hu => hu.trans (zeroise_core u))

theorem execUpdateConfirm_core (t : Nat) (m : Msg) (s : State) : Leads (CoreKept s) (execUpdateConfirm t m s) :=
  serveThen_leads (.readsKept s) _ _ _ _ _ _ _ (Kept.refl s).unblown.core (fun u hu => .checked (.ok (hu.trans (confirmImage_core u))))
    (fun _ hu => hu)

theorem exec_core_of_mayBlow (c : Instr) (s : State) (hc : mayBlow c = true) : Leads (CoreKept s) (exec c s) := by
  unfold mayBlow at hc
  split at hc
  · exact execLifecycleAdvance_core _ _ s
  · exact execZeroise_core _ _ s
  · exact execUpdateConfirm_core _ _ s
  · cases hc

theorem exec_core (c : Instr) (s : State) : Leads (CoreKept s) (exec c s) := by
  cases hf : mayBlow c with
  | true => exact exec_core_of_mayBlow c s hf
  | false => exact (exec_unblown c s hf).imp fun _ h => h.core

/-! ### Every step -/

/-- A step runs the front of the queue or only moves the clock: either way drawer slots and fuses are as `exec` keeps them. -/
theorem step_slots_fuse (s : State) :
    Leads (fun u => u.drw.slots.length = s.drw.slots.length ∧ (FuseOk s.fuse → FuseOk u.fuse ∧ FuseForward s.fuse u.fuse)) (step s) := by
  unfold step
  split
  · have clock : (clockEdge s).drw = s.drw ∧ (clockEdge s).fuse = s.fuse := by
      unfold clockEdge
      split <;> exact ⟨rfl, rfl⟩
    rw [Leads, clock.1, clock.2]
    exact ⟨rfl, fun ok => ⟨ok, .refl _⟩⟩
  · exact (exec_core _ _).imp fun u h => ⟨h.slots, h.fuse⟩

theorem reset_slots_length : State.reset.drw.slots.length = 256 := by
  decide +kernel

/-- Settles O5: three commands blow fuses, each within its checks; every other command leaves them. -/
theorem fusesOnlyForward : Obligations.FusesOnlyForward :=
  ⟨fun s _ ok e => ((step_slots_fuse s).of_next e).2 ok, fun c s _ hc e => ((exec_unblown c s hc).of_next e).fuse⟩

/-- Settles O3: no command touches the queue, and each keeps the number of slots. -/
theorem queueKept : Obligations.QueueKept :=
  ⟨fun c s _ e => ((exec_core c s).of_next e).pending, reset_slots_length,
    fun s _ h e => ((step_slots_fuse s).of_next e).1.trans h⟩

end Sys2Proof.Machine

/-! ## One step, and the module as shipped (log entries 1 and 3) -/

namespace Sys2Proof.Machine

/-- Settles O1. -/
theorem stepRunsFront : Obligations.StepRunsFront := by
  intro c rest s h
  rw [step, h]

theorem step_idle {s : State} (h : s.pending = []) : step s = .next (clockEdge s) := by rw [step, h]

theorem clockRuns_iff (s : State) : clockRuns s = true ↔ s.mode.op ≠ .off ∧ s.mode.op ≠ .standby := by
  unfold clockRuns
  cases s.mode.op <;> simp

/-- Settles O2: the clock has an edge in every state but OFF and STANDBY. -/
theorem idleStepTicks : Obligations.IdleStepTicks := by
  intro s h
  rw [step_idle h]
  refine ⟨fun hoff hstandby => ?_, fun hdead => ?_⟩
  · rw [clockEdge, if_pos ((clockRuns_iff s).2 ⟨hoff, hstandby⟩)]
    rfl
  · rw [clockEdge, if_neg fun hrun => ?_]
    obtain ⟨hoff, hstandby⟩ := (clockRuns_iff s).1 hrun
    exact hdead.elim hoff hstandby

theorem reset_slots_free (n : Nat) : (slotAt State.reset n).st = .free := by
  have hall : ∀ x ∈ State.reset.drw.slots, x.st = .free := by decide +kernel
  rw [slotAt, List.getD_eq_getElem?_getD]
  cases h : State.reset.drw.slots[n]? with
  | none => rfl
  | some x => exact hall x (List.mem_of_getElem? h)

/-- Settles O4: the reset state is a literal, and each field is read off it. -/
theorem resetAsShipped : Obligations.ResetAsShipped :=
  ⟨⟨rfl, rfl, rfl, rfl, rfl, rfl, rfl, rfl, rfl, rfl, rfl, reset_slots_free⟩, by unfold FuseOk; decide +kernel, .of_zero rfl⟩

end Sys2Proof.Machine

/-! ## The service of a message row (12 R288 to R290) -/

namespace Sys2Proof.Machine

/-- Every message row but CHEST_ACTIVATE, which answers later, is one service: its common checks, its work, and, in nine rows, what follows its
reply. -/
theorem exec_of_messageRow {i : Instr} {t : Nat} {m : Msg} {r : Row} {ab : State → Bool} (h : messageRow i = some (t, m, r, ab)) (s : State) :
    (∃ body after, exec i s = serveThen t r ab m body after s) ∨ (i = .chestActivate t m ∧ r = rowChestActivate ∧ ab = unitFree) := by
  have served : ∀ {r ab body} {o : Out}, o = serve t r ab m body s → ∃ body after, o = serveThen t r ab m body after s :=
    fun h => ⟨_, id, h⟩
  unfold messageRow at h
  split at h <;> cases h <;> simp only [exec]
  case h_33 => simp
  case h_4 | h_5 | h_39 | h_56 | h_59 | h_60 | h_61 | h_62 | h_65 =>
    simp only [execResetModule, execResetMpOnly, execFaultForceSet, execStandbyRequest, execSessionClose, execLifecycleAdvance,
      execZeroise, execUpdateIntent, execUpdateActivate]
    exact .inl ⟨_, _, rfl⟩
  all_goals exact .inl (served rfl)

theorem execChestActivate_refused {t : Nat} {m : Msg} {s : State} {st d : Nat} (h : isServed rowChestActivate m (ready t s) = true)
    (e : commonCheck rowChestActivate false m (taken t m s) = some (st, d)) :
    execChestActivate t m s = .next (done m st d [] (taken t m s)) := by
  unfold taken done ready at *
  simp [execChestActivate, h, e, firstFail]

section
variable {i : Instr} {t : Nat} {m : Msg} {r : Row} {ab : State → Bool} {s : State} (hrow : messageRow i = some (t, m, r, ab))
include hrow

theorem exec_waits (hwaits : isServed r m (ready t s) = false) : exec i s = .next (ready t s) := by
  obtain ⟨body, after, h⟩ | ⟨rfl, rfl, rfl⟩ := exec_of_messageRow hrow s
  · exact h.trans (serveThen_waits hwaits)
  · change execChestActivate t m s = _
    unfold ready at *
    simp [execChestActivate, hwaits]

theorem exec_refused {st d : Nat} (hserved : isServed r m (ready t s) = true)
    (hfail : commonCheck r (ab (taken t m s)) m (taken t m s) = some (st, d)) : exec i s = .next (done m st d [] (taken t m s)) := by
  obtain ⟨body, after, h⟩ | ⟨rfl, rfl, rfl⟩ := exec_of_messageRow hrow s
  · exact h.trans (serveThen_refused hserved hfail)
  · exact execChestActivate_refused hserved hfail

end

/-- Settles O8: a message that is not served leaves the state in which the MP looked at it. -/
theorem messageWaits : Obligations.MessageWaits := by
  intro i t m r ab s hrow hwaits
  have hready := exec_waits hrow hwaits
  exact ⟨hready, fun n hnext hknown => hready.trans (congrArg _ (serveUnknown_known hnext hknown)),
    fun hstopped => hready.trans (congrArg _ (serveUnknown_stopped hstopped))⟩

/-- The four common checks decide in their order. -/
theorem commonCheck_eq (r : Row) (absent : Bool) (m : Msg) (s : State) : commonCheck r absent m s =
    if r.domain = .info ∨ r.domain = sessionDomain s m then
      if absent = true then some (eAbsent, 0)
      else if r.states s.mode.op = false then some (eState, 0)
      else if r.shape m = true ∧ m.flags < 8 ∧ m.reserved = 0 then none
      else some (eRange, 0xFFFF)
    else some (eDomain, 0) := by
  unfold commonCheck
  cases absent <;> cases r.states s.mode.op <;> simp [and_assoc]

/-- Settles O9: the first common check that fails is the answer. -/
theorem commonChecksInOrder : Obligations.CommonChecksInOrder := by
  intro i t m r ab s hrow hserved a inDomain wellMade
  have refused : ∀ {st d}, commonCheck r (ab a) m a = some (st, d) → exec i s = .next (done m st d [] a) := exec_refused hrow hserved
  refine ⟨fun hd => refused ?_, fun hd hab => refused ?_, fun hd hab hst => refused ?_, fun hd hab hst hw => refused ?_⟩ <;> rw [commonCheck_eq]
  · exact if_neg hd
  · rw [if_pos hd, if_pos hab]
  · rw [if_pos hd, if_neg (by simp [hab]), if_pos hst]
  · rw [if_pos hd, if_neg (by simp [hab]), if_neg (by simp [hst]), if_neg hw]

end Sys2Proof.Machine

/-! ## What the collector and the schedule leave in the array and the chain: the latches and the count of executed swaps -/

namespace Sys2Proof.Machine

/-- A fold whose every step keeps what `g` reads keeps it. -/
theorem foldl_keeps {α β : Type} {f : State → α → State} (g : State → β) (h : ∀ s x, g (f s x) = g s) (l : List α) (s : State) :
    g (l.foldl f s) = g s := by
  induction l generalizing s with
  | nil => rfl
  | cons x l ih => rw [List.foldl_cons, ih, h]

/-! ### A part of a state that is chosen by a condition -/

section
variable {c : Prop} [Decidable c] (a b : State)

@[simp] theorem ite_mode : (if c then a else b).mode = if c then a.mode else b.mode := apply_ite State.mode c a b
@[simp] theorem ite_arr : (if c then a else b).arr = if c then a.arr else b.arr := apply_ite State.arr c a b
@[simp] theorem ite_sync : (if c then a else b).sync = if c then a.sync else b.sync := apply_ite State.sync c a b
@[simp] theorem ite_time : (if c then a else b).time = if c then a.time else b.time := apply_ite State.time c a b
@[simp] theorem ite_log : (if c then a else b).log = if c then a.log else b.log := apply_ite State.log c a b
@[simp] theorem ite_cfg : (if c then a else b).cfg = if c then a.cfg else b.cfg := apply_ite State.cfg c a b
@[simp] theorem ite_sched : (if c then a else b).sched = if c then a.sched else b.sched := apply_ite State.sched c a b
@[simp] theorem ite_comp : (if c then a else b).comp = if c then a.comp else b.comp := apply_ite State.comp c a b
@[simp] theorem ite_mon : (if c then a else b).mon = if c then a.mon else b.mon := apply_ite State.mon c a b
@[simp] theorem ite_gov : (if c then a else b).gov = if c then a.gov else b.gov := apply_ite State.gov c a b
@[simp] theorem ite_drw : (if c then a else b).drw = if c then a.drw else b.drw := apply_ite State.drw c a b
@[simp] theorem ite_flt : (if c then a else b).flt = if c then a.flt else b.flt := apply_ite State.flt c a b
@[simp] theorem ite_dim : (if c then a else b).dim = if c then a.dim else b.dim := apply_ite State.dim c a b
@[simp] theorem ite_rake : (if c then a else b).rake = if c then a.rake else b.rake := apply_ite State.rake c a b
@[simp] theorem ite_conv : (if c then a else b).conv = if c then a.conv else b.conv := apply_ite State.conv c a b
@[simp] theorem ite_link : (if c then a else b).link = if c then a.link else b.link := apply_ite State.link c a b
@[simp] theorem ite_can : (if c then a else b).can = if c then a.can else b.can := apply_ite State.can c a b
@[simp] theorem ite_gate : (if c then a else b).gate = if c then a.gate else b.gate := apply_ite State.gate c a b
@[simp] theorem ite_mp : (if c then a else b).mp = if c then a.mp else b.mp := apply_ite State.mp c a b
@[simp] theorem ite_dram : (if c then a else b).dram = if c then a.dram else b.dram := apply_ite State.dram c a b
@[simp] theorem ite_pwr : (if c then a else b).pwr = if c then a.pwr else b.pwr := apply_ite State.pwr c a b
@[simp] theorem ite_upd : (if c then a else b).upd = if c then a.upd else b.upd := apply_ite State.upd c a b
@[simp] theorem ite_flash : (if c then a else b).flash = if c then a.flash else b.flash := apply_ite State.flash c a b
@[simp] theorem ite_fuse : (if c then a else b).fuse = if c then a.fuse else b.fuse := apply_ite State.fuse c a b
@[simp] theorem ite_cvus : (if c then a else b).cvus = if c then a.cvus else b.cvus := apply_ite State.cvus c a b
@[simp] theorem ite_pending : (if c then a else b).pending = if c then a.pending else b.pending := apply_ite State.pending c a b

variable (x y : PixelArray) (v w : Sync)

@[simp] theorem ite_bankA : (if c then x else y).bankA = if c then x.bankA else y.bankA := apply_ite PixelArray.bankA c x y
@[simp] theorem ite_bankB : (if c then x else y).bankB = if c then x.bankB else y.bankB := apply_ite PixelArray.bankB c x y
@[simp] theorem ite_latches : (if c then x else y).latches = if c then x.latches else y.latches := apply_ite PixelArray.latches c x y
@[simp] theorem ite_executed : (if c then v else w).executed = if c then v.executed else w.executed := apply_ite Sync.executed c v w

end

/-! ### The array and the chain -/

/-- What neither the collector nor the schedule's own steps touch: the banks, the latches, and the count of executed swaps. -/
abbrev Lasting (s u : State) : Prop :=
  u.arr.bankA = s.arr.bankA ∧ u.arr.bankB = s.arr.bankB ∧ u.arr.latches = s.arr.latches ∧ u.sync.executed = s.sync.executed

theorem Lasting.trans {s t u : State} (hst : Lasting s t) (htu : Lasting t u) : Lasting s u := by simp [Lasting, hst, htu]

@[simp] theorem drvLow_lasting (s : State) : Lasting s (drvLow s) := ⟨rfl, rfl, rfl, rfl⟩

@[simp] theorem selectSettle_lasting (s : State) : Lasting s (selectSettle s) := ⟨rfl, rfl, rfl, rfl⟩

@[simp] theorem closeSwitch_lasting (s : State) : Lasting s (closeSwitch s) := by
  unfold closeSwitch
  split <;> simp [Lasting]

@[simp] theorem openSwitch_lasting (cause : Nat) (s : State) : Lasting s (openSwitch cause s) := by
  unfold openSwitch
  split <;> simp [Lasting]

@[simp] theorem kindHardware_lasting (kind cause : Nat) (s : State) : Lasting s (kindHardware kind cause s) := by
  unfold kindHardware
  split <;> simp [Lasting]

@[simp] theorem goSafe_lasting (kind cause : Nat) (s : State) : Lasting s (goSafe kind cause s) := by simp [Lasting, goSafe]

@[simp] theorem restoreBeam_lasting (s : State) : Lasting s (restoreBeam s) := by simp [Lasting, restoreBeam]

@[simp] theorem releaseHold_lasting (s : State) : Lasting s (releaseHold s) := by
  unfold releaseHold
  split
  · simp [Lasting]
  · split <;> simp [Lasting]

@[simp] theorem levelEnded_lasting (src : Nat) (forced : Bool) (s : State) : Lasting s (levelEnded src forced s) := by simp [Lasting, levelEnded]

@[simp] theorem endSource_lasting (src : Nat) (s : State) : Lasting s (endSource src s) := by simp [Lasting, endSource]

@[simp] theorem followWithhold_lasting (s : State) : Lasting s (followWithhold s) := by simp [Lasting, followWithhold]

@[simp] theorem withholdBy_lasting (src data : Nat) (s : State) : Lasting s (withholdBy src data s) := by simp [Lasting, withholdBy]

@[simp] theorem startSchedule_lasting (s : State) : Lasting s (startSchedule s) := by simp [Lasting, startSchedule]

@[simp] theorem proofToSafe_lasting (kind cause : Nat) (s : State) : Lasting s (proofToSafe kind cause s) := by simp [Lasting, proofToSafe]

@[simp] theorem react_lasting (src data r : Nat) (s : State) : Lasting s (react src data r s) := by
  cases h : s.mode.op <;> simp [Lasting, react, h]

@[simp] theorem settleFails_lasting (s : State) : Lasting s (settleFails s) := by simp [Lasting, settleFails]

@[simp] theorem rejectRun_lasting (cause : Nat) (s : State) : Lasting s (rejectRun cause s) := by simp [Lasting, rejectRun]

@[simp] theorem interruptRun_lasting (s : State) : Lasting s (interruptRun s) := by simp [Lasting, interruptRun]

@[simp] theorem beginModuleReset_lasting (s : State) : Lasting s (beginModuleReset s) := by
  cases h : s.mode.op <;> simp [Lasting, beginModuleReset, h]

@[simp] theorem busyAll_lasting (s : State) : Lasting s (busyAll s) := by
  have ha := foldl_keeps (f := fun s m => busyReply m s) State.arr (by simp)
  have hs := foldl_keeps (f := fun s m => busyReply m s) State.sync (by simp)
  simp [Lasting, busyAll, ha, hs, -List.foldl_append]

@[simp] theorem dropActivation_lasting (s : State) : Lasting s (dropActivation s) := by
  cases h : s.comp.activation <;> simp [Lasting, dropActivation, h]

@[simp] theorem dataLost_lasting (s : State) : Lasting s (dataLost s) := by
  obtain h | ⟨x, h⟩ := Option.eq_none_or_eq_some s.mp.served
  · simp [Lasting, dataLost, h]
  · cases hr : x.reply <;> simp [Lasting, dataLost, h, hr]

@[simp] theorem beginMpRestart_lasting (second inHand : Bool) (s : State) : Lasting s (beginMpRestart second inHand s) := by
  simp [Lasting, beginMpRestart]

@[simp] theorem reinitialise_lasting (s : State) : Lasting s (reinitialise s) := by simp [Lasting, reinitialise]

@[simp] theorem loseAllSessions_lasting (s : State) : Lasting s (loseAllSessions s) := by
  have ha := foldl_keeps (f := fun s (x : Session) => countLost (dropPending x.id s)) State.arr (by simp)
  have hs := foldl_keeps (f := fun s (x : Session) => countLost (dropPending x.id s)) State.sync (by simp)
  simp [Lasting, loseAllSessions, ha, hs]

@[simp] theorem takeSlTrim_lasting (s : State) : Lasting s (takeSlTrim s) := ⟨rfl, rfl, rfl, rfl⟩

@[simp] theorem readdress_lasting (s : State) : Lasting s (readdress s) := by simp [Lasting, readdress]

@[simp] theorem checkLen_lasting (s : State) : Lasting s (checkLen s) := by simp [Lasting, checkLen]

@[simp] theorem takePendingDepth_lasting (s : State) : Lasting s (takePendingDepth s) := by simp [Lasting, takePendingDepth]

/-! ### The drawers' own steps touch neither the array nor the chain -/

@[simp] theorem placeAll_arr_sync (table : List TableRow) (items : List Item) (s : State) :
    (placeAll table items s).arr = s.arr ∧ (placeAll table items s).sync = s.sync :=
  ⟨foldl_keeps State.arr (by simp) table s, foldl_keeps State.sync (by simp) table s⟩

@[simp] theorem recordApplied_arr_sync (frame : Nat) (touched : List Nat) (s : State) :
    (recordApplied frame touched s).arr = s.arr ∧ (recordApplied frame touched s).sync = s.sync :=
  ⟨foldl_keeps State.arr (by simp) touched s, foldl_keeps State.sync (by simp) touched s⟩

@[simp] theorem applyCommit_arr_sync (c : Commit) (s : State) : (applyCommit c s).arr = s.arr ∧ (applyCommit c s).sync = s.sync := by
  have fresh := fun {β} (g : State → β) h => foldl_keeps (f := fun s n => updSlot n (fun sl => freshBuffers (descIn c.table n) sl) s) g h c.fresh s
  have flips := fun {β} (g : State → β) h => foldl_keeps (f := fun s n => updSlot n (flipSlot (descIn c.table n)) s) g h c.flips
  cases h : c.seq <;> simp [applyCommit, h, fresh State.arr, fresh State.sync, flips State.arr, flips State.sync]

@[simp] theorem retireSlot_arr_sync (n : Nat) (s : State) : (retireSlot n s).arr = s.arr ∧ (retireSlot n s).sync = s.sync := by
  by_cases h : (slotAt s n).destroyed <;> simp [retireSlot, h]

theorem retireDue_keeps {β : Type} (g : State → β) (hdrw : ∀ (s : State) d, g { s with drw := d } = g s)
    (hslot : ∀ n f s, g (updSlot n f s) = g s) (hrec : ∀ a b c s, g (record a b c s) = g s) (m : Option Nat) (s : State) :
    g (retireDue m s) = g s := by
  have retire : ∀ n s, g (retireSlot n s) = g s := by
    intro n s
    by_cases h : (slotAt s n).destroyed <;> simp only [retireSlot, h, if_true, if_false, Bool.false_eq_true, hrec, hslot]
  unfold retireDue
  rw [hdrw, foldl_keeps g (by simp [hrec]), foldl_keeps g, foldl_keeps g]
  · intro s n
    split
    · split
      · exact retire n s
      · rfl
    · rfl
  · intro s n
    split
    · split
      · dsimp only
        split
        · rw [hrec, hslot]
        · rw [hslot]
      · rfl
    · rfl

@[simp] theorem retireDue_arr_sync (m : Option Nat) (s : State) : (retireDue m s).arr = s.arr ∧ (retireDue m s).sync = s.sync :=
  ⟨retireDue_keeps State.arr (by simp) (by simp) (by simp) m s, retireDue_keeps State.sync (by simp) (by simp) (by simp) m s⟩

@[simp] theorem drawersStop_arr_sync (s : State) : (drawersStop s).arr = s.arr ∧ (drawersStop s).sync = s.sync := by
  have ha := foldl_keeps (f := fun s (c : Commit) => applyCommit { c with frame := 0 } s) State.arr (by simp)
  have hs := foldl_keeps (f := fun s (c : Commit) => applyCommit { c with frame := 0 } s) State.sync (by simp)
  simp [drawersStop, ha, hs]

/-! ### The schedule stops, the module enters BROWNOUT_SAVE, an assertion -/

@[simp] theorem stopSchedule_lasting (s : State) : Lasting s (stopSchedule s) := by
  unfold stopSchedule
  split
  · simp [Lasting]
  · simp [Lasting]

@[simp] theorem enterBrownout_lasting (before : Nat) (s : State) : Lasting s (enterBrownout before s) := by simp [Lasting, enterBrownout]

@[simp] theorem blockAction_lasting (src data before : Nat) (s : State) : Lasting s (blockAction src data before s) := by
  unfold blockAction
  split <;> simp [Lasting]

@[simp] theorem deliver_lasting (src data : Nat) (forced act : Bool) (s : State) : Lasting s (deliver src data forced act s) := by
  simp [Lasting, deliver]

@[simp] theorem assertSource_lasting (src data : Nat) (forced : Bool) (s : State) : Lasting s (assertSource src data forced s) := by
  simp [Lasting, assertSource]

theorem foldl_lasting {α : Type} {f : State → α → State} (h : ∀ s x, Lasting s (f s x)) (l : List α) (s : State) :
    Lasting s (l.foldl f s) := by
  induction l generalizing s with
  | nil => exact ⟨rfl, rfl, rfl, rfl⟩
  | cons x l ih => exact (h s x).trans (ih _)

@[simp] theorem endShadow_lasting (a : Action) (s : State) : Lasting s (endShadow a s) := by
  unfold endShadow
  split
  · refine Lasting.trans (t := { s with flt := _ }) ⟨rfl, rfl, rfl, rfl⟩ (foldl_lasting (fun s n => ?_) _ _)
    split <;> simp [Lasting]
  · simp [Lasting]

@[simp] theorem raiseWrdone_lasting (s : State) : Lasting s (raiseWrdone s) := by simp [Lasting, raiseWrdone]

/-! ### The swap -/

@[simp] theorem decideSwap_lasting (s : State) : Lasting s (decideSwap s) := by simp [Lasting, decideSwap]

@[simp] theorem passSwap_lasting (executed : Option Nat) (s : State) : Lasting s (passSwap executed s) := by simp [Lasting, passSwap]

@[simp] theorem islandSwap_lasting (s : State) : Lasting s (islandSwap s) := by simp [Lasting, islandSwap]

@[simp] theorem promote_lasting (s : State) : Lasting s (promote s) := by simp [Lasting, promote]

@[simp] theorem noMiss_lasting (s : State) : Lasting s (noMiss s) := ⟨rfl, rfl, rfl, rfl⟩

@[simp] theorem recovered_lasting (s : State) : Lasting s (recovered s) := by simp [Lasting, recovered]

@[simp] theorem takeIrefTrim_lasting (s : State) : Lasting s (takeIrefTrim s) := by
  cases h : s.arr.bankSel <;> simp [Lasting, takeIrefTrim, h]

@[simp] theorem setVled_stores (v t : Nat) (a : PixelArray) :
    (setVled v t a).bankA = a.bankA ∧ (setVled v t a).bankB = a.bankB ∧ (setVled v t a).latches = a.latches := ⟨rfl, rfl, rfl⟩

@[simp] theorem swapLight_lasting (s : State) : Lasting s (swapLight s) := by
  unfold swapLight Lasting
  extract_lets a left b c
  have hb : b.bankA = a.bankA ∧ b.bankB = a.bankB ∧ b.latches = a.latches := by unfold b; split <;> simp
  have hc : c.bankA = b.bankA ∧ c.bankB = b.bankB ∧ c.latches = b.latches := by unfold c; split <;> simp
  simp [hb, hc, a]

@[simp] theorem noteProfiles_lasting (n : Nat) (s : State) : Lasting s (noteProfiles n s) := by
  have ha := foldl_keeps (f := fun s (x : Nat × Nat) => record srcGov 0x0004 x.2 s) State.arr (by simp)
  have hs := foldl_keeps (f := fun s (x : Nat × Nat) => record srcGov 0x0004 x.2 s) State.sync (by simp)
  simp [Lasting, noteProfiles, ha, hs]

/-- A fresh swap counts itself (05 R111). -/
theorem executeSwap_executed (readback : Bool) (s : State) : (executeSwap readback s).sync.executed = incr32 s.sync.executed := by
  simp [executeSwap]

end Sys2Proof.Machine

/-! ## BANK_SEL (03 R70, 05 R111) -/

namespace Sys2Proof.Machine

/-! ### A row write (03 R70) -/

/-- The bank on show holds in `u` what it holds in `s`, and it is the same bank. -/
def ShowKept (s u : State) : Prop :=
  u.arr.bankSel = s.arr.bankSel ∧ (s.arr.bankSel = .a → u.arr.bankA = s.arr.bankA) ∧ (s.arr.bankSel = .b → u.arr.bankB = s.arr.bankB)

theorem storeRow_stored (row : Nat) (codes : List Nat) (a : PixelArray) :
    (a.bankSel = .a → (storeRow row codes a).bankA = a.bankA) ∧ (a.bankSel = .b → (storeRow row codes a).bankB = a.bankB) := by
  constructor <;> (intro h; simp [storeRow, h, Bank.other])

@[simp] theorem noteDriven_banks (t : Nat) (a : PixelArray) : (noteDriven t a).bankA = a.bankA ∧ (noteDriven t a).bankB = a.bankB := by
  unfold noteDriven
  split <;> simp

theorem takeRow_banks (p : RowPacket) (s : State) :
    (takeRow p s).arr.bankA = (storeRow p.row p.codes s.arr).bankA ∧ (takeRow p s).arr.bankB = (storeRow p.row p.codes s.arr).bankB := by
  unfold takeRow
  split <;> simp

@[simp] theorem rejectRow_lasting (row : Nat) (s : State) : Lasting s (rejectRow row s) := by simp [Lasting, rejectRow]

theorem execRowPacket_showKept (t : Nat) (p : RowPacket) (crc : Nat) (s u : State) (h : execRowPacket t p crc s = .next u) : ShowKept s u := by
  have sel : Kept s u := ((execRowPacket_kept t p crc s (.refl s)).leads (fun _ _ k h => h.trans k) (.refl s)).of_next h
  refine ⟨sel.bankSel, ?_⟩
  have stored := storeRow_stored p.row p.codes (advance t s).arr
  have hb := takeRow_banks p (advance t s)
  unfold execRowPacket at h
  dsimp only at h
  split at h
  · cases h
  · split at h
    · cases h; simp
    · split at h
      · cases h; simpa [hb] using stored
      · cases h; simp

/-! ### Commands at which no swap is executed -/

/-- BANK_SEL reads `sel`. -/
def Shows (sel : Bank) (s : State) : Prop := s.arr.bankSel = sel

theorem shows_readsKept (sel : Bank) : ReadsKept (Shows sel) := fun _ _ k h => k.bankSel.trans h

theorem exec_shows_of_mayBlow {sel : Bank} (c : Instr) (s : State) (h : Shows sel s) (hc : mayBlow c = true) : Leads (Shows sel) (exec c s) := by
  unfold mayBlow at hc
  split at hc
  · simp only [exec, execLifecycleAdvance]
    refine serveThen_leads (shows_readsKept sel) _ _ _ _ _ _ _ h (fun s hs => .checked (.ok ?_)) fun s hs => ?_
    · split
      · exact hs
      · exact (advanceTo_kept _ s).bankSel.trans hs
    · split
      · exact (zeroise_kept _).bankSel.trans ((advanceTo_kept 3 s).bankSel.trans hs)
      · exact hs
  · simp only [exec, execZeroise]
    exact serveThen_leads (shows_readsKept sel) _ _ _ _ _ _ _ h (fun s hs => .checked (.ok hs)) fun s hs => (zeroise_kept s).bankSel.trans hs
  · simp only [exec, execUpdateConfirm, serve]
    exact serveThen_leads (shows_readsKept sel) _ _ _ _ _ _ _ h
      (fun s hs => .checked (.ok ((confirmImage_kept s).bankSel.trans hs))) fun _ hs => hs
  · cases hc

theorem execGptpMessage_shows {sel : Bank} (t : Nat) (port : Port) (msg : GptpMsg) (s : State) (h : Shows sel s) :
    Leads (Shows sel) (execGptpMessage t port msg s) := by
  refine (execGptpMessage_kept t port msg s (.refl s)).imp fun u hu => ?_
  obtain k | ⟨v, k⟩ := hu
  · exact k.bankSel.trans h
  · exact k.bankSel.trans h

theorem exec_shows {sel : Bank} (c : Instr) (s : State) (h : Shows sel s) (hs : maySwap c = false) (hp : movesPower c = false) :
    Leads (Shows sel) (exec c s) := by
  cases hf : mayBlow c with
  | true => exact exec_shows_of_mayBlow c s h hf
  | false =>
  cases hg : writesTrim c with
  | true =>
    unfold writesTrim at hg
    split at hg
    · exact execGptpMessage_shows _ _ _ s h
    · cases hg
  | false => exact (exec_kept c s (.refl s) hp hs hf hg).leads (shows_readsKept sel) h

/-! ### Commands at which a swap may be executed -/

/-- From `s` to `u` at most one swap was executed, and it is counted (05 R111). -/
def SwapsOnce (s u : State) : Prop :=
  u.arr.bankSel = s.arr.bankSel ∨ (u.arr.bankSel = s.arr.bankSel.other ∧ u.sync.executed = incr32 s.sync.executed)

/-- The step keeps BANK_SEL and the count of swaps. -/
def Unswapped (s u : State) : Prop := u.arr.bankSel = s.arr.bankSel ∧ u.sync.executed = s.sync.executed

theorem Unswapped.intro {s u : State} (k : Kept s u) (l : Lasting s u) : Unswapped s u := ⟨k.bankSel, l.2.2.2⟩

theorem Unswapped.trans {s t u : State} (hst : Unswapped s t) (htu : Unswapped t u) : Unswapped s u :=
  ⟨htu.1.trans hst.1, htu.2.trans hst.2⟩

theorem Unswapped.ite {s a b : State} {c : Prop} [Decidable c] (ha : Unswapped s a) (hb : Unswapped s b) : Unswapped s (if c then a else b) := by
  split <;> assumption

theorem Unswapped.once {s u : State} (h : Unswapped s u) : SwapsOnce s u := .inl h.1

theorem SwapsOnce.after {s t u : State} (hst : Unswapped s t) (htu : SwapsOnce t u) : SwapsOnce s u := by
  simpa only [SwapsOnce, hst.1, hst.2] using htu

theorem SwapsOnce.before {s t u : State} (hst : SwapsOnce s t) (htu : Unswapped t u) : SwapsOnce s u := by
  simpa only [SwapsOnce, htu.1, htu.2] using hst

theorem executeSwap_swapsOnce (readback : Bool) (s : State) : SwapsOnce s (executeSwap readback s) :=
  .inr ⟨(executeSwap_kept readback s).bankSel, executeSwap_executed readback s⟩

theorem advance_unswapped (t : Nat) (s : State) : Unswapped s (advance t s) := .intro (advance_kept t s (.refl s)) (by simp [Lasting])

theorem decideSwap_unswapped (s : State) : Unswapped s (decideSwap s) := .intro (decideSwap_kept s (.refl s)) (decideSwap_lasting s)

theorem passSwap_unswapped (s : State) : Unswapped s (passSwap none s) := .intro (passSwap_kept none s (.refl s)) (passSwap_lasting none s)

theorem islandSwap_unswapped (s : State) : Unswapped s (islandSwap s) := .intro (islandSwap_kept s (.refl s)) (islandSwap_lasting s)

theorem promote_unswapped (s : State) : Unswapped s (promote s) := .intro (promote_kept s (.refl s)) (promote_lasting s)

theorem takeSwap_swapsOnce (readback : Bool) (s : State) : SwapsOnce s (takeSwap readback s) := by
  refine .after (decideSwap_unswapped s) ?_
  unfold takeSwap
  dsimp only
  split
  · exact executeSwap_swapsOnce _ _
  · exact (passSwap_unswapped _).once

theorem execSluiceExecute_swapsOnce (t : Nat) (readback : Bool) (s : State) : Leads (SwapsOnce s) (execSluiceExecute t readback s) := by
  have waits := (advance_unswapped t s).once
  have swaps : SwapsOnce s (islandSwap (takeSwap readback (noMiss (advance t s)))) := by
    have begun : Unswapped s (noMiss (advance t s)) := (advance_unswapped t s).trans ⟨rfl, rfl⟩
    exact .before (.after begun (takeSwap_swapsOnce _ _)) (islandSwap_unswapped _)
  unfold execSluiceExecute
  dsimp only
  refine .ite (.next waits) (.ite (.ite (.next swaps) (.next waits)) ?_)
  split
  · exact .ite (.next swaps) (.next waits)
  · exact .next waits

theorem execTimedSwap_swapsOnce (t : Nat) (readback : Bool) (s : State) : Leads (SwapsOnce s) (execTimedSwap t readback s) := by
  unfold execTimedSwap
  extract_lets s1 n s2 go first sync s3 s4 s5
  have h1 : Unswapped s s1 := advance_unswapped t s
  have h3 : Unswapped s s3 := h1.trans ((decideSwap_unswapped s1).trans ⟨rfl, rfl⟩)
  have h4 : Unswapped s s4 := .ite (h3.trans (.intro (record_kept _ _ _ s3 (.refl s3)) (by simp [Lasting]))) h3
  have h5 : SwapsOnce s s5 := by
    refine .before (.after h4 ?_) (islandSwap_unswapped _)
    split
    · exact executeSwap_swapsOnce _ _
    · exact (passSwap_unswapped _).once
  refine .ite (.next h1.once) (.next ?_)
  split
  · exact h5.before (promote_unswapped s5)
  · exact h5

theorem exec_swapsOnce (c : Instr) (s : State) (hc : maySwap c = true) : Leads (SwapsOnce s) (exec c s) := by
  unfold maySwap at hc
  split at hc
  · exact execSluiceExecute_swapsOnce _ _ s
  · exact execTimedSwap_swapsOnce _ _ s
  · cases hc

/-- Settles O6. -/
theorem onlyASluiceTogglesBankSel : Obligations.OnlyASluiceTogglesBankSel := by
  refine ⟨fun t p crc s u h => ?_, fun readback s => (executeSwap_kept readback s).bankSel, fun c s u hs hp h => ?_, fun c s u hs h => ?_⟩
  · exact execRowPacket_showKept t p crc s u h
  · exact (exec_shows c s rfl hs hp).of_next h
  · exact (exec_swapsOnce c s hs).of_next h

end Sys2Proof.Machine

/-! ## Answers (11 R266, R272, R273) -/

namespace Sys2Proof.Machine

theorem findSession_id {s : State} {id : Nat} {x : Session} (h : findSession s id = some x) : x.id = id := by
  simpa using List.find?_some h

/-- A change that keeps the numbers of the sessions is seen in the one it changes, and in no other. -/
theorem findSession_updSession (id k : Nat) (f : Session → Session) (s : State) (hid : ∀ x, (f x).id = x.id) :
    findSession (updSession id f s) k = if k = id then (findSession s k).map f else findSession s k := by
  unfold findSession updSession
  have hp : (fun x : Session => decide (x.id = k)) ∘ (fun x => if x.id = id then f x else x) = fun x => decide (x.id = k) := by
    funext x
    simp only [Function.comp, apply_ite Session.id, hid, ite_self]
  rw [List.find?_map, hp]
  cases h : s.gate.sessions.find? fun x => decide (x.id = k) with
  | none => simp
  | some x =>
    have hx : x.id = k := by simpa using List.find?_some h
    simp only [Option.map_some, hx]
    split <;> rfl

@[simp] theorem transmit_gate (ep : Endpoint) (bytes : List Byte) (s : State) : (transmit ep bytes s).2.gate = s.gate := by
  unfold transmit
  split
  · split <;> rfl
  · rfl

theorem transmit_link (ep : Endpoint) (bytes : List Byte) (s : State) (h : ep.viaCan = true) : (transmit ep bytes s).2.link = s.link := by
  unfold transmit
  rw [if_pos h]
  split <;> rfl

theorem transmit_can (ep : Endpoint) (bytes : List Byte) (s : State) (h : ep.viaCan = false) : (transmit ep bytes s).2.can = s.can := by
  simp [transmit, h]

/-- A transport changes nothing but itself. -/
theorem transmit_state (ep : Endpoint) (bytes : List Byte) (s : State) :
    (transmit ep bytes s).2 = { s with link := (transmit ep bytes s).2.link, can := (transmit ep bytes s).2.can } := by
  unfold transmit
  split
  · split <;> rfl
  · rfl

/-- A reply changes nothing but the gate and the transport it leaves on. -/
theorem pushReply_state (bytes : List Byte) (r : Reply) (s : State) :
    pushReply bytes r s =
      { s with gate := (pushReply bytes r s).gate, link := (pushReply bytes r s).link, can := (pushReply bytes r s).can } := by
  unfold pushReply
  dsimp only
  rw [transmit_state]

/-- A reply is handed over with the way it left by, and nothing else of the gate changes. -/
theorem pushReply_gate (bytes : List Byte) (r : Reply) (s : State) :
    (pushReply bytes r s).gate = { s.gate with outbox := { r with path := (transmit r.ep (bytes ++ r.tag) s).1 } :: s.gate.outbox } := by
  simp [pushReply]

theorem pushReply_outbox (bytes : List Byte) (r : Reply) (s : State) :
    ∃ path, (pushReply bytes r s).gate.outbox = { r with path := path } :: s.gate.outbox := ⟨_, by rw [pushReply_gate]⟩

@[simp] theorem findSession_pushReply (bytes : List Byte) (r : Reply) (s : State) (id : Nat) :
    findSession (pushReply bytes r s) id = findSession s id := by
  simp [findSession, pushReply_gate]

@[simp] theorem findSession_noteServed (m : Msg) (status : Nat) (key : Option (List Byte)) (old s : State) (id : Nat) :
    findSession (noteServed m status key old s) id = findSession s id := rfl

/-- A session whose FRESHNESS lasts goes on. -/
theorem freshEnd_lasts {id : Nat} {x : Session} {s : State} (h : findSession s id = some x) (hx : x.freshOut < 0xFFFFFFFF) :
    freshEnd false id s = s := by
  have : x.freshOut ≠ 0xFFFFFFFF := by omega
  simp [freshEnd, h, this]

/-- No reply goes out for OK with NO_REPLY (11 R266). -/
theorem answered_silent {m : Msg} {x : Session} {s : State} (detail : Nat) (data : List Byte) (hs : findSession s m.session = some x)
    (hm : m.freshness ≠ 0xFFFFFFFF) (hx : x.freshOut < 0xFFFFFFFF) (hq : msgNoReply m = true) :
    answered m 0 detail data s = noteServed m 0 (some x.kMh) s s := by
  have hr : replyTo m 0 detail data s = s := by simp [replyTo, eOk, hq]
  rw [answered, hr, decide_eq_false hm, hs, Option.map_some, freshEnd_lasts (by rwa [findSession_noteServed]) hx]

/-- The reply takes the session's next FRESHNESS, and the session goes on (11 R273). -/
theorem answered_replied {m : Msg} {status : Nat} {x : Session} {s : State} (detail : Nat) (data : List Byte)
    (hs : findSession s m.session = some x) (h0 : m.session ≠ 0) (hm : m.freshness ≠ 0xFFFFFFFF) (hx : x.freshOut < 0xFFFFFFFE)
    (hq : status ≠ 0 ∨ msgNoReply m = false) :
    answered m status detail data s = noteServed m status (some x.kMh) s (replyTagged m status detail data s) := by
  have hr : replyTo m status detail data s = replyTagged m status detail data s := by
    obtain hq | hq := hq <;> simp [replyTo, eOk, hq, h0]
  have hf : findSession (replyTagged m status detail data s) m.session = some { x with freshOut := x.freshOut + 1 } := by
    simp [replyTagged, hs, findSession_updSession]
  rw [answered, hr, decide_eq_false hm, hs, Option.map_some,
    freshEnd_lasts (by rwa [findSession_noteServed]) (by dsimp only; omega)]

theorem u16_length (n : Nat) : (u16 n).length = 2 := rfl

/-- The tagged reply to a message, and the change of its session's counter (11 R266, R272, R273). -/
theorem replyTagged_eq {m : Msg} (status detail : Nat) (data : List Byte) {x : Session} {s : State} (hs : findSession s m.session = some x) :
    ∃ bytes r, replyTagged m status detail data s = pushReply bytes r (updSession m.session (fun y => { y with freshOut := x.freshOut + 1 }) s)
      ∧ r.ep = m.ep ∧ r.status = status ∧ r.detail = detail ∧ r.data = data ∧ r.session = m.session ∧ r.sequence = m.sequence
      ∧ r.context = m.context ∧ r.opcode = replyOpcode m.opcode ∧ r.freshness = x.freshOut + 1 ∧ r.flags = m.flags % 4
      ∧ r.tag = tagOf x.kMh (headerBytes 1 r.flags r.opcode r.session r.sequence r.freshness (4 + data.length) 0 r.context
          ++ u16 status ++ u16 detail ++ data) := by
  refine ⟨_, _, by rw [replyTagged, hs], rfl, rfl, rfl, rfl, rfl, rfl, rfl, rfl, rfl, rfl, ?_⟩
  simp only [List.append_assoc, List.length_append, u16_length, ← Nat.add_assoc]

/-- Settles O10. -/
theorem answerIsOneReply : Obligations.AnswerIsOneReply := by
  intro m status detail data s x hs h0 hm hx u
  by_cases hq : status = 0 ∧ msgNoReply m = true
  · obtain ⟨rfl, hq⟩ := hq
    have hu : u = noteServed m 0 (some x.kMh) s s := answered_silent detail data hs hm (by omega) hq
    refine ⟨by rw [hu]; rfl, fun _ _ => by rw [hu]; exact ⟨rfl, rfl, rfl⟩, fun h => ?_⟩
    simp [hq] at h
  · have hq : status ≠ 0 ∨ msgNoReply m = false := by
      by_cases h : status = 0
      · exact .inr (by simpa [h] using hq)
      · exact .inl h
    obtain ⟨bytes, r, heq, hep, hreply⟩ := replyTagged_eq status detail data hs
    have hu : u = noteServed m status (some x.kMh) s (pushReply bytes r _) := heq ▸ answered_replied detail data hs h0 hm hx hq
    obtain ⟨path, hout⟩ := pushReply_outbox bytes r (updSession m.session (fun y => { y with freshOut := x.freshOut + 1 }) s)
    rw [hu]
    refine ⟨?_, fun h1 h2 => absurd hq (by simp [h1, h2]), fun _ => ⟨fun hc => ?_, fun hc => ?_, ⟨{ r with path := path }, ?_, hreply⟩, ?_, fun id hid => ?_⟩⟩
    · unfold noteServed
      dsimp only
      rw [pushReply_state]
      rfl
    · exact transmit_link _ _ _ (hep ▸ hc)
    · exact transmit_can _ _ _ (hep ▸ hc)
    · exact hout
    · simp [findSession_updSession, hs]
    · simp [findSession_updSession, hid]

end Sys2Proof.Machine

/-! ## The system group (12 Tables 12.3, 12.14) -/

namespace Sys2Proof.Machine

theorem exec_ping_admitted {t : Nat} {m : Msg} {s : State} (h : admitted t rowPing unitFree m s = true) :
    exec (.ping t m) s = .next (done m 0 0 (pingData (taken t m s)) (taken t m s)) := by
  change execPing t m s = _
  simp only [execPing, serve_admitted h]

theorem exec_caps_admitted {t : Nat} {m : Msg} {s : State} (h : admitted t rowCaps unitFree m s = true) :
    exec (.caps t m) s = .next (done m 0 0 (capsData (taken t m s)) (taken t m s)) := by
  change execCaps t m s = _
  simp only [execCaps, serve_admitted h]

theorem exec_readWord_admitted {t : Nat} {m : Msg} {s : State} (h : admitted t rowReadWord unitFree m s = true)
    (hpass : firstFail (wordChecks (wordId m) (wordArg m) (taken t m s)) = none) :
    exec (.readWord t m) s = .next (done m 0 0 (wordData (wordId m) (wordArg m) (taken t m s)) (taken t m s)) := by
  change execReadWord t m s = _
  simp only [execReadWord, serve_admitted h, checked, hpass]

/-- Settles O11. -/
theorem systemReads : Obligations.SystemReads := by
  refine ⟨fun t m s h => ?_, fun t m s h => ?_, fun t m s h => ?_⟩
  · exact exec_ping_admitted h
  · rw [exec_caps_admitted h]
    rfl
  · intro a hpass
    exact ⟨exec_readWord_admitted h hpass, fun hid => by rw [hid]; rfl, fun hid => by rw [hid]; rfl⟩

end Sys2Proof.Machine

/-! ## Configuration writes (12 Tables 12.3, 12.8, 12.10, 12.14) -/

namespace Sys2Proof.Machine

section
variable {t : Nat} {r : Row} {ab : State → Bool} {m : Msg} {cs : State → List Check} {d : State → List Byte} {f : State → State} {s : State}

/-- A message row that only checks and then works: the work, when every check passes. -/
theorem serve_pass (h : admitted t r ab m s = true) (hpass : firstFail (cs (taken t m s)) = none) :
    serve t r ab m (fun s => checked (cs s) (.ok (d s) (f s))) s = .next (done m 0 0 (d (taken t m s)) (f (taken t m s))) := by
  rw [serve_admitted h]
  simp only [checked, hpass]

/-- A message row that only checks and then works: the first check that fails answers the message, and nothing else happens. -/
theorem serve_fail {st dt : Nat} (h : admitted t r ab m s = true) (hfail : firstFail (cs (taken t m s)) = some (st, dt)) :
    serve t r ab m (fun s => checked (cs s) (.ok (d s) (f s))) s = .next (done m st dt [] (taken t m s)) := by
  rw [serve_admitted h]
  simp only [checked, hfail]

end

/-! ### When no check fails -/

theorem firstFail_eq_none_iff {cs : List Check} : firstFail cs = none ↔ ∀ c ∈ cs, c = none := by
  induction cs with
  | nil => simp
  | cons c cs ih => cases c <;> simp [firstFail, ih]

theorem inRange_eq_none_iff {ok : Bool} {off : Nat} : inRange ok off = none ↔ ok = true := by simp [inRange]

theorem require_eq_none_iff {ok : Bool} {st : Nat} : require ok st = none ↔ ok = true := by simp [require]

theorem between_eq_false {v lo hi : Nat} (h : v < lo ∨ hi < v) : between v lo hi = false := by
  rw [Bool.eq_false_iff, ne_eq, between_iff]
  omega

/-! ### What the checks of the configuration pages pass -/

theorem linkConfigChecks_pass {p : List Byte} (old : LinkConfig) (ha : le p 0 1 ≤ 3) (hb : le p 1 1 ≤ 3) (hrole : le p 2 1 ≤ 3) (hmode : le p 3 1 ≤ 1)
    (hip : le p 3 1 = 1 ∨ (1 ≤ ipAt p 4 / 16777216 ∧ ipAt p 4 / 16777216 ≤ 223)) (hbase : ipAt p 8 % 2 ^ (32 - le p 12 1) = 0)
    (hlo : 8 ≤ le p 12 1) (hhi : le p 12 1 ≤ (if le p 3 1 = 1 then 22 else 30)) (hpcp : le p 13 1 ≤ 7) (hvlan : le p 14 2 ≤ 4094)
    (hmon : 1 ≤ ipAt p 16 / 16777216 ∧ ipAt p 16 / 16777216 ≤ 223) (hport : 1024 ≤ le p 20 2)
    (hcast : ipAt p 24 = 0 ∨ (224 ≤ ipAt p 24 / 16777216 ∧ ipAt p 24 / 16777216 ≤ 239)) (hres : le p 28 4 = 0) :
    firstFail (linkConfigChecks (linkConfigOf p old) (le p 28 4)) = none := by
  simp only [linkConfigChecks, linkConfigOf, firstFail_eq_none_iff, List.forall_mem_cons, inRange_eq_none_iff, isUnicast, prefixOk,
    Bool.or_eq_true, decide_eq_true_eq, between_iff, Bool.not_eq_true']
  exact ⟨decide_eq_true ha, decide_eq_true hb, decide_eq_true hrole, decide_eq_true hmode, hip.imp_left decide_eq_true, .inr (decide_eq_true hbase),
    ⟨hlo, hhi⟩, decide_eq_true hpcp, decide_eq_true hvlan, hmon, decide_eq_true hport, hcast.imp_left decide_eq_true, hres, by simp⟩

theorem canConfigChecks_pass {p : List Byte} (hnom : le p 0 1 ≤ 1) (hdata : le p 1 1 ≤ 2) (hbase : le p 2 2 ≤ 0x7FE) (heven : le p 2 2 % 2 = 0)
    (hmode : le p 4 1 ≤ 1) (hres : le p 5 1 = 0) (hindex : le p 6 2 ≤ 1023) : firstFail (canConfigChecks (canConfigOf p) (le p 5 1)) = none := by
  simp only [canConfigChecks, canConfigOf, firstFail_inRange, firstFail_nil, hnom, hdata, hbase, heven, hmode, hres, hindex, decide_true,
    Bool.and_self, if_true]

/-- Settles O12. -/
theorem configurationWrites : Obligations.ConfigurationWrites := by
  refine ⟨fun t m s => ⟨?_, ?_, ?_, ?_, ?_, ?_, ?_, ?_⟩, fun t m s => ⟨?_, ?_, ?_, ?_, ?_, ?_, ?_, ?_⟩⟩
  · intro h ha hb hrole hmode hip hbase hlo hhi hpcp hvlan hmon hport hcast hres
    change execLinkConfigWrite t m s = _
    exact serve_pass h (linkConfigChecks_pass _ ha hb hrole hmode hip hbase hlo hhi hpcp hvlan hmon hport hcast hres)
  · intro h hnom hdata hbase heven hmode hres hindex
    change execCanConfigWrite t m s = _
    exact serve_pass h (canConfigChecks_pass hnom hdata hbase heven hmode hres hindex)
  · intro h hidle hidle' hburst hburst' hres
    change execMailboxConfigWrite t m s = _
    exact serve_pass h (by simp [between_iff, *])
  · intro h hlo hhi
    change execHostTimeoutWrite t m s = _
    exact serve_pass h (by simp [between_iff, *])
  · intro h h1 h2 h3 h4 h5 h6 h7 h8
    change execGovBudgetWrite t m s = _
    exact serve_pass h (by simp [between_iff, *])
  · intro h hv
    change execHostScaleWrite t m s = _
    exact serve_pass h (by simp [*])
  · intro h hdem h1 h2 h3 h4 h5 h6 h7 h8 h9
    change execSdimConfigWrite t m s = _
    exact serve_pass h (by simp only [firstFail_require, firstFail_inRange, firstFail_nil, between_iff, sdimConfigOf, decide_true, Bool.not_false, and_self, if_true, *])
  · intro h hrun
    change execTimingAnchor t m s = _
    exact serve_pass h (by simp only [firstFail_require, firstFail_nil, hrun, Bool.not_false, if_true])
  · intro h hv
    change execHostScaleWrite t m s = _
    exact serve_fail h (by simp [*])
  · intro h hv
    change execHostTimeoutWrite t m s = _
    exact serve_fail h (by simp [between_eq_false hv])
  · intro h h1 h2 h3
    change execGovBudgetWrite t m s = _
    exact serve_fail h (by simp [between_iff, h1, h2, between_eq_false h3])
  · intro h hv
    change execMailboxConfigWrite t m s = _
    exact serve_fail h (by simp [between_eq_false hv])
  · intro h hdem
    change execSdimConfigWrite t m s = _
    exact serve_fail h (by simp only [firstFail_require, hdem, Bool.not_true, Bool.false_eq_true, if_false])
  · intro h hrun
    change execTimingAnchor t m s = _
    exact serve_fail h (by simp only [firstFail_require, hrun, Bool.not_true, Bool.false_eq_true, if_false])
  · intro h hrun
    change execSyncConfigWrite t m s = _
    exact serve_fail h (by simp only [firstFail_require, hrun, Bool.not_true, Bool.false_eq_true, if_false])
  · intro h hrun
    change execCompConfigWrite t m s = _
    exact serve_fail h (by simp only [firstFail_require, hrun, Bool.not_true, Bool.false_eq_true, if_false])

end Sys2Proof.Machine

/-! ## Bits of a 64-bit set, and what the end of a level source leaves as it is (15 R350) -/

namespace Sys2Proof.Machine

theorem one_shiftLeft_getLsbD (n k : Nat) : ((1 : BitVec 64) <<< n).getLsbD k = (decide (k < 64) && decide (k = n)) := by
  change ((1#64) <<< n).getLsbD k = _
  rw [BitVec.getLsbD_shiftLeft, BitVec.getLsbD_one]
  by_cases hk : k < 64 <;> by_cases hn : k = n <;> simp [hk, hn]
  omega

theorem hasBit_withBit (b : BitVec 64) (n k : Nat) : hasBit (withBit b n) k = (hasBit b k || (decide (k < 64) && decide (k = n))) := by
  rw [hasBit, withBit, BitVec.getLsbD_or, one_shiftLeft_getLsbD, hasBit]

theorem hasBit_withoutBit (b : BitVec 64) (n k : Nat) : hasBit (withoutBit b n) k = (hasBit b k && !decide (k = n)) := by
  rw [hasBit, withoutBit, BitVec.getLsbD_and, BitVec.getLsbD_not, one_shiftLeft_getLsbD, hasBit]
  by_cases hk : k < 64
  · simp [hk]
  · simp [hk, BitVec.getLsbD_of_ge b k (by omega)]

@[simp] theorem hasBit_withoutBit_same (b : BitVec 64) (n : Nat) : hasBit (withoutBit b n) n = false := by simp [hasBit_withoutBit]

theorem hasBit_withBit_same (b : BitVec 64) {n : Nat} (h : n < 64) : hasBit (withBit b n) n = true := by simp [hasBit_withBit, h]

/-- Only the mode, the log, the array, the collector and Safe-Dim differ. -/
abbrev LightOnly (s u : State) : Prop :=
  u.time = s.time ∧ u.cfg = s.cfg ∧ u.sched = s.sched ∧ u.comp = s.comp ∧ u.mon = s.mon ∧ u.gov = s.gov ∧ u.drw = s.drw ∧ u.sync = s.sync
    ∧ u.rake = s.rake ∧ u.conv = s.conv ∧ u.link = s.link ∧ u.can = s.can ∧ u.gate = s.gate ∧ u.mp = s.mp ∧ u.dram = s.dram ∧ u.pwr = s.pwr
    ∧ u.upd = s.upd ∧ u.flash = s.flash ∧ u.fuse = s.fuse ∧ u.cvus = s.cvus

@[simp] theorem restoreBeam_lightOnly (s : State) : LightOnly s (restoreBeam s) := by simp [LightOnly, restoreBeam]

@[simp] theorem releaseHold_lightOnly (s : State) : LightOnly s (releaseHold s) := by
  cases h : s.mode.op <;> simp [LightOnly, releaseHold, h]

@[simp] theorem levelEnded_lightOnly (src : Nat) (forced : Bool) (s : State) : LightOnly s (levelEnded src forced s) := by
  simp [LightOnly, levelEnded]

@[simp] theorem endSource_lightOnly (src : Nat) (s : State) : LightOnly s (endSource src s) := by simp [LightOnly, endSource]

@[simp] theorem restoreBeam_flt (s : State) : (restoreBeam s).flt = s.flt := by
  unfold restoreBeam
  extract_lets target s1 s2
  have h1 : s1.flt = s.flt := by unfold s1; split <;> simp
  have h2 : s2.flt = s.flt := by simpa [s2] using h1
  split <;> exact h2

/-- What a reaction held ends: nothing else of the collector changes (R359). -/
theorem releaseHold_flt (s : State) :
    (releaseHold s).flt = { s.flt with heldByReaction := (releaseHold s).flt.heldByReaction, reaction := (releaseHold s).flt.reaction } := by
  unfold releaseHold
  split
  · rfl
  · split
    · split
      · rfl
      · dsimp only; split <;> simp
    · split
      · rfl
      · dsimp only; split <;> simp
    · split
      · rfl
      · simp
    · rfl

@[simp] theorem levelEnded_cond (src : Nat) (forced : Bool) (s : State) : (levelEnded src forced s).flt.cond = s.flt.cond := by
  unfold levelEnded
  extract_lets masked data mode flt s1 s2
  have h2 : s2.flt.cond = s.flt.cond := by unfold s2; split <;> simp [s1, flt]
  rw [releaseHold_flt]
  exact h2

/-- The condition of a level source ends with it. -/
theorem endSource_cond {src : Nat} (hlevel : isLevel src = true) (s : State) :
    (endSource src s).flt.cond = if hasBit s.flt.cond src then withoutBit s.flt.cond src else s.flt.cond := by
  unfold endSource
  rw [hlevel, Bool.true_and]
  split
  · dsimp only
    split <;> simp
  · rfl

theorem hasBit_endSource_cond {src : Nat} (hlevel : isLevel src = true) (s : State) : hasBit (endSource src s).flt.cond src = false := by
  rw [endSource_cond hlevel]
  split
  · simp
  · exact eq_false_of_ne_true ‹_›

end Sys2Proof.Machine

/-! ## The three stores to flash (12 R291, 14 R343) -/

namespace Sys2Proof.Machine

/-! ### The message -/

/-- What a message that starts a store answers: E_BUSY while one runs, E_TEMP while flash work is forbidden, else OK. -/
theorem storeChecks_eq (opcode : Nat) (s : State) :
    firstFail [busyLong s opcode, tempCheck s] =
      if isRunning s opcode then some (eBusy, 0) else if s.pwr.flashAllowed then none else some (eTemp, 0) := by
  simp only [busyLong, tempCheck, firstFail_require, firstFail_nil]
  cases isRunning s opcode <;> rfl

/-- A row that starts a store, by the two checks. -/
theorem store_answers {t opcode : Nat} {r : Row} {ab : State → Bool} {m : Msg} {f : State → State} {s : State} {o : Out}
    (h : admitted t r ab m s = true) (ho : o = serve t r ab m (fun s => checked [busyLong s opcode, tempCheck s] (.ok [] (f s))) s) :
    (isRunning (taken t m s) opcode = true → o = .next (done m eBusy 0 [] (taken t m s)))
      ∧ (isRunning (taken t m s) opcode = false → (taken t m s).pwr.flashAllowed = false → o = .next (done m eTemp 0 [] (taken t m s)))
      ∧ (isRunning (taken t m s) opcode = false → (taken t m s).pwr.flashAllowed = true → o = .next (done m 0 0 [] (f (taken t m s)))) := by
  subst ho
  refine ⟨fun hrun => serve_fail h ?_, fun hrun hfl => serve_fail h ?_, fun hrun hfl => serve_pass h ?_⟩
  · rw [storeChecks_eq, if_pos hrun]
  · rw [storeChecks_eq, hrun, hfl]; rfl
  · rw [storeChecks_eq, hrun, hfl]; rfl

/-! ### The outcome -/

theorem storeOutcome_allowed {opcode : Nat} {s : State} (erased : Bool) (work : State → State) (hrun : isRunning s opcode = true)
    (hfl : s.pwr.flashAllowed = true) : storeOutcome opcode erased work s = endLong opcode eOk (work s) := by
  simp [storeOutcome, hrun, hfl]

theorem storeOutcome_forbidden {opcode : Nat} {s : State} (work : State → State) (hrun : isRunning s opcode = true)
    (hfl : s.pwr.flashAllowed = false) :
    storeOutcome opcode false work s = endLong opcode eTemp s ∧ storeOutcome opcode true work s = s := by
  simp [storeOutcome, hrun, hfl]

@[simp] theorem isRunning_endLong (opcode status : Nat) (s : State) : isRunning (endLong opcode status s) opcode = false := by
  simp [isRunning, endLong, record, recordAt]

@[simp] theorem isRunning_advance (t opcode : Nat) (s : State) : isRunning (advance t s) opcode = isRunning s opcode := by
  simp only [isRunning, advance_mp]

@[simp] theorem writeSettings_state (format : Nat) (c : Settings) (s : State) :
    (writeSettings format c s).flash = { s.flash with settings := some (format, c) } ∧ (writeSettings format c s).cfg = s.cfg := ⟨rfl, rfl⟩

/-- The clock alone moves. -/
theorem advance_eq (t : Nat) (s : State) : advance t s = { s with time := (advance t s).time } := by
  unfold advance
  split <;> rfl

theorem storeTarget_advance (t : Nat) (s : State) : storeTarget (advance t s) = storeTarget s := by rw [advance_eq]; rfl

theorem nextCalSequence_advance (t : Nat) (s : State) : nextCalSequence (advance t s) = nextCalSequence s := by rw [advance_eq]; rfl

theorem imgSettingsFormat_advance (t : Nat) (s : State) : imgSettingsFormat (advance t s) = imgSettingsFormat s := by rw [advance_eq]; rfl

theorem writeSlot_flash (s : State) :
    (writeSlot s).flash = setSlot (storeTarget s) (some { sequence := nextCalSequence s, format := 1, content := setCal 3 [0] s.mp.storeCal }) s.flash := by
  simp [writeSlot]
  rfl

theorem writeSlot_cond (s : State) : hasBit (writeSlot s).flt.cond 39 = false := hasBit_endSource_cond (by decide) _

theorem setSlot_of_target (b : Bool) (x : Option CalSlot) (f : Flash) :
    (b = true → setSlot b x f = { f with calB := x }) ∧ (b = false → setSlot b x f = { f with calA := x }) := by
  constructor <;> (rintro rfl; rfl)

/-- Settles O13. -/
theorem storesToFlash : Obligations.StoresToFlash := by
  refine ⟨fun t m s => ⟨fun h => ?_, fun h => ?_, fun h => ?_⟩, fun t erased s => ⟨fun hrun hfl => ?_, fun hrun hfl => ?_, fun hrun hfl => ?_, fun hfl => ?_⟩⟩
  · exact store_answers (f := fun s => startLong m { s with mp := { s.mp with storeSettings := s.cfg } }) h (by simp only [exec, execSettingsStore])
  · exact store_answers (f := fun s => startLong m { s with mp := { s.mp with storeChest := s.comp.chestAccepted, storeSettle := s.comp.settleAccepted } }) h (by simp only [exec, execSafetyStore])
  · exact store_answers (f := fun s => startLong m { s with mp := { s.mp with storeCal := s.conv.cal } }) h (by simp only [exec, execCalStore])
  · refine ⟨_, rfl, ?_⟩
    rw [storeOutcome_allowed _ _ (by simpa using hrun) (by simpa using hfl)]
    simp [imgSettingsFormat_advance]
  · refine ⟨_, rfl, ?_⟩
    rw [storeOutcome_allowed _ _ (by simpa using hrun) (by simpa using hfl)]
    simp
  · refine ⟨_, rfl, ?_⟩
    rw [storeOutcome_allowed _ _ (by simpa using hrun) (by simpa using hfl)]
    have hf := writeSlot_flash (advance t s)
    simp only [storeTarget_advance, nextCalSequence_advance, advance_flash, advance_mp] at hf
    have ⟨hb, ha⟩ := setSlot_of_target (storeTarget s) (some { sequence := nextCalSequence s, format := 1, content := setCal 3 [0] s.mp.storeCal }) s.flash
    simp only [endLong_flash, endLong_flt, hf, isRunning_endLong, writeSlot_cond, and_true]
    exact ⟨hb, ha⟩
  · have forbidden : ∀ opcode work, isRunning s opcode = true →
        storeOutcome opcode false work (advance t s) = endLong opcode eTemp (advance t s)
          ∧ storeOutcome opcode true work (advance t s) = advance t s :=
      fun opcode work hrun => storeOutcome_forbidden work (by simpa using hrun) (by simpa using hfl)
    refine ⟨fun hrun => ?_, fun hrun => ?_, fun hrun => ?_⟩
    · exact (forbidden _ _ hrun).imp (congrArg _) (congrArg _)
    · exact (forbidden _ _ hrun).imp (congrArg _) (congrArg _)
    · exact (forbidden _ _ hrun).imp (congrArg _) (congrArg _)

end Sys2Proof.Machine

/-! ## Entries to BOOT (01 R34, 15 R358, R359) -/

namespace Sys2Proof.Machine

/-- The module is in BOOT, without a session and without a frame schedule. -/
structure InBoot (s : State) : Prop where
  op : s.mode.op = .boot
  sessions : s.gate.sessions = []
  idle : s.sched.running = false

/-- What InBoot reads is as it was. -/
theorem InBoot.of_eq {s u : State} (h : InBoot s) (hm : u.mode.op = s.mode.op) (hg : u.gate = s.gate) (hs : u.sched.running = s.sched.running) :
    InBoot u := ⟨hm.trans h.op, hg ▸ h.sessions, hs.trans h.idle⟩

theorem InBoot.ite {c : Prop} [Decidable c] {a b : State} (ha : InBoot a) (hb : InBoot b) : InBoot (if c then a else b) := by
  split <;> assumption

@[simp] theorem restoreBeam_mode (s : State) : (restoreBeam s).mode = s.mode := by simp [restoreBeam]

@[simp] theorem releaseHold_mode (s : State) : (releaseHold s).mode = s.mode := by
  cases h : s.mode.op <;> simp [releaseHold, h]

@[simp] theorem levelEnded_op (src : Nat) (forced : Bool) (s : State) : (levelEnded src forced s).mode.op = s.mode.op := by
  simp [levelEnded]

@[simp] theorem endSource_op (src : Nat) (s : State) : (endSource src s).mode.op = s.mode.op := by
  simp [endSource, apply_ite Mode.op]

/-- In BOOT a reaction reaches the hardware alone (R33, R359). -/
theorem react_inBoot (src data r : Nat) {s : State} (h : InBoot s) : InBoot (react src data r s) := by
  simp only [react, h.op]
  split
  · exact h.of_eq (by simp) (by simp) (by simp)
  · exact h

theorem interruptRun_inBoot {s : State} (h : InBoot s) : InBoot (interruptRun s) := by
  unfold interruptRun rejectRun
  split
  · exact h.of_eq (by simp) (by simp) (by simp)
  · exact h

theorem settleFails_boot {s : State} (h : s.mode.op = .boot) : settleFails s = s := by simp [settleFails, h]

@[simp] theorem withholdCurrent_running (s : State) : (withholdCurrent s).sched.running = s.sched.running := by
  unfold withholdCurrent
  split
  · split <;> rfl
  · rfl

/-- The block actions of a source but those of FS01 and FS36 leave a module in BOOT there (Table 15.6). -/
theorem blockAction_inBoot {src : Nat} (data before : Nat) {s : State} (h1 : src ≠ 1) (h36 : src ≠ 36) (h : InBoot s) :
    InBoot (blockAction src data before s) := by
  unfold blockAction
  split
  · simpa only [beginModuleReset, h.op] using h
  · simpa only [beginModuleReset, h.op] using h
  · contradiction
  · exact h.of_eq (by simp [reinitialise]) (by simp [reinitialise]) (by simp [reinitialise])
  · exact h.of_eq (by simp [reinitialise]) (by simp [reinitialise]) (by simp [reinitialise])
  · contradiction
  · exact h

theorem deliver_inBoot {src : Nat} (data : Nat) (forced act : Bool) {s : State} (h1 : src ≠ 1) (h36 : src ≠ 36) (h : InBoot s) :
    InBoot (deliver src data forced act s) := by
  unfold deliver
  refine .ite (h.of_eq (by simp) (by simp) (by simp)) ?_
  extract_lets before f s1 r s2 s3 s4
  have hb1 : InBoot s1 := h.of_eq rfl rfl rfl
  have hb2 : InBoot s2 := .ite hb1 (hb1.of_eq (by simp) (by simp) (by simp))
  have hb3 : InBoot s3 := react_inBoot _ _ _ hb2
  have hb4 : InBoot s4 := .ite (by rwa [settleFails_boot hb3.op]) (.ite (interruptRun_inBoot hb3) hb3)
  exact .ite (blockAction_inBoot _ _ h1 h36 hb4) hb4

theorem assertSource_inBoot {src : Nat} (data : Nat) (forced : Bool) {s : State} (h1 : src ≠ 1) (h36 : src ≠ 36) (h : InBoot s) :
    InBoot (assertSource src data forced s) := by
  unfold assertSource
  extract_lets high f f' s1
  have hb : InBoot s1 := h.of_eq rfl rfl rfl
  exact .ite hb (deliver_inBoot _ _ _ h1 h36 hb)

theorem levelSource_inBoot {src : Nat} (data : Nat) (on : Bool) {s : State} (h1 : src ≠ 1) (h36 : src ≠ 36) (h : InBoot s) :
    InBoot (levelSource src data on s) :=
  .ite (assertSource_inBoot _ _ h1 h36 h) (h.of_eq (by simp) (by simp) (by simp))

theorem foldl_inBoot {α : Type} {f : State → α → State} (hf : ∀ s x, InBoot s → InBoot (f s x)) (l : List α) {s : State} (h : InBoot s) :
    InBoot (l.foldl f s) := by
  induction l generalizing s with
  | nil => exact h
  | cons x l ih => exact ih (hf s x h)

/-- Only level sources are asserted when the collector starts. -/
theorem startCollector_inBoot {s : State} (h : InBoot s) : InBoot (startCollector s) := by
  refine foldl_inBoot (fun u n hu => ?_) _ (h.of_eq rfl rfl rfl)
  split
  case isTrue hn =>
    have hlevel : isLevel n = true := (Bool.and_eq_true_iff.mp hn).1
    refine deliver_inBoot _ _ _ ?_ ?_ hu <;> (rintro rfl; simp [isLevel] at hlevel)
  case isFalse => exact hu

theorem trainDram_inBoot (ws : List (List LaneSweep)) {s : State} (h : InBoot s) : InBoot (trainDram ws s) :=
  levelSource_inBoot _ _ (by decide) (by decide) (h.of_eq rfl rfl rfl)

theorem loadSafety_inBoot {s : State} (h : InBoot s) : InBoot (loadSafety s).1 := by
  unfold loadSafety
  split <;> exact h.of_eq rfl rfl rfl

theorem loadSettle_inBoot (boot : BootInputs) {s : State} (h : InBoot s) : InBoot (loadSettle boot s).1 := by
  have hs := loadSafety_inBoot h
  unfold loadSettle
  split
  case h_1 heq =>
    rw [heq] at hs
    split <;> exact hs.of_eq rfl rfl rfl
  case h_2 heq =>
    rw [heq] at hs
    exact hs.of_eq rfl rfl rfl

theorem bootSync_inBoot {s : State} (h : InBoot s) : InBoot (bootSync s) := by
  unfold bootSync
  dsimp only
  exact .ite (h.of_eq rfl rfl rfl) (h.of_eq rfl rfl rfl)

theorem checkLoader_inBoot (ok : Bool) {s : State} (h : InBoot s) : InBoot (checkLoader ok s) := by
  unfold checkLoader
  exact .ite (h.of_eq rfl rfl rfl) (h.of_eq (by simp) (by simp) (by simp))

theorem forbidFlash_inBoot {s : State} (h : InBoot s) : InBoot (forbidFlash s) := .ite (h.of_eq (by simp) (by simp) (by simp)) h

theorem showBeam_inBoot {s : State} (h : InBoot s) : InBoot (readdress (rakeUpdate (restoreBeam s))) :=
  h.of_eq (by simp) (by simp) (by simp)

/-- Every entry to BOOT leaves the module there, without a session and without a frame schedule. -/
theorem bootSteps_inBoot (train : Bool) (lost : Nat) (boot : BootInputs) {s : State} (h : s.gate.sessions = []) :
    InBoot (bootSteps train lost boot s) := by
  unfold bootSteps
  extract_lets time dim link can s1 s2
  have h1 : InBoot s1 := ⟨rfl, h, rfl⟩
  have h2 : InBoot s2 := .ite (bootSync_inBoot h1) h1
  have h3 : InBoot (if train then loadSettle boot s2 else (s2, true)).1 := by
    split
    · exact loadSettle_inBoot boot h2
    · exact h2
  generalize (if train then loadSettle boot s2 else (s2, true)) = x at h3 ⊢
  obtain ⟨s3, ok⟩ := x
  have lostBanks : ∀ {u}, InBoot u → InBoot (if lost = 0 then u else assertSource 42 lost false u) :=
    fun hu => .ite hu (assertSource_inBoot _ _ (by decide) (by decide) hu)
  have trained : ∀ {u}, InBoot u → InBoot (if train then trainDram boot.training u else u) := fun hu => .ite (trainDram_inBoot _ hu) hu
  have latched : ∀ {u} data, InBoot u → InBoot (if ok then u else assertSource 9 data false u) :=
    fun _ hu => .ite hu (assertSource_inBoot _ _ (by decide) (by decide) hu)
  exact showBeam_inBoot (latched _ (trained (lostBanks (startCollector_inBoot (forbidFlash_inBoot (checkLoader_inBoot _ h3))))))

@[simp] theorem loseAllSessions_sessions (s : State) : (loseAllSessions s).gate.sessions = [] := rfl

theorem warmStart_inBoot (boot : BootInputs) (s : State) : InBoot (warmStart boot s) := by
  unfold warmStart
  exact bootSteps_inBoot _ _ _ rfl

theorem coldStart_inBoot (cond : BitVec 64) (vin : Nat) (boot : BootInputs) (s : State) : InBoot (coldStart cond vin boot s) := by
  unfold coldStart
  exact bootSteps_inBoot _ _ _ rfl

theorem resetStart_inBoot (boot : BootInputs) (s : State) : InBoot (resetStart boot s) :=
  .ite (coldStart_inBoot _ _ _ _) (warmStart_inBoot _ _)

end Sys2Proof.Machine

/-! ## RESET and the module reset (12 R292, 15 R357, R358) -/

namespace Sys2Proof.Machine

/-! ### A module reset -/

@[simp] theorem startCollector_lasting (s : State) : Lasting s (startCollector s) := by
  refine Lasting.trans (t := { s with flt := { s.flt with running := true } }) ⟨rfl, rfl, rfl, rfl⟩ (foldl_lasting (fun u n => ?_) _ _)
  split <;> simp [Lasting]

@[simp] theorem checkLoader_lasting (ok : Bool) (s : State) : Lasting s (checkLoader ok s) := by simp [Lasting, checkLoader]

@[simp] theorem forbidFlash_lasting (s : State) : Lasting s (forbidFlash s) := by simp [Lasting, forbidFlash]

theorem bootSteps_lasting (lost : Nat) (boot : BootInputs) (s : State) : Lasting s (bootSteps false lost boot s) := by
  simp [Lasting, bootSteps]

/-- A module reset clears no pixel bank. -/
theorem warmStart_banks (boot : BootInputs) (s : State) :
    (warmStart boot s).arr.bankA = s.arr.bankA ∧ (warmStart boot s).arr.bankB = s.arr.bankB := by
  unfold warmStart
  obtain ⟨ha, hb, -, -⟩ := bootSteps_lasting 0 boot _
  rw [ha, hb]
  simp [bootDrawers]

/-- A module reset leads to BOOT, without sessions or a schedule, and keeps the fuses, BANK_SEL and the pixel banks. -/
structure ResetTo (s u : State) : Prop where
  boot : InBoot u
  fuse : u.fuse = s.fuse
  bankSel : u.arr.bankSel = s.arr.bankSel
  bankA : u.arr.bankA = s.arr.bankA
  bankB : u.arr.bankB = s.arr.bankB

theorem warmStart_resetTo (boot : BootInputs) (s : State) : ResetTo s (warmStart boot s) :=
  have k := warmStart_kept boot s (.refl s)
  ⟨warmStart_inBoot boot s, k.fuse, k.bankSel, (warmStart_banks boot s).1, (warmStart_banks boot s).2⟩

/-- The MP does not run in BOOT. -/
theorem InBoot.mpStopped {s : State} (h : InBoot s) : mpRuns s = false := by simp [mpRuns, h.op, isFw]

theorem InBoot.serveUnknown {s : State} (h : InBoot s) : serveUnknown s = s := serveUnknown_stopped h.mpStopped

theorem exec_resetModule_resetTo {t : Nat} {m : Msg} (boot : BootInputs) {s : State} (h : admitted t rowResetModule unitFree m s = true)
    (hkind : le m.payload 0 1 = 0) (hzero : le m.payload 1 3 = 0) : NextIs (exec (.resetModule t m boot) s) (ResetTo s) := by
  have hpass : firstFail (resetChecks m (taken t m s)) = none := by simp [resetChecks, resetKind, hkind, hzero]
  have hreset := warmStart_resetTo boot (answered m 0 0 [] (taken t m s))
  refine ⟨warmStart boot (answered m 0 0 [] (taken t m s)), ?_, ?_⟩
  · change execResetModule t m boot s = _
    simp only [execResetModule, serveThen_admitted h, checked, hpass, hreset.boot.serveUnknown]
  · obtain ⟨hboot, hfuse, hsel, ha, hb⟩ := hreset
    exact ⟨hboot, by simpa using hfuse, by simpa using hsel, by simpa using ha, by simpa using hb⟩

/-! ### A restart of the MP alone -/

/-- No message waits for the MP. -/
def NoneWaits (g : Gate) : Prop := g.openings = [] ∧ ∀ x ∈ g.sessions, x.high = [] ∧ x.norm = [] ∧ x.bulk = []

theorem updSession_noneWaits {id : Nat} {f : Session → Session} {s : State} (hf : ∀ x, (f x).high = x.high ∧ (f x).norm = x.norm ∧ (f x).bulk = x.bulk)
    (h : NoneWaits s.gate) : NoneWaits (updSession id f s).gate := by
  refine ⟨h.1, fun y hy => ?_⟩
  obtain ⟨x, hx, rfl⟩ := List.mem_map.mp hy
  split
  · rw [(hf x).1, (hf x).2.1, (hf x).2.2]; exact h.2 x hx
  · exact h.2 x hx

theorem pushReply_noneWaits {bytes : List Byte} {r : Reply} {s : State} (h : NoneWaits s.gate) : NoneWaits (pushReply bytes r s).gate := by
  rw [pushReply_gate]; exact h

theorem replyTagged_noneWaits {m : Msg} {status detail : Nat} {data : List Byte} {s : State} (h : NoneWaits s.gate) :
    NoneWaits (replyTagged m status detail data s).gate := by
  unfold replyTagged
  split
  · exact h
  · exact pushReply_noneWaits (updSession_noneWaits (fun _ => ⟨rfl, rfl, rfl⟩) h)

theorem freshEnd_noneWaits {last : Bool} {id : Nat} {s : State} (h : NoneWaits s.gate) : NoneWaits (freshEnd last id s).gate := by
  unfold freshEnd
  split
  · split
    · refine ⟨?_, fun x hx => ?_⟩
      · simpa [countLost, loseSession] using h.1
      · simp only [countLost, loseSession, dropPending_gate, record_gate, List.mem_filter] at hx
        exact h.2 x hx.1
    · exact h
  · exact h

theorem replyTo_noneWaits {m : Msg} {status detail : Nat} {data : List Byte} {s : State} (h : NoneWaits s.gate) :
    NoneWaits (replyTo m status detail data s).gate := by
  unfold replyTo
  split
  · exact h
  · split
    · exact pushReply_noneWaits h
    · exact replyTagged_noneWaits h

theorem busyReply_noneWaits {m : Msg} {s : State} (h : NoneWaits s.gate) : NoneWaits (busyReply m s).gate := by
  unfold busyReply
  split
  · exact h
  · exact freshEnd_noneWaits (replyTo_noneWaits h)

theorem busyAll_noneWaits (s : State) : NoneWaits (busyAll s).gate := by
  refine ⟨rfl, fun y hy => ?_⟩
  obtain ⟨x, -, rfl⟩ := List.mem_map.mp hy
  exact ⟨rfl, rfl, rfl⟩

theorem dropActivation_noneWaits {s : State} (h : NoneWaits s.gate) : NoneWaits (dropActivation s).gate := by
  unfold dropActivation
  split
  · exact busyReply_noneWaits (by simpa using h)
  · exact h

theorem beginMpRestart_noneWaits (second : Bool) (s : State) : NoneWaits (beginMpRestart second false s).gate := by
  have h := dropActivation_noneWaits (busyAll_noneWaits (dropLong s))
  simpa [beginMpRestart] using h

/-- Only the gate, the transport, the log and the drawers' pending changes differ: the replies E_BUSY of a restart (11 R278). -/
abbrev RepliesOnly (s u : State) : Prop :=
  u.mode = s.mode ∧ u.time = s.time ∧ u.cfg = s.cfg ∧ u.arr = s.arr ∧ u.sched = s.sched ∧ u.comp = s.comp ∧ u.mon = s.mon ∧ u.gov = s.gov
    ∧ u.sync = s.sync ∧ u.flt = s.flt ∧ u.dim = s.dim ∧ u.rake = s.rake ∧ u.conv = s.conv ∧ u.mp = s.mp ∧ u.dram = s.dram ∧ u.pwr = s.pwr
    ∧ u.upd = s.upd ∧ u.flash = s.flash ∧ u.fuse = s.fuse ∧ u.cvus = s.cvus

@[simp] theorem busyAll_repliesOnly (s : State) : RepliesOnly s (busyAll s) := by
  have h : ∀ (l : List Msg) (s : State), RepliesOnly s (l.foldl (fun s m => busyReply m s) s) := by
    intro l
    induction l with
    | nil => simp [RepliesOnly]
    | cons m l ih => intro s; simpa [RepliesOnly] using ih (busyReply m s)
  exact h _ s

theorem dropActivation_light (s : State) : (dropActivation s).mode = s.mode ∧ (dropActivation s).time = s.time ∧ (dropActivation s).arr = s.arr
    ∧ (dropActivation s).sched = s.sched ∧ (dropActivation s).mp = s.mp ∧ (dropActivation s).flt = s.flt := by
  cases h : s.comp.activation <;> simp [dropActivation, h]

@[simp] theorem addShadow_mpRestarts (a : Action) (s : State) : (addShadow a s).flt.mpRestarts = s.flt.mpRestarts := by
  unfold addShadow
  split <;> rfl

/-- Without a message in hand the restart of the MP leaves the state, the light and the schedule as they are (11 R278, 15 R357). -/
theorem beginMpRestart_alone (second : Bool) (s : State) :
    let u := beginMpRestart second false s
    u.mode = s.mode ∧ u.arr = s.arr ∧ u.sched = s.sched ∧ u.mp.restarting = some (tsc s) ∧ u.mp.long = []
      ∧ u.flt.mpRestarts = (s.flt.mpRestarts + 1) % 65536 := by
  simp [beginMpRestart, dropActivation_light, tsc, dropLong]

/-- The row of a message that is served claims it. -/
theorem admitted_mine {t : Nat} {r : Row} {ab : State → Bool} {m : Msg} {s : State} (h : admitted t r ab m s = true) : r.mine m = true := by
  simp only [admitted, isServed, Bool.and_eq_true] at h
  exact h.1.2

theorem exec_resetMpOnly_admitted {t : Nat} {m : Msg} {s : State} (h : admitted t rowResetMp unitFree m s = true) (hzero : le m.payload 1 3 = 0)
    (hop : s.mode.op ≠ .loader) : exec (.resetMpOnly t m) s = .next (beginMpRestart false false (answered m 0 0 [] (taken t m s))) := by
  have hkind : resetKind m = 1 := of_decide_eq_true (admitted_mine h)
  have hpass : firstFail (resetChecks m (taken t m s)) = none := by simp [resetChecks, hkind, hzero, hop]
  have hstop : mpRuns (beginMpRestart false false (answered m 0 0 [] (taken t m s))) = false := by
    simp [mpRuns, (beginMpRestart_alone false (answered m 0 0 [] (taken t m s))).2.2.2.1]
  change execResetMpOnly t m s = _
  simp only [execResetMpOnly, serveThen_admitted h, checked, hpass, serveUnknown_stopped hstop]

/-- Settles O14. -/
theorem resets : Obligations.Resets := by
  refine ⟨fun t m s h hzero hop => ?_, fun t m boot s h hkind hzero => ?_, fun t boot s hpend => ⟨fun hop => ?_, fun hop htrain => ?_⟩⟩
  · refine ⟨_, exec_resetMpOnly_admitted h hzero hop, ?_⟩
    obtain ⟨hmode, harr, hsched, hrest, hlong, hcount⟩ := beginMpRestart_alone false (answered m 0 0 [] (taken t m s))
    obtain ⟨hopen, hqueues⟩ := beginMpRestart_noneWaits false (answered m 0 0 [] (taken t m s))
    have htsc : tsc (answered m 0 0 [] (taken t m s)) = tsc (advance t s) := by simp [tsc, taken, ready]
    exact ⟨by simpa using hmode, by simpa using harr, by simpa using hsched, htsc ▸ hrest, hlong, by simpa using hcount, hopen, hqueues⟩
  · obtain ⟨u, hu, ⟨hop, hsess, hidle⟩, hfuse, hsel, ha, hb⟩ := exec_resetModule_resetTo boot h hkind hzero
    exact ⟨u, hu, hop, hfuse, hsel, ha, hb, hsess, hidle⟩
  · obtain ⟨⟨hop', hsess, hidle⟩, hfuse, hsel, ha, hb⟩ := warmStart_resetTo boot (advance t s)
    refine ⟨warmStart boot (advance t s), ?_, hop', by simpa using hfuse, by simpa using hsel, by simpa using ha, by simpa using hb, hsess, hidle⟩
    change execModuleReset t boot s = _
    simp [execModuleReset, resetStart, hpend, hop]
  · refine ⟨resetStart boot (advance t s), ?_, (resetStart_inBoot _ _).op, ?_, (resetStart_inBoot _ _).sessions, (resetStart_inBoot _ _).idle⟩
    · change execModuleReset t boot s = _
      simp [execModuleReset, hpend, htrain]
    · simpa using (resetStart_unblown boot (advance t s)).fuse

end Sys2Proof.Machine

/-! ## CONFIGURE, PLACE, RELEASE and DESTROY (06 R145 to R148, 12 R295) -/

namespace Sys2Proof.Machine

/-- The checks of the drawer that a message names; `fixed` is the status for a fixed drawer. -/
def accessChecks (fixed : Nat) (s : State) (m : Msg) : List Check :=
  [handleCheck s m, require (!isFixed m) fixed, retiringCheck s m, pendCheck s m]

theorem drawerChecks_eq (s : State) (m : Msg) : drawerChecks s m = accessChecks eDomain s m := rfl

theorem takeOutChecks_eq (s : State) (m : Msg) : takeOutChecks s m = accessChecks eState s m := rfl

/-- The drawer that a message names is not RETIRING and carries no pending change of another session. -/
def SlotFree (s : State) (m : Msg) : Prop :=
  (slotAt s (msgSlot m)).st ≠ .retiring ∧ ∀ p, (slotAt s (msgSlot m)).pend = some p → p.session = m.session

theorem isFixed_eq_false {m : Msg} : isFixed m = false ↔ msgHandle m ≠ 0x0100 ∧ msgHandle m ≠ 0x0101 := by simp [isFixed]

theorem isFixed_eq_true {m : Msg} : isFixed m = true ↔ ¬ (msgHandle m ≠ 0x0100 ∧ msgHandle m ≠ 0x0101) := by
  rw [← isFixed_eq_false, Bool.not_eq_false]

theorem pendCheck_eq_none {s : State} {m : Msg} :
    pendCheck s m = none ↔ ∀ p, (slotAt s (msgSlot m)).pend = some p → p.session = m.session := by
  rw [pendCheck, require_eq_none_iff]
  cases (slotAt s (msgSlot m)).pend <;> simp

theorem retiringCheck_eq_none {s : State} {m : Msg} : retiringCheck s m = none ↔ (slotAt s (msgSlot m)).st ≠ .retiring := by
  simp [retiringCheck, require_eq_none_iff]

section
variable {fixed : Nat} {s : State} {m : Msg} (cs : List Check)

theorem accessChecks_invalid (h : handleValid s (msgHandle m) = false) : firstFail (accessChecks fixed s m ++ cs) = some (eHandle, 0) := by
  simp [accessChecks, handleCheck, h]

theorem accessChecks_fixed (h : handleValid s (msgHandle m) = true) (hf : isFixed m = true) :
    firstFail (accessChecks fixed s m ++ cs) = some (fixed, 0) := by
  simp [accessChecks, handleCheck, h, hf]

theorem accessChecks_busy (h : handleValid s (msgHandle m) = true) (hf : isFixed m = false) (hb : ¬ SlotFree s m) :
    firstFail (accessChecks fixed s m ++ cs) = some (eBusy, 0) := by
  simp only [accessChecks, handleCheck, h, hf, List.cons_append, firstFail_require, Bool.not_false, if_true]
  by_cases hr : (slotAt s (msgSlot m)).st = .retiring
  · simp [retiringCheck, hr]
  · have hp : pendCheck s m = some (eBusy, 0) := by
      have := mt pendCheck_eq_none.mp fun hp => hb ⟨hr, hp⟩
      unfold pendCheck require at this ⊢
      split at this
      · exact absurd rfl this
      · rw [if_neg ‹_›]
    rw [retiringCheck_eq_none.mpr hr, hp]
    rfl

theorem accessChecks_free (h : handleValid s (msgHandle m) = true) (hf : isFixed m = false) (hfree : SlotFree s m) :
    firstFail (accessChecks fixed s m ++ cs) = firstFail cs := by
  simp [accessChecks, handleCheck, h, hf, retiringCheck_eq_none.mpr hfree.1, pendCheck_eq_none.mpr hfree.2, firstFail]

end

/-! ### LENGTH of CONFIGURE -/

theorem configureLength_eq (ty : Nat) : configureLength ty = if ty = 4 then 84 else if ty = 2 then 40 else 36 := by
  unfold configureLength
  split
  · rfl
  · rfl
  · rw [if_neg ‹_›, if_neg ‹_›]

theorem configureFits_of_unnamed {s : State} {m : Msg} (h : handleValid s (msgHandle m) = false ∨ isFixed m = true) : configureFits s m = none := by
  unfold configureFits
  rw [if_neg]
  rintro hv
  obtain h | h := h <;> simp_all [msgHandle]

theorem configureFits_of_length {s : State} {m : Msg} (h : m.length = configureLength (slotAt s (msgSlot m)).desc.type) :
    configureFits s m = none := by
  unfold configureFits
  split
  · exact inRange_eq_none_iff.mpr (decide_eq_true h)
  · rfl

theorem configureFits_refuses {s : State} {m : Msg} (hv : handleValid s (msgHandle m) = true) (hf : isFixed m = false)
    (h : m.length ≠ configureLength (slotAt s (msgSlot m)).desc.type) : configureFits s m = some (eRange, 0xFFFF) := by
  unfold configureFits
  rw [if_pos (by simpa [msgHandle, hf] using hv), inRange, if_neg (by simpa using h)]

/-! ### The four rows, by what their checks decide -/

section
variable {t : Nat} {m : Msg} {s : State}

/-- The checks of CONFIGURE after that of LENGTH and those of the drawer. -/
def configureFieldChecks (s : State) (m : Msg) : List Check :=
  descriptorChecks (slotAt s (msgSlot m)).desc.type m.payload ++ paramsChecks (slotAt s (msgSlot m)).desc.type m.payload

theorem configureChecks_eq {a : State} (h : configureFits a m = none) :
    firstFail (configureFits a m :: drawerChecks a m ++ descriptorChecks (slotAt a (msgSlot m)).desc.type m.payload
      ++ paramsChecks (slotAt a (msgSlot m)).desc.type m.payload) = firstFail (accessChecks eDomain a m ++ configureFieldChecks a m) := by
  rw [h, drawerChecks_eq, List.append_assoc, List.cons_append]
  rfl

theorem exec_configure_fail {st dt : Nat} (h : admitted t rowConfigure (configureAbsent m) m s = true)
    (hfits : configureFits (taken t m s) m = none)
    (hfail : firstFail (accessChecks eDomain (taken t m s) m ++ configureFieldChecks (taken t m s) m) = some (st, dt)) :
    exec (.configure t m) s = .next (done m st dt [] (taken t m s)) := by
  change execConfigure t m s = _
  exact serve_fail h ((configureChecks_eq hfits).trans hfail)

theorem exec_configure_pass (h : admitted t rowConfigure (configureAbsent m) m s = true) (hfits : configureFits (taken t m s) m = none)
    (hpass : firstFail (accessChecks eDomain (taken t m s) m ++ configureFieldChecks (taken t m s) m) = none) :
    let ty := (slotAt (taken t m s) (msgSlot m)).desc.type
    exec (.configure t m) s = .next (done m 0 0 [] (addPending m
      (fun p => { p with configure := some (descriptorOf m.payload, paramsOf ty m.payload) }) (taken t m s))) := by
  change execConfigure t m s = _
  exact serve_pass h ((configureChecks_eq hfits).trans hpass)

theorem exec_place_fail {st dt : Nat} (h : admitted t rowPlace unitFree m s = true)
    (hfail : firstFail (accessChecks eDomain (taken t m s) m ++ [stateCheck (taken t m s) m .opened]) = some (st, dt)) :
    exec (.place t m) s = .next (done m st dt [] (taken t m s)) := by
  change execPlace t m s = _
  exact serve_fail h hfail

theorem exec_release_fail {st dt : Nat} (h : admitted t rowRelease unitFree m s = true)
    (hfail : firstFail (accessChecks eState (taken t m s) m ++ [stateCheck (taken t m s) m .placed]) = some (st, dt)) :
    exec (.release t m) s = .next (done m st dt [] (taken t m s)) := by
  change execRelease t m s = _
  exact serve_fail h hfail

theorem exec_destroy_fail {st dt : Nat} (h : admitted t rowDestroy unitFree m s = true)
    (hfail : firstFail (accessChecks eState (taken t m s) m ++ []) = some (st, dt)) :
    exec (.destroy t m) s = .next (done m st dt [] (taken t m s)) := by
  change execDestroy t m s = _
  exact serve_fail h hfail

end

theorem stateCheck_eq_none {s : State} {m : Msg} {st : SlotState} (h : (slotAt s (msgSlot m)).st = st) : firstFail [stateCheck s m st] = none := by
  simp [stateCheck, h]

theorem stateCheck_refuses {s : State} {m : Msg} {st : SlotState} (h : (slotAt s (msgSlot m)).st ≠ st) :
    firstFail [stateCheck s m st] = some (eState, 0) := by
  simp [stateCheck, h]

/-- What a row of the drawer group that needs a general, free drawer answers where it has none: the row's fault for a fixed drawer, and the
check it makes of the drawer's state. -/
theorem changes_refused (t : Nat) (m : Msg) (s : State) (i : Instr) (r : Row) (ab : State → Bool)
    (hi : (i = .configure t m ∧ r = rowConfigure ∧ ab = configureAbsent m) ∨ (i = .place t m ∧ r = rowPlace ∧ ab = unitFree)
      ∨ (i = .release t m ∧ r = rowRelease ∧ ab = unitFree) ∨ (i = .destroy t m ∧ r = rowDestroy ∧ ab = unitFree))
    (hadm : admitted t r ab m s = true) :
    let a := taken t m s
    (handleValid a (msgHandle m) = false → exec i s = .next (done m eHandle 0 [] a))
    ∧ (handleValid a (msgHandle m) = true → isFixed m = true → exec i s = .next (done m (if r.opcode ≤ 0x0203 then eDomain else eState) 0 [] a))
    ∧ (handleValid a (msgHandle m) = true → isFixed m = false → ¬ SlotFree a m →
        (r.opcode = 0x0202 → m.length = configureLength (slotAt a (msgSlot m)).desc.type) → exec i s = .next (done m eBusy 0 [] a))
    ∧ (handleValid a (msgHandle m) = true → isFixed m = false → SlotFree a m → r.opcode = 0x0203 → (slotAt a (msgSlot m)).st ≠ .opened →
        exec i s = .next (done m eState 0 [] a))
    ∧ (handleValid a (msgHandle m) = true → isFixed m = false → SlotFree a m → r.opcode = 0x0204 → (slotAt a (msgSlot m)).st ≠ .placed →
        exec i s = .next (done m eState 0 [] a)) := by
  obtain ⟨rfl, rfl, rfl⟩ | ⟨rfl, rfl, rfl⟩ | ⟨rfl, rfl, rfl⟩ | ⟨rfl, rfl, rfl⟩ := hi
  · refine ⟨fun hv => ?_, fun hv hf => ?_, fun hv hf hb hfit => ?_, fun _ _ _ hop => ?_, fun _ _ _ hop => ?_⟩
    · exact exec_configure_fail hadm (configureFits_of_unnamed (.inl hv)) (accessChecks_invalid _ hv)
    · exact exec_configure_fail hadm (configureFits_of_unnamed (.inr hf)) (accessChecks_fixed _ hv hf)
    · exact exec_configure_fail hadm (configureFits_of_length (hfit rfl)) (accessChecks_busy _ hv hf hb)
    · simp [rowConfigure] at hop
    · simp [rowConfigure] at hop
  · refine ⟨fun hv => ?_, fun hv hf => ?_, fun hv hf hb _ => ?_, fun hv hf hfree _ hst => ?_, fun _ _ _ hop => ?_⟩
    · exact exec_place_fail hadm (accessChecks_invalid _ hv)
    · exact exec_place_fail hadm (accessChecks_fixed _ hv hf)
    · exact exec_place_fail hadm (accessChecks_busy _ hv hf hb)
    · exact exec_place_fail hadm ((accessChecks_free _ hv hf hfree).trans (stateCheck_refuses hst))
    · simp [rowPlace] at hop
  · refine ⟨fun hv => ?_, fun hv hf => ?_, fun hv hf hb _ => ?_, fun _ _ _ hop => ?_, fun hv hf hfree _ hst => ?_⟩
    · exact exec_release_fail hadm (accessChecks_invalid _ hv)
    · exact exec_release_fail hadm (accessChecks_fixed _ hv hf)
    · exact exec_release_fail hadm (accessChecks_busy _ hv hf hb)
    · simp [rowRelease] at hop
    · exact exec_release_fail hadm ((accessChecks_free _ hv hf hfree).trans (stateCheck_refuses hst))
  · refine ⟨fun hv => ?_, fun hv hf => ?_, fun hv hf hb _ => ?_, fun _ _ _ hop => ?_, fun _ _ _ hop => ?_⟩
    · exact exec_destroy_fail hadm (accessChecks_invalid _ hv)
    · exact exec_destroy_fail hadm (accessChecks_fixed _ hv hf)
    · exact exec_destroy_fail hadm (accessChecks_busy _ hv hf hb)
    · simp [rowDestroy] at hop
    · simp [rowDestroy] at hop

/-- Settles O16. -/
theorem changesStayPending : Obligations.ChangesStayPending := by
  refine ⟨fun t m s => ⟨?_, ?_, ?_, ?_, ?_, ?_⟩, fun t m s => ?_⟩
  · rintro hadm ⟨hv, h0, h1, hfree⟩ hlen hpass
    rw [← configureLength_eq] at hlen
    have hf : isFixed m = false := isFixed_eq_false.mpr ⟨h0, h1⟩
    exact exec_configure_pass hadm (configureFits_of_length hlen) ((accessChecks_free _ hv hf hfree).trans hpass)
  · rintro hadm ⟨hv, h0, h1, hfree⟩ hst
    have hf : isFixed m = false := isFixed_eq_false.mpr ⟨h0, h1⟩
    change execPlace t m s = _
    exact serve_pass hadm ((accessChecks_free _ hv hf hfree).trans (stateCheck_eq_none hst))
  · rintro hadm ⟨hv, h0, h1, hfree⟩ hst
    have hf : isFixed m = false := isFixed_eq_false.mpr ⟨h0, h1⟩
    change execRelease t m s = _
    exact serve_pass hadm ((accessChecks_free _ hv hf hfree).trans (stateCheck_eq_none hst))
  · rintro hadm ⟨hv, h0, h1, hfree⟩
    have hf : isFixed m = false := isFixed_eq_false.mpr ⟨h0, h1⟩
    change execDestroy t m s = _
    exact serve_pass hadm (accessChecks_free [] hv hf hfree)
  · intro hadm hv h0 h1 hlen
    rw [← configureLength_eq] at hlen
    have hfits := configureFits_refuses hv (isFixed_eq_false.mpr ⟨h0, h1⟩) hlen
    change execConfigure t m s = _
    exact serve_fail hadm (by rw [hfits]; rfl)
  · intro hserved hdom hvar hlen
    have absent : configureAbsent m (taken t m s) = true := by
      simp only [configureAbsent, hasShade, hlen, hvar]; rfl
    exact (commonChecksInOrder (.configure t m) t m rowConfigure (configureAbsent m) s rfl hserved).2.1 (.inr hdom.symm) absent
  · intro a h sl general free fits i r ab hi hadm
    obtain ⟨invalid, fixed, busy, opened, placed⟩ := changes_refused t m s i r ab hi hadm
    refine ⟨invalid, fun hv hg => fixed hv (isFixed_eq_true.mpr hg), fun hv hg hb hfit => ?_, fun hv hg hfree => ?_, fun hv hg hfree => ?_⟩
    · exact busy hv (isFixed_eq_false.mpr hg) hb fun hop => (hfit hop).trans (configureLength_eq _).symm
    · exact opened hv (isFixed_eq_false.mpr hg) hfree
    · exact placed hv (isFixed_eq_false.mpr hg) hfree

end Sys2Proof.Machine

/-! ## FLIP and ABORT (06 R148, R154, 08 R209) -/

namespace Sys2Proof.Machine

/-! ### FLIP -/

theorem flippable_iff {sl : Slot} : flippable sl = true ↔ sl.st = .placed ∧ (sl.desc.type = 1 ∨ (sl.desc.type = 3 ∧ sl.sealed = true)) := by
  simp [flippable]

theorem flipChecks_pass {m : Msg} {s : State} (hv : handleValid s (msgHandle m) = true) (hf : isFixed m = false)
    (hpend : ∀ p, (slotAt s (msgSlot m)).pend = some p → p.session = m.session) (hfree : (slotAt s (msgSlot m)).flipUntil = none)
    (hflip : flippable (slotAt s (msgSlot m)) = true) (hflags : le m.payload 0 1 ≤ 1) (hzero : le m.payload 1 3 = 0)
    (hcrc : le m.payload 0 1 = 1 ∨ le m.payload 4 4 = 0) : firstFail (flipChecks m s) = none := by
  have hst : SlotFree s m := ⟨by rw [(flippable_iff.mp hflip).1]; decide, hpend⟩
  simp only [flipChecks, drawerChecks_eq, List.cons_append, List.nil_append, firstFail_inRange, hflags, hzero, decide_true, if_true,
    accessChecks_free _ hv hf hst, firstFail_require, hfree, hflip, Option.isNone_none, firstFail_nil]
  simpa using Decidable.or_iff_not_imp_left.mp hcrc

/-- FLIP of a drawer that passes its checks: the work, or with CHECK set the comparison first. -/
theorem exec_flip_pass {t : Nat} {m : Msg} {s : State} (h : admitted t rowFlip unitFree m s = true)
    (hpass : firstFail (flipChecks m (taken t m s)) = none) :
    let a := taken t m s
    let crc := crc32 (backBytes (slotAt a (msgSlot m)))
    let noted := addPending m fun p => { p with flip := true }
    (le m.payload 0 1 = 0 → exec (.flip t m) s = .next (done m 0 0 [] (noted a)))
    ∧ (le m.payload 0 1 = 1 → le m.payload 4 4 = crc →
        exec (.flip t m) s = .next (done m 0 0 [] (noted (cvuJob 3 crc (some (le m.payload 4 4)) a))))
    ∧ (le m.payload 0 1 = 1 → le m.payload 4 4 ≠ crc → exec (.flip t m) s = .next (done m eCrc 0 [] (cvuJob 3 crc (some (le m.payload 4 4)) a))) := by
  refine ⟨fun hc => ?_, fun hc he => ?_, fun hc he => ?_⟩
  all_goals
    change execFlip t m s = _
    simp only [execFlip, serve_admitted h, checked, hpass, hc, crcGuard, flipWork]
  · rfl
  · simp [he]
  · simp [Ne.symm he]

/-! ### ABORT -/

/-- A slot without the pending change of a session. -/
def withoutPend (session : Nat) (sl : Slot) : Slot :=
  match sl.pend with
  | some p => if p.session = session then { sl with pend := none } else sl
  | none => sl

theorem withoutPend_pend {session : Nat} {sl : Slot} {p : Pending} (h : (withoutPend session sl).pend = some p) : p.session ≠ session := by
  unfold withoutPend at h
  split at h
  · split at h
    · cases h
    · simp_all
  · simp_all

theorem withoutPend_other {session : Nat} {sl : Slot} {p : Pending} (h : sl.pend = some p) (hp : p.session ≠ session) :
    withoutPend session sl = sl := by
  simp [withoutPend, h, hp]

theorem slotAt_mapSlots {f : Slot → Slot} (hf : f {} = {}) (s : State) (n : Nat) : slotAt (mapSlots f s) n = f (slotAt s n) := by
  simp only [slotAt, mapSlots, List.getD_eq_getElem?_getD, List.getElem?_map]
  cases s.drw.slots[n]? <;> simp [hf]

theorem slotAt_dropPending (session : Nat) (s : State) (n : Nat) : slotAt (dropPending session s) n = withoutPend session (slotAt s n) :=
  slotAt_mapSlots (f := withoutPend session) rfl s n

/-- After ABORT the session has no pending change. -/
theorem pendingCount_dropPending (session : Nat) (s : State) : pendingCount (dropPending session s) session = 0 := by
  have hslots : ∀ sl ∈ (dropPending session s).drw.slots, sl.pend.elim false (fun p => decide (p.session = session)) = false := by
    intro sl hsl
    obtain ⟨x, -, rfl⟩ := List.mem_map.mp hsl
    change (withoutPend session x).pend.elim _ _ = _
    cases h : (withoutPend session x).pend with
    | none => rfl
    | some p => simpa using withoutPend_pend h
  have hcurves : ∀ c ∈ (dropPending session s).drw.pendCurves, decide (c.1 = session) = false := by
    intro c hc
    simpa [dropPending] using (List.mem_filter.mp hc).2
  have hblend : (dropPending session s).drw.pendBlend.elim false (fun b => decide (b.1 = session)) = false := by
    change (s.drw.pendBlend.filter fun b => decide (b.1 ≠ session)).elim false (fun b => decide (b.1 = session)) = false
    cases s.drw.pendBlend with
    | none => rfl
    | some b => by_cases hb : b.1 = session <;> simp [Option.filter, hb]
  rw [pendingCount, hblend, List.filter_eq_nil_iff.mpr fun sl h => by simp [hslots sl h], List.filter_eq_nil_iff.mpr fun c h => by simp [hcurves c h]]
  rfl

theorem exec_abort_admitted {t : Nat} {m : Msg} {s : State} (h : admitted t rowAbort unitFree m s = true) :
    exec (.abort t m) s = .next (done m 0 0 (u16 (pendingCount (taken t m s) m.session) ++ [0, 0]) (dropPending m.session (taken t m s))) := by
  change execAbort t m s = _
  simp only [execAbort, serve_admitted h]
  rfl

/-- Settles O17. -/
theorem flipAndAbort : Obligations.FlipAndAbort := by
  intro t m s a h sl flipOk crc noted
  refine ⟨fun hadm hok hzero => ?_, fun hadm => ⟨exec_abort_admitted hadm, fun n p hp => ?_, fun n p hp hs => ?_, fun c hc => ?_, ?_⟩⟩
  · obtain ⟨hv, h0, h1, hpend, hfree, hst, htype⟩ := hok
    have pass : le m.payload 0 1 ≤ 1 → (le m.payload 0 1 = 1 ∨ le m.payload 4 4 = 0) → firstFail (flipChecks m a) = none :=
      fun hflags hcrc => flipChecks_pass hv (isFixed_eq_false.mpr ⟨h0, h1⟩) hpend hfree (flippable_iff.mpr ⟨hst, htype⟩) hflags hzero hcrc
    refine ⟨fun hc hcrc => ?_, fun hc => ?_, fun hc => ?_⟩
    · exact (exec_flip_pass hadm (pass (by omega) (.inr hcrc))).1 hc
    · exact (exec_flip_pass hadm (pass (by omega) (.inl hc))).2.1 hc
    · exact (exec_flip_pass hadm (pass (by omega) (.inl hc))).2.2 hc
  · rw [slotAt_dropPending] at hp
    exact withoutPend_pend hp
  · rw [slotAt_dropPending, withoutPend_other hp hs]
  · simpa [dropPending] using (List.mem_filter.mp hc).2
  · exact pendingCount_dropPending m.session a

end Sys2Proof.Machine

/-! ## The effective frame (06 R149) and COMMIT -/

namespace Sys2Proof.Machine

/-! ### Instants of a grid of one period -/

/-- `stepsTo` is the least number of steps that reaches `x`. -/
theorem stepsTo_le_iff {base x : Int} {p k : Nat} (hp : 0 < p) : stepsTo base x p ≤ k ↔ x ≤ base + (k : Int) * p := by
  have h : stepsTo base x p ≤ k ↔ (x - base).toNat ≤ k * p := by
    unfold stepsTo ceilDiv
    rw [Nat.div_le_iff_le_mul_add_pred hp]
    rw [Nat.mul_comm]
    omega
  rw [h]
  have : ((k * p : Nat) : Int) = (k : Int) * p := by push_cast; rfl
  omega

/-- From frame `lo` on the instants of `f` lie one period apart. -/
def StepsBy (p lo : Nat) (f : Nat → Int) : Prop := ∀ k, lo ≤ k → f k = f lo + ((k - lo : Nat) : Int) * p

/-- Where no change of timing waits, `firstFrame` is the first frame from `lo` whose instant is at or after `x`. -/
theorem firstFrame_le_iff {g : Sched} {f : Nat → Int} {x : Int} {lo k : Nat} (hch : g.change = none) (hp : 0 < g.period)
    (hf : StepsBy g.period lo f) (hk : lo ≤ k) : firstFrame g f x lo ≤ k ↔ x ≤ f k := by
  have hper : periodAt g lo = g.period := by simp [periodAt, changeFor, hch]
  have hfirst : firstFrame g f x lo = lo + stepsTo (f lo) x g.period := by simp [firstFrame, hch, hper]
  rw [hfirst, hf k hk, ← stepsTo_le_iff hp]
  omega

theorem le_firstFrame {g : Sched} {f : Nat → Int} {x : Int} {lo : Nat} (hch : g.change = none) : lo ≤ firstFrame g f x lo := by
  simp [firstFrame, hch]

theorem swapAt_stepsBy {g : Sched} (hch : g.change = none) (lo : Nat) : StepsBy g.period lo (swapAt g) := by
  intro k hk
  simp only [swapAt, changeFor, hch, gridSwap]
  have : ((k - lo : Nat) : Int) = k - lo := by omega
  rw [this, Int.add_assoc, ← Int.add_mul]
  congr 2
  omega

theorem cutoffAt_stepsBy {g : Sched} (hch : g.change = none) {lo : Nat} (hlo : 1 ≤ lo) : StepsBy g.period lo (cutoffAt g) := by
  intro k hk
  have hs := swapAt_stepsBy hch (lo - 1) (k - 1) (by omega)
  have hpitch : pitchAt g k = pitchAt g lo := by simp [pitchAt, profileAt, changeFor, hch]
  have : k - 1 - (lo - 1) = k - lo := by omega
  simp only [cutoffAt, compAt, hs, hpitch, this]
  omega

/-- Settles O19. -/
theorem effectiveFrameIsFirst : Obligations.EffectiveFrameIsFirst := by
  intro g eff ready before hch hp hlo m
  have swapped {k} := firstFrame_le_iff (x := eff) (k := k) hch hp (swapAt_stepsBy hch g.nextComp)
  have cut {k} := firstFrame_le_iff (x := ready) (k := k) hch hp (cutoffAt_stepsBy hch hlo)
  have hm : g.nextComp ≤ m := Nat.le_trans (le_firstFrame hch) (Nat.le_max_left _ _)
  refine ⟨(swapped hm).mp (Nat.le_max_left _ _), (cut hm).mp (Nat.le_trans (Nat.le_max_left _ _) (Nat.le_max_right _ _)),
    Nat.le_trans (Nat.le_max_right _ _) (Nat.le_max_right _ _), hm, fun k hk hswap hcut hbefore => ?_⟩
  exact Nat.max_le.mpr ⟨(swapped hk).mpr hswap, Nat.max_le.mpr ⟨(cut hk).mpr hcut, hbefore⟩⟩

end Sys2Proof.Machine

/-! ## COMMIT (06 R147 to R150, 12 Table 12.6) -/

namespace Sys2Proof.Machine

section
variable {t : Nat} {r : Row} {ab : State → Bool} {m : Msg} {body : State → Answer} {s u : State}

theorem serve_of_ok {d : List Byte} (h : admitted t r ab m s = true) (hb : body (taken t m s) = .ok d u) :
    serve t r ab m body s = .next (done m 0 0 d u) := by
  rw [serve_admitted h, hb]

theorem serve_of_fail {st dt : Nat} (h : admitted t r ab m s = true) (hb : body (taken t m s) = .fail st dt) :
    serve t r ab m body s = .next (done m st dt [] (taken t m s)) := by
  rw [serve_admitted h, hb]

theorem serve_of_failIn {st dt : Nat} (h : admitted t r ab m s = true) (hb : body (taken t m s) = .failIn st dt u) :
    serve t r ab m body s = .next (done m st dt [] u) := by
  rw [serve_admitted h, hb]

end

theorem firstFail_append_of_pass {cs ds : List Check} (h : firstFail cs = none) : firstFail (cs ++ ds) = firstFail ds := by
  induction cs with
  | nil => rfl
  | cons c cs ih =>
    cases c with
    | none => exact ih h
    | some e => cases h

theorem le_frameFor (s : State) (eff arrival moveTk : Nat) {c : Commit} (h : c ∈ s.drw.commits.getLast?) : c.frame ≤ frameFor s eff arrival moveTk := by
  have hc : s.drw.commits.getLast? = some c := h
  simp only [frameFor, effectiveFrame, hc, Option.elim_some]
  exact Nat.le_trans (Nat.le_max_right _ _) (Nat.le_max_right _ _)

/-- No COMMIT waits for a frame before that of an earlier one (R149). -/
theorem le_settleFrame {s : State} (p : Proposal) (eff arrival : Nat) {c : Commit} (hrun : s.sched.running = true)
    (h : c ∈ s.drw.commits.getLast?) : c.frame ≤ (settleFrame s p eff arrival).1 := by
  simp only [settleFrame, hrun, Bool.not_true, Bool.false_eq_true, if_false]
  split
  · exact le_frameFor s eff arrival _ h
  · exact Nat.le_trans (le_frameFor s eff arrival _ h) (Nat.le_max_left _ _)

/-- What the acceptance of a COMMIT leaves of the drawers but its slots: the table in force stays, and the COMMIT waits last. -/
theorem acceptCommit_waits (p : Proposal) (id m : Nat) (pl : Placing) (s : State) :
    let u := acceptCommit p id m pl s
    u.sched = s.sched ∧ u.drw.table = s.drw.table ∧ u.drw.items = s.drw.items ∧ u.drw.issued = s.drw.issued + 1
      ∧ ∃ c, u.drw.commits = s.drw.commits ++ [c] ∧ c.frame = m ∧ c.seq = some (s.drw.issued + 1) ∧ c.table = p.table := by
  have fold {β} (g : State → β) (hg : ∀ n f s, g (updSlot n f s) = g s) :=
    foldl_keeps (f := fun s1 (e : Nat × Pending) => updSlot e.1 (acceptSlot s m e) s1) g (fun s1 e => hg _ _ s1) p.changes s
  refine ⟨fold State.sched (by simp), fold (·.drw.table) (fun _ _ _ => rfl), fold (·.drw.items) (fun _ _ _ => rfl),
    congrArg (· + 1) (fold (·.drw.issued) fun _ _ _ => rfl), ?_⟩
  exact ⟨_, congrArg (· ++ _) (fold (·.drw.commits) fun _ _ _ => rfl), rfl, rfl, rfl⟩

theorem applyNow_running {s : State} (h : s.sched.running = true) : applyNow s = s := by simp [applyNow, h]

/-- Settles O18. -/
theorem commitTakesItsFrame : Obligations.CommitTakesItsFrame := by
  intro t m s hadm a p f placesOrFlips
  have hany : p.changes.any (fun e => e.2.place || e.2.flip) = true ↔ placesOrFlips := by simp [placesOrFlips]
  have hbody : p.isEmpty = false → ¬ (a.mode.op = .proofPending ∧ placesOrFlips) → commitBody m a =
      checked (commitChecks a p ++ [require (decide (f.2.status = 0)) f.2.status])
        (.ok (commitData f.1 (a.drw.issued + 1)) (applyNow (acceptCommit p m.session f.1 f.2 a))) := by
    intro hfull hproof
    rw [commitBody, if_neg (by rwa [hany]), if_neg (by rw [hfull]; decide)]
    rfl
  refine ⟨fun hop hpf => ?_, fun hempty => ?_, fun hfull hproof => ⟨fun st d hfail => ?_, fun hpass hst => ⟨?_, fun hrun => ?_⟩⟩⟩
  · change execCommit t m s = _
    exact serve_of_fail hadm (by rw [commitBody, if_pos ⟨hop, hany.mpr hpf⟩])
  · have hchanges : p.changes = [] := by simp_all [Proposal.isEmpty]
    change execCommit t m s = _
    exact serve_of_ok hadm (by rw [commitBody, if_neg (by simp [p, a, hchanges]), if_pos hempty]; rfl)
  · change execCommit t m s = _
    exact serve_of_fail hadm (by rw [hbody hfull hproof, checked, hfail])
  · change execCommit t m s = _
    have hpass' : firstFail (commitChecks a p ++ [require (decide (f.2.status = 0)) f.2.status]) = none := by
      simp [firstFail_append_of_pass hpass, hst]
    refine serve_of_ok hadm ?_
    rw [hbody hfull hproof, checked, hpass']
    rfl
  · have waits := acceptCommit_waits p m.session f.1 f.2 a
    obtain ⟨hsched, htable, hitems, hissued, hcommit⟩ := waits
    exact ⟨applyNow_running (hsched ▸ hrun), htable, hitems, hissued, hcommit, fun c hc => le_settleFrame p _ _ hrun hc⟩

end Sys2Proof.Machine

/-! ## Uploads (06 R148, R154, R296, 07 R169, R176) -/

namespace Sys2Proof.Machine

theorem flipHolds_iff {sl : Slot} : flipHolds sl = true ↔ (sl.flipUntil ≠ none ∨ ∃ p, sl.pend = some p ∧ p.flip = true) := by
  unfold flipHolds
  cases sl.flipUntil <;> cases sl.pend <;> simp

/-- The drawer has a store that CHUNK_WRITE may write: a back table, or the back buffer of a PLACED STILL drawer. -/
def HasBackStore (sl : Slot) : Prop := sl.desc.type = 3 ∨ (sl.desc.type = 1 ∧ sl.st = .placed)

theorem chunkChecks_eq (m : Msg) (s : State) :
    chunkChecks m s = [require (handleValid s (msgHandle m)) eHandle, require (!isFixed m) eDomain,
      require (decide ((slotAt s (msgSlot m)).desc.type = 3) || decide ((slotAt s (msgSlot m)).desc.type = 1) && decide ((slotAt s (msgSlot m)).st = .placed)) eState,
      require (!flipHolds (slotAt s (msgSlot m))) eBusy,
      inRange (decide (chunkOffset m + m.length ≤ backLength (slotAt s (msgSlot m)))) 0xFFFF] := rfl

theorem hasBackStore_iff {sl : Slot} :
    (decide (sl.desc.type = 3) || decide (sl.desc.type = 1) && decide (sl.st = .placed)) = true ↔ HasBackStore sl := by
  simp [HasBackStore]

section
variable {t : Nat} {m : Msg} {s : State} (h : admitted t rowChunkWrite unitFree m s = true)
include h

theorem exec_chunkWrite_pass (hv : handleValid (taken t m s) (msgHandle m) = true) (hf : isFixed m = false)
    (hstore : HasBackStore (slotAt (taken t m s) (msgSlot m))) (hfree : flipHolds (slotAt (taken t m s) (msgSlot m)) = false)
    (hlen : chunkOffset m + m.length ≤ backLength (slotAt (taken t m s) (msgSlot m))) :
    exec (.chunkWrite t m) s = .next (done m 0 0 [] (updSlot (msgSlot m) (writeChunk (chunkOffset m) m.payload) (taken t m s))) := by
  change execChunkWrite t m s = _
  exact serve_pass h (by simp only [chunkChecks_eq, firstFail_require, firstFail_inRange, hv, hf, hasBackStore_iff.mpr hstore, hfree, hlen,
    decide_true, Bool.not_false, if_true, firstFail_nil])

theorem exec_chunkWrite_fail {st dt : Nat} (hfail : firstFail (chunkChecks m (taken t m s)) = some (st, dt)) :
    exec (.chunkWrite t m) s = .next (done m st dt [] (taken t m s)) := by
  change execChunkWrite t m s = _
  exact serve_fail h hfail

end

section
variable {m : Msg} {s : State}

theorem chunkChecks_invalid (hv : handleValid s (msgHandle m) = false) : firstFail (chunkChecks m s) = some (eHandle, 0) := by
  simp [chunkChecks_eq, hv]

theorem chunkChecks_fixed (hv : handleValid s (msgHandle m) = true) (hf : isFixed m = true) : firstFail (chunkChecks m s) = some (eDomain, 0) := by
  simp [chunkChecks_eq, hv, hf]

theorem chunkChecks_storeless (hv : handleValid s (msgHandle m) = true) (hf : isFixed m = false) (hstore : ¬ HasBackStore (slotAt s (msgSlot m))) :
    firstFail (chunkChecks m s) = some (eState, 0) := by
  have := mt hasBackStore_iff.mp hstore
  simp only [chunkChecks_eq, firstFail_require, hv, hf, Bool.not_false, if_true, if_neg this]

theorem chunkChecks_held (hv : handleValid s (msgHandle m) = true) (hf : isFixed m = false) (hstore : HasBackStore (slotAt s (msgSlot m)))
    (hheld : flipHolds (slotAt s (msgSlot m)) = true) : firstFail (chunkChecks m s) = some (eBusy, 0) := by
  simp only [chunkChecks_eq, firstFail_require, hv, hf, hasBackStore_iff.mpr hstore, hheld, Bool.not_false, if_true, Bool.not_true, Bool.false_eq_true,
    if_false]

theorem chunkChecks_beyond (hv : handleValid s (msgHandle m) = true) (hf : isFixed m = false) (hstore : HasBackStore (slotAt s (msgSlot m)))
    (hfree : flipHolds (slotAt s (msgSlot m)) = false) (hlen : backLength (slotAt s (msgSlot m)) < chunkOffset m + m.length) :
    firstFail (chunkChecks m s) = some (eRange, 0xFFFF) := by
  have : ¬ chunkOffset m + m.length ≤ backLength (slotAt s (msgSlot m)) := by omega
  simp only [chunkChecks_eq, firstFail_require, firstFail_inRange, hv, hf, hasBackStore_iff.mpr hstore, hfree, Bool.not_false, if_true, this, decide_false,
    Bool.false_eq_true, if_false]

end

/-- Settles O20. -/
theorem uploadsLandInBackStores : Obligations.UploadsLandInBackStores := by
  intro t m s a n off sl named held end_
  have notHeld : ¬ held → flipHolds sl = false := fun h => eq_false_of_ne_true (mt flipHolds_iff.mp h)
  refine ⟨fun hadm ⟨hv, hgen⟩ hheld hlen => ⟨fun hty => ⟨?_, fun hwf hpl k => ?_⟩, fun hty hst => ?_⟩,
    fun hadm => ⟨fun hv => ?_, fun hv hnot => ?_, fun ⟨hv, hgen⟩ hst => ?_, fun ⟨hv, hgen⟩ hst hheld => ?_, fun ⟨hv, hgen⟩ hst hheld hlen => ?_⟩,
    fun hadm hother => ?_, fun hadm hpass => ?_⟩
  · exact exec_chunkWrite_pass hadm hv (isFixed_eq_false.mpr hgen) (.inl hty) (notHeld hheld) hlen
  · rw [memRead_memWriteList _ hwf, hpl]
  · exact exec_chunkWrite_pass hadm hv (isFixed_eq_false.mpr hgen) (.inr ⟨hty, hst⟩) (notHeld hheld) hlen
  · exact exec_chunkWrite_fail hadm (chunkChecks_invalid hv)
  · exact exec_chunkWrite_fail hadm (chunkChecks_fixed hv (isFixed_eq_true.mpr fun hgen => hnot ⟨hv, hgen⟩))
  · exact exec_chunkWrite_fail hadm (chunkChecks_storeless hv (isFixed_eq_false.mpr hgen) hst)
  · exact exec_chunkWrite_fail hadm (chunkChecks_held hv (isFixed_eq_false.mpr hgen) hst (flipHolds_iff.mpr hheld))
  · exact exec_chunkWrite_fail hadm (chunkChecks_beyond hv (isFixed_eq_false.mpr hgen) hst (notHeld hheld) hlen)
  · have own : (a.drw.pendCurves.any fun c => decide (c.2.1 = m.context) && decide (c.1 ≠ m.session)) = false := by
      simpa [List.any_eq_false] using hother
    change execCurveWrite t m s = _
    exact serve_pass hadm (by simp only [firstFail_require, firstFail_nil, a, own, Bool.not_false, if_true] at own ⊢)
  · change execBlendProgramWrite t m s = _
    exact serve_pass hadm hpass

end Sys2Proof.Machine

/-! ## Shade objects and glyph tables (08 R195 to R210, 12 Table 12.7) -/

namespace Sys2Proof.Machine

/-! ### Objects of a handoff -/

theorem mem_putObject_of_ne {l : List ShadeObj} {x o : ShadeObj} (h : o ∈ l) (hid : x.id ≠ o.id) : o ∈ putObject l x := by
  have : o ∈ l.filter fun y => decide (y.id ≠ x.id) := List.mem_filter.mpr ⟨h, by simpa using Ne.symm hid⟩
  unfold putObject
  dsimp only
  split
  · exact List.mem_append_left _ this
  · exact this

theorem mem_foldl_putObject {l xs : List ShadeObj} {o : ShadeObj} (h : o ∈ l) (hid : ∀ x ∈ xs, x.id ≠ o.id) : o ∈ xs.foldl putObject l := by
  induction xs generalizing l with
  | nil => exact h
  | cons x xs ih =>
    exact ih (mem_putObject_of_ne h (hid x List.mem_cons_self)) fun y hy => hid y (List.mem_cons_of_mem _ hy)

/-- An object is there after its own update exactly if it is ACTIVE. -/
theorem exists_putObject_iff (l : List ShadeObj) (x : ShadeObj) : (∃ o ∈ putObject l x, o.id = x.id) ↔ x.active = true := by
  unfold putObject
  dsimp only
  split
  case isTrue h => exact ⟨fun _ => h, fun _ => ⟨x, by simp, rfl⟩⟩
  case isFalse h => exact ⟨fun ⟨o, ho, hid⟩ => absurd hid (by simpa using (List.mem_filter.mp ho).2), fun hx => absurd hx h⟩

/-! ### Checks of the rows -/

/-- The first check of a row of the group: a valid handle, a general drawer of the type, not RETIRING. -/
theorem typedChecks_pass {ty : Nat} {m : Msg} {s : State} (hv : handleValid s (msgHandle m) = true)
    (hgen : msgHandle m ≠ 0x0100 ∧ msgHandle m ≠ 0x0101) (hst : (slotAt s (msgSlot m)).st ≠ .retiring) (hty : (slotAt s (msgSlot m)).desc.type = ty) :
    firstFail [handleCheck s m, require (!isFixed m && decide ((slotAt s (msgSlot m)).desc.type = ty)) eState, retiringCheck s m] = none := by
  rw [retiringCheck_eq_none.mpr hst]
  simp only [handleCheck, hv, isFixed_eq_false.mpr hgen, hty, firstFail_require, decide_true, Bool.not_false, Bool.and_self, if_true]
  rfl

theorem shadeChecks_pass {m : Msg} {s : State} (hv : handleValid s (msgHandle m) = true) (hgen : msgHandle m ≠ 0x0100 ∧ msgHandle m ≠ 0x0101)
    (hst : (slotAt s (msgSlot m)).st ≠ .retiring) (hty : (slotAt s (msgSlot m)).desc.type = 2) : firstFail (shadeChecks s m) = none :=
  typedChecks_pass hv hgen hst hty

/-! ### Handoffs -/

/-- With a cut-off still to come the objects wait for it (R197). -/
theorem handOff_waits {slot count : Nat} {f : List ShadeObj → List ShadeObj} {s : State} (hrun : s.sched.running = true)
    (hcut : s.sched.cutDone ≠ some s.sched.nextComp) :
    handOff slot count f s = updSlot slot (fun x => { x with
      objects := f x.objects, handed := x.handed ++ [(tsc s, f x.objects)],
      updates := (x.updates + count) % 4294967296, updateFrame := firstContaining s, lastHandoff := tsc s }) s := by
  simp [handOff, handObjects, hrun, hcut]

/-- Without a schedule the objects are latched at once (R197). -/
theorem handOff_latches {slot count : Nat} {f : List ShadeObj → List ShadeObj} {s : State} (hrun : s.sched.running = false) :
    handOff slot count f s = updSlot slot (fun x => { x with
      objects := f x.objects, latched := f x.objects,
      updates := (x.updates + count) % 4294967296, updateFrame := firstContaining s, lastHandoff := tsc s }) s := by
  simp [handOff, handObjects, hrun]

section
variable {t : Nat} {m : Msg} {s : State}

theorem exec_shadeUpdate_pass (h : admitted t rowShadeUpdate noShade m s = true) (hpass : firstFail (shadeChecks (taken t m s) m) = none)
    (hobjs : firstFail ((List.range (m.length / 40)).flatMap fun k => shadeObjChecks m.payload (40 * k)) = none) :
    exec (.shadeUpdate t m) s = .next (done m 0 0 (shadeReply (taken t m s)) (handOff (msgSlot m) (m.length / 40)
      (fun l => ((List.range (m.length / 40)).map fun k => shadeObjOf m.payload (40 * k)).foldl putObject l) (taken t m s))) := by
  change execShadeUpdate t m s = _
  exact serve_pass h ((firstFail_append_of_pass hpass).trans hobjs)

theorem exec_shadeClear_pass (h : admitted t rowShadeClear noShade m s = true) (hpass : firstFail (shadeChecks (taken t m s) m) = none) :
    exec (.shadeClear t m) s = .next (done m 0 0 (shadeReply (taken t m s)) (handOff (msgSlot m) 64 (fun _ => []) (taken t m s))) := by
  change execShadeClear t m s = _
  exact serve_pass h hpass

/-! ### GLYPH_SEAL -/

/-- The checks of a back table (R205 to R207), then the count of its segments. -/
def sealCheck (slot : Nat) (s : State) : Check :=
  let d := nextDesc s slot
  firstFail [glyphTableCheck (slotAt s slot).glyphBack d.srcW d.srcH, require (decide (glyphSegs (slotAt s slot).glyphBack d ≤ 8192)) eCapacity]

theorem sealCheck_of_table {slot : Nat} {s : State} {c : Check}
    (htable : glyphTableCheck (slotAt s slot).glyphBack (nextDesc s slot).srcW (nextDesc s slot).srcH = none)
    (hcount : require (decide (glyphSegs (slotAt s slot).glyphBack (nextDesc s slot) ≤ 8192)) eCapacity = c) : sealCheck slot s = c := by
  rw [sealCheck, htable, hcount]
  cases c <;> rfl

theorem sealTable_of_none {slot : Nat} {s : State} (h : sealCheck slot s = none) :
    sealTable slot s = .ok (u16 (glyphSegs (slotAt s slot).glyphBack (nextDesc s slot)) ++ u16 0)
      (updSlot slot (fun x => { x with sealed := true, backSegs := glyphSegs (slotAt s slot).glyphBack (nextDesc s slot) }) s) := by
  unfold sealCheck at h
  simp only [sealTable, h]

theorem sealTable_of_some {slot st x : Nat} {s : State} (h : sealCheck slot s = some (st, x)) :
    sealTable slot s = .failIn st x (updSlot slot (fun x => { x with sealed := false }) s) := by
  unfold sealCheck at h
  simp only [sealTable, h]

/-- GLYPH_SEAL of a GLYPH drawer is its table's validation (R209). -/
theorem exec_glyphSeal_pass (h : admitted t rowGlyphSeal noGlyph m s = true) (hv : handleValid (taken t m s) (msgHandle m) = true)
    (hgen : msgHandle m ≠ 0x0100 ∧ msgHandle m ≠ 0x0101) (hst : (slotAt (taken t m s) (msgSlot m)).st ≠ .retiring)
    (hty : (slotAt (taken t m s) (msgSlot m)).desc.type = 3) :
    let a := taken t m s
    let back := (slotAt a (msgSlot m)).glyphBack
    let d := nextDesc a (msgSlot m)
    let segs := glyphSegs back d
    (glyphTableCheck back d.srcW d.srcH = none → segs ≤ 8192 → exec (.glyphSeal t m) s = .next (done m 0 0 (u16 segs ++ u16 0)
        (updSlot (msgSlot m) (fun x => { x with sealed := true, backSegs := segs }) a)))
    ∧ (∀ st x, glyphTableCheck back d.srcW d.srcH = some (st, x) →
        exec (.glyphSeal t m) s = .next (done m st x [] (updSlot (msgSlot m) (fun x => { x with sealed := false }) a)))
    ∧ (glyphTableCheck back d.srcW d.srcH = none → 8192 < segs →
        exec (.glyphSeal t m) s = .next (done m eCapacity 0 [] (updSlot (msgSlot m) (fun x => { x with sealed := false }) a))) := by
  intro a back d segs
  have hbody {ans : Answer} (hans : sealTable (msgSlot m) a = ans) :
      checked [handleCheck a m, require (!isFixed m && decide ((slotAt a (msgSlot m)).desc.type = 3)) eState, retiringCheck a m]
        (sealTable (msgSlot m) a) = ans := by
    rw [checked, typedChecks_pass hv hgen hst hty, hans]
  refine ⟨fun htable hsegs => ?_, fun st x htable => ?_, fun htable hsegs => ?_⟩ <;> change execGlyphSeal t m s = _
  · have hcheck : sealCheck (msgSlot m) a = none := sealCheck_of_table htable (if_pos (decide_eq_true hsegs))
    exact serve_of_ok h (hbody (sealTable_of_none hcheck))
  · have hcheck : sealCheck (msgSlot m) a = some (st, x) := by rw [sealCheck, htable]; rfl
    exact serve_of_failIn h (hbody (sealTable_of_some hcheck))
  · have hcheck : sealCheck (msgSlot m) a = some (eCapacity, 0) :=
      sealCheck_of_table htable (if_neg (by simpa using hsegs))
    exact serve_of_failIn h (hbody (sealTable_of_some hcheck))

end

/-- A row that needs a unit which the module does not have (12 R289, step 3). -/
theorem exec_absent {i : Instr} {t : Nat} {m : Msg} {r : Row} {ab : State → Bool} {s : State} (hi : messageRow i = some (t, m, r, ab))
    (hserved : isServed r m (ready t s) = true) (hdom : r.domain = sessionDomain (taken t m s) m) (hab : ab (taken t m s) = true) :
    exec i s = .next (done m eAbsent 0 [] (taken t m s)) :=
  (commonChecksInOrder i t m r ab s hi hserved).2.1 (.inr hdom) hab

/-- Settles O21. -/
theorem shadeAndGlyph : Obligations.ShadeAndGlyph := by
  intro t m s a n sl usable reply handed latched put
  refine ⟨fun hadm ⟨hv, h0, h1, hst⟩ hty hobjs => ⟨fun hrun hcut => ?_, fun hrun => ?_, fun o ho hid => ?_, fun hlen => ?_⟩,
    fun hadm ⟨hv, h0, h1, hst⟩ hty => ⟨fun hrun hcut => ?_, fun hrun => ?_⟩,
    fun hadm ⟨hv, h0, h1, hst⟩ hty => exec_glyphSeal_pass hadm hv ⟨h0, h1⟩ hst hty, fun hs hd hv => ?_, fun hs hd hv => ?_, fun hs hd hv => ?_⟩
  · exact (exec_shadeUpdate_pass hadm (shadeChecks_pass hv ⟨h0, h1⟩ hst hty) hobjs).trans (by rw [handOff_waits hrun hcut]; rfl)
  · exact (exec_shadeUpdate_pass hadm (shadeChecks_pass hv ⟨h0, h1⟩ hst hty) hobjs).trans (by rw [handOff_latches hrun]; rfl)
  · refine mem_foldl_putObject ho fun x hx => ?_
    obtain ⟨k, hk, rfl⟩ := List.mem_map.mp hx
    exact hid k (List.mem_range.mp hk)
  · have hone : put sl.objects = putObject sl.objects (shadeObjOf m.payload 0) := by simp only [put, hlen]; rfl
    rw [hone]
    exact (exists_putObject_iff sl.objects (shadeObjOf m.payload 0)).trans decide_eq_true_iff
  · exact (exec_shadeClear_pass hadm (shadeChecks_pass hv ⟨h0, h1⟩ hst hty)).trans (by rw [handOff_waits hrun hcut]; rfl)
  · exact (exec_shadeClear_pass hadm (shadeChecks_pass hv ⟨h0, h1⟩ hst hty)).trans (by rw [handOff_latches hrun]; rfl)
  · exact exec_absent rfl hs hd.symm (by simpa [noShade, hasShade, a] using hv)
  · exact exec_absent rfl hs hd.symm (by simpa [noShade, hasShade, a] using hv)
  · exact exec_absent rfl hs hd.symm (by simpa [noGlyph, hasGlyph, a] using hv)

end Sys2Proof.Machine

/-! ## Changes of timing and of the monitor (07 R187, R188, 09 R230, R231, 12 Table 12.8) -/

namespace Sys2Proof.Machine

/-! ### COMMITs that apply at once change the drawers and the log alone -/

section
variable {β : Type} (g : State → β) (hdrw : ∀ (s : State) d, g { s with drw := d } = g s)
  (hrec : ∀ a b c s, g (record a b c s) = g s)
include hdrw hrec

theorem applyCommit_keeps (c : Commit) (s : State) : g (applyCommit c s) = g s := by
  have slots {α : Type} (l : List α) (n : α → Nat) (f : α → Slot → Slot) (s : State) :
      g (l.foldl (fun s x => updSlot (n x) (f x) s) s) = g s := foldl_keeps g (fun s _ => hdrw s _) l s
  have records (frame : Nat) (l : List Nat) (s : State) : g (recordApplied frame l s) = g s := foldl_keeps g (fun s n => hrec _ _ _ s) l s
  unfold applyCommit placeAll
  dsimp only
  cases c.seq <;> simp only [records, hdrw, slots]

theorem applyNow_keeps (s : State) : g (applyNow s) = g s := by
  unfold applyNow
  split
  · rfl
  · dsimp only
    rw [hdrw, retireDue_keeps g hdrw (fun _ _ s => hdrw s _) hrec, applyDue, foldl_keeps g (fun s c => applyCommit_keeps g hdrw hrec c s), hdrw]

end

/-! ### Answers leave the COMMITs and the table in force -/

/-- The table in force and the COMMITs that wait are the same. -/
abbrev SetKept (s u : State) : Prop := u.drw.table = s.drw.table ∧ u.drw.commits = s.drw.commits

@[simp] theorem dropPending_setKept (id : Nat) (s : State) : SetKept s (dropPending id s) := ⟨rfl, rfl⟩

@[simp] theorem freshEnd_setKept (last : Bool) (id : Nat) (s : State) : SetKept s (freshEnd last id s) := by
  cases h : findSession s id with
  | none => simp [SetKept, freshEnd, h]
  | some x => simp only [SetKept, freshEnd, h]; split <;> simp [loseSession]

@[simp] theorem answered_setKept (m : Msg) (st d : Nat) (data : List Byte) (s : State) : SetKept s (answered m st d data s) := by
  simp [SetKept, answered]

@[simp] theorem serveUnknowns_setKept (n : Nat) (s : State) : SetKept s (serveUnknowns n s) := by
  induction n generalizing s with
  | zero => exact ⟨rfl, rfl⟩
  | succ n ih =>
    cases h : nextToServe s with
    | none => simp [SetKept, serveUnknowns, h]
    | some m => simp only [SetKept, serveUnknowns, h]; split <;> simp [ih]

@[simp] theorem done_setKept (m : Msg) (st d : Nat) (data : List Byte) (s : State) : SetKept s (done m st d data s) := by
  simp [SetKept, done, serveUnknown]

/-! ### TIMING_CHANGE -/

theorem timingChecks_pass {p : List Byte} (hprofile : le p 0 1 ≤ 3) (hstrict : le p 1 1 ≤ 1) (hres : le p 2 2 = 0)
    (hperiod : periodOk (le p 0 1) (le p 4 4) = true) : firstFail (timingChecks p) = none := by
  simp [timingChecks, hprofile, hstrict, hres, hperiod]

theorem timingChecks_fail {p : List Byte} (hprofile : le p 0 1 ≤ 3) (hstrict : le p 1 1 ≤ 1) (hres : le p 2 2 = 0)
    (hperiod : periodOk (le p 0 1) (le p 4 4) = false) : firstFail (timingChecks p) = some (eTiming, 0) := by
  simp [timingChecks, hprofile, hstrict, hres, hperiod]

section
variable {m : Msg} {s : State}

theorem timingBody_stopped_unfit (hrun : s.sched.running = false) (hcs : commitsAt s 0 (le m.payload 4 4) = none) :
    timingBody m s = .fail eBandwidth 0 := by
  simp only [timingBody, hrun, hcs, Bool.not_false, if_true]

/-- Without a schedule the change applies at once, when the set fits the new period. -/
theorem timingBody_stopped {cs : List Commit} (hrun : s.sched.running = false) (hcs : commitsAt s 0 (le m.payload 4 4) = some cs) :
    timingBody m s = .ok (timingData 0 s.cfg.timing.anchorTsc)
      (applyNow (changeNow (le m.payload 0 1) (le m.payload 4 4) (takeCommits 0 cs [] s))) := by
  simp only [timingBody, hrun, hcs, Bool.not_false, if_true]

theorem timingBody_late (hrun : s.sched.running = true)
    (hk : changeFrame s (le m.payload 0 1) (le m.payload 8 8) m.arrival (decide (le m.payload 1 1 = 1)) = none) :
    timingBody m s = .fail eTiming 0 := by
  simp only [timingBody, hrun, hk, Bool.not_true, Bool.false_eq_true, if_false]

variable {k : Nat} (hrun : s.sched.running = true) (hmoves : periodMoves s (le m.payload 4 4) = [])
  (hk : changeFrame s (le m.payload 0 1) (le m.payload 8 8) m.arrival (decide (le m.payload 1 1 = 1)) = some k)
include hrun hmoves hk

theorem timingBody_running_unfit (hcs : commitsAt s k (le m.payload 4 4) = none) : timingBody m s = .fail eBandwidth 0 := by
  simp only [timingBody, hrun, hmoves, hk, hcs, Bool.not_true, Bool.false_eq_true, if_false]

/-- During a schedule a change that moves nothing is judged once, at its arrival. -/
theorem timingBody_running {cs : List Commit} (hcs : commitsAt s k (le m.payload 4 4) = some cs) :
    timingBody m s = .ok (timingData k (gridSwap (changeGrid s) (k - 1)))
      (acceptChange (le m.payload 0 1) (le m.payload 4 4) k (takeCommits k cs [] s)) := by
  simp only [timingBody, hrun, hmoves, hk, hcs, Bool.not_true, Bool.false_eq_true, if_false, if_true]

end

/-- What an accepted change leaves: it waits for its frame, and all that is in force stays. -/
theorem acceptChange_waits (profile period k : Nat) (s : State) :
    let u := acceptChange profile period k s
    u.sched.change = some { profile := profile, period := period, frame := k } ∧ u.sched.profile = s.sched.profile
      ∧ u.sched.period = s.sched.period ∧ u.sched.anchorTsc = s.sched.anchorTsc ∧ u.sched.anchorFrame = s.sched.anchorFrame
      ∧ u.cfg = s.cfg ∧ u.drw = s.drw := by
  unfold acceptChange
  dsimp only
  split <;> exact ⟨rfl, rfl, rfl, rfl, rfl, rfl, rfl⟩

/-- Settles O22. -/
theorem timingChanges : Obligations.TimingChanges := by
  intro t m s hadm a profile period
  refine ⟨fun hprofile hstrict hres hperiod => ?_, fun hprofile hstrict hres hperiod => ?_⟩
  · change execTimingChange t m s = _
    exact serve_of_fail hadm (by rw [checked, timingChecks_fail hprofile hstrict hres hperiod])
  have hbody : checked (timingChecks m.payload) (timingBody m a) = timingBody m a := by
    rw [checked, timingChecks_pass hprofile hstrict hres hperiod]
  refine ⟨fun hrun => ⟨fun cs hcs => ⟨?_, rfl, rfl⟩, fun hcs => ?_⟩,
    fun hrun hmoves => ⟨fun k hk => ⟨fun cs hcs => ?_, fun hcs => ?_⟩, fun hk => ?_⟩⟩
  · change execTimingChange t m s = _
    exact serve_of_ok hadm (by rw [hbody, timingBody_stopped hrun hcs]; rfl)
  · change execTimingChange t m s = _
    exact serve_of_fail hadm (by rw [hbody, timingBody_stopped_unfit hrun hcs])
  · have waits := acceptChange_waits profile period k (takeCommits k cs [] a)
    obtain ⟨hchange, hprof, hper, htsc, hframe, hcfg, hdrw⟩ := waits
    refine ⟨?_, hchange, hprof, hper, htsc, hframe, hcfg, congrArg (·.commits) hdrw, congrArg (·.table) hdrw⟩
    change execTimingChange t m s = _
    exact serve_of_ok hadm (by rw [hbody, timingBody_running hrun hmoves hk hcs]; rfl)
  · change execTimingChange t m s = _
    exact serve_of_fail hadm (by rw [hbody, timingBody_running_unfit hrun hmoves hk hcs])
  · change execTimingChange t m s = _
    exact serve_of_fail hadm (by rw [hbody, timingBody_late hrun hk])

/-! ### MONITOR_CONFIG_WRITE -/

theorem monitorChecks_rate {s : State} {p : List Byte} (hpass : firstFail (monitorChecks p) = none) :
    firstFail (monitorChecks p ++ [require (monitorRateOk s (monitorConfigOf p)) eBandwidth])
      = if monitorRateOk s (monitorConfigOf p) then none else some (eBandwidth, 0) := by
  rw [firstFail_append_of_pass hpass, firstFail_require]
  rfl

/-- Settles O23. -/
theorem monitorConfiguration : Obligations.MonitorConfiguration := by
  intro t m s hadm a c placed hpass
  have hbody : monitorRateOk a c = true → checked (monitorChecks m.payload ++ [require (monitorRateOk a c) eBandwidth])
      (if monitorRing c = monitorRing a.cfg.mon then .ok [] (monitorSmall c a) else monitorPlace m c a)
      = if monitorRing c = monitorRing a.cfg.mon then .ok [] (monitorSmall c a) else monitorPlace m c a := by
    intro hrate
    rw [checked, monitorChecks_rate hpass, if_pos hrate]
  refine ⟨fun hrate => ?_, fun hrate hring hrun => ?_, fun hrate hring hrun => ?_, fun hrate hring hfit => ?_, fun hrate hring hfit hrun => ?_,
    fun hrate hring hfit hrun => ?_⟩
  · change execMonitorConfigWrite t m s = _
    exact serve_of_fail hadm (by rw [checked, monitorChecks_rate hpass, hrate]; rfl)
  · change execMonitorConfigWrite t m s = _
    exact serve_of_ok hadm (by rw [hbody hrate, if_pos hring]; simp only [monitorSmall, hrun]; rfl)
  · change execMonitorConfigWrite t m s = _
    exact serve_of_ok hadm (by rw [hbody hrate, if_pos hring]; simp only [monitorSmall, hrun]; rfl)
  · change execMonitorConfigWrite t m s = _
    exact serve_of_fail hadm (by rw [hbody hrate, if_neg hring, monitorPlace]; exact if_pos hfit)
  · change NextIs (execMonitorConfigWrite t m s) _
    unfold execMonitorConfigWrite
    refine ⟨_, serve_of_ok hadm (by exact (hbody hrate).trans ((if_neg hring).trans (if_neg fun h => h hfit))), ?_⟩
    dsimp only
    rw [applyNow_running (s := monitorFrom _ _ _) (by simpa [monitorFrom] using hrun)]
    simp [monitorFrom, hrun, placed]
  · change NextIs (execMonitorConfigWrite t m s) _
    unfold execMonitorConfigWrite
    refine ⟨_, serve_of_ok hadm (by exact (hbody hrate).trans ((if_neg hring).trans (if_neg fun h => h hfit))), ?_⟩
    simp [applyNow_keeps State.cfg, applyNow_keeps State.mon, applyNow_keeps State.sched, applyNow_keeps State.fuse, monitorFrom, monitorNow, hrun]

end Sys2Proof.Machine

/-! ## The reading rows of diagnostics (01 R27, 12 Table 12.9) -/

namespace Sys2Proof.Machine

/-! ### Records in the order of their numbers -/

/-- The records of a list with their numbers from `o` on. -/
def numberedFrom (o : Nat) (l : List EventRec) : List (Nat × EventRec) := (l.zipIdx o).map Prod.swap

theorem numberedRecords_eq (l : Log) : numberedRecords l = numberedFrom (oldestRecord l) ((bootRecords l).map (·.event)) := by
  simp only [numberedRecords, numberedFrom, List.zipIdx_eq_map_add (i := oldestRecord l), List.map_map]
  congr 1

theorem le_of_mem_numberedFrom {o : Nat} {l : List EventRec} {e : Nat × EventRec} (h : e ∈ numberedFrom o l) : o ≤ e.1 ∧ e.2 ∈ l := by
  obtain ⟨x, hx, rfl⟩ := List.mem_map.mp h
  exact ⟨List.le_snd_of_mem_zipIdx hx, List.fst_mem_of_mem_zipIdx hx⟩

theorem getD_numberedFrom {o k : Nat} {l : List EventRec} (h : k < l.length) : ((numberedFrom o l).map (·.1)).getD k 0 = o + k := by
  simp [numberedFrom, List.getD, h]

/-- The records from a number on: those before it are left out. -/
theorem filter_numberedFrom (first o : Nat) (l : List EventRec) :
    (numberedFrom o l).filter (fun e => decide (first ≤ e.1)) = numberedFrom (max first o) (l.drop (first - o)) := by
  induction l generalizing o with
  | nil => simp [numberedFrom]
  | cons e l ih =>
    obtain h | h := Nat.lt_or_ge o first
    · have hd : first - o = first - (o + 1) + 1 := by omega
      have hm : max first (o + 1) = max first o := by omega
      have cut : (numberedFrom o (e :: l)).filter (fun e => decide (first ≤ e.1))
          = (numberedFrom (o + 1) l).filter (fun e => decide (first ≤ e.1)) := by simp [numberedFrom, Nat.not_le.mpr h]
      rw [cut, ih, hd, hm, List.drop_succ_cons]
    · rw [Nat.sub_eq_zero_of_le h, Nat.max_eq_right h, List.drop_zero]
      exact List.filter_eq_self.mpr fun x hx => decide_eq_true (Nat.le_trans h (le_of_mem_numberedFrom hx).1)

theorem take_numberedFrom (n o : Nat) (l : List EventRec) : (numberedFrom o l).take n = numberedFrom o (l.take n) := by
  induction l generalizing n o with
  | nil => simp [numberedFrom]
  | cons e l ih =>
    cases n with
    | zero => rfl
    | succ n => exact congrArg (List.cons (o, e)) (ih n (o + 1))

/-- What LOG_READ returns is a part of the records, numbered from the first number it finds. -/
theorem logChunk_eq (s : State) (first : Nat) : logChunk s first =
    numberedFrom (max first (oldestRecord s.log)) ((((bootRecords s.log).map (·.event)).drop (first - oldestRecord s.log)).take 89) := by
  rw [logChunk, numberedRecords_eq, filter_numberedFrom, take_numberedFrom]

theorem mem_logChunk {s : State} {first : Nat} {e : Nat × EventRec} (h : e ∈ logChunk s first) : first ≤ e.1 ∧ ∃ r ∈ s.log.recs, r.event = e.2 := by
  rw [logChunk_eq] at h
  obtain ⟨hle, hmem⟩ := le_of_mem_numberedFrom h
  obtain ⟨r, hr, he⟩ := List.mem_map.mp (List.mem_of_mem_drop (List.mem_of_mem_take hmem))
  exact ⟨Nat.le_trans (Nat.le_max_left _ _) hle, r, (List.mem_filter.mp hr).1, he⟩

/-- Settles O24. -/
theorem diagnosticsRead : Obligations.DiagnosticsRead := by
  intro t m s a
  refine ⟨fun h => ⟨?_, List.length_take_le _ _, fun e he => mem_logChunk he, fun k hk => ?_⟩, fun h => ?_, fun h hlo hhi hres => ⟨fun hin => ?_, fun hout => ?_⟩,
    fun h => ⟨fun hset htaps => ?_, fun hnone => ?_⟩⟩
  · change execLogRead t m s = _
    exact serve_of_ok h rfl
  · rw [logChunk_eq] at hk ⊢
    exact getD_numberedFrom (by simpa [numberedFrom] using hk)
  · change execEventFilter t m s = _
    exact serve_of_ok h rfl
  · change execFaultMapRead t m s = _
    exact serve_pass h (by simp [readChecks, between_iff, *])
  · change execFaultMapRead t m s = _
    exact serve_fail h (by simp [readChecks, between_iff, Nat.not_le.mpr hout, *])
  · change execScalerCoeffRead t m s = _
    exact serve_pass h (by simp [*])
  · change execScalerCoeffRead t m s = _
    exact serve_fail h (by obtain h | h := hnone <;> simp [h])

end Sys2Proof.Machine

/-! ## Chest images and SETTLE patterns (03 R75 to R79, 07 R180 to R183, 12 R297, R298, 20 R456) -/

namespace Sys2Proof.Machine

/-! ### An answer that goes out -/

@[simp] theorem freshEnd_outbox (last : Bool) (id : Nat) (s : State) : (freshEnd last id s).gate.outbox = s.gate.outbox := by
  cases h : findSession s id with
  | none => simp [freshEnd, h]
  | some x => simp only [freshEnd, h]; split <;> simp [countLost, loseSession]

/-- The reply that an answer over an open session hands over. -/
theorem answered_outbox {m : Msg} {status : Nat} {x : Session} {s : State} (detail : Nat) (data : List Byte)
    (hs : findSession s m.session = some x) (h0 : m.session ≠ 0) (hq : status ≠ 0 ∨ msgNoReply m = false) :
    ∃ r, (answered m status detail data s).gate.outbox = r :: s.gate.outbox ∧ r.status = status ∧ r.sequence = m.sequence ∧ r.data = data := by
  have hr : replyTo m status detail data s = replyTagged m status detail data s := by
    obtain hq | hq := hq <;> simp [replyTo, eOk, hq, h0]
  obtain ⟨bytes, r, htag, -, hstatus, -, hdata, -, hseq, -⟩ := replyTagged_eq status detail data hs
  obtain ⟨path, hout⟩ := pushReply_outbox bytes r (updSession m.session (fun y => { y with freshOut := x.freshOut + 1 }) s)
  refine ⟨{ r with path := path }, ?_, hstatus, hseq, hdata⟩
  rw [answered, freshEnd_outbox, hr, htag]
  exact hout

/-! ### The Chest -/

section
variable {t : Nat} {m : Msg} {s : State} (h : admitted t rowChestActivate unitFree m s = true)
include h

theorem common_of_admitted :
    isServed rowChestActivate m (serveUnknown (advance t s)) = true ∧ commonCheck rowChestActivate false m (taken t m s) = none := by
  obtain ⟨hserved, hcommon⟩ := Bool.and_eq_true_iff.mp h
  exact ⟨hserved, Option.isNone_iff_eq_none.mp hcommon⟩

theorem chestActivate_refused {st d : Nat} (hfail : firstFail (chestChecks m (taken t m s)) = some (st, d)) :
    execChestActivate t m s = .next (done m st d [] (taken t m s)) := by
  obtain ⟨hserved, hcommon⟩ := common_of_admitted h
  unfold taken ready at *
  simp only [execChestActivate, hserved, hcommon, hfail, firstFail, done, Bool.not_true, Bool.false_eq_true, if_false]

/-- The activation starts without a reply. -/
theorem chestActivate_starts (hpass : firstFail (chestChecks m (taken t m s)) = none) :
    execChestActivate t m s = .next (serveUnknown (startActivation m (taken t m s))) := by
  obtain ⟨hserved, hcommon⟩ := common_of_admitted h
  unfold taken ready at *
  simp only [execChestActivate, hserved, hcommon, hpass, firstFail, Bool.not_true, Bool.false_eq_true, if_false]

end

/-- Another job of CVU3 in between: the one in progress goes on as it was (20 R456). -/
theorem cvuJob_interrupts (value : Nat) (expected : Option Nat) {s : State} (hlen : s.cvus.length = 4) (hrun : (s.cvus.getD 3 {}).running = true) :
    (cvuJob 3 value expected s).cvus.getD 3 {} = unitRestore (unitFinish value expected (tsc s)
      (unitSave (unitFeed (chestFed s (s.cvus.getD 3 {})) (s.cvus.getD 3 {})))) := by
  have h3 : 3 < s.cvus.length := by omega
  have hget : s.cvus.getD 3 {} = s.cvus[3] := by simp [List.getD, h3]
  rw [hget] at hrun ⊢
  simp [cvuJob, updCvu, listUpdate, List.getD, h3, hrun]

/-- Settles O25. -/
theorem chestUploads : Obligations.ChestUploads := by
  refine ⟨fun t m s => ⟨fun h => ⟨fun hbeyond => ?_, fun hin hbusy => ?_, fun hin hfree => ?_⟩,
      fun h => ⟨fun hbeyond => ?_, fun hin hbusy => ?_, fun hin hfree => ?_⟩, fun h => ⟨fun st d hfail => ?_, fun hpass => ?_⟩⟩,
    fun t s x => ?_, fun value expected s hlen hrun => ?_⟩
  · change execChestStage t m s = _
    exact serve_fail h (by simp [stageRange, Nat.not_le.mpr hbeyond])
  · change execChestStage t m s = _
    exact serve_fail h (by simp only [stageRange, hin, hbusy]; rfl)
  · change execChestStage t m s = _
    exact serve_pass h (by simp only [stageRange, hin, hfree]; rfl)
  · change execSettleStage t m s = _
    exact serve_fail h (by simp [stageRange, Nat.not_le.mpr hbeyond])
  · change execSettleStage t m s = _
    exact serve_fail h (by simp only [stageRange, hin, hbusy]; rfl)
  · change execSettleStage t m s = _
    exact serve_pass h (by simp only [stageRange, hin, hfree]; rfl)
  · change execChestActivate t m s = _
    exact chestActivate_refused h hfail
  · change execChestActivate t m s = _
    exact chestActivate_starts h hpass
  · intro a ref hact hmp hses hflag hopen
    obtain ⟨y, hy⟩ := Option.isSome_iff_exists.mp hopen
    let f := if a.sched.running then frameFor a x.effectTsc (tsc a) 0 else 0
    let b := bindChest x.image ref f (cvuEnd 3 ref a)
    have hexec : exec (.chestRefComplete t) s = .next (answered x.msg 0 0 (u32 ref ++ u32 0 ++ u64 f) b) := by
      change execChestRefComplete t s = _
      unfold execChestRefComplete
      dsimp only
      rw [show (advance t s).comp.activation = some x from hact]
      exact if_neg (by simp [show mpRuns (advance t s) = true from hmp])
    obtain ⟨r, hout, hstatus, hseq, hdata⟩ := answered_outbox (s := b) 0 (u32 ref ++ u32 0 ++ u64 f) hy hses
      (.inr (by simpa [msgNoReply] using hflag) : (0 : Nat) ≠ 0 ∨ _)
    refine ⟨_, hexec, ?_, ?_, by simp [b, bindChest], by simp [b, bindChest], by simp [b, bindChest], fun hrun => ?_, fun hrun => ?_,
      r, hout, hstatus, hseq, fun hrun => ?_, fun hrun => ?_⟩
    · rw [answered_comp]; simp only [b, bindChest]; split <;> rfl
    · rw [answered_comp]; simp only [b, bindChest]; split <;> rfl
    · rw [answered_comp]; simp [b, bindChest, hrun]
    · rw [answered_comp]; simp [b, bindChest, hrun, f]
    · rw [hdata]; simp only [f, hrun, if_true]
    · rw [hdata]; simp only [f, hrun]; rfl
  · rw [cvuJob_interrupts value expected hlen hrun]
    exact ⟨rfl, rfl, rfl, rfl, rfl, rfl, rfl, rfl⟩

/-! ### The SETTLE beam -/

/-- Settles O26. -/
theorem settleActivation : Obligations.SettleActivation := by
  intro t m s hadm h1 h2 h3 hres a crc b levels codes sum
  have hbody : checked (settleFields m.payload) (crcGuard crc (le m.payload 8 4) (settleWork m) a) = crcGuard crc (le m.payload 8 4) (settleWork m) a := by
    simp [checked, settleFields, *]
  refine ⟨fun hcrc => ?_, fun hcrc hover => ?_, fun hcrc hsum hbusy => ?_, fun hcrc hsum hfree => ?_⟩
  all_goals change execSettleActivate t m s = _
  · exact serve_of_failIn hadm (hbody.trans (if_neg (Ne.symm hcrc)))
  · refine serve_of_failIn hadm (hbody.trans ((if_pos hcrc.symm).trans ?_))
    exact if_pos (decide_eq_true hover)
  · refine serve_of_failIn hadm (hbody.trans ((if_pos hcrc.symm).trans ?_))
    exact (if_neg fun h => Nat.not_lt.mpr hsum (of_decide_eq_true h)).trans (if_pos hbusy)
  · refine serve_of_ok hadm (hbody.trans ((if_pos hcrc.symm).trans ?_))
    exact (if_neg fun h => Nat.not_lt.mpr hsum (of_decide_eq_true h)).trans (if_neg (by simpa using hfree))

end Sys2Proof.Machine

/-! ## Reactions by command (12 Table 12.10, 15 R352 to R370) -/

namespace Sys2Proof.Machine

/-! ### What a reaction leaves -/

/-- A reaction changes the light, the schedule and the collector: what the rest of the module holds stays. -/
abbrev ReactKept (s u : State) : Prop :=
  u.cfg = s.cfg ∧ u.mp = s.mp ∧ u.gate = s.gate ∧ u.drw = s.drw ∧ u.comp = s.comp ∧ u.mon = s.mon ∧ u.gov = s.gov ∧ u.conv = s.conv ∧ u.can = s.can
    ∧ u.dram = s.dram ∧ u.pwr = s.pwr ∧ u.upd = s.upd ∧ u.flash = s.flash ∧ u.fuse = s.fuse ∧ u.pending = s.pending

@[simp] theorem startSchedule_reactKept (s : State) : ReactKept s (startSchedule s) := by
  unfold ReactKept startSchedule
  dsimp only
  split <;> simp

@[simp] theorem proofToSafe_reactKept (kind cause : Nat) (s : State) : ReactKept s (proofToSafe kind cause s) := by
  simp [ReactKept, proofToSafe]

@[simp] theorem withholdBy_reactKept (src data : Nat) (s : State) : ReactKept s (withholdBy src data s) := by
  simp [ReactKept, withholdBy]

@[simp] theorem closeSwitch_reactKept (s : State) : ReactKept s (closeSwitch s) := by simp [ReactKept]

@[simp] theorem react_reactKept (src data r : Nat) (s : State) : ReactKept s (react src data r s) := by
  cases h : s.mode.op <;> simp [ReactKept, react, h]

@[simp] theorem settleFails_reactKept (s : State) : ReactKept s (settleFails s) := by simp [ReactKept, settleFails]

/-! ### The MP goes on -/

@[simp] theorem interruptRun_restarting (s : State) : (interruptRun s).mp.restarting = s.mp.restarting := by
  unfold interruptRun rejectRun
  split
  · simp [endLong]
  · rfl

@[simp] theorem beginModuleReset_mp (s : State) : (beginModuleReset s).mp = s.mp := by
  cases h : s.mode.op <;> simp [beginModuleReset, h]

@[simp] theorem reinitialise_mp (s : State) : (reinitialise s).mp = s.mp := by simp [reinitialise]

@[simp] theorem enterBrownout_restarting (before : Nat) (s : State) : (enterBrownout before s).mp.restarting = none := by
  simp [enterBrownout]

theorem blockAction_restarting {src : Nat} (data before : Nat) {s : State} (hsrc : src ≠ 1) (h : s.mp.restarting = none) :
    (blockAction src data before s).mp.restarting = none := by
  unfold blockAction
  split
  case h_3 => exact absurd rfl hsrc
  case h_6 => split <;> simp [h]
  all_goals simpa using h

/-- FS09 and FS38 act beside their reaction; neither restarts the MP. -/
theorem settleOrRun_restarting (src : Nat) {s : State} (h : s.mp.restarting = none) :
    (if src = 9 then settleFails s else if src = 38 then interruptRun s else s).mp.restarting = none := by
  (repeat' split) <;> simp [h]

/-- A level source's condition, or its force, as an assertion notes it first (15 R350, R368). -/
def conditionNoted (src data : Nat) (forced : Bool) (s : State) : State :=
  { s with flt := if isLevel src then
      if forced then { s.flt with force := withBit s.flt.force src }
      else { s.flt with cond := withBit s.flt.cond src, datas := s.flt.datas.set src data }
    else s.flt }

theorem assertSource_eq (src data : Nat) (forced : Bool) (s : State) : assertSource src data forced s =
    if !(conditionNoted src data forced s).flt.running || (isLevel src && (hasBit s.flt.cond src || hasBit s.flt.force src)) then
      conditionNoted src data forced s
    else deliver src (data % 65536) forced true (conditionNoted src data forced s) := rfl

/-- No assertion but that of FS01 restarts the MP (11 R278, 15 Table 15.6). -/
theorem assertSource_restarting {src : Nat} (data : Nat) (forced : Bool) {s : State} (hsrc : src ≠ 1) (h : s.mp.restarting = none) :
    (assertSource src data forced s).mp.restarting = none := by
  have hnoted : (conditionNoted src data forced s).mp.restarting = none := h
  rw [assertSource_eq]
  split
  · exact hnoted
  · generalize conditionNoted src data forced s = u at hnoted
    unfold deliver
    split
    · simpa [deliverShadowed] using hnoted
    · rw [if_pos rfl]
      exact blockAction_restarting _ _ hsrc (settleOrRun_restarting src (by simpa using hnoted))

@[simp] theorem answered_restarting (m : Msg) (st d : Nat) (data : List Byte) (s : State) :
    (answered m st d data s).mp.restarting = s.mp.restarting := by
  rw [answered, freshEnd_mp]
  change (replyTo m st d data s).mp.restarting = _
  rw [replyTo_mp]

@[simp] theorem dataLost_restarting (s : State) : (dataLost s).mp.restarting = s.mp.restarting := by
  cases h : s.mp.served with
  | none => simp [dataLost, h]
  | some x => cases hr : x.reply <;> simp [dataLost, h, hr]

theorem mpRuns_of_admitted {t : Nat} {r : Row} {ab : State → Bool} {m : Msg} {s : State} (h : admitted t r ab m s = true) :
    mpRuns (taken t m s) = true := by
  have hserved : isServed r m (ready t s) = true := (Bool.and_eq_true_iff.mp h).1
  have hruns : mpRuns (ready t s) = true := by
    simp only [isServed, Bool.and_eq_true] at hserved
    exact hserved.1.1.1
  simpa [mpRuns, taken] using hruns

theorem restarting_of_mpRuns {s : State} (h : mpRuns s = true) : s.mp.restarting = none := by
  simpa using (Bool.and_eq_true_iff.mp h).2

/-! ### HOLD_DEMAND and RECOVER -/

theorem op_of_admitted {t : Nat} {r : Row} {ab : State → Bool} {m : Msg} {s : State} (h : admitted t r ab m s = true) :
    r.states s.mode.op = true := by
  have hcommon := Option.isNone_iff_eq_none.mp (Bool.and_eq_true_iff.mp h).2
  unfold commonCheck at hcommon
  have hstate := firstFail_eq_none_iff.mp hcommon (require (r.states (taken t m s).mode.op) eState) (by simp)
  simpa [require_eq_none_iff] using hstate

theorem goSafe_hold_flt (cause : Nat) (s : State) : (goSafe 1 cause s).flt = { s.flt with alive := false } := by
  simp [goSafe, kindHardware, apply_ite State.flt]

theorem goSafe_hold_arr (cause : Nat) (s : State) : (goSafe 1 cause s).arr = s.arr := by
  simp [goSafe, kindHardware, apply_ite State.arr]

theorem find?_range_eq_some_of {p : Nat → Bool} {n k : Nat} (hk : k < n) (hp : p k = true) (hfirst : ∀ i, i < k → p i = false) :
    (List.range n).find? p = some k := by
  rw [List.find?_range_eq_some]
  exact ⟨hp, by simpa using hk, by simpa using hfirst⟩

section
variable {s : State}

/-- The checks of RECOVER, in their order. -/
theorem recoverChecks_fatal {n : Nat} (hn : n < 48) (hfatal : isFatal n = true) (hset : hasBit s.flt.status n = true)
    (hfirst : ∀ k, k < n → isFatal k = true → hasBit s.flt.status k = false) : firstFail (recoverChecks s) = some (eState, n) := by
  have hfind : (List.range 48).find? (fun n => isFatal n && hasBit s.flt.status n) = some n :=
    find?_range_eq_some_of hn (by simp [hfatal, hset]) fun k hk => by simpa using hfirst k hk
  simp [recoverChecks, hfind, firstFail]

variable (hnone : ∀ k, k < 48 → isFatal k = true → hasBit s.flt.status k = false)
include hnone

theorem recoverChecks_demand (hobst : s.dim.demand = true ∨ s.dim.proofSeen = false) : firstFail (recoverChecks s) = some (eState, 0x0100) := by
  have hfind : (List.range 48).find? (fun n => isFatal n && hasBit s.flt.status n) = none := by simpa using hnone
  have hcond : (s.dim.demand || !s.dim.proofSeen) = true := by simpa using hobst
  simp [recoverChecks, hfind, hcond, firstFail]

variable (hdem : s.dim.demand = false) (hproof : s.dim.proofSeen = true)
include hdem hproof

theorem recoverChecks_contained {n : Nat} (hn : n < 48) (hblock : blocksRecovery s n = true) (hfirst : ∀ k, k < n → blocksRecovery s k = false) :
    firstFail (recoverChecks s) = some (eState, 0x0100 + n) := by
  have hfind : (List.range 48).find? (fun n => isFatal n && hasBit s.flt.status n) = none := by simpa using hnone
  simp [recoverChecks, hfind, hdem, hproof, find?_range_eq_some_of hn hblock hfirst, firstFail]

theorem recoverChecks_pass (hfree : ∀ k, k < 48 → blocksRecovery s k = false) : firstFail (recoverChecks s) = none := by
  have hfind : (List.range 48).find? (fun n => isFatal n && hasBit s.flt.status n) = none := by simpa using hnone
  have hfind' : (List.range 48).find? (blocksRecovery s) = none := by simpa using hfree
  simp [recoverChecks, hfind, hfind', hdem, hproof, firstFail]

end

/-- Settles O27. -/
theorem holdAndRecover : Obligations.HoldAndRecover := by
  intro t m s a
  refine ⟨fun h => ?_, fun h => ⟨fun n hn hfatal hset hfirst => ?_, fun hnone hobst => ?_,
    fun hnone hdem hproof => ⟨fun n hn hblock hfirst => ?_, fun hfree => ?_⟩⟩⟩
  · have hop : s.mode.op = .full := by simpa [rowHoldDemand] using op_of_admitted h
    have hexec : exec (.holdDemand t m) s = .next (done m 0 0 [] (goSafe 1 0 a)) := by
      change execHoldDemand t m s = _
      exact serve_of_ok h rfl
    refine ⟨_, hexec, hop, ?_, ?_, ?_, ?_, ?_, ?_⟩
    · simp
    · simp [a, hop]
    · simp [goSafe_hold_arr, a]
    · simp [a]
    · simp [a]
    · simp [goSafe_hold_flt, a]
  all_goals change execRecover t m s = _
  · exact serve_fail h (recoverChecks_fatal hn hfatal hset hfirst)
  · exact serve_fail h (recoverChecks_demand hnone hobst)
  · exact serve_fail h (recoverChecks_contained hnone hdem hproof hn hblock hfirst)
  · exact serve_pass h (recoverChecks_pass hnone hdem hproof hfree)

end Sys2Proof.Machine

/-! ## FAULT_FORCE, FAULT_CONFIG and COMP_CONFIG_WRITE (07 R167, 15 R367, R368) -/

namespace Sys2Proof.Machine

section
variable {t : Nat} {m : Msg} {s : State}

/-! ### FAULT_FORCE -/

theorem dataRange_pos (src : Nat) : 0 < (dataRange src).2 := by unfold dataRange; split <;> decide

theorem forcedData_lt (src : Nat) (s : State) :
    (dataRange src).1 ≤ forcedData src s ∧ forcedData src s < (dataRange src).1 + (dataRange src).2 :=
  ⟨Nat.le_add_right _ _, Nat.add_lt_add_left (Nat.mod_lt _ (dataRange_pos src)) _⟩

theorem forceChecks_pass {p : List Byte} (hsrc : le p 0 1 ≤ 47) (hact : le p 1 1 ≤ 1) (hres : le p 2 2 = 0) : firstFail (forceChecks p) = none := by
  simp [forceChecks, *]

/-- FAULT_FORCE with ACTION set raises its source; the message is in hand when the MP restarts. -/
theorem forceSet_admitted (h : admitted t rowForceSet unitFree m s = true) (hpass : firstFail (forceChecks m.payload) = none) :
    let a := taken t m s
    let src := le m.payload 0 1
    let b := answered m 0 0 [] (assertSource src (forcedData src a) true a)
    exec (.faultForceSet t m) s = .next (serveUnknown (if b.mp.restarting.isSome then dataLost b else b)) := by
  change execFaultForceSet t m s = _
  unfold execFaultForceSet
  rw [serveThen_admitted h]
  simp only [checked, hpass]

/-- The record of a fault notes its count per second alone (15 R366). -/
theorem recordFault_flt (src kind reaction data : Nat) (forced : Bool) (s : State) : (recordFault src kind reaction data forced s).flt =
    { s.flt with recWindow := (recordFault src kind reaction data forced s).flt.recWindow,
                 recCounts := (recordFault src kind reaction data forced s).flt.recCounts } := by
  unfold recordFault
  dsimp only
  split <;> simp

/-- The bits of a level source that ends, before what it held is released (15 R350). -/
def levelCleared (src : Nat) (s : State) : State :=
  { s with
    flt := { s.flt with
      status := if isFatal src then s.flt.status else withoutBit s.flt.status src, masked := withoutBit s.flt.masked src,
      withholding := withoutBit s.flt.withholding src },
    mode := { s.mode with calLimited := s.mode.calLimited && decide (src ≠ 39) } }

theorem levelEnded_eq (src : Nat) (forced : Bool) (s : State) : levelEnded src forced s = releaseHold
    (if hasBit s.flt.masked src ∨ configured (levelCleared src s) src = 0 then levelCleared src s
     else recordFault src 2 0 (s.flt.datas.getD src 0) forced (levelCleared src s)) := rfl

/-- What the end of a level source leaves in the collector (15 R350). -/
theorem levelEnded_flt (src : Nat) (forced : Bool) (s : State) : (levelEnded src forced s).flt =
    { (levelCleared src s).flt with
      recWindow := (levelEnded src forced s).flt.recWindow, recCounts := (levelEnded src forced s).flt.recCounts,
      heldByReaction := (levelEnded src forced s).flt.heldByReaction, reaction := (levelEnded src forced s).flt.reaction } := by
  rw [levelEnded_eq]
  split
  · rw [releaseHold_flt]
  · rw [releaseHold_flt, recordFault_flt]

@[simp] theorem levelEnded_force (src : Nat) (forced : Bool) (s : State) : (levelEnded src forced s).flt.force = s.flt.force := by
  rw [levelEnded_flt]
  rfl

theorem endForce_force (src : Nat) (s : State) : hasBit (endForce src s).flt.force src = false := by
  unfold endForce
  split
  · dsimp only
    split <;> simp
  · exact eq_false_of_ne_true ‹_›

theorem mpRuns_of_restarting {s : State} (h : s.mp.restarting ≠ none) : mpRuns s = false := by
  simp [mpRuns, Option.isNone_eq_false_iff.mpr (Option.isSome_iff_ne_none.mpr h)]

/-! ### FAULT_CONFIG -/

theorem faultConfigChecks_least {p : List Byte} (hsrc : le p 0 1 ≤ 47) (hreact : le p 1 1 ≤ 6) (hres : le p 2 2 = 0) :
    firstFail (faultConfigChecks p) = if leastReactions.getD (le p 0 1) 0 ≤ le p 1 1 then none else some (eRange, 1) := by
  simp only [faultConfigChecks, firstFail_inRange, firstFail_nil, hsrc, hreact, hres, decide_true, if_true, decide_eq_true_eq]

theorem configureFault_lowered {src r : Nat} (h : r ≤ configured s src) :
    configureFault src r s = { s with cfg := { s.cfg with faults := s.cfg.faults.set src r } } :=
  if_neg (Nat.not_lt.mpr h)

theorem configureFault_cfg (src r : Nat) (s : State) : (configureFault src r s).cfg = { s.cfg with faults := s.cfg.faults.set src r } := by
  unfold configureFault reactRaised
  simp

/-! ### COMP_CONFIG_WRITE -/

theorem setMirror_state (v : Nat) (s : State) :
    let cfg := { s.cfg with comp := { mirrorX := decide (v % 2 = 1), mirrorY := decide (v / 2 % 2 = 1) } }
    (setMirror v s).cfg = cfg ∧ (setMirror v s).comp = { s.comp with chestRef := formChestRef s.comp.chest { s with cfg := cfg } }
      ∧ (setMirror v s).arr = s.arr ∧ (setMirror v s).mode = s.mode := by
  unfold setMirror
  dsimp only
  split <;> exact ⟨rfl, rfl, rfl, rfl⟩

end

/-- Settles O28. -/
theorem forceAndConfigure : Obligations.ForceAndConfigure := by
  intro t m s a src react
  refine ⟨fun h hsrc hact hres => ?_, fun h hsrc hres => ⟨?_, endForce_force src a⟩,
    fun h hsrc hreact hres => ⟨fun hlow => ?_, fun hleast hold => ?_, fun hleast => ?_⟩, fun h hrun hv h1 h2 => ?_⟩
  · have hexec := forceSet_admitted h (forceChecks_pass hsrc (Nat.le_of_eq hact) hres)
    have hrest : ∀ d, src ≠ 1 → (answered m 0 0 [] (assertSource src d true a)).mp.restarting = none := fun d hne => by
      rw [answered_restarting]
      exact assertSource_restarting d true hne (restarting_of_mpRuns (mpRuns_of_admitted h))
    obtain ⟨hlo, hhi⟩ := forcedData_lt src a
    refine ⟨forcedData src a, hlo, hhi, ⟨fun hnone => ?_, fun hsome => ?_⟩, fun hne => ?_⟩
    · rw [hexec, if_neg (by simpa using hnone)]
    · rw [hexec, if_pos (Option.isSome_iff_ne_none.mpr hsome), serveUnknown_stopped]
      exact mpRuns_of_restarting (by rwa [dataLost_restarting])
    · rw [hexec, if_neg (by rw [hrest _ hne]; decide)]
      rfl
  · have hact : le m.payload 1 1 ≤ 1 := by
      have hmine : rowForceClear.mine m = true := admitted_mine h
      simp only [rowForceClear, decide_eq_true_eq] at hmine
      omega
    change execFaultForceClear t m s = _
    exact serve_of_ok h (by rw [checked, forceChecks_pass hsrc hact hres])
  · change execFaultConfig t m s = _
    exact serve_fail h (by rw [faultConfigChecks_least hsrc hreact hres, if_neg (Nat.not_le.mpr hlow)])
  · change execFaultConfig t m s = _
    exact serve_of_ok h (by rw [checked, faultConfigChecks_least hsrc hreact hres, if_pos hleast, configureFault_lowered hold])
  · change NextIs (execFaultConfig t m s) _
    exact ⟨_, serve_of_ok h (by rw [checked, faultConfigChecks_least hsrc hreact hres, if_pos hleast]), by simp [configureFault_cfg, a, src, react]⟩
  · change NextIs (execCompConfigWrite t m s) _
    have state := setMirror_state (le m.payload 0 1) a
    obtain ⟨hcfg, hcomp, harr, hmode⟩ := state
    refine ⟨_, serve_pass h (by simp only [show (taken t m s).sched.running = false from hrun, hv, h1, h2]; rfl), (done_cfg ..).trans hcfg, ?_,
      (done_arr ..).trans harr, (done_mode ..).trans hmode⟩
    rw [done_comp, done_cfg, hcfg]
    exact hcomp

end Sys2Proof.Machine

/-! ## Calibration data and transfer curves (03 R88, 14 R337, R338, R345) -/

namespace Sys2Proof.Machine

/-! ### The calibration rows (12 Table 12.11) -/

theorem calBusy_eq_none_iff {s : State} : calBusy s = none ↔ isRunning s 0x0701 = false ∧ isRunning s 0x0704 = false := by
  simp [calBusy, require_eq_none_iff]

theorem calBusy_of_not {s : State} (h : ¬ (isRunning s 0x0701 = false ∧ isRunning s 0x0704 = false)) : calBusy s = some (eBusy, 0) := by
  unfold calBusy require
  rw [if_neg]
  simpa using h

/-- Checks that end with E_BUSY: the run or the store in progress, once the others pass. -/
theorem firstFail_calBusy {cs : List Check} (hpass : firstFail cs = none) (s : State) : firstFail (cs ++ [calBusy s]) = calBusy s := by
  rw [firstFail_append_of_pass hpass]
  cases calBusy s <;> rfl

theorem checked_pass {cs : List Check} {work : Answer} (h : firstFail cs = none) : checked cs work = work := by rw [checked, h]

@[simp] theorem setCalData_cal (c : CalData) (s : State) : (setCalData c s).conv.cal = c := by
  unfold setCalData
  dsimp only
  split <;> rfl

/-- Settles O30. -/
theorem calibrationData : Obligations.CalibrationData := by
  intro t m s a idle
  refine ⟨fun h hlo hhi hres hin => ?_, fun h hin hpass => ⟨fun hidle => ⟨?_, setCalData_cal _ a⟩, fun hbusy => ?_⟩, fun h hpass => ⟨fun hidle => ?_, fun hbusy => ?_⟩,
    fun h heven hlen hin => ⟨fun hcrc => ?_, fun hcrc hbusy => ?_, fun hcrc hidle => ?_⟩, fun h hpass => ⟨?_, rfl⟩,
    fun h hpass => ⟨fun hgood => ?_, fun k hbad => ?_⟩⟩
  · change execCalRead t m s = _
    exact serve_pass h (by simp [readChecks, between_iff, *])
  · change execCalWrite t m s = _
    refine serve_pass h ?_
    rw [stageRange, decide_eq_true hin]
    exact (firstFail_calBusy hpass a).trans (calBusy_eq_none_iff.mpr hidle)
  · change execCalWrite t m s = _
    refine serve_fail h ?_
    rw [stageRange, decide_eq_true hin]
    exact (firstFail_calBusy hpass a).trans (calBusy_of_not hbusy)
  · change execAgeingCurveWrite t m s = _
    exact serve_pass h ((firstFail_calBusy hpass a).trans (calBusy_eq_none_iff.mpr hidle))
  · change execAgeingCurveWrite t m s = _
    exact serve_fail h ((firstFail_calBusy hpass a).trans (calBusy_of_not hbusy))
  · change execCorrChunk t m s = _
    exact serve_of_failIn h ((checked_pass (by simp [*])).trans (if_neg hcrc))
  · change execCorrChunk t m s = _
    refine serve_of_failIn h ((checked_pass (by simp [*])).trans ((if_pos hcrc).trans ?_))
    rw [show calBusy (cvuJob 3 _ _ (taken t m s)) = some (eBusy, 0) from calBusy_of_not hbusy]
  · change execCorrChunk t m s = _
    refine serve_of_ok h ((checked_pass (by simp [*])).trans ((if_pos hcrc).trans ?_))
    rw [show calBusy (cvuJob 3 _ _ (taken t m s)) = none from calBusy_eq_none_iff.mpr hidle]
    rfl
  · change execTcurveWrite t m s = _
    exact serve_pass h hpass
  · change execTcurveApply t m s = _
    exact serve_of_ok h (by rw [checked, hpass]; simp only [applyCurve]; rw [hgood])
  · change execTcurveApply t m s = _
    exact serve_of_failIn h (by rw [checked, hpass]; simp only [applyCurve]; rw [hbad])

/-! ### A curve in force rises -/

/-- Settles O31. -/
theorem appliedCurveRises : Obligations.AppliedCurveRises := by
  intro t hgood
  unfold badEntry at hgood
  split at hgood
  case isTrue => cases hgood
  case isFalse h0 =>
    split at hgood
    case h_1 => cases hgood
    case h_2 hfind =>
      have hstep : ∀ k, k < 1023 → tcurveEntry t k ≤ tcurveEntry t (k + 1) := by
        intro k hk
        have hmem : k + 1 ∈ (List.range 1024).drop 1 := by
          rw [List.range_eq_range', List.drop_range', List.mem_range'_1]
          omega
        simpa using List.find?_eq_none.mp hfind (k + 1) hmem
      have hlast : tcurveEntry t 1023 = 16383 := by simpa using hgood
      refine ⟨Decidable.not_not.mp h0, hlast, fun i j hij hj => ?_⟩
      induction hij with
      | refl => exact Nat.le_refl _
      | step _ ih => exact Nat.le_trans (ih (by omega)) (hstep _ (by omega))

end Sys2Proof.Machine

/-! ## The calibration run and its count (14 R340, Table 14.5) -/

namespace Sys2Proof.Machine

/-- A reading of 0 without a flag. -/
def nullReading : CalReading := { value := 0, taint := 0, ovr := 0, unr := 0, replaced := 0 }

/-- A pass whose REFCAL reads its nominal 2,500 LSB and whose other readings are 0. -/
def quietPass : CalPass :=
  let refcal := { nullReading with value := 40000 }
  { offsetA := nullReading, offsetB := nullReading, refA := refcal, refB := refcal, tone := nullReading, skew := 0,
    irefA := nullReading, irefB := nullReading, sl := [], probe := nullReading }

/-- A module without CONV_B after two equal passes, whose working set holds byte 4 of COUNT twice: 255 and, behind it, 1. -/
def countHeldTwice : State :=
  { ({} : State) with
    mp := { ({} : Mp) with long := [{ opcode := 0x0701, arrival := 0 }] },
    flash := { ({} : Flash) with trim := { working := [(27, 64)] } },
    fuse := { ({} : Fuses) with variant := .e },
    conv := { ({} : Converters) with passes := [quietPass, quietPass], cal := { working := [(4, 255), (4, 1)] } } }

theorem calRunOutcome_countHeldTwice :
    exec (.calRunOutcome 0 .outcome) countHeldTwice = .next (judgeRun quietPass quietPass (advance 0 countHeldTwice)) := rfl

theorem count_after_countHeldTwice : calU (judgeRun quietPass quietPass (advance 0 countHeldTwice)).conv.cal 4 4 = 257 := by decide

/-- Refutes O29: the statement is about every state, and not every state holds its stores in canonical form. Where the working set lists a
byte of COUNT twice, writing 0 there removes the first entry alone: COUNT goes from 255 to 257, not to 256. -/
theorem not_calibrationRun : ¬ Obligations.CalibrationRun := by
  intro h
  obtain ⟨-, -, -, houtcome⟩ := And.imp_right (fun run => run (by decide)) (h 0 countHeldTwice)
  obtain ⟨-, -, happlied⟩ := houtcome quietPass quietPass rfl
  obtain ⟨u, hu, -, -, -, -, -, -, hcount⟩ := happlied (by decide) (by decide) (by decide)
  rw [calRunOutcome_countHeldTwice] at hu
  cases hu
  rw [count_after_countHeldTwice] at hcount
  exact absurd hcount (by decide)

end Sys2Proof.Machine

/-! ## IDLE, the way back to light, STANDBY (18 R408 to R413) -/

namespace Sys2Proof.Machine

/-! ### A schedule runs in FULL or SAFE, and no assertion without its block action ends it -/

/-- The module shows frames. -/
structure ShowsFrames (s : State) : Prop where
  running : s.sched.running = true
  op : s.mode.op = .full ∨ s.mode.op = .safe

section
variable {s : State} (h : ShowsFrames s)
include h

theorem ShowsFrames.of_eq {u : State} (hs : u.sched.running = s.sched.running) (hm : u.mode.op = s.mode.op) : ShowsFrames u :=
  ⟨hs.trans h.running, hm ▸ h.op⟩

theorem goSafe_showsFrames (kind cause : Nat) : ShowsFrames (goSafe kind cause s) := ⟨by simpa using h.running, by simp⟩

theorem withholdCurrent_showsFrames : ShowsFrames (withholdCurrent s) := by
  refine h.of_eq ?_ (by simp)
  unfold withholdCurrent
  (repeat' split) <;> rfl

theorem addWithhold_showsFrames : ShowsFrames (addWithhold s) := by
  refine h.of_eq ?_ (by simp)
  unfold addWithhold
  dsimp only
  split <;> rfl

theorem switchOff_showsFrames (slots : List Nat) : ShowsFrames (switchOff slots s) := by
  refine h.of_eq ?_ (by simp)
  unfold switchOff
  dsimp only
  (repeat' split) <;> rfl

theorem withholdBy_showsFrames (src data : Nat) : ShowsFrames (withholdBy src data s) := by
  unfold withholdBy
  split
  · exact (withholdCurrent_showsFrames h).of_eq rfl rfl
  · split
    · exact addWithhold_showsFrames (h.of_eq rfl rfl)
    · exact addWithhold_showsFrames h

theorem react_showsFrames (src data r : Nat) : ShowsFrames (react src data r s) := by
  have shown : ShowsFrames (if r = 2 then (if heldReaction s < 2 then switchOff (namedSlots s src data) s else s)
      else if r = 3 then (if heldReaction s < 3 then withholdBy src data s else s)
      else if 4 ≤ r then
        let u := raiseReaction r (goSafe (r - 2) (if src = 36 then 2 else 0) s)
        { u with flt := { u.flt with recovering := none }, mode := { u.mode with calLimited := u.mode.calLimited || decide (src = 39) } }
      else s) := by
    split
    · split
      · exact switchOff_showsFrames h _
      · exact h
    · split
      · split
        · exact withholdBy_showsFrames h src data
        · exact h
      · split
        · exact (goSafe_showsFrames h _ _).of_eq rfl rfl
        · exact h
  obtain hop | hop := h.op
  · simpa [react, hop] using shown
  · simpa [react, hop] using shown

theorem settleFails_showsFrames : ShowsFrames (settleFails s) := by
  unfold settleFails
  split
  · exact h
  · dsimp only
    split
    · exact ⟨by simpa using h.running, by simp⟩
    · exact h.of_eq rfl rfl

theorem interruptRun_showsFrames : ShowsFrames (interruptRun s) := h.of_eq (by simp [interruptRun, rejectRun]) (by simp [interruptRun, rejectRun])

theorem deliver_showsFrames (src data : Nat) (forced : Bool) : ShowsFrames (deliver src data forced false s) := by
  unfold deliver
  split
  · exact h.of_eq (by simp) (by simp)
  · rw [if_neg Bool.false_ne_true]
    have hreact : ∀ u : State, u.sched.running = s.sched.running → u.mode.op = s.mode.op → ∀ r, ShowsFrames (react src data r u) :=
      fun u hs hm r => react_showsFrames (h.of_eq hs hm) src data r
    split
    · exact settleFails_showsFrames (hreact _ (by split <;> simp) (by split <;> simp) _)
    · split
      · exact interruptRun_showsFrames (hreact _ (by split <;> simp) (by split <;> simp) _)
      · exact hreact _ (by split <;> simp) (by split <;> simp) _

theorem assertAnew_showsFrames : ShowsFrames (assertAnew s) := by
  unfold assertAnew
  generalize List.range 48 = l
  induction l generalizing s with
  | nil => exact h
  | cons n l ih =>
    refine ih ?_
    dsimp only
    split
    · exact deliver_showsFrames h n _ _
    · exact h

theorem applyTarget_showsFrames : ShowsFrames (applyTarget s) := by
  have light : ∀ u : State, u.sched.running = s.sched.running → u.mode.op = s.mode.op → ShowsFrames (targetLight u) := by
    intro u hs hm
    obtain hop | hop := (h.of_eq hs hm).op <;>
    · simp only [targetLight, hop]
      exact (goSafe_showsFrames (h.of_eq hs hm) _ _).of_eq rfl rfl
  have applied : ShowsFrames (targetLight { s with dim := { s.dim with state := .applied, envelope := s.dim.iEnd } }) := light _ rfl rfl
  exact applied.of_eq (by simp [applyTarget]) (by simp [applyTarget])

end

/-- The entry to FULL starts the schedule; a demand or a fault that is still there may lead on to SAFE at once. -/
theorem enterFull_showsFrames (s : State) : ShowsFrames (enterFull s) := by
  unfold enterFull
  extract_lets idle mode flt dim s1 s2 s3
  have h2 : ShowsFrames s2 := ⟨by simp [s2, startSchedule, apply_ite State.sched], .inl (by simp [s2, s1, startSchedule, apply_ite State.mode])⟩
  refine assertAnew_showsFrames ?_
  unfold s3
  split
  · exact applyTarget_showsFrames h2
  · exact h2

/-! ### STANDBY -/

/-- What the loss of the sessions leaves. -/
@[simp] theorem loseAllSessions_leaves (s : State) :
    (loseAllSessions s).flash = s.flash ∧ (loseAllSessions s).fuse = s.fuse ∧ (loseAllSessions s).cfg = s.cfg ∧ (loseAllSessions s).mode = s.mode
      ∧ (loseAllSessions s).arr = s.arr :=
  have keeps {β} (g : State → β) (h : ∀ s (x : Session), g (countLost (dropPending x.id s)) = g s) := foldl_keeps g h s.gate.sessions s
  ⟨keeps State.flash (by simp), keeps State.fuse (by simp), keeps State.cfg (by simp), keeps State.mode (by simp),
    keeps State.arr (by simp)⟩

/-- What the module holds in STANDBY (18 Table 18.2): flash and fuses, the wake sources, and the configuration and the log where their banks are
retained. -/
theorem enterStandby_state (m : Msg) (e : EntryWatch) (s : State) :
    let u := enterStandby m e s
    u.mode.op = .standby ∧ u.arr.drvEn = false ∧ u.gate.sessions = [] ∧ u.sched.running = false ∧ u.flash = s.flash ∧ u.fuse = s.fuse
      ∧ u.pwr.wakeSel = wakeSources (standbyWake m) ∧ u.pwr.timer = standbyTimer m ∧ u.pwr.retain = standbyRetain m
      ∧ u.cfg = (if standbyRetain m / 16 % 2 = 1 then s.cfg else {}) ∧ (standbyRetain m / 2 % 2 = 0 → u.log = {}) := by
  refine ⟨rfl, rfl, rfl, rfl, by simp [enterStandby, dropPower], by simp [enterStandby, dropPower], rfl, rfl, rfl,
    by simp [enterStandby, dropPower], fun h => ?_⟩
  simp [enterStandby, dropPower, h]

/-- STANDBY_REQUEST without a refuser: the reply, and then the entry, after which no message is served. -/
theorem standbyRequest_enters {t : Nat} {m : Msg} {s : State} (e : EntryWatch) (h : admitted t rowStandby unitFree m s = true)
    (hpass : firstFail (standbyChecks m) = none) (hfree : refuser m (taken t m s) = none) :
    exec (.standbyRequest t m e) s = .next (enterStandby m e (answered m 0 0 [] (taken t m s))) := by
  change execStandbyRequest t m e s = _
  unfold execStandbyRequest
  rw [serveThen_admitted h]
  simp only [checked_pass hpass, hfree]
  exact congrArg _ (serveUnknown_stopped rfl)

/-- Settles O32. -/
theorem powerRequests : Obligations.PowerRequests := by
  intro t m s a
  refine ⟨fun h => ⟨fun hramp => ?_, fun hramp => ?_⟩, fun h => ⟨?_, ?_⟩, fun e h hpass => ⟨fun id hid => ?_, fun hfree => ?_⟩⟩
  · change execIdleRequest t m s = _
    exact serve_of_ok h (by rw [startIdleRamp, if_pos (Option.isSome_iff_ne_none.mpr hramp)])
  · change execIdleRequest t m s = _
    exact serve_of_ok h (by rw [startIdleRamp, if_neg (by rw [show (taken t m s).dim.idleRamp = none from hramp]; decide)])
  · change execWakeToLight t m s = _
    exact serve_of_ok h rfl
  · have shows := enterFull_showsFrames (interruptRun a)
    exact ⟨shows.running, shows.op⟩
  · change execStandbyRequest t m e s = _
    unfold execStandbyRequest
    rw [serveThen_admitted h]
    simp only [checked_pass hpass, show refuser m (taken t m s) = some id from hid]
    rfl
  · have state := enterStandby_state m e (answered m 0 0 [] a)
    obtain ⟨hop, hdrv, hsessions, hrun, hflash, hfuse, hwake, htimer, hretain, hcfg, hlog⟩ := state
    refine ⟨_, standbyRequest_enters e h hpass hfree, hop, hdrv, hsessions, hrun, hflash.trans (answered_flash ..), hfuse.trans (answered_fuse ..),
      hwake, htimer, hretain, fun hbank => ?_, fun hbank => ?_, hlog⟩
    · exact (hcfg.trans (if_pos hbank)).trans (answered_cfg ..)
    · exact hcfg.trans (if_neg (by rw [standbyRetain]; omega))

end Sys2Proof.Machine

/-! ## The sync group, sessions, and the lifecycle (05 R127, R137, 11 R262 to R264, 19 R430 to R433, R446) -/

namespace Sys2Proof.Machine

/-! ### SYNC_CONFIG_WRITE and SYNC_ENUMERATE -/

theorem syncConfigChecks_pass {s : State} {p : List Byte} (hrun : s.sched.running = false) (hlo : 1 ≤ le p 0 2) (hhi : le p 0 2 ≤ 512)
    (hrole : le p 2 1 ≤ 1) (hres : le p 3 1 = 0) :
    firstFail [require (!s.sched.running) eState, inRange (between (le p 0 2) 1 512) 0, inRange (decide (le p 2 1 ≤ 1)) 2,
      inRange (decide (le p 3 1 = 0)) 3] = none := by
  simp [between_iff, hrun, hlo, hhi, hrole, hres]

/-- Settles O33. -/
theorem syncRequests : Obligations.SyncRequests := by
  intro t m s a
  refine ⟨fun h hrun hlo hhi hrole hres => ⟨fun hhead => ?_, fun hauto hmember => ?_⟩, fun h => ⟨fun hhead hrun => ⟨?_, by simp [becomeHead]⟩, fun hnot => ?_⟩⟩
  · change NextIs (execSyncConfigWrite t m s) _
    refine ⟨_, serve_pass h (syncConfigChecks_pass hrun hlo hhi hrole hres), ?_⟩
    dsimp only
    rw [writeSync, if_pos hhead]
    simp [headNow, becomeHead, a, show s.sched.running = false by simpa [a] using hrun]
  · change execSyncConfigWrite t m s = _
    refine serve_of_ok h ((checked_pass (syncConfigChecks_pass hrun hlo hhi hrole hres)).trans ?_)
    have hstays : ¬ (le m.payload 2 1 = 1 ∨ a.sync.role = .head) := by simp [hauto, hmember]
    exact congrArg (Answer.ok []) (if_neg hstays)
  · change execSyncEnumerate t m s = _
    exact serve_pass h (by simpa [a] using And.intro hhead hrun)
  · change execSyncEnumerate t m s = _
    have hrefused : (decide (a.sync.role = .head) && !a.sched.running) = false := by
      obtain hrole | hrun := hnot <;> simp [*]
    exact serve_fail h (by rw [firstFail_require, show (decide ((taken t m s).sync.role = .head) && !(taken t m s).sched.running) = false from hrefused]; rfl)

/-! ### Sessions -/

theorem find?_filter_ne (l : List Session) (id k : Nat) :
    (l.filter fun x => decide (x.id ≠ id)).find? (fun x => decide (x.id = k)) = if k = id then none else l.find? fun x => decide (x.id = k) := by
  rw [List.find?_filter]
  split
  case isTrue h => exact List.find?_eq_none.mpr fun x _ => by simp [h]
  case isFalse h =>
    congr 1
    funext x
    by_cases hx : x.id = k
    · simp [hx, h]
    · simp [hx]

/-- A lost session is gone, and the others stay (11 R264). -/
@[simp] theorem findSession_loseSession (id k : Nat) (s : State) :
    findSession (loseSession id s) k = if k = id then none else findSession s k := find?_filter_ne s.gate.sessions id k

@[simp] theorem findSession_record (source code data : Nat) (s : State) (k : Nat) : findSession (record source code data s) k = findSession s k := rfl

/-- The pending changes of a lost session are discarded (06 R148). -/
theorem pend_loseSession {id n : Nat} {s : State} {p : Pending} (h : (slotAt (loseSession id s) n).pend = some p) : p.session ≠ id := by
  rw [loseSession, slotAt_dropPending] at h
  exact withoutPend_pend h

/-- The answer over a session whose FRESHNESS lasts keeps every session. -/
theorem findSession_answered {m : Msg} {x : Session} {s : State} (status detail : Nat) (data : List Byte) (hs : findSession s m.session = some x)
    (h0 : m.session ≠ 0) (hm : m.freshness ≠ 0xFFFFFFFF) (hx : x.freshOut < 0xFFFFFFFE) :
    (findSession (answered m status detail data s) m.session).isSome = true
      ∧ ∀ i, i ≠ m.session → findSession (answered m status detail data s) i = findSession s i := by
  by_cases hq : status ≠ 0 ∨ msgNoReply m = false
  · rw [answered_replied detail data hs h0 hm hx hq]
    simp only [findSession_noteServed, replyTagged, hs, findSession_pushReply]
    refine ⟨?_, fun i hi => ?_⟩
    · simp [findSession_updSession, hs]
    · simp [findSession_updSession, hi]
  · obtain ⟨hstatus, hquiet⟩ := not_or.mp hq
    rw [Decidable.not_not.mp hstatus, answered_silent detail data hs hm (by omega) (by simpa using hquiet)]
    exact ⟨by simp [hs], fun i _ => by simp⟩

section
variable {t : Nat} {m : Msg} {nonce : List Byte} {s : State} (hn : nonce.length = 16) (hmp : mpRuns (ready t s) = true)
  (hnext : nextToServe (ready t s) = some m) (hop : m.opcode = 0x0A01) (h0 : m.session = 0)
include hn hmp hnext hop h0

theorem sessionOpen_refused {st d : Nat} (hfail : openChecks m (taken t m s) = some (st, d)) :
    exec (.sessionOpen t m nonce) s = .next (serveUnknown (noteServed m st none (taken t m s) (replyUntagged m st d (taken t m s)))) := by
  change execSessionOpen t m nonce s = _
  unfold taken ready at *
  simp only [execSessionOpen, hn, hmp, hnext, hop, h0, hfail, ne_eq, not_true_eq_false, if_false, decide_true, Bool.and_true, Bool.not_true,
    Bool.false_eq_true]

theorem sessionOpen_opens {k : List Byte} (hpass : openChecks m (taken t m s) = none) (hkey : domainKey (taken t m s) (openDomain m) = some k) :
    exec (.sessionOpen t m nonce) s = .next (serveUnknown (openSession m k nonce (taken t m s))) := by
  change execSessionOpen t m nonce s = _
  unfold taken ready at *
  simp only [execSessionOpen, hn, hmp, hnext, hop, h0, hpass, hkey, ne_eq, not_true_eq_false, if_false, decide_true, Bool.and_true, Bool.not_true,
    Bool.false_eq_true]

end

/-- The session that SESSION_OPEN adds (19 R433). -/
theorem openSession_adds (m : Msg) (k nonce : List Byte) (s : State) :
    let id := nextSessionId s
    let u := openSession m k nonce s
    ∃ x, u.gate.sessions = s.gate.sessions ++ [x] ∧ x.id = id ∧ x.domain = domainOf (openDomain m) ∧ x.ep = m.ep
      ∧ x.kHm = kdf k labelH2m (u64 s.fuse.serial ++ u16 id ++ (m.payload.drop 4).take 16 ++ nonce)
      ∧ x.kMh = kdf k labelM2h (u64 s.fuse.serial ++ u16 id ++ (m.payload.drop 4).take 16 ++ nonce)
      ∧ x.freshHigh = 0 ∧ x.freshNorm = 0 ∧ x.freshBulk = 0 ∧ x.high = [] ∧ x.norm = [] ∧ x.bulk = [] ∧ u.upd.opens = incr32 s.upd.opens := by
  unfold openSession
  dsimp only
  split
  · exact ⟨_, rfl, rfl, rfl, rfl, rfl, rfl, rfl, rfl, rfl, rfl, rfl, rfl, rfl⟩
  · exact ⟨_, by simp [noteServed, pushReply_gate]; rfl, rfl, rfl, rfl, rfl, rfl, rfl, rfl, rfl, rfl, rfl, rfl, by simp [noteServed]⟩

theorem openChecks_full {m : Msg} {s : State} (hop : isAny s.mode.op = true) (hshape : plainShape 20 m = true) (hflags : m.flags < 8)
    (hres : m.reserved = 0) (hzero : le m.payload 1 3 = 0) (hcan : openDomain m = 3 → m.ep.viaCan = true)
    (hloader : s.mode.op = .loader → openDomain m = 0 ∨ openDomain m = 3) (hfull : 8 ≤ s.gate.sessions.length) :
    openChecks m s = some (eCapacity, 0) := by
  have hcan' : (decide (openDomain m ≠ 3) || m.ep.viaCan) = true := by
    by_cases h : openDomain m = 3 <;> simp [h, hcan]
  have hloader' : (decide (s.mode.op ≠ .loader) || decide (openDomain m = 0) || decide (openDomain m = 3)) = true := by
    by_cases h : s.mode.op = .loader
    · simpa [h] using hloader h
    · simp [h]
  have hcap : decide (s.gate.sessions.length < 8) = false := decide_eq_false (by omega)
  simp only [openChecks, firstFail_require, firstFail_inRange, hop, hshape, hflags, hres, hzero, hcan', hloader', hcap, decide_true, Bool.and_self, if_true]
  rfl

/-- Settles O34. -/
theorem sessionsOpenAndClose : Obligations.SessionsOpenAndClose := by
  refine ⟨fun t m nonce s k => ?_, fun t m s x h => ?_, fun t id s x hx => ⟨fun hidle => ?_, fun hlive => ?_⟩⟩
  · intro a id hn hmp hnext hop h0
    exact ⟨fun hpass hkey => ⟨sessionOpen_opens hn hmp hnext hop h0 hpass hkey, openSession_adds m k nonce a⟩,
      fun hstate hshape hflags hres hzero hcan hloader hfull =>
        sessionOpen_refused hn hmp hnext hop h0 (openChecks_full hstate hshape hflags hres hzero hcan hloader hfull)⟩
  · intro a hx h0 hfresh hout u
    obtain ⟨hopen, hothers⟩ := findSession_answered 0 0 [] hx h0 hfresh hout
    refine ⟨?_, by simp [u], fun i hi => ?_, fun n p hp => pend_loseSession hp⟩
    · change execSessionClose t m s = _
      unfold execSessionClose
      rw [serveThen_admitted h]
      exact congrArg (fun v => Host.Outcome.next (serveUnknown v)) (if_pos hopen)
    · simp [u, hi, hothers]
  · refine ⟨countLost (loseSession id (record srcGate 0x0003 id (advance t s))), ?_, ?_, ?_, fun i hi => ?_⟩
    · change execSessionIdleLost t id s = _
      simp only [execSessionIdleLost, hx]
      exact if_pos (by simpa using hidle)
    · exact (findSession_loseSession id id _).trans (if_pos rfl)
    · simp [countLost, loseSession]
    · refine (findSession_loseSession id i _).trans ((if_neg hi).trans ?_)
      simp [findSession]
  · change execSessionIdleLost t id s = _
    simp only [execSessionIdleLost, hx]
    exact if_neg (by simpa using hlive)

/-! ### Lifecycle and zeroisation -/

theorem lifecycleChecks_eq {s : State} {p : List Byte} (hlo : 1 ≤ le p 0 1) (hhi : le p 0 1 ≤ 3) (hres : le p 1 3 = 0)
    (hserial : le p 4 4 = s.fuse.serial % 4294967296) :
    firstFail (lifecycleChecks p s) = if le p 0 1 = s.fuse.lifecycle + 1 ∧ (le p 0 1 ≠ 1 ∨ keysPresent s = true) then none else some (eState, 0) := by
  by_cases hnext : le p 0 1 = s.fuse.lifecycle + 1 <;> by_cases hone : le p 0 1 = 1 <;> cases hkeys : keysPresent s <;>
    simp_all [lifecycleChecks, between_iff, serialLow]

@[simp] theorem advanceTo_leaves (target : Nat) (s : State) : (advanceTo target s).mode = s.mode ∧ (advanceTo target s).arr = s.arr := ⟨rfl, rfl⟩

theorem advanceTo_fuse (target : Nat) (s : State) :
    (advanceTo target s).fuse = { s.fuse with lifecycle := target, debugBlown := s.fuse.debugBlown || decide (2 ≤ target) } := rfl

/-- What zeroisation leaves (19 R446). -/
theorem zeroise_state (s : State) :
    (zeroise s).mode = s.mode ∧ (zeroise s).arr = s.arr ∧ (zeroise s).gate.openings = [] ∧ (zeroise s).gate.sessions = [] ∧ (zeroise s).fuse =
      { s.fuse with
        lifecycle := 3, zeroised := true, keys := List.replicate 4 (List.replicate 16 0), imgPub := List.replicate 2 (List.replicate 64 0) } := by
  refine ⟨by simp [zeroise], by simp [zeroise], rfl, rfl, by simp [zeroise, -List.reduceReplicate]⟩

/-- Without a session nothing is left to serve. -/
theorem serveUnknown_zeroise (s : State) : serveUnknown (zeroise s) = zeroise s := by
  obtain ⟨-, -, hopen, hsessions, -⟩ := zeroise_state s
  exact serveUnknown_none (by simp [nextToServe, heads, hsessions, openingsOf, hopen, headOf, firstHead])

/-- LIFECYCLE_ADVANCE, when its checks pass: answered once the fuses are blown; the advance to SCRAPPED is answered first. -/
theorem lifecycleAdvance_passes {t : Nat} {m : Msg} {s : State} (h : admitted t rowLifecycle unitFree m s = true)
    (hpass : firstFail (lifecycleChecks m.payload (taken t m s)) = none) :
    (le m.payload 0 1 ≠ 3 → exec (.lifecycleAdvance t m) s = .next (done m 0 0 [] (advanceTo (le m.payload 0 1) (taken t m s))))
    ∧ (le m.payload 0 1 = 3 → exec (.lifecycleAdvance t m) s = .next (zeroise (advanceTo 3 (answered m 0 0 [] (taken t m s))))) := by
  change (_ → execLifecycleAdvance t m s = _) ∧ (_ → execLifecycleAdvance t m s = _)
  unfold execLifecycleAdvance
  rw [serveThen_admitted h]
  simp only [checked_pass hpass]
  refine ⟨fun hne => ?_, fun heq => ?_⟩
  · simp only [hne, if_false]
    rfl
  · simp only [heq, if_true, serveUnknown_zeroise]

/-- Settles O35. -/
theorem lifecycleAndZeroise : Obligations.LifecycleAndZeroise := by
  intro t m s a serial cleared
  refine ⟨fun h hzero hserial hlo hhi => ⟨fun hnext => ?_, fun hnext hone hkeys => ?_, fun hnext htwo => ?_, fun hnext hthree => ?_⟩,
    fun h => ⟨fun hserial => ?_, fun hserial => ?_⟩⟩
  · change execLifecycleAdvance t m s = _
    unfold execLifecycleAdvance
    rw [serveThen_admitted h]
    have hfail := (lifecycleChecks_eq hlo hhi hzero hserial).trans (if_neg fun hpass => hnext hpass.1)
    simp only [checked, show firstFail (lifecycleChecks m.payload (taken t m s)) = some (eState, 0) from hfail]
    rfl
  · have hpass := (lifecycleChecks_eq hlo hhi hzero hserial).trans (if_pos ⟨hnext, .inr hkeys⟩)
    refine ⟨_, (lifecycleAdvance_passes h hpass).1 (by omega), by simp [a], by simp [a], ?_⟩
    simp [advanceTo_fuse, hone, a]
  · have hpass := (lifecycleChecks_eq hlo hhi hzero hserial).trans (if_pos ⟨hnext, .inl (by omega)⟩)
    refine ⟨_, (lifecycleAdvance_passes h hpass).1 (by omega), by simp [a], by simp [a], ?_⟩
    simp [advanceTo_fuse, htwo, a]
  · have hpass := (lifecycleChecks_eq hlo hhi hzero hserial).trans (if_pos ⟨hnext, .inl (by omega)⟩)
    obtain ⟨hmode, harr, -, hsessions, hfuse⟩ := zeroise_state (advanceTo 3 (answered m 0 0 [] a))
    refine ⟨_, (lifecycleAdvance_passes h hpass).2 hthree, hmode.trans ?_, harr.trans ?_, hsessions, hfuse.trans ?_⟩
    · simp
    · simp
    · simp [advanceTo_fuse, cleared, -List.reduceReplicate]
  · obtain ⟨hmode, harr, -, hsessions, hfuse⟩ := zeroise_state (answered m 0 0 [] a)
    refine ⟨zeroise (answered m 0 0 [] a), ?_, hmode.trans (answered_mode ..), harr.trans (answered_arr ..), hsessions, hfuse.trans ?_⟩
    · change execZeroise t m s = _
      unfold execZeroise
      rw [serveThen_admitted h]
      simp only [checked_pass (cs := [inRange (decide (le m.payload 0 4 = serialLow (taken t m s))) 0]) (by simpa [serialLow, serial, a] using hserial),
        serveUnknown_zeroise]
      rfl
    · rw [answered_fuse]
  · change execZeroise t m s = _
    unfold execZeroise
    rw [serveThen_admitted h]
    simp only [checked, firstFail_inRange]
    rw [if_neg (by simpa [serialLow, serial, a] using hserial)]

end Sys2Proof.Machine

/-! ## The firmware update (19 R437 to R445, Table 19.6) -/

namespace Sys2Proof.Machine

/-! ### Assertions and restarts leave the image and its record -/

/-- The image in flash and the control record are the same. -/
abbrev FirmwareKept (s u : State) : Prop := u.flash.control = s.flash.control ∧ u.flash.image = s.flash.image

@[simp] theorem dropLong_firmware (s : State) : FirmwareKept s (dropLong s) := by
  simp [FirmwareKept, dropLong, setSlot, apply_ite Flash.control, apply_ite Flash.image]

@[simp] theorem interruptRun_flash (s : State) : (interruptRun s).flash = s.flash := by simp [interruptRun, rejectRun]

@[simp] theorem beginModuleReset_firmware (s : State) : FirmwareKept s (beginModuleReset s) := by
  cases h : s.mode.op <;> simp [FirmwareKept, beginModuleReset, h, apply_ite Flash.control, apply_ite Flash.image]

@[simp] theorem reinitialise_flash (s : State) : (reinitialise s).flash = s.flash := by simp [reinitialise]

@[simp] theorem dataLost_flash (s : State) : (dataLost s).flash = s.flash := by
  cases h : s.mp.served with
  | none => simp [dataLost, h]
  | some x => cases hr : x.reply <;> simp [dataLost, h, hr]

@[simp] theorem dropActivation_flash (s : State) : (dropActivation s).flash = s.flash := by
  cases h : s.comp.activation <;> simp [dropActivation, h]

@[simp] theorem beginMpRestart_firmware (second inHand : Bool) (s : State) : FirmwareKept s (beginMpRestart second inHand s) := by
  simp [FirmwareKept, beginMpRestart]

theorem drawersStop_keeps {β : Type} (g : State → β) (hdrw : ∀ (s : State) d, g { s with drw := d } = g s)
    (hrec : ∀ a b c s, g (record a b c s) = g s) (s : State) : g (drawersStop s) = g s := by
  unfold drawersStop mapSlots
  rw [hdrw, retireDue_keeps g hdrw (fun _ _ s => hdrw s _) hrec, foldl_keeps g (fun s c => applyCommit_keeps g hdrw hrec _ s), hdrw]

@[simp] theorem drawersStop_flash (s : State) : (drawersStop s).flash = s.flash := drawersStop_keeps State.flash (by simp) (by simp) s

@[simp] theorem stopSchedule_flash (s : State) : (stopSchedule s).flash = s.flash := by
  unfold stopSchedule
  split
  · rfl
  · simp [takePendingDepth, checkLen]

@[simp] theorem enterBrownout_firmware (before : Nat) (s : State) : FirmwareKept s (enterBrownout before s) := by
  simp [FirmwareKept, enterBrownout]

@[simp] theorem blockAction_firmware (src data before : Nat) (s : State) : FirmwareKept s (blockAction src data before s) := by
  unfold FirmwareKept blockAction
  (repeat' split) <;> simp

@[simp] theorem deliver_firmware (src data : Nat) (forced act : Bool) (s : State) : FirmwareKept s (deliver src data forced act s) := by
  unfold FirmwareKept deliver
  split
  · simp
  · cases act <;> simp

@[simp] theorem assertSource_firmware (src data : Nat) (forced : Bool) (s : State) : FirmwareKept s (assertSource src data forced s) := by
  rw [assertSource_eq]
  split
  · exact ⟨rfl, rfl⟩
  · simp [FirmwareKept, conditionNoted]

/-! ### An entry to BOOT leaves them too -/

theorem foldl_firmware {α : Type} {s : State} {f : State → α → State} (hf : ∀ u x, FirmwareKept s u → FirmwareKept s (f u x)) (l : List α)
    {u : State} (h : FirmwareKept s u) : FirmwareKept s (l.foldl f u) := by
  induction l generalizing u with
  | nil => exact h
  | cons x l ih => exact ih (hf u x h)

@[simp] theorem startCollector_firmware (s : State) : FirmwareKept s (startCollector s) := by
  refine foldl_firmware (fun u n hu => ?_) _ ⟨rfl, rfl⟩
  split
  · simpa [FirmwareKept] using hu
  · exact hu

@[simp] theorem levelSource_firmware (src data : Nat) (on : Bool) (s : State) : FirmwareKept s (levelSource src data on s) := by
  cases on <;> simp [FirmwareKept, levelSource]

@[simp] theorem trainDram_firmware (ws : List (List LaneSweep)) (s : State) : FirmwareKept s (trainDram ws s) := by
  simp [FirmwareKept, trainDram]

@[simp] theorem loadSafety_flash (s : State) : (loadSafety s).1.flash = s.flash := by
  unfold loadSafety
  split <;> rfl

@[simp] theorem loadSettle_flash (boot : BootInputs) (s : State) : (loadSettle boot s).1.flash = s.flash := by
  have h := loadSafety_flash s
  unfold loadSettle
  split
  case h_1 heq => rw [heq] at h; split <;> exact h
  case h_2 heq => rw [heq] at h; exact h

theorem bootSteps_firmware (train : Bool) (lost : Nat) (boot : BootInputs) (s : State) : FirmwareKept s (bootSteps train lost boot s) := by
  unfold bootSteps
  extract_lets time dim link can s1 s2
  have h2 : s2.flash = s.flash := by simp [s2, s1, bootSync, apply_ite State.flash]
  have h3 : (if train then loadSettle boot s2 else (s2, true)).1.flash = s.flash := by
    split
    · rw [loadSettle_flash, h2]
    · exact h2
  generalize (if train then loadSettle boot s2 else (s2, true)) = x at h3 ⊢
  obtain ⟨s3, ok⟩ := x
  dsimp only at h3 ⊢
  have h4 : FirmwareKept s (startCollector (forbidFlash (checkLoader boot.loaderOk s3))) := by
    simp [FirmwareKept, forbidFlash, checkLoader, apply_ite State.flash, h3]
  generalize startCollector (forbidFlash (checkLoader boot.loaderOk s3)) = s4 at h4 ⊢
  by_cases hl : lost = 0 <;> cases train <;> cases ok <;> simpa [FirmwareKept, hl] using h4

theorem warmStart_firmware (boot : BootInputs) (s : State) : FirmwareKept s (warmStart boot s) := by
  have keeps : ∀ {v u : State}, FirmwareKept s v → FirmwareKept v u → FirmwareKept s u := fun hv hu => ⟨hu.1.trans hv.1, hu.2.trans hv.2⟩
  unfold warmStart
  exact keeps (by simp [FirmwareKept, bootDrawers]) (bootSteps_firmware _ _ _ _)

end Sys2Proof.Machine

/-! ## The update rows (19 R437 to R445, 12 Table 12.13) -/

namespace Sys2Proof.Machine

/-! ### Rows that end with a module reset -/

/-- A row that restarts the module after its reply. -/
theorem serveThen_warmStart {t : Nat} {r : Row} {m : Msg} {cs : State → List Check} {f : State → State} (boot : BootInputs) {s : State}
    (h : admitted t r unitFree m s = true) (hpass : firstFail (cs (taken t m s)) = none) :
    serveThen t r unitFree m (fun s => checked (cs s) (.ok [] (f s))) (warmStart boot) s
      = .next (warmStart boot (answered m 0 0 [] (f (taken t m s)))) := by
  rw [serveThen_admitted h]
  simp only [checked, hpass]
  rw [(warmStart_inBoot boot _).serveUnknown]

theorem serveThen_fail {t st d : Nat} {r : Row} {m : Msg} {cs : State → List Check} {f : State → State} {after : State → State} {s : State}
    (h : admitted t r unitFree m s = true) (hfail : firstFail (cs (taken t m s)) = some (st, d)) :
    serveThen t r unitFree m (fun s => checked (cs s) (.ok [] (f s))) after s = .next (done m st d [] (taken t m s)) := by
  rw [serveThen_admitted h]
  simp only [checked, hfail]

/-- What the module holds of the image after such a row: the record that the row wrote, and the fuses. -/
theorem warmStart_answered (boot : BootInputs) (m : Msg) (s : State) :
    let u := warmStart boot (answered m 0 0 [] s)
    u.mode.op = .boot ∧ u.flash.control = s.flash.control ∧ u.flash.image = s.flash.image ∧ u.fuse = s.fuse := by
  have hreset := warmStart_resetTo boot (answered m 0 0 [] s)
  obtain ⟨hcontrol, himage⟩ := warmStart_firmware boot (answered m 0 0 [] s)
  exact ⟨hreset.boot.op, by simpa using hcontrol, by simpa using himage, by simpa using hreset.fuse⟩

@[simp] theorem writeControl_control (f : ControlRec → ControlRec) (s : State) :
    (writeControl f s).flash.control = { f s.flash.control with sequence := s.flash.control.sequence + 1 } := rfl

@[simp] theorem writeControl_leaves (f : ControlRec → ControlRec) (s : State) :
    (writeControl f s).flash.image = s.flash.image ∧ (writeControl f s).fuse = s.fuse ∧ (writeControl f s).mode = s.mode
      ∧ (writeControl f s).upd = s.upd := ⟨rfl, rfl, rfl, rfl⟩

/-! ### Long operations go on while messages are served -/

@[simp] theorem isRunning_answered (m : Msg) (st d opcode : Nat) (data : List Byte) (s : State) :
    isRunning (answered m st d data s) opcode = isRunning s opcode := by
  have hlong : (answered m st d data s).mp.long = s.mp.long := by
    rw [answered, freshEnd_mp]
    change (replyTo m st d data s).mp.long = _
    rw [replyTo_mp]
  rw [isRunning, hlong, isRunning]

@[simp] theorem isRunning_dequeue (m : Msg) (opcode : Nat) (s : State) : isRunning (dequeue m s) opcode = isRunning s opcode := by
  simp only [isRunning, dequeue_mp]

@[simp] theorem isRunning_serveUnknowns (n opcode : Nat) (s : State) : isRunning (serveUnknowns n s) opcode = isRunning s opcode := by
  induction n generalizing s with
  | zero => rfl
  | succ n ih =>
    cases h : nextToServe s with
    | none => simp [serveUnknowns, h]
    | some m => simp only [serveUnknowns, h]; split <;> simp [ih]

@[simp] theorem isRunning_taken (t : Nat) (m : Msg) (opcode : Nat) (s : State) : isRunning (taken t m s) opcode = isRunning s opcode := by
  simp [taken, ready, serveUnknown]

/-! ### Bytes that stay inside the block in progress -/

/-- Bytes in the middle of the block in progress are buffered: neither the image nor the record is touched (19 R442). -/
theorem writeBytes_buffers {at_ start : Nat} {bs : List Byte} {buf : Mem Byte} {s : State} (hblock : s.upd.block = some (start, buf))
    (hnext : at_ = s.upd.expected) (hstart : start < at_) (hroom : at_ + bs.length < min (start + 65536) s.flash.control.imageBytes) :
    writeBytes at_ bs s = { s with upd := { s.upd with
      block := some (start, memWriteList 0 buf at_ bs), expected := at_ + bs.length } } := by
  have hs : blockStart s = start := by simp [blockStart, hblock]
  have hne : ¬ at_ = blockStart s := by omega
  have hlen : bs.length ≤ blockStart s + blockBytes - at_ := by unfold blockBytes; omega
  have hstop : at_ + bs.length < min (start + blockBytes) s.flash.control.imageBytes := hroom
  simp only [writeBytes, if_neg hne, if_pos hlen, List.take_of_length_le hlen, fillBlock, hblock, programBlock, ← hnext, if_pos hstop]

section
variable {m : Msg} {s : State}

theorem blockChecks_stage (h : s.flash.control.stage = 0 ∨ 3 < s.flash.control.stage) : firstFail (blockChecks m s) = some (eState, 0) := by
  have hbad : between s.flash.control.stage 1 3 = false := between_eq_false (by omega)
  rw [blockChecks, hbad]
  rfl

theorem blockChecks_offset (hlo : 1 ≤ s.flash.control.stage) (hhi : s.flash.control.stage ≤ 3) (hnext : m.context ≠ s.upd.expected)
    (hstart : m.context ≠ blockStart s) : firstFail (blockChecks m s) = some (eRange, 0xFFFF) := by
  have hgood : between s.flash.control.stage 1 3 = true := between_iff.mpr ⟨hlo, hhi⟩
  simp [blockChecks, hgood, hnext, hstart]

theorem blockChecks_pass (hlo : 1 ≤ s.flash.control.stage) (hhi : s.flash.control.stage ≤ 3) (hnext : m.context = s.upd.expected)
    (hin : m.context + m.length ≤ s.flash.control.imageBytes) (hflash : s.pwr.flashAllowed = true) : firstFail (blockChecks m s) = none := by
  have hgood : between s.flash.control.stage 1 3 = true := between_iff.mpr ⟨hlo, hhi⟩
  simp [blockChecks, hgood, hnext, hnext ▸ hin, tempCheck, hflash]

end

/-! ### The outcome of a verify -/

theorem verifyOutcome_result (v : ImageVerdict) (s : State) :
    isRunning (verifyOutcome v s) 0x0B03 = false ∧ (verifyOutcome v s).fuse = s.fuse ∧ (verifyOutcome v s).flash.image = s.flash.image
      ∧ (verifyOutcome v s).upd.lastResult = verifyStatus v s
      ∧ (verifyOutcome v s).upd.verifiedOk = (decide (verifyStatus v s = eOk) && decide (s.flash.control.stage ≠ 0)) := by
  unfold verifyOutcome
  dsimp only
  refine ⟨isRunning_endLong .., ?_, ?_, ?_, ?_⟩ <;> (repeat' split) <;> simp

/-- A verify that is not OK, or has no open record, writes none (Table 19.6). -/
theorem verifyOutcome_keeps {v : ImageVerdict} {s : State} (h : ¬ (verifyStatus v s = eOk ∧ s.flash.control.stage ≠ 0)) :
    (verifyOutcome v s).flash = s.flash := by
  unfold verifyOutcome
  by_cases hr : verifyStatus v s = eSignature ∨ verifyStatus v s = eVersion <;> simp only [hr, if_true, if_false, endLong_flash, record_flash, if_neg h]

theorem verifyOutcome_verified {v : ImageVerdict} {s : State} (hst : verifyStatus v s = eOk) (hopen : s.flash.control.stage ≠ 0) :
    (verifyOutcome v s).flash.control.stage = 3 ∧ (verifyOutcome v s).flash.control.digest = v.digest := by
  unfold verifyOutcome
  have hr : ¬ (eOk = eSignature ∨ eOk = eVersion) := by decide
  simp only [hst, hr, if_false, endLong_flash, ne_eq, hopen, not_false_eq_true, and_self, if_true, writeControl_control]

theorem verifyOutcome_runs {t : Nat} {v : ImageVerdict} {s : State} (hrun : isRunning s 0x0B03 = true) (hnow : verifyWaits v (advance t s) = false) :
    exec (.updateVerifyOutcome t v) s = .next (verifyOutcome v (advance t s)) :=
  if_pos (by simp [hrun, hnow])

/-- Settles O36. -/
theorem updateGroup : Obligations.UpdateGroup := by
  refine ⟨fun t s => ⟨fun m boot h hlo hhi hzero => ⟨fun hun => ?_, fun hun hflash => ?_⟩, fun m h hidle hcomplete => ?_,
    fun v hrun => ⟨fun hst => ?_, fun hst hclosed => ?_, fun hst hopen hflash => ?_, fun hst hopen hflash => ?_⟩,
    fun m boot h => ⟨fun hnot => ?_, fun hok hstage hflash => ?_⟩, fun m h => ⟨fun hun => ?_, fun hun hflash => ?_⟩⟩, fun t m s h => ?_⟩
  · change execUpdateIntent t m boot s = _
    exact serveThen_fail h (by simp [between_iff, *])
  · change NextIs (execUpdateIntent t m boot s) _
    obtain ⟨hop, hcontrol, himage, hfuse⟩ := warmStart_answered boot m (recordIntent (le m.payload 0 4) (taken t m s))
    refine ⟨_, serveThen_warmStart boot h (by simp [between_iff, tempCheck, *]), hop, ?_, ?_, ?_⟩
    · rw [hcontrol]; rfl
    · rw [hcontrol]; rfl
    · rw [hfuse]; simp [recordIntent]
  · change execUpdateVerify t m s = _
    refine serve_pass h ?_
    have hready : (decide ((taken t m s).flash.control.stage ≠ 2) ||
        decide ((taken t m s).flash.control.nextOffset = (taken t m s).flash.control.imageBytes)) = true := by
      by_cases hstage : s.flash.control.stage = 2 <;> simp [hstage, hcomplete]
    rw [hready]
    simp [busyLong, hidle]
  · have result := verifyOutcome_result v (advance t s)
    obtain ⟨hended, hfuse, -, hlast, hverified⟩ := result
    refine ⟨_, verifyOutcome_runs hrun (by simp [verifyWaits, hst, eOk]), hended, by simpa using hfuse, ?_, hlast, ?_⟩
    · rw [verifyOutcome_keeps fun h => hst h.1, advance_flash]
    · simpa [show verifyStatus v (advance t s) ≠ eOk from hst] using hverified
  · have result := verifyOutcome_result v (advance t s)
    obtain ⟨hended, hfuse, -, hlast, hverified⟩ := result
    refine ⟨_, verifyOutcome_runs hrun (by simp [verifyWaits, hclosed]), hended, by simpa using hfuse, ?_, hlast.trans hst, ?_⟩
    · rw [verifyOutcome_keeps (by simp [hclosed]), advance_flash]
    · simpa [hclosed] using hverified
  · have result := verifyOutcome_result v (advance t s)
    obtain ⟨hended, hfuse, himage, hlast, hverified⟩ := result
    obtain ⟨hstage, hdigest⟩ := verifyOutcome_verified (s := advance t s) hst (by simpa using hopen)
    refine ⟨_, verifyOutcome_runs hrun (by simp [verifyWaits, hflash]), hended, by simpa using hfuse, by simpa using himage, ?_, hlast.trans hst, hstage, hdigest⟩
    simpa [show verifyStatus v (advance t s) = eOk from hst, hopen] using hverified
  · have hst : verifyStatus v (advance t s) = eOk := hst
    exact if_neg (by simp [verifyWaits, hst, hopen, hflash])
  · change execUpdateActivate t m boot s = _
    refine serveThen_fail h ?_
    rw [firstFail_require, if_neg (by simpa using hnot)]
  · change NextIs (execUpdateActivate t m boot s) _
    obtain ⟨hop, hcontrol, himage, hfuse⟩ := warmStart_answered boot m (writeControl (fun c => { c with stage := 4, boots := 0 }) (taken t m s))
    refine ⟨_, serveThen_warmStart boot h (by simp [tempCheck, *]), hop, ?_, ?_, ?_, ?_⟩
    · rw [hcontrol]; rfl
    · rw [hcontrol]; rfl
    · rw [himage]; simp
    · rw [hfuse]; simp
  · change execUpdateConfirm t m s = _
    exact serve_fail h (by simp [hun])
  · change NextIs (execUpdateConfirm t m s) _
    refine ⟨_, serve_pass h (by simp [tempCheck, *]), ?_, ?_, ?_, ?_, ?_, ?_⟩
    · simp [confirmImage]
    · simp [confirmImage]
    · simp [confirmImage]
    · simp [confirmImage]
    · intro hlife
      rw [done_fuse]
      refine (if_pos (by simpa using hlife)).trans ?_
      simp [imgRollback, imgField]
    · intro h1 h2
      simp [confirmImage, raisedRollback, h1, h2]
  · intro a c
    refine ⟨fun hstage => ?_, fun hlo hhi hnext hstart => ?_, fun hpass hlen => ?_,
      fun hlo hhi hflash hlen hin start buf hblock hnext hstart hroom => ?_⟩
    all_goals change execUpdateBlock t m s = _
    · exact serve_fail h (blockChecks_stage hstage)
    · exact serve_fail h (blockChecks_offset hlo hhi hnext hstart)
    · exact serve_of_ok h (by rw [checked_pass hpass, List.take_of_length_le (Nat.le_of_eq hlen)])
    · refine serve_of_ok h ?_
      rw [checked_pass (blockChecks_pass hlo hhi hnext hin hflash), List.take_of_length_le (Nat.le_of_eq hlen),
        writeBytes_buffers hblock hnext hstart (by rw [hlen]; exact hroom), hlen]

end Sys2Proof.Machine

/-! ## The collector (15 R349 to R364) -/

namespace Sys2Proof.Machine

/-! ### A reaction leaves what is latched -/

/-- What the collector has latched, and the conditions and forces that hold, are the same. -/
abbrev LatchedKept (s u : State) : Prop :=
  u.flt.status = s.flt.status ∧ u.flt.seen = s.flt.seen ∧ u.flt.shadowed = s.flt.shadowed ∧ u.flt.counts = s.flt.counts ∧ u.flt.datas = s.flt.datas
    ∧ u.flt.first = s.flt.first ∧ u.flt.cond = s.flt.cond ∧ u.flt.force = s.flt.force ∧ u.flt.running = s.flt.running

section
variable {c : Prop} [Decidable c] (a b : Collector)

@[simp] theorem ite_status : (if c then a else b).status = if c then a.status else b.status := apply_ite Collector.status c a b
@[simp] theorem ite_seen : (if c then a else b).seen = if c then a.seen else b.seen := apply_ite Collector.seen c a b
@[simp] theorem ite_shadowed : (if c then a else b).shadowed = if c then a.shadowed else b.shadowed := apply_ite Collector.shadowed c a b
@[simp] theorem ite_counts : (if c then a else b).counts = if c then a.counts else b.counts := apply_ite Collector.counts c a b
@[simp] theorem ite_datas : (if c then a else b).datas = if c then a.datas else b.datas := apply_ite Collector.datas c a b
@[simp] theorem ite_first : (if c then a else b).first = if c then a.first else b.first := apply_ite Collector.first c a b
@[simp] theorem ite_cond : (if c then a else b).cond = if c then a.cond else b.cond := apply_ite Collector.cond c a b
@[simp] theorem ite_force : (if c then a else b).force = if c then a.force else b.force := apply_ite Collector.force c a b
@[simp] theorem ite_fltRunning : (if c then a else b).running = if c then a.running else b.running := apply_ite Collector.running c a b

end

@[simp] theorem recordFault_latched (src kind reaction data : Nat) (forced : Bool) (s : State) :
    LatchedKept s (recordFault src kind reaction data forced s) := by
  rw [LatchedKept, recordFault_flt]
  exact ⟨rfl, rfl, rfl, rfl, rfl, rfl, rfl, rfl, rfl⟩

@[simp] theorem openSwitch_latched (cause : Nat) (s : State) : LatchedKept s (openSwitch cause s) := by simp [LatchedKept, openSwitch]

@[simp] theorem kindHardware_latched (kind cause : Nat) (s : State) : LatchedKept s (kindHardware kind cause s) := by
  unfold LatchedKept kindHardware
  split <;> simp

@[simp] theorem goSafe_latched (kind cause : Nat) (s : State) : LatchedKept s (goSafe kind cause s) := by simp [LatchedKept, goSafe]

@[simp] theorem startSchedule_flt (s : State) : (startSchedule s).flt = s.flt := by simp [startSchedule]

@[simp] theorem proofToSafe_latched (kind cause : Nat) (s : State) : LatchedKept s (proofToSafe kind cause s) := by simp [LatchedKept, proofToSafe]

@[simp] theorem withholdBy_latched (src data : Nat) (s : State) : LatchedKept s (withholdBy src data s) := by simp [LatchedKept, withholdBy]

@[simp] theorem raiseReaction_latched (r : Nat) (s : State) : LatchedKept s (raiseReaction r s) := ⟨rfl, rfl, rfl, rfl, rfl, rfl, rfl, rfl, rfl⟩

@[simp] theorem react_latched (src data r : Nat) (s : State) : LatchedKept s (react src data r s) := by
  cases h : s.mode.op <;> simp [LatchedKept, react, h]

@[simp] theorem settleFails_latched (s : State) : LatchedKept s (settleFails s) := by simp [LatchedKept, settleFails]

@[simp] theorem interruptRun_flt (s : State) : (interruptRun s).flt = s.flt := by simp [interruptRun, rejectRun]

/-! ### A block action leaves it too -/

@[simp] theorem addShadow_latched (x : Action) (s : State) : LatchedKept s (addShadow x s) := by simp [LatchedKept, addShadow]

@[simp] theorem beginModuleReset_latched (s : State) : LatchedKept s (beginModuleReset s) := by
  cases h : s.mode.op <;> simp [LatchedKept, beginModuleReset, h]

@[simp] theorem reinitialise_latched (s : State) : LatchedKept s (reinitialise s) := by simp [LatchedKept, reinitialise]

@[simp] theorem dropActivation_flt (s : State) : (dropActivation s).flt = s.flt := by
  cases h : s.comp.activation <;> simp [dropActivation, h]

@[simp] theorem dataLost_flt (s : State) : (dataLost s).flt = s.flt := by
  cases h : s.mp.served with
  | none => simp [dataLost, h]
  | some x => cases hr : x.reply <;> simp [dataLost, h, hr]

@[simp] theorem beginMpRestart_latched (second inHand : Bool) (s : State) : LatchedKept s (beginMpRestart second inHand s) := by
  simp [LatchedKept, beginMpRestart]

@[simp] theorem drawersStop_flt (s : State) : (drawersStop s).flt = s.flt := drawersStop_keeps State.flt (by simp) (by simp) s

@[simp] theorem stopSchedule_flt (s : State) : (stopSchedule s).flt = s.flt := by
  unfold stopSchedule
  split
  · rfl
  · simp [takePendingDepth, checkLen]

@[simp] theorem loseAllSessions_flt (s : State) : (loseAllSessions s).flt = s.flt :=
  foldl_keeps (f := fun s (x : Session) => countLost (dropPending x.id s)) State.flt (by simp) s.gate.sessions s

@[simp] theorem enterBrownout_latched (before : Nat) (s : State) : LatchedKept s (enterBrownout before s) := by simp [LatchedKept, enterBrownout]

@[simp] theorem blockAction_latched (src data before : Nat) (s : State) : LatchedKept s (blockAction src data before s) := by
  unfold LatchedKept blockAction
  split <;> simp

/-! ### What an assertion leaves in the collector -/

/-- The collector as an assertion that is carried out first leaves it (15 R349, R360, R361). -/
def latchedBy (src data now : Nat) (f : Collector) : Collector :=
  { latchFirst src now (countAssertion src data f) with
    status := withBit (latchFirst src now (countAssertion src data f)).status src,
    masked := withoutBit (latchFirst src now (countAssertion src data f)).masked src }

theorem deliver_latched {src data : Nat} {forced act : Bool} {s : State} (h : isShadowed s src data = false) :
    LatchedKept { s with flt := latchedBy src data (tsc s) s.flt } (deliver src data forced act s) := by
  unfold LatchedKept deliver
  rw [if_neg (by rw [h]; decide)]
  cases act <;> simp [latchedBy]

end Sys2Proof.Machine

/-! ## FAULT_ASSERT (15 R349 to R363) -/

namespace Sys2Proof.Machine

/-! ### What follows FS29 and FS32 -/

theorem heatEdges_same {a b : State} (h29 : hasBit b.flt.cond 29 = hasBit a.flt.cond 29) (h32 : hasBit b.flt.cond 32 = hasBit a.flt.cond 32) :
    heatEdges a b = b := by
  simp [heatEdges, throttleEdge, dieEdge, h29, h32]

/-- The thermal step and the throttle touch neither the light, the collector nor the configuration. -/
abbrev HeatKept (s u : State) : Prop :=
  u.mode = s.mode ∧ u.arr = s.arr ∧ u.flt = s.flt ∧ u.cfg = s.cfg ∧ u.time = s.time ∧ u.fuse = s.fuse

@[simp] theorem throttleEdge_heatKept (before : Bool) (s : State) : HeatKept s (throttleEdge before s) := by
  simp [HeatKept, throttleEdge]

@[simp] theorem dieEdge_heatKept (before : Bool) (s : State) : HeatKept s (dieEdge before s) ∧ (dieEdge before s).gov = s.gov := by
  simp [HeatKept, dieEdge, throttleStart, throttleEnd, beginThrottle, leaveFallback]

@[simp] theorem heatEdges_heatKept (a b : State) : HeatKept b (heatEdges a b) := by simp [HeatKept, heatEdges]

/-- FS29 starts the count of the thermal step at least at 1 (04 R97). -/
theorem heatEdges_step {a b : State} (ha : hasBit a.flt.cond 29 = false) (hb : hasBit b.flt.cond 29 = true) :
    (heatEdges a b).gov.stepFrom = tsc b ∧ (heatEdges a b).gov.step = max 1 b.gov.step := by
  simp only [heatEdges, dieEdge_heatKept, throttleEdge, ha, hb]
  by_cases h : b.gov.step = 0
  · simp [h]
  · have : max 1 b.gov.step = b.gov.step := by omega
    simp [h, this]

/-- FS32 halves CLK_CPU (18 R424). -/
theorem heatEdges_cpuHalf {a b : State} (ha : hasBit a.flt.cond 32 = false) (hb : hasBit b.flt.cond 32 = true) :
    (heatEdges a b).pwr.cpuHalf = true := by
  simp [heatEdges, dieEdge, ha, hb, throttleStart, beginThrottle]

/-! ### The collector after an assertion -/

theorem latchFirst_eq (src now : Nat) (f : Collector) :
    latchFirst src now f = { f with lastAssert := (latchFirst src now f).lastAssert, first := (latchFirst src now f).first,
                                    overflow := (latchFirst src now f).overflow } := by
  unfold latchFirst
  split
  · rfl
  · dsimp only
    cases f.first with
    | none => rfl
    | some q => dsimp only; (repeat' split) <;> rfl

theorem latchFirst_first {src now : Nat} {f : Collector} (hsrc : isCorrected src = false) (hf : f.first = none) :
    (latchFirst src now f).first = some (src, now) := by
  simp [latchFirst, hsrc, hf]

/-- The bits, the count and the DATA of a source that has been asserted (15 R360). -/
theorem latchedBy_bits {src : Nat} (data now : Nat) (f : Collector) (hsrc : src < 48) :
    hasBit (latchedBy src data now f).status src = true ∧ hasBit (latchedBy src data now f).seen src = true
      ∧ (f.counts.length = 48 → (latchedBy src data now f).counts.getD src 0 = min 65535 (f.counts.getD src 0 + 1))
      ∧ (f.datas.length = 48 → (latchedBy src data now f).datas.getD src 0 = data) := by
  have hbit : src < 64 := by omega
  rw [latchedBy, latchFirst_eq]
  refine ⟨hasBit_withBit_same _ hbit, hasBit_withBit_same _ hbit, fun hlen => ?_, fun hlen => ?_⟩
  · simp [countAssertion, listUpdate, List.getD, hlen, hsrc]
  · simp [countAssertion, List.getD, hlen, hsrc]

theorem latchedBy_first {src data now : Nat} {f : Collector} (hsrc : isCorrected src = false) (hf : f.first = none) :
    (latchedBy src data now f).first = some (src, now) := latchFirst_first hsrc hf

/-- No assertion changes the configured reactions. -/
@[simp] theorem stopSchedule_faults (s : State) : (stopSchedule s).cfg.faults = s.cfg.faults := by
  have hcfg := drawersStop_keeps (fun s => s.cfg.faults) (by simp) (by simp)
  unfold stopSchedule
  split
  · rfl
  · cases h : s.sched.change <;> simp [takePendingDepth, checkLen, hcfg]

@[simp] theorem beginMpRestart_cfg (second inHand : Bool) (s : State) : (beginMpRestart second inHand s).cfg = s.cfg := by
  have drop : ∀ s : State, (dropActivation s).cfg = s.cfg := fun s => by cases h : s.comp.activation <;> simp [dropActivation, h]
  have lost : ∀ s : State, (dataLost s).cfg = s.cfg := fun s => by
    cases h : s.mp.served with
    | none => simp [dataLost, h]
    | some x => cases hr : x.reply <;> simp [dataLost, h, hr]
  simp [beginMpRestart, drop, lost]

@[simp] theorem beginModuleReset_cfg (s : State) : (beginModuleReset s).cfg = s.cfg := by
  cases h : s.mode.op <;> simp [beginModuleReset, h]

@[simp] theorem blockAction_faults (src data before : Nat) (s : State) : (blockAction src data before s).cfg.faults = s.cfg.faults := by
  unfold blockAction
  split
  case h_6 => split <;> simp [enterBrownout, interruptRun, rejectRun]
  all_goals simp [reinitialise]

@[simp] theorem deliver_faults (src data : Nat) (forced act : Bool) (s : State) : (deliver src data forced act s).cfg.faults = s.cfg.faults := by
  unfold deliver
  split
  · simp
  · cases act <;> simp [interruptRun, rejectRun]

/-! ### FAULT_ASSERT by its cases -/

section
variable {t src data : Nat} {s : State}

/-- A source that is watched is asserted; what FS29 and FS32 lead to follows. -/
theorem faultAssert_watched (hsrc : src < 48) (hw : unwatched (advance t s) src data = false) :
    exec (.faultAssert t src data) s = .next (heatEdges (advance t s) (assertSource src data false (advance t s))) := by
  change execFaultAssert t src data s = _
  have hnot : ¬ 48 ≤ src := by omega
  simp only [execFaultAssert, hw, hnot, if_false, Bool.false_eq_true]

/-- An assertion that reaches the running collector is delivered. -/
theorem assertSource_delivered (forced : Bool) (hrun : s.flt.running = true)
    (hnew : isLevel src = true → hasBit s.flt.cond src = false ∧ hasBit s.flt.force src = false) :
    assertSource src data forced s = deliver src (data % 65536) forced true (conditionNoted src data forced s) := by
  have hfirst : (isLevel src && (hasBit s.flt.cond src || hasBit s.flt.force src)) = false := by
    cases h : isLevel src with
    | false => rfl
    | true => simp [hnew h]
  have hrun' : (conditionNoted src data forced s).flt.running = true := by simp [conditionNoted, hrun]
  rw [assertSource_eq, hfirst, hrun']
  rfl

theorem assertSource_held (forced : Bool) (hheld : s.flt.running = false ∨ (isLevel src = true ∧ (hasBit s.flt.cond src = true ∨ hasBit s.flt.force src = true))) :
    assertSource src data forced s = conditionNoted src data forced s := by
  rw [assertSource_eq, if_pos]
  obtain hrun | ⟨hlevel, hset⟩ := hheld
  · simp [conditionNoted, hrun]
  · obtain h | h := hset <;> simp [hlevel, h]

theorem conditionNoted_pulse (forced : Bool) (h : isLevel src = false) : conditionNoted src data forced s = s := by
  simp [conditionNoted, h]

theorem conditionNoted_level (h : isLevel src = true) : conditionNoted src data false s =
    { s with flt := { s.flt with cond := withBit s.flt.cond src, datas := s.flt.datas.set src data } } := by
  simp [conditionNoted, h]

@[simp] theorem conditionNoted_leaves (src data : Nat) (forced : Bool) (s : State) :
    (conditionNoted src data forced s).mode = s.mode ∧ (conditionNoted src data forced s).arr = s.arr
      ∧ (conditionNoted src data forced s).cfg = s.cfg ∧ (conditionNoted src data forced s).time = s.time
      ∧ (conditionNoted src data forced s).sched = s.sched ∧ (conditionNoted src data forced s).flt.first = s.flt.first
      ∧ (conditionNoted src data forced s).flt.reaction = s.flt.reaction ∧ (conditionNoted src data forced s).flt.counts = s.flt.counts
      ∧ (conditionNoted src data forced s).flt.shadows = s.flt.shadows
      ∧ (conditionNoted src data forced s).flt.datas.length = s.flt.datas.length := by
  simp [conditionNoted, apply_ite List.length, apply_ite Collector.reaction, apply_ite Collector.shadows]

end

@[simp] theorem isShadowed_conditionNoted (src n data v : Nat) (forced : Bool) (s : State) :
    isShadowed (conditionNoted src v forced s) n data = isShadowed s n data := by simp [isShadowed]

theorem deliver_shadowed {src data : Nat} {s : State} (forced act : Bool) (h : isShadowed s src data = true) :
    deliver src data forced act s = deliverShadowed src data forced s := if_pos h

/-- A shadowed assertion carries out no reaction; it is only noted (15 R363). -/
theorem deliverShadowed_notes {src : Nat} (data : Nat) (forced : Bool) (s : State) (hsrc : src < 48) :
    hasBit (deliverShadowed src data forced s).flt.seen src = true ∧ hasBit (deliverShadowed src data forced s).flt.shadowed src = true
      ∧ (deliverShadowed src data forced s).flt.first = s.flt.first ∧ (deliverShadowed src data forced s).flt.reaction = s.flt.reaction
      ∧ (deliverShadowed src data forced s).flt.cond = s.flt.cond
      ∧ (isLevel src = false → (deliverShadowed src data forced s).flt.status = s.flt.status) := by
  have hbit : src < 64 := by omega
  have hreaction : ∀ u : State, (recordFault src 3 0 data forced u).flt.reaction = u.flt.reaction := fun u => by rw [recordFault_flt]
  unfold deliverShadowed
  dsimp only
  split <;> simp [hreaction, countAssertion, hasBit_withBit_same _ hbit] <;> simp +contextual

/-- Settles O41. -/
theorem assertionsAreLatched : Obligations.AssertionsAreLatched := by
  refine ⟨fun t src data s hsrc => ?_, fun a b => ⟨heatEdges_same, heatEdges_step, heatEdges_cpuHalf⟩⟩
  intro a d kept
  refine ⟨fun hun => ?_, fun hw => ⟨fun hrun hnew => ⟨fun hsh => ?_, fun hsh hpulse => ?_, fun hopen => ?_⟩, fun hrun hlevel hset => ?_, fun hrun hlevel => ?_,
    fun hrun hpulse => ?_⟩⟩
  · change execFaultAssert t src data s = _
    have hnot : ¬ 48 ≤ src := by omega
    simp only [execFaultAssert, hnot, if_false]
    exact if_pos hun
  all_goals rw [faultAssert_watched hsrc hw]
  · rw [assertSource_delivered false (by simpa using hrun) (by simpa using hnew), deliver_shadowed _ _ (by simpa using hsh)]
    obtain ⟨hseen, hshadowed, hfirst, hreaction, -, -⟩ := deliverShadowed_notes d false (conditionNoted src data false a) hsrc
    exact ⟨_, rfl, by simp [a], by simp [a], by simpa using hseen, by simpa using hshadowed, by simpa using hfirst, by simpa using hreaction⟩
  · rw [assertSource_delivered false (by simpa using hrun) (by simpa using hnew), deliver_shadowed _ _ (by simpa using hsh), conditionNoted_pulse _ hpulse]
    obtain ⟨-, -, -, -, hcond, hstatus⟩ := deliverShadowed_notes d false a hsrc
    rw [heatEdges_same (by rw [hcond]) (by rw [hcond])]
    exact ⟨_, rfl, by simp [a], hstatus hpulse⟩
  · rw [assertSource_delivered false (by simpa using hrun) (by simpa using hnew)]
    have latched := deliver_latched (forced := false) (act := true) (show isShadowed (conditionNoted src data false a) src d = false by simpa using hopen)
    obtain ⟨hstatus, hseen, -, hcounts, hdatas, hfirst, -⟩ := latched
    obtain ⟨hbstatus, hbseen, hbcounts, hbdatas⟩ := latchedBy_bits d (tsc (conditionNoted src data false a)) (conditionNoted src data false a).flt hsrc
    refine ⟨_, rfl, ?_, ?_, fun hlen => ?_, fun hlen => ?_, fun hcorr hnone => ?_, by simp⟩
    all_goals simp only [heatEdges_heatKept]
    · rwa [hstatus]
    · rwa [hseen]
    · rw [hcounts]; simpa [a] using hbcounts (by simpa [a] using hlen)
    · rw [hdatas]; exact hbdatas (by simpa [a] using hlen)
    · rw [hfirst]; exact latchedBy_first hcorr (by simpa [a] using hnone)
  · rw [assertSource_held _ (.inr ⟨hlevel, by simpa using hset⟩)]
    exact congrArg (fun u => Host.Outcome.next (heatEdges a u)) (conditionNoted_level hlevel)
  · rw [assertSource_held _ (.inl (by simpa using hrun))]
    exact congrArg (fun u => Host.Outcome.next (heatEdges a u)) (conditionNoted_level hlevel)
  · rw [assertSource_held _ (.inl (by simpa using hrun)), conditionNoted_pulse _ hpulse, heatEdges_same rfl rfl]

end Sys2Proof.Machine

/-! ## Level ends, shadow ends, re-arm (15 R350, R361 to R364) -/

namespace Sys2Proof.Machine

/-! ### A condition ends -/

theorem faultLevelEnd_eq {t src : Nat} {s : State} (hsrc : src < 48) :
    exec (.faultLevelEnd t src) s = .next (heatEdges (advance t s) (endSource src (advance t s))) :=
  if_neg (Nat.not_le.mpr hsrc)

/-- The condition of a source ends; its status follows where nothing else holds it. -/
theorem endSource_flt {src : Nat} {s : State} (hlevel : isLevel src = true) (hcond : hasBit s.flt.cond src = true) (hrun : s.flt.running = true) :
    (hasBit s.flt.force src = true → (endSource src s).flt = { s.flt with cond := withoutBit s.flt.cond src })
    ∧ (hasBit s.flt.force src = false → (endSource src s).flt.status = if isFatal src then s.flt.status else withoutBit s.flt.status src) := by
  refine ⟨fun hforce => ?_, fun hforce => ?_⟩
  · simp [endSource, hlevel, hcond, hrun, hforce]
  · simp only [endSource, hlevel, hcond, hrun, hforce, Bool.and_self, if_true, Bool.not_true, Bool.or_self, Bool.false_eq_true, if_false]
    rw [levelEnded_flt]
    rfl

theorem endSource_none {src : Nat} {s : State} (h : isLevel src = false ∨ hasBit s.flt.cond src = false) : endSource src s = s := by
  rw [endSource, if_neg]
  obtain h | h := h <;> simp [h]

/-! ### A shadow ends -/

@[simp] theorem ite_shadows {c : Prop} [Decidable c] (a b : Collector) :
    (if c then a else b).shadows = if c then a.shadows else b.shadows := apply_ite Collector.shadows c a b

@[simp] theorem recordFault_shadows (src kind reaction data : Nat) (forced : Bool) (s : State) :
    (recordFault src kind reaction data forced s).flt.shadows = s.flt.shadows := by rw [recordFault_flt]

@[simp] theorem withholdBy_shadows (src data : Nat) (s : State) : (withholdBy src data s).flt.shadows = s.flt.shadows := by simp [withholdBy]

theorem mem_ite_list {α : Type} {c : Prop} [Decidable c] {x : α} (l k : List α) : (x ∈ if c then l else k) ↔ if c then x ∈ l else x ∈ k := by
  split <;> rfl

section
variable {x : Action} (hx : x ≠ .cutoff)
include hx

/-- Beside the shadow of an open switch, no reaction starts one. -/
theorem openSwitch_casts (cause : Nat) (s : State) : x ∈ (openSwitch cause s).flt.shadows ↔ x ∈ s.flt.shadows := by
  by_cases h : .cutoff ∈ s.flt.shadows <;> simp [openSwitch, mem_ite_list, hx, h]

theorem kindHardware_casts (kind cause : Nat) (s : State) : x ∈ (kindHardware kind cause s).flt.shadows ↔ x ∈ s.flt.shadows := by
  unfold kindHardware
  split
  case h_3 => exact (openSwitch_casts hx _ _).trans (by simp)
  all_goals simp

theorem goSafe_casts (kind cause : Nat) (s : State) : x ∈ (goSafe kind cause s).flt.shadows ↔ x ∈ s.flt.shadows := by
  simp [goSafe, mem_ite_list, kindHardware_casts hx]

theorem proofToSafe_casts (kind cause : Nat) (s : State) : x ∈ (proofToSafe kind cause s).flt.shadows ↔ x ∈ s.flt.shadows := by
  simpa [proofToSafe] using kindHardware_casts hx _ cause s

theorem react_casts (src data r : Nat) (s : State) : x ∈ (react src data r s).flt.shadows ↔ x ∈ s.flt.shadows := by
  cases h : s.mode.op <;>
    simp [react, h, mem_ite_list, raiseReaction, openSwitch_casts hx, kindHardware_casts hx, goSafe_casts hx, proofToSafe_casts hx]

theorem settleFails_casts (s : State) : x ∈ (settleFails s).flt.shadows ↔ x ∈ s.flt.shadows := by
  simp [settleFails, mem_ite_list, raiseReaction, goSafe_casts hx]

/-- An assertion without its block action starts no shadow but that of an open switch. -/
theorem deliver_casts (src data : Nat) (forced : Bool) (s : State) : x ∈ (deliver src data forced false s).flt.shadows ↔ x ∈ s.flt.shadows := by
  have hlatch : ∀ now f, (latchFirst src now f).shadows = f.shadows := fun now f => by rw [latchFirst_eq]
  unfold deliver
  split
  · simp [deliverShadowed, countAssertion]
  · simp [mem_ite_list, settleFails_casts hx, react_casts hx, hlatch, countAssertion]

/-- The shadow of an action that has ended is gone; the sources it had covered are asserted anew. -/
theorem endShadow_casts (s : State) : x ∉ (endShadow x s).flt.shadows := by
  unfold endShadow
  split
  case isTrue =>
    dsimp only
    rw [foldl_keeps (fun s => x ∈ s.flt.shadows)]
    · simp
    · intro s n
      split
      · exact propext (deliver_casts hx _ _ _ _)
      · rfl
  case isFalse h => simpa using h

end

/-! ### The re-arm -/

/-- A set without the bits below `n` that are not spared. -/
theorem hasBit_foldl_withoutBit (p : Nat → Bool) (n : Nat) (b : BitVec 64) (k : Nat) :
    hasBit ((List.range n).foldl (fun b i => if p i then b else withoutBit b i) b) k = (hasBit b k && (p k || decide (n ≤ k))) := by
  induction n with
  | zero => simp
  | succ n ih =>
    rw [List.range_succ, List.foldl_append, List.foldl_cons, List.foldl_nil]
    split
    case isTrue h =>
      rw [ih]
      by_cases hk : k = n
      · simp [hk, h]
      · simp [show n + 1 ≤ k ↔ n ≤ k by omega]
    case isFalse h =>
      rw [hasBit_withoutBit, ih]
      by_cases hk : k = n
      · simp [hk, h]
      · simp [show n + 1 ≤ k ↔ n ≤ k by omega, hk]

theorem rearmCollector_status (f : Collector) {n : Nat} (hn : n < 48) :
    hasBit (rearmCollector f).status n = (hasBit f.status n && (isLevel n || isFatal n)) := by
  have h := hasBit_foldl_withoutBit (fun n => isLevel n || isFatal n) 48 f.status n
  rw [decide_eq_false (by omega), Bool.or_false] at h
  exact h

/-- Which sources ask for a reaction depends neither on the reaction in force nor on what it holds. -/
theorem anyReaction_congr {s u : State} (hcfg : u.cfg = s.cfg) (hcond : u.flt.cond = s.flt.cond) (hforce : u.flt.force = s.flt.force)
    (hstatus : u.flt.status = s.flt.status) (r : Nat) : anyReaction u r = anyReaction s r := by
  simp [anyReaction, isAsserted, configured, hcfg, hcond, hforce, hstatus]

@[simp] theorem closeSwitch_closes (s : State) : (closeSwitch s).arr.switchOpen = false := by
  unfold closeSwitch
  split
  · rfl
  · exact eq_false_of_ne_true ‹_›

/-- A CUTOFF that a reaction holds in IDLE is released once no source asks for it (15 R359). -/
theorem releaseHold_idle {s : State} (hop : s.mode.op = .idle) (hheld : s.flt.heldByReaction = true) (hfree : anyReaction s 6 = false)
    (hdemand : s.dim.heldByDemand = false) : (releaseHold s).arr.switchOpen = false := by
  simp [releaseHold, hop, hheld, hfree, hdemand]

/-- Settles O42. -/
theorem levelsShadowsRearm : Obligations.LevelsShadowsRearm := by
  intro t s a
  refine ⟨fun src hsrc hlevel hcond hrun => ⟨fun hforce => ?_, fun hforce => ?_⟩, fun src hsrc hnone => ?_,
    fun x => ⟨fun hcast hover => ⟨?_, fun hx => by simpa using endShadow_casts hx a⟩, fun hcast => ?_, fun hover => ?_⟩, fun hdue => ?_, fun hdue => ?_⟩
  · have hends := (endSource_flt (s := a) hlevel (by simpa [a] using hcond) (by simpa [a] using hrun)).2 (by simpa [a] using hforce)
    refine ⟨_, faultLevelEnd_eq hsrc, ?_, fun hfatal => ?_, fun hfatal => ?_⟩ <;> simp only [heatEdges_heatKept]
    · exact hasBit_endSource_cond hlevel _
    · simp [a] at hends; simp [hends, hfatal]
    · simp [a] at hends; simp [hends, hfatal]
  · have hends := (endSource_flt (s := a) hlevel (by simpa [a] using hcond) (by simpa [a] using hrun)).1 (by simpa [a] using hforce)
    refine ⟨_, faultLevelEnd_eq hsrc, ?_, ?_⟩ <;> simp only [heatEdges_heatKept]
    · exact hasBit_endSource_cond hlevel _
    · rw [hends]; simp [a]
  · rw [faultLevelEnd_eq hsrc, endSource_none (by simpa using hnone), heatEdges_same rfl rfl]
  · exact if_pos (by simp [a] at hover; simpa [hover] using hcast)
  · exact if_neg (by simpa using fun h => absurd h (by simpa using hcast))
  · exact if_neg (by rw [show shadowOver x (advance t s) = false from hover]; simp)
  · have hexec : exec (.rearm t) s = .next (releaseHold { a with flt := rearmCollector a.flt }) := if_pos hdue
    refine ⟨_, hexec, ?_⟩
    have hflt := releaseHold_flt { a with flt := rearmCollector a.flt }
    refine ⟨by rw [hflt]; rfl, by rw [hflt]; rfl, by rw [hflt]; rfl, by rw [hflt]; rfl, by rw [hflt]; simp [rearmCollector, a], fun n hn hl hf => ?_,
      fun n hn hspared => ?_, fun hop hheld hfree hdemand => ?_⟩
    · rw [hflt]
      exact (rearmCollector_status a.flt hn).trans (by simp [hl, hf])
    · rw [hflt]
      exact (rearmCollector_status a.flt hn).trans (by obtain h | h := hspared <;> simp [h, a])
    · refine releaseHold_idle (by simpa [a] using hop) (by simpa [rearmCollector, a] using hheld) ?_ (by simpa [a] using hdemand)
      rw [← hfree]
      exact (anyReaction_congr (by simp) (by rw [hflt]) (by rw [hflt]) (by rw [hflt]) 6).symm
  · exact if_neg (by rw [show rearmDue (advance t s) = false from hdue]; decide)

end Sys2Proof.Machine

/-! ## The supply watch (02 R46 to R52, 18 R418, R427) -/

namespace Sys2Proof.Machine

/-! ### Thresholds with a tolerance (02 Table 2.6) -/

theorem atLeast_of_hi_le {v lo hi : Nat} (cfg : Nat) (h : hi ≤ v) : atLeast v lo hi cfg = true := by simp [atLeast, h]

theorem atLeast_of_lt_lo {v lo hi : Nat} (cfg : Nat) (h : v < lo) (hlo : lo ≤ hi) : atLeast v lo hi cfg = false := by
  simp [atLeast, show ¬ hi ≤ v by omega, show ¬ lo ≤ v by omega]

theorem crossesLow_falls {mV : Nat} : (mV ≤ 5800 → crossesLow true mV = true) ∧ (6000 < mV → crossesLow true mV = false) := by
  refine ⟨fun h => ?_, fun h => ?_⟩
  · simp [crossesLow, atLeast_of_lt_lo Config.fs34Raise (show mV - 1 < 5800 by omega)]
  · simp [crossesLow, atLeast_of_hi_le Config.fs34Raise (show 6000 ≤ mV - 1 by omega)]

theorem crossesLow_clears {mV : Nat} : (6400 ≤ mV → crossesLow false mV = true) ∧ (mV < 6200 → crossesLow false mV = false) :=
  ⟨fun h => atLeast_of_hi_le _ h, fun h => atLeast_of_lt_lo _ h (by decide)⟩

theorem crossesHigh_rises {mV : Nat} : (36800 ≤ mV → crossesHigh true mV = true) ∧ (mV < 36000 → crossesHigh true mV = false) :=
  ⟨fun h => atLeast_of_hi_le _ h, fun h => atLeast_of_lt_lo _ h (by decide)⟩

theorem crossesHigh_clears {mV : Nat} : (mV ≤ 35200 → crossesHigh false mV = true) ∧ (35800 < mV → crossesHigh false mV = false) := by
  refine ⟨fun h => ?_, fun h => ?_⟩
  · simp [crossesHigh, atLeast_of_lt_lo Config.fs35Clear (show mV - 1 < 35200 by omega)]
  · simp [crossesHigh, atLeast_of_hi_le Config.fs35Clear (show 35800 ≤ mV - 1 by omega)]

/-! ### The commands of the watch -/

section
variable {t mV : Nat} {b : Bool} {s : State}

theorem vinLow_crosses (hop : s.mode.op ≠ .off) (h : crossesLow b mV = true) :
    exec (.vinLow t b mV) s = .next (levelSource 34 (mV / 10) b (advance t s)) := if_pos (by simp [powered, hop, h])

theorem vinLow_between (h : crossesLow b mV = false) : exec (.vinLow t b mV) s = .next (advance t s) := if_neg (by simp [h])

theorem vinHigh_crosses (hop : s.mode.op ≠ .off) (h : crossesHigh b mV = true) :
    exec (.vinHigh t b mV) s = .next (levelSource 35 (mV / 10) b (advance t s)) := if_pos (by simp [powered, hop, h])

theorem vinHigh_between (h : crossesHigh b mV = false) : exec (.vinHigh t b mV) s = .next (advance t s) := if_neg (by simp [h])

end

/-- Settles O37. -/
theorem supplyWatch : Obligations.SupplyWatch := by
  intro t s a
  refine ⟨fun hop hbelow => ?_, fun hbelow => ?_, fun t0 hbelow => ⟨fun hin => ?_, fun hlate => ?_⟩, fun e hblind => ⟨fun hover => ?_, fun hearly => ?_⟩,
    fun hop mV => ⟨vinLow_crosses hop, vinLow_crosses hop, vinHigh_crosses hop, vinHigh_crosses hop, crossesLow_falls.1,
      fun h => vinLow_between (crossesLow_falls.2 h), crossesLow_clears.1, fun h => vinLow_between (crossesLow_clears.2 h), crossesHigh_rises.1,
      fun h => vinHigh_between (crossesHigh_rises.2 h), crossesHigh_clears.1, fun h => vinHigh_between (crossesHigh_clears.2 h)⟩,
    fun hop => ⟨fun hready => ?_, fun hready => ?_, ?_⟩, fun hop hmp hflash hwant => ?_⟩
  · exact if_pos (by simp [powered, hop, hbelow])
  · exact if_neg (by simp [hbelow])
  · exact if_pos (by simpa [hbelow] using hin)
  · exact if_neg (by simpa [hbelow] using hlate)
  · exact if_pos (by simpa [hblind] using hover)
  · exact if_neg (by simpa [hblind] using hearly)
  · refine (if_pos (by simp [powered, hop, hready])).trans ?_
    simp [bit, srcPower, a]
  · refine (if_pos (by simp [powered, hop, hready])).trans ?_
    simp [bit, srcPower, a]
  · exact if_neg (by simp)
  · exact if_pos (by simp [hop, hmp, hflash, hwant])

end Sys2Proof.Machine

/-! ## BROWNOUT and the end of its save (18 R418 to R420) -/

namespace Sys2Proof.Machine

/-! ### The entry to BROWNOUT_SAVE -/

@[simp] theorem openSwitch_opens (cause : Nat) (s : State) : (openSwitch cause s).arr.switchOpen = true ∧ (openSwitch cause s).arr.drvEn = s.arr.drvEn := by
  unfold openSwitch
  split <;> simp [*]

/-- What a stop of the schedule leaves of the light's switches. -/
@[simp] theorem stopSchedule_switches (s : State) :
    (stopSchedule s).arr.switchOpen = s.arr.switchOpen ∧ (stopSchedule s).arr.drvEn = s.arr.drvEn := by
  unfold stopSchedule
  split
  · exact ⟨rfl, rfl⟩
  · simp [takeSlTrim, takePendingDepth, checkLen]

@[simp] theorem stopSchedule_stops (s : State) : (stopSchedule s).sched.running = false := by
  have h := drawersStop_keeps (fun s => s.sched.running) (by simp) (by simp)
  unfold stopSchedule
  split
  case isTrue hs => simpa using hs
  case isFalse => simp [takePendingDepth, checkLen, h]

@[simp] theorem stopSchedule_rest (s : State) :
    (stopSchedule s).mode = s.mode ∧ (stopSchedule s).mp = s.mp ∧ (stopSchedule s).pwr = s.pwr ∧ (stopSchedule s).fuse = s.fuse := by
  have keeps {β} (g : State → β) := drawersStop_keeps g
  unfold stopSchedule
  split
  · exact ⟨rfl, rfl, rfl, rfl⟩
  · simp [takePendingDepth, checkLen, keeps State.mode, keeps State.mp, keeps State.pwr, keeps State.fuse]

@[simp] theorem loseAllSessions_rest (s : State) :
    (loseAllSessions s).mp = s.mp ∧ (loseAllSessions s).pwr = s.pwr ∧ (loseAllSessions s).sched = s.sched :=
  have keeps {β} (g : State → β) (h : ∀ s (x : Session), g (countLost (dropPending x.id s)) = g s) := foldl_keeps g h s.gate.sessions s
  ⟨keeps State.mp (by simp), keeps State.pwr (by simp), keeps State.sched (by simp)⟩

@[simp] theorem interruptRun_rest (s : State) :
    (interruptRun s).arr = s.arr ∧ (interruptRun s).mode = s.mode ∧ (interruptRun s).pwr = s.pwr ∧ (interruptRun s).fuse = s.fuse := by
  simp [interruptRun, rejectRun]

@[simp] theorem dropLong_lastgasp (s : State) : (dropLong s).flash.lastgasp = s.flash.lastgasp := by
  simp [dropLong, setSlot, apply_ite Flash.lastgasp]

@[simp] theorem drvLow_drvEn (s : State) : (drvLow s).arr.drvEn = false := rfl

/-- The module as it enters BROWNOUT_SAVE (18 R419, R420). -/
theorem enterBrownout_state (before : Nat) (s : State) (hop : s.mode.op ≠ .standby) :
    let u := enterBrownout before s
    u.mode.op = .brownoutSave ∧ u.arr.drvEn = false ∧ u.arr.switchOpen = true ∧ u.sched.running = false ∧ u.gate.sessions = [] ∧ u.mp.long = []
      ∧ u.fuse = s.fuse ∧ (u.pwr.saving.isSome = true ↔ s.pwr.holdReady = true ∧ s.pwr.flashAllowed = true
          ∧ s.flash.lastgasp.getD (nextLgSlot s.flash.lastgasp) .invalid = .erased) := by
  refine ⟨by simp [enterBrownout], by simp [enterBrownout], by simp [enterBrownout],
    by simp [enterBrownout], by simp [enterBrownout], by simp [enterBrownout, dropLong], by simp [enterBrownout], ?_⟩
  by_cases hready : s.pwr.holdReady <;> by_cases hflash : s.pwr.flashAllowed <;> simp [enterBrownout, hop, hready, hflash]

@[simp] theorem startSchedule_mode (s : State) : (startSchedule s).mode = s.mode := by
  unfold startSchedule
  dsimp only
  split <;> simp

@[simp] theorem withholdBy_op (src data : Nat) (s : State) : (withholdBy src data s).mode.op = s.mode.op := by simp [withholdBy]

@[simp] theorem proofToSafe_op (kind cause : Nat) (s : State) : (proofToSafe kind cause s).mode.op = .safe := by simp [proofToSafe]

/-- A firmware state goes over to a firmware state in a reaction (15 R352, Table 15.2). -/
theorem react_isFw (src data r : Nat) {s : State} (h : isFw s.mode.op = true) : isFw (react src data r s).mode.op = true := by
  cases hop : s.mode.op <;> simp only [isFw, hop, Bool.false_eq_true] at h <;> simp only [react, hop] <;> (repeat' split) <;> simp [isFw, hop]

/-- FS36 is the entry to BROWNOUT_SAVE from every firmware state (15 Table 15.6, 18 R419). -/
theorem deliver_brownout {s : State} (hop : isFw s.mode.op = true) (hshadow : isShadowed s 36 0 = false) :
    ∃ v, deliver 36 0 false true s = enterBrownout (moduleState s) v ∧ isFw v.mode.op = true
      ∧ v.pwr = s.pwr ∧ v.flash = s.flash ∧ v.fuse = s.fuse := by
  have block : ∀ v, isFw v.mode.op = true → blockAction 36 0 (moduleState s) v = enterBrownout (moduleState s) v := by
    intro v hv
    refine if_neg ?_
    rintro (h | h) <;> simp [h, isFw] at hv
  unfold deliver
  rw [if_neg (by rw [hshadow]; decide), if_pos rfl]
  simp only [Nat.reduceEqDiff, if_false]
  rw [block _ (react_isFw _ _ _ (by simpa using hop))]
  exact ⟨_, rfl, react_isFw _ _ _ (by simpa using hop), by simp, by simp, by simp⟩

/-! ### What an entry to BOOT keeps of the flash, the fuses and the time in STANDBY -/

/-- The flash, the fuses and the time in STANDBY are as they were. -/
abbrev StoresKept (s u : State) : Prop := u.flash = s.flash ∧ u.fuse = s.fuse ∧ u.pwr.standbyS = s.pwr.standbyS

@[simp] theorem endSource_stores (src : Nat) (s : State) : StoresKept s (endSource src s) := by simp [StoresKept]

theorem StoresKept.trans {s t u : State} (hst : StoresKept s t) (htu : StoresKept t u) : StoresKept s u := by simp [StoresKept, hst, htu]

theorem StoresKept.ite {c : Prop} [Decidable c] {s a b : State} (ha : StoresKept s a) (hb : StoresKept s b) :
    StoresKept s (if c then a else b) := by
  split <;> assumption

/-- The block actions but those of FS01 and FS36 leave them in BOOT (15 Table 15.6). -/
theorem blockAction_stores {src : Nat} (data before : Nat) {s : State} (h1 : src ≠ 1) (h36 : src ≠ 36) (hop : s.mode.op = .boot) :
    StoresKept s (blockAction src data before s) := by
  unfold blockAction
  split
  · simp [StoresKept, beginModuleReset, hop]
  · simp [StoresKept, beginModuleReset, hop]
  · contradiction
  · simp [StoresKept, reinitialise]
  · simp [StoresKept, reinitialise]
  · contradiction
  · exact ⟨rfl, rfl, rfl⟩

theorem deliver_stores {src : Nat} (data : Nat) (forced : Bool) {s : State} (h1 : src ≠ 1) (h36 : src ≠ 36) (h : InBoot s) :
    StoresKept s (deliver src data forced true s) := by
  unfold deliver
  split
  · simp [StoresKept]
  · extract_lets before f s1 r s2 s3 s4
    have hb2 : InBoot s2 := .ite (h.of_eq rfl rfl rfl) (h.of_eq (by simp [s1]) (by simp [s1]) (by simp [s1]))
    have hb3 : InBoot s3 := react_inBoot _ _ _ hb2
    have hb4 : InBoot s4 := .ite (by rwa [settleFails_boot hb3.op]) (.ite (interruptRun_inBoot hb3) hb3)
    have h4 : StoresKept s s4 := by simp [StoresKept, s4, s3, s2, s1]
    exact h4.trans (blockAction_stores _ _ h1 h36 hb4.op)

theorem assertSource_stores {src : Nat} (data : Nat) (forced : Bool) {s : State} (h1 : src ≠ 1) (h36 : src ≠ 36) (h : InBoot s) :
    StoresKept s (assertSource src data forced s) := by
  rw [assertSource_eq]
  split
  · exact ⟨rfl, rfl, rfl⟩
  · exact deliver_stores _ _ h1 h36 (h.of_eq rfl rfl rfl)

theorem foldl_stores {α : Type} {f : State → α → State} (hf : ∀ u x, InBoot u → InBoot (f u x) ∧ StoresKept u (f u x)) (l : List α) {s : State}
    (h : InBoot s) : StoresKept s (l.foldl f s) := by
  induction l generalizing s with
  | nil => exact ⟨rfl, rfl, rfl⟩
  | cons x l ih => exact (hf s x h).2.trans (ih (hf s x h).1)

theorem startCollector_stores {s : State} (h : InBoot s) : StoresKept s (startCollector s) := by
  have hrun : InBoot { s with flt := { s.flt with running := true } } := h.of_eq rfl rfl rfl
  refine StoresKept.trans ⟨rfl, rfl, rfl⟩ (foldl_stores (fun u n hu => ?_) _ hrun)
  split
  case isTrue hn =>
    have hlevel : isLevel n = true := (Bool.and_eq_true_iff.mp hn).1
    have h1 : n ≠ 1 := by rintro rfl; simp [isLevel] at hlevel
    have h36 : n ≠ 36 := by rintro rfl; simp [isLevel] at hlevel
    exact ⟨deliver_inBoot _ _ _ h1 h36 hu, deliver_stores _ _ h1 h36 hu⟩
  case isFalse => exact ⟨hu, rfl, rfl, rfl⟩

theorem trainDram_stores (ws : List (List LaneSweep)) {s : State} (h : InBoot s) : StoresKept s (trainDram ws s) := by
  unfold trainDram levelSource
  dsimp only
  split
  · exact StoresKept.trans ⟨rfl, rfl, rfl⟩ (assertSource_stores _ _ (by decide) (by decide) (h.of_eq rfl rfl rfl))
  · simp [StoresKept]

@[simp] theorem loadSafety_stores (s : State) : StoresKept s (loadSafety s).1 := by
  unfold loadSafety
  split <;> exact ⟨rfl, rfl, rfl⟩

theorem bootSync_stores (s : State) : StoresKept s (bootSync s) := by
  unfold bootSync
  dsimp only
  exact .ite ⟨rfl, rfl, rfl⟩ ⟨rfl, rfl, rfl⟩

theorem showBeam_stores (s : State) : StoresKept s (readdress (rakeUpdate (restoreBeam s))) := by simp [StoresKept]

theorem loadSettle_stores (boot : BootInputs) (s : State) : StoresKept s (loadSettle boot s).1 := by
  have h := loadSafety_stores s
  unfold loadSettle
  split
  case h_1 heq => rw [heq] at h; split <;> exact h
  case h_2 heq => rw [heq] at h; exact h

/-- A state on the way through an entry to BOOT. -/
def BootKept (s u : State) : Prop := InBoot u ∧ StoresKept s u

theorem BootKept.ite {c : Prop} [Decidable c] {s a b : State} (ha : BootKept s a) (hb : BootKept s b) : BootKept s (if c then a else b) := by
  split <;> assumption

theorem BootKept.step {s u v : State} (h : BootKept s u) (hboot : InBoot u → InBoot v) (hkept : InBoot u → StoresKept u v) : BootKept s v :=
  ⟨hboot h.1, h.2.trans (hkept h.1)⟩

theorem bootSteps_stores (train : Bool) (lost : Nat) (boot : BootInputs) {s : State} (h : s.gate.sessions = []) :
    StoresKept s (bootSteps train lost boot s) := by
  have refl : ∀ u, StoresKept u u := fun _ => ⟨rfl, rfl, rfl⟩
  unfold bootSteps
  extract_lets time dim link can s1 s2
  have b1 : InBoot s1 := ⟨rfl, h, rfl⟩
  have b2 : InBoot s2 := .ite (bootSync_inBoot b1) b1
  have h2 : StoresKept s s2 := .ite (bootSync_stores s1) (refl _)
  have b3 : InBoot (if train then loadSettle boot s2 else (s2, true)).1 := by
    split
    · exact loadSettle_inBoot boot b2
    · exact b2
  have h3 : StoresKept s (if train then loadSettle boot s2 else (s2, true)).1 := by
    split
    · exact h2.trans (loadSettle_stores boot s2)
    · exact h2
  generalize (if train then loadSettle boot s2 else (s2, true)) = x at b3 h3 ⊢
  obtain ⟨s3, ok⟩ := x
  have h4 : StoresKept s3 (forbidFlash (checkLoader boot.loaderOk s3)) := by
    unfold forbidFlash checkLoader
    split <;> split <;> simp [StoresKept]
  have b4 := forbidFlash_inBoot (checkLoader_inBoot boot.loaderOk b3)
  have h5 : BootKept s _ := ⟨startCollector_inBoot b4, (h3.trans h4).trans (startCollector_stores b4)⟩
  have lostBanks : ∀ {u}, BootKept s u → BootKept s (if lost = 0 then u else assertSource 42 lost false u) :=
    fun hu => .ite hu (hu.step (assertSource_inBoot _ _ (by decide) (by decide)) (assertSource_stores _ _ (by decide) (by decide)))
  have trained : ∀ {u}, BootKept s u → BootKept s (if train then trainDram boot.training u else u) :=
    fun hu => .ite (hu.step (trainDram_inBoot _) (trainDram_stores _)) hu
  have latched : ∀ {u} data, BootKept s u → BootKept s (if ok then u else assertSource 9 data false u) :=
    fun _ hu => .ite hu (hu.step (assertSource_inBoot _ _ (by decide) (by decide)) (assertSource_stores _ _ (by decide) (by decide)))
  exact (latched _ (trained (lostBanks h5))).2.trans (showBeam_stores _)

theorem coldStart_stores (cond : BitVec 64) (vin : Nat) (boot : BootInputs) (s : State) :
    (coldStart cond vin boot s).flash = s.flash ∧ (coldStart cond vin boot s).fuse = s.fuse :=
  have h : StoresKept _ (coldStart cond vin boot s) := bootSteps_stores true 0 boot rfl
  ⟨h.1, h.2.1⟩

/-! ### The save and its end -/

/-- The module as the end of a save finds it, the record in its slot (18 R418, Table 18.7). -/
def saved (s : State) : State :=
  match s.pwr.saving with
  | some (t0, before) =>
    { s with flash := { s.flash with lastgasp := s.flash.lastgasp.set (nextLgSlot s.flash.lastgasp) (saveRecord t0 before s) } }
  | none => s

theorem saved_flash {s a : State} (hflash : a.flash = s.flash) (hsaving : a.pwr.saving = s.pwr.saving) :
    (saved a).flash = { s.flash with lastgasp := (saved a).flash.lastgasp } ∧ (s.pwr.saving = none → (saved a).flash = s.flash)
      ∧ ∀ t0 before, s.pwr.saving = some (t0, before) →
          (saved a).flash.lastgasp = s.flash.lastgasp.set (nextLgSlot s.flash.lastgasp) (saveRecord t0 before a) := by
  unfold saved
  rw [hsaving]
  cases s.pwr.saving with
  | none => simp [hflash]
  | some x =>
    refine ⟨by simp [hflash], by simp, ?_⟩
    rintro t0 before ⟨rfl⟩
    simp [hflash]

theorem saved_fuse (s : State) : (saved s).fuse = s.fuse := by
  unfold saved
  split <;> rfl

/-- The brownout is due (02 R47): FS36 is asserted. -/
theorem brownout_due {t t0 : Nat} {s : State} (hop : isFw s.mode.op = true) (hfrom : s.pwr.belowFrom = some t0)
    (hlate : t0 + 2000 < tsc (advance t s)) : exec (.brownout t) s = .next (assertSource 36 0 false (advance t s)) := by
  change execBrownout t s = _
  cases h : s.mode.op <;> simp [isFw, h] at hop <;> simp [execBrownout, hfrom, h, hlate]

section
variable {t vin : Nat} {above : Bool} {boot : BootInputs} {s : State} (hop : s.mode.op = .brownoutSave)
include hop

/-- The end of a save with VIN above V_START: a full restart (18 R420). -/
theorem lastgasp_restart (htrain : trainingOk boot.training = true) (habove : seenAbove above vin = true) :
    exec (.lastgaspSaveComplete t above vin boot) s = .next (coldStart (vinConditions vin) vin boot (saved (advance t s))) := by
  change execLastgaspSaveComplete t above vin boot s = _
  cases h : s.pwr.saving <;> simp [execLastgaspSaveComplete, hop, htrain, habove, saved, h]

/-- The end of a save with VIN below it: OFF. -/
theorem lastgasp_off (hbelow : seenAbove above vin = false) :
    exec (.lastgaspSaveComplete t above vin boot) s = .next { State.reset with
        flash := (saved (advance t s)).flash, fuse := (saved (advance t s)).fuse, pending := (saved (advance t s)).pending,
        drw := { slots := (saved (advance t s)).drw.slots.map bootSlot }, pwr := { lgPending := (saved (advance t s)).pwr.lgPending } } := by
  change execLastgaspSaveComplete t above vin boot s = _
  cases h : s.pwr.saving <;> simp [execLastgaspSaveComplete, hop, hbelow, saved, h]

end

/-- Settles O38. -/
theorem brownoutSavesAndEnds : Obligations.BrownoutSavesAndEnds := by
  refine ⟨fun t t0 s hop hrun hshadow hfrom hlate => ?_, fun t s hnone => ?_, fun t vin above boot s hop htrain => ?_⟩
  · obtain ⟨v, heq, hv, hpwr, hflash, hfuse⟩ := deliver_brownout (s := advance t s) (by simpa using hop) (by simpa [isShadowed] using hshadow)
    have hdelivered : assertSource 36 0 false (advance t s) = deliver 36 0 false true (advance t s) := by
      rw [assertSource_delivered false (by simpa using hrun) (by simp [isLevel])]
      rfl
    have hseen : hasBit (deliver 36 0 false true (advance t s)).flt.seen 36 = true := by
      rw [(deliver_latched (by simpa [isShadowed] using hshadow)).2.1]
      exact (latchedBy_bits _ _ _ (by decide)).2.1
    have hstate := enterBrownout_state (moduleState (advance t s)) v (by rintro h; simp [h, isFw] at hv)
    rw [brownout_due hop hfrom hlate, hdelivered]
    rw [heq] at hseen ⊢
    obtain ⟨h1, h2, h3, h4, h5, h6, h7, h8⟩ := hstate
    exact ⟨_, rfl, h1, h2, h3, h4, h5, h6, by simpa [hfuse] using h7, hseen, by simpa [hpwr, hflash] using h8⟩
  · change execBrownout t s = _
    simp [execBrownout, hnone]
  · intro written
    have hsaved := saved_flash (s := s) (a := advance t s) (by simp) (by simp)
    have hfuse : (saved (advance t s)).fuse = s.fuse := by simp [saved_fuse]
    refine ⟨fun habove => ⟨_, lastgasp_restart hop htrain habove, ?_⟩, fun hbelow => ⟨_, lastgasp_off hop hbelow, rfl, hfuse, rfl, hsaved⟩,
      fun h => by simp [seenAbove, h], fun h => ?_⟩
    · have hstores := coldStart_stores (vinConditions vin) vin boot (saved (advance t s))
      have hboot := coldStart_inBoot (vinConditions vin) vin boot (saved (advance t s))
      exact ⟨hboot.op, hstores.2.trans hfuse, hboot.sessions, by simpa [written, hstores.1] using hsaved⟩
    · simp [seenAbove]
      omega

end Sys2Proof.Machine

/-! ## Starts, wakes and the loads after them (18 R415 to R417, 17 R396, 14 R344, 13 R315) -/

namespace Sys2Proof.Machine

/-! ### The collector runs from the entry to BOOT on -/

@[simp] theorem deliver_running (src data : Nat) (forced act : Bool) (s : State) :
    (deliver src data forced act s).flt.running = s.flt.running := by
  by_cases h : isShadowed s src data = true
  · rw [deliver_shadowed _ _ h]
    unfold deliverShadowed
    dsimp only
    split
    · rfl
    · rw [recordFault_flt]
      rfl
  · rw [(deliver_latched (by simpa using h)).2.2.2.2.2.2.2.2, latchedBy, latchFirst_eq]
    rfl

@[simp] theorem assertSource_running (src data : Nat) (forced : Bool) (s : State) :
    (assertSource src data forced s).flt.running = s.flt.running := by
  rw [assertSource_eq]
  split <;> simp [conditionNoted, apply_ite Collector.running]

@[simp] theorem endSource_running (src : Nat) (s : State) : (endSource src s).flt.running = s.flt.running := by
  have ended : ∀ u : State, (levelEnded src false u).flt.running = u.flt.running := fun u => by
    rw [levelEnded_flt]
    rfl
  unfold endSource
  split
  · dsimp only
    split
    · rfl
    · rw [ended]
  · rfl

@[simp] theorem levelSource_running (src data : Nat) (on : Bool) (s : State) : (levelSource src data on s).flt.running = s.flt.running := by
  cases on <;> simp [levelSource]

theorem startCollector_running (s : State) : (startCollector s).flt.running = true := by
  unfold startCollector
  rw [foldl_keeps (fun s => s.flt.running) (fun u n => by split <;> simp)]

theorem bootSteps_running (train : Bool) (lost : Nat) (boot : BootInputs) (s : State) : (bootSteps train lost boot s).flt.running = true := by
  unfold bootSteps
  extract_lets time dim link can s1 s2 
  generalize (if train then loadSettle boot s2 else (s2, true)) = x
  obtain ⟨s3, ok⟩ := x
  have collector := startCollector_running (forbidFlash (checkLoader boot.loaderOk s3))
  by_cases hl : lost = 0 <;> cases train <;> cases ok <;> simp [hl, trainDram, collector, restoreBeam_flt]

theorem coldStart_running (cond : BitVec 64) (vin : Nat) (boot : BootInputs) (s : State) : (coldStart cond vin boot s).flt.running = true :=
  bootSteps_running _ _ _ _

/-! ### A wake -/

/-- The signatures of the retained banks are checked by a unit alone (18 R417). -/
theorem checkSignatures_keeps {β : Type} (g : State → β) (hjob : ∀ k v e s, g (cvuJob k v e s) = g s) (sigs : List Nat) (retained lost : Nat)
    (s : State) : g (checkSignatures sigs retained lost s) = g s :=
  foldl_keeps g (fun u n => by
    split
    · exact hjob _ _ _ u
    · rfl) _ s

/-- The module after a wake (18 R415). -/
theorem wakeStart_state (src : WakeSrc) (lost : BitVec 5) (seconds vin : Nat) (boot : BootInputs) (s : State) :
    let u := wakeStart src lost seconds vin boot s
    u.mode.op = .boot ∧ u.fuse = s.fuse ∧ u.gate.sessions = [] ∧ u.pwr.standbyS = seconds := by
  have keeps {β} (g : State → β) (h : ∀ k v e s, g (cvuJob k v e s) = g s) := checkSignatures_keeps g h
  unfold wakeStart
  dsimp only
  rw [keeps (fun u => u.mode.op) (by simp), keeps State.fuse (by simp), keeps (fun u => u.gate.sessions) (by simp),
    keeps (fun u => u.pwr.standbyS) (by simp)]
  have hstores := bootSteps_stores true
  have hboot := bootSteps_inBoot true
  exact ⟨(hboot _ _ rfl).op, (hstores _ _ rfl).2.1, (hboot _ _ rfl).sessions, (hstores _ _ rfl).2.2⟩

/-! ### Calibration is loaded -/

/-- No assertion without a block action touches the converters and their data. -/
theorem deliver_conv (src data : Nat) (forced : Bool) (s : State) : (deliver src data forced false s).conv = s.conv := by
  unfold deliver
  split <;> simp [interruptRun, rejectRun]

theorem levelSource_calibration (on : Bool) (s : State) : (levelSource 39 0 on s).conv = s.conv := by
  have unblocked : ∀ u, (deliver 39 0 false true u) = deliver 39 0 false false u := fun u => by
    unfold deliver
    rfl
  cases on
  · simp [levelSource]
  · simp only [levelSource, if_true]
    rw [assertSource_eq]
    split
    · rfl
    · rw [unblocked, deliver_conv]
      rfl

@[simp] theorem targetLight_conv (s : State) : (targetLight s).conv = s.conv := by
  cases h : s.mode.op <;> simp [targetLight, h]

@[simp] theorem assertAnew_conv (s : State) : (assertAnew s).conv = s.conv :=
  foldl_keeps State.conv (fun u n => by
    split
    · exact deliver_conv _ _ _ _
    · rfl) _ s

@[simp] theorem proofTransition_conv (s : State) : (proofTransition s).conv = s.conv := by
  simp [proofTransition, enterLimited, enterFull, applyTarget]

theorem calSourceOf_congr {s u : State} (hflash : u.flash = s.flash) (hpwr : u.pwr = s.pwr) (hconv : u.conv = s.conv) :
    calSourceOf u = calSourceOf s := by
  have hvalid : slotValid u = slotValid s := funext fun c => by
    have hfield : imgField u 22 2 = imgField s 22 2 := by simp [imgField, hflash]
    simp only [slotValid, calFormatKnown, hfield]
  simp [calSourceOf, knownSlots, knownSlot, hvalid, hflash, hpwr, hconv]

/-- The records of the slots that are not valid (14 R342). -/
def slotsNoted (s : State) : State :=
  let s := if (knownSlot s s.flash.calA).isNone then record srcCal 0x0005 0 s else s
  if (knownSlot s s.flash.calB).isNone then record srcCal 0x0005 1 s else s

@[simp] theorem slotsNoted_source (s : State) : calSourceOf (slotsNoted s) = calSourceOf s :=
  calSourceOf_congr (by simp [slotsNoted]) (by simp [slotsNoted]) (by simp [slotsNoted])

/-- The working set and the map of R344 in force. -/
def calLoaded (s : State) : State :=
  let src := calSourceOf s
  levelSource 39 0 src.2.2 (record srcCal 0x0004 src.1
    (rebuild (setCalData src.2.1 { s with conv := { s.conv with tstage := src.2.1.tcurves, loaded := true } })))

@[simp] theorem setCalData_loaded (c : CalData) (s : State) : (setCalData c s).conv.loaded = s.conv.loaded := by
  unfold setCalData
  dsimp only
  split <;> simp

theorem calLoaded_conv (s : State) : (calLoaded s).conv.loaded = true ∧ (calLoaded s).conv.cal = (calSourceOf s).2.1 := by
  simp [calLoaded, levelSource_calibration, rebuild]

theorem calLoad_completes {t : Nat} {s : State} (hop : isFw s.mode.op = true) (hnot : s.conv.loaded = false) (hmp : s.mp.restarting = none) :
    exec (.calLoadComplete t) s = .next (if (calLoaded (slotsNoted (advance t s))).dim.proofWaits then
      proofTransition (calLoaded (slotsNoted (advance t s))) else calLoaded (slotsNoted (advance t s))) := by
  change execCalLoadComplete t s = _
  unfold execCalLoadComplete
  rw [if_pos (by simp [hop, hnot, hmp])]
  rfl

/-! ### The map is restored -/

@[simp] theorem rakeUpdate_restored (s : State) : (rakeUpdate s).rake.restored = s.rake.restored := by
  unfold rakeUpdate
  dsimp only
  (repeat' split) <;> simp

@[simp] theorem ite_restored {c : Prop} [Decidable c] (a b : Rake) : (if c then a else b).restored = if c then a.restored else b.restored :=
  apply_ite Rake.restored c a b

@[simp] theorem goSafe_restored (kind cause : Nat) (s : State) : (goSafe kind cause s).rake.restored = s.rake.restored := by simp [goSafe]

@[simp] theorem startSchedule_rake (s : State) : (startSchedule s).rake = s.rake := by simp [startSchedule]

@[simp] theorem withholdBy_rake (src data : Nat) (s : State) : (withholdBy src data s).rake = s.rake := by simp [withholdBy]

@[simp] theorem react_restored (src data r : Nat) (s : State) : (react src data r s).rake.restored = s.rake.restored := by
  cases h : s.mode.op <;> simp [react, h, proofToSafe]

@[simp] theorem settleFails_restored (s : State) : (settleFails s).rake.restored = s.rake.restored := by simp [settleFails]

/-- No assertion without a block action undoes the restore of the map. -/
theorem deliver_restored {src : Nat} (data : Nat) (forced : Bool) (hblock : ∀ data before u, blockAction src data before u = u) (s : State) :
    (deliver src data forced true s).rake.restored = s.rake.restored := by
  unfold deliver
  split
  · simp
  · simp [hblock, interruptRun, rejectRun]

theorem assertSource_restored {src : Nat} (data : Nat) (forced : Bool) (hblock : ∀ data before u, blockAction src data before u = u) (s : State) :
    (assertSource src data forced s).rake.restored = s.rake.restored := by
  rw [assertSource_eq]
  split
  · rfl
  · rw [deliver_restored _ _ hblock]
    rfl

theorem checkThresholds_restored (p : Nat) (s : State) : (checkThresholds p s).rake.restored = s.rake.restored := by
  have tile : ∀ data forced u, (deliver 19 data forced true u).rake.restored = u.rake.restored :=
    fun data forced u => deliver_restored data forced (fun _ _ _ => rfl) u
  have tile' : ∀ data forced u, (assertSource 19 data forced u).rake.restored = u.rake.restored :=
    fun data forced u => assertSource_restored data forced (fun _ _ _ => rfl) u
  have panel : ∀ data forced u, (assertSource 20 data forced u).rake.restored = u.rake.restored :=
    fun data forced u => assertSource_restored data forced (fun _ _ _ => rfl) u
  simp [checkThresholds, tile, tile', panel]

theorem restoreMap_restored (s : State) : (restoreMap s).rake.restored = true := by
  have keeps := foldl_keeps (fun u => u.rake.restored) (fun u (e : Nat × Nat) => checkThresholds_restored e.1 u)
  unfold restoreMap
  extract_lets sn dvf kept res rake s1 s2 s3
  rw [keeps]
  have h2 : s2.rake.restored = true := by simp [s2, s1]
  unfold s3
  split
  · exact h2
  · exact h2

/-! ### The retries in BOOT -/

/-- A retry is due 1 s after the failure. -/
theorem retryDue {t0 now : Nat} {x : Option Nat} (hx : x = some t0) : (x.elim false fun t0 => decide (t0 + 100000000 ≤ now)) = true ↔ t0 + 100000000 ≤ now := by
  rw [hx, Option.elim_some, decide_eq_true_iff]

theorem trainingRetry_due {t t0 : Nat} {ws : List (List LaneSweep)} {s : State} (hop : s.mode.op = .boot) (htrain : trainingOk ws = true)
    (hfail : s.dram.trainFailed = some t0) (hdue : t0 + 100000000 ≤ tsc (advance t s)) :
    exec (.trainingRetry t ws) s = .next (trainDram ws (advance t s)) := by
  change execTrainingRetry t ws s = _
  rw [execTrainingRetry, if_neg (by simp [htrain]), if_pos ⟨by simpa using hop, (retryDue (by simpa using hfail)).mpr hdue⟩]

theorem trainingRetry_early {t t0 : Nat} {ws : List (List LaneSweep)} {s : State} (htrain : trainingOk ws = true)
    (hfail : s.dram.trainFailed = some t0) (hearly : tsc (advance t s) < t0 + 100000000) :
    exec (.trainingRetry t ws) s = .next (advance t s) := by
  change execTrainingRetry t ws s = _
  rw [execTrainingRetry, if_neg (by simp [htrain]), if_neg]
  exact fun h => Nat.not_le.mpr hearly ((retryDue (by simpa using hfail)).mp h.2)

theorem loaderCheckRetry_due {t t0 : Nat} {ok : Bool} {s : State} (hop : s.mode.op = .boot) (hwait : s.upd.loaderWait = some t0)
    (hdue : t0 + 100000000 ≤ tsc (advance t s)) : exec (.loaderCheckRetry t ok) s = .next (checkLoader ok (advance t s)) := by
  change execLoaderCheckRetry t ok s = _
  rw [execLoaderCheckRetry, if_pos ⟨by simpa using hop, (retryDue (by simpa using hwait)).mpr hdue⟩]

theorem loaderCheckRetry_early {t t0 : Nat} {ok : Bool} {s : State} (hwait : s.upd.loaderWait = some t0)
    (hearly : tsc (advance t s) < t0 + 100000000) : exec (.loaderCheckRetry t ok) s = .next (advance t s) := by
  change execLoaderCheckRetry t ok s = _
  rw [execLoaderCheckRetry, if_neg]
  exact fun h => Nat.not_le.mpr hearly ((retryDue (by simpa using hwait)).mp h.2)

/-- Settles O39. -/
theorem startsAndLoads : Obligations.StartsAndLoads := by
  refine ⟨fun vin boot s htrain => ⟨fun hop habove => ?_, fun hop => ?_, fun hbelow => ?_, fun h => ?_, fun h => ?_⟩,
    fun e lost seconds vin boot s htrain => ⟨fun hop hactive => ?_, fun hop hentry hinactive => ?_, fun hop => ?_⟩,
    fun t t0 ok ws s hop => ⟨fun htrain hfail => ⟨fun hdue => ?_, fun hearly => ?_⟩, fun hwait => ⟨fun hdue => ?_, fun hearly => ?_⟩⟩,
    fun t s hop => ⟨fun hnot hmp => ?_, fun hdone => ?_, fun hnot => ⟨?_, restoreMap_restored _⟩, fun hdone => ?_⟩⟩
  · have hexec : exec (.vinRise vin boot) s = .next (coldStart (vinConditions vin) vin boot s) := by
      change execVinRise vin boot s = _
      simp [execVinRise, htrain, hop, habove]
    have hboot := coldStart_inBoot (vinConditions vin) vin boot s
    exact ⟨_, hexec, hboot.op, (coldStart_stores _ _ _ _).2, hboot.sessions, hboot.idle, coldStart_running _ _ _ _⟩
  · change execVinRise vin boot s = _
    simp [execVinRise, htrain, hop]
  · change execVinRise vin boot s = _
    simp [execVinRise, htrain, hbelow]
  · simp [aboveStart, h]
  · simp [aboveStart]
    omega
  · have hexec : exec (.wakeSource e lost seconds vin boot) s =
        .next (wakeStart (s.pwr.wakeAtEntry.getD (wakeSeen e.src e.pins seconds s)) lost seconds vin boot s) := by
      change execWakeSource e lost seconds vin boot s = _
      rw [execWakeSource, if_neg (by simp [htrain]), if_pos ⟨hop, hactive⟩]
    exact ⟨_, hexec, wakeStart_state _ _ _ _ _ _⟩
  · change execWakeSource e lost seconds vin boot s = _
    rw [execWakeSource, if_neg (by simp [htrain]), if_neg]
    rintro ⟨-, h | ⟨hsel, hactive⟩⟩
    · simp [hentry] at h
    · obtain h | h := hinactive
      · exact absurd hsel (by rw [h]; decide)
      · exact absurd hactive (by rw [h]; decide)
  · change execWakeSource e lost seconds vin boot s = _
    simp [execWakeSource, htrain, hop]
  · exact trainingRetry_due hop htrain hfail hdue
  · exact trainingRetry_early htrain hfail hearly
  · exact loaderCheckRetry_due hop hwait hdue
  · exact loaderCheckRetry_early hwait hearly
  · refine ⟨_, calLoad_completes hop hnot hmp, ?_⟩
    have hconv := calLoaded_conv (slotsNoted (advance t s))
    rw [slotsNoted_source] at hconv
    split
    · simpa using hconv
    · exact hconv
  · change execCalLoadComplete t s = _
    simp [execCalLoadComplete, hdone]
  · change execMapRestoreComplete t s = _
    simp [execMapRestoreComplete, hop, hnot]
  · change execMapRestoreComplete t s = _
    simp [execMapRestoreComplete, hdone]

end Sys2Proof.Machine

/-! ## IMAGE_CHECK_COMPLETE (19 R437, Table 19.6) -/

namespace Sys2Proof.Machine

/-! ### The entry to PROOF_PENDING -/

/-- What the start of the firmware does not touch: the collector, the update control record, and the versions. -/
abbrev StartKept (s u : State) : Prop := u.mode = s.mode ∧ u.flt = s.flt ∧ u.flash.control = s.flash.control ∧ u.upd = s.upd

@[simp] theorem migrateSettings_startKept (s : State) : StartKept s (migrateSettings s) := by simp [StartKept, migrateSettings, writeSettings]

@[simp] theorem drawGenerations_startKept (draws : List Nat) (s : State) : StartKept s (drawGenerations draws s) := by
  simp [StartKept, drawGenerations]

@[simp] theorem examineSlots_startKept (s : State) : StartKept s (examineSlots s) := by
  unfold StartKept examineSlots
  split <;> simp

/-- The firmware as it starts, before a DARK or CUTOFF still in force is looked at (01 Table 1.9). -/
def firmwareStarted (draws : List Nat) (s : State) : State :=
  let s := { s with mode := { s.mode with op := .proofPending },
                    upd := { s.upd with fwVersion := imgVersion s },
                    mp := { s.mp with serviced := tsc s } }
  let s := if s.mode.unconfirmed then readdress (migrateSettings s) else s
  let s := drawGenerations draws s
  let ref := formChestRef s.comp.chest s
  let s := cvuJob 3 ref none s
  let s := { s with
    comp := { s.comp with
      chestRef := ref, chestAccepted := s.comp.chest, chestStage := memWriteList 0 [] 0 (chestBytes s.comp.chest),
      settleAccepted := { pattern := patternBytes s.arr.pattern, levels := s.arr.levels }, settleStage := patternBytes s.arr.pattern },
    dim := { s.dim with proofFrom := some (tsc s) },
    rake := { s.rake with snapFrom := tsc s } }
  let s := if s.pwr.wakeReport = 0 then s else record srcPower 0x0005 s.pwr.wakeReport s
  rakeUpdate (examineSlots s)

theorem enterProof_eq (draws : List Nat) (s : State) : enterProof draws s =
    if 5 ≤ (firmwareStarted draws s).flt.reaction ∧ (firmwareStarted draws s).flt.heldByReaction then
      proofToSafe ((firmwareStarted draws s).flt.reaction - 2) 0
        { firmwareStarted draws s with flt := { (firmwareStarted draws s).flt with heldByReaction := false } }
    else firmwareStarted draws s := rfl

theorem firmwareStarted_state (draws : List Nat) (s : State) :
    (firmwareStarted draws s).mode = { s.mode with op := .proofPending } ∧ (firmwareStarted draws s).flt = s.flt
      ∧ (firmwareStarted draws s).flash.control = s.flash.control ∧ (firmwareStarted draws s).upd.fwVersion = imgVersion s := by
  simp [firmwareStarted, apply_ite Flash.control]

@[simp] theorem proofToSafe_unconfirmed (kind cause : Nat) (s : State) : (proofToSafe kind cause s).mode.unconfirmed = s.mode.unconfirmed := by
  simp [proofToSafe]

/-- The firmware starts in PROOF_PENDING, or in SAFE under a DARK or CUTOFF still in force (15 R359). -/
theorem enterProof_state (draws : List Nat) (s : State) :
    let u := enterProof draws s
    (s.flt.reaction < 5 ∨ s.flt.heldByReaction = false → u.mode.op = .proofPending)
      ∧ (5 ≤ s.flt.reaction → s.flt.heldByReaction = true → u.mode.op = .safe) ∧ u.upd.fwVersion = imgVersion s
      ∧ u.mode.unconfirmed = s.mode.unconfirmed ∧ u.flash.control = s.flash.control := by
  obtain ⟨hmode, hflt, hcontrol, hversion⟩ := firmwareStarted_state draws s
  rw [enterProof_eq, hflt]
  dsimp only
  split
  case isTrue h =>
    refine ⟨fun hno => ?_, fun _ _ => by simp, by simp [hversion], by simp [hmode], by simp [hcontrol]⟩
    obtain hno | hno := hno
    · omega
    · simp [hno] at h
  case isFalse h => exact ⟨fun _ => by rw [hmode], fun h5 hheld => absurd ⟨h5, hheld⟩ h, hversion, by rw [hmode], hcontrol⟩

/-! ### The entry to LOADER -/

theorem enterLoader_state (cause : Nat) (v : ImageVerdict) (s : State) :
    (enterLoader cause v s).mode.op = .loader ∧ (enterLoader cause v s).upd.loaderCause = cause
      ∧ (s.flash.control.stage ≠ 3 → (enterLoader cause v s).flash = s.flash) := by
  refine ⟨by simp [enterLoader, writeControl], ?_, fun h => by simp [enterLoader, h]⟩
  unfold enterLoader
  dsimp only
  split
  · split <;> simp [writeControl]
  · simp

/-! ### The image check -/

/-- A boot of an unconfirmed image is counted (19 R444). -/
def bootCounted (s : State) : State :=
  let u := writeControl (fun c => { c with boots := c.boots + 1 }) s
  record srcUpdate 0x0004 u.flash.control.boots { u with mode := { u.mode with unconfirmed := true } }

theorem bootCounted_state (s : State) : (bootCounted s).mode.unconfirmed = true ∧ (bootCounted s).flt = s.flt
    ∧ (bootCounted s).flash.control.boots = s.flash.control.boots + 1 ∧ (bootCounted s).flash.control.stage = s.flash.control.stage
    ∧ (bootCounted s).flash.image = s.flash.image := by
  simp [bootCounted, writeControl]

section
variable {t : Nat} {v : ImageVerdict} {draws : List Nat} {s : State}

/-- The check ends only at its offset after a wake (18 R415). -/
theorem imageCheck_runs (hop : s.mode.op = .boot) (htrain : s.dram.trainFailed = none) (hwait : s.upd.loaderWait = none)
    (hoffset : s.pwr.wakeReport = 0 ∨ 28800000 ≤ tsc (advance t s)) :
    exec (.imageCheckComplete t v draws) s = .next (imageCheck v draws (advance t s)) := by
  change execImageCheckComplete t v draws s = _
  refine if_pos ⟨by simpa using hop, by simpa using htrain, by simpa using hwait, ?_⟩
  rw [imageOffset, Bool.or_eq_true, decide_eq_true_iff, decide_eq_true_iff]
  simpa using hoffset

theorem imageCheck_early (hwake : s.pwr.wakeReport ≠ 0) (hearly : tsc (advance t s) < 28800000) :
    exec (.imageCheckComplete t v draws) s = .next (advance t s) := by
  change execImageCheckComplete t v draws s = _
  refine if_neg fun h => ?_
  have hoffset := h.2.2.2
  rw [imageOffset, Bool.or_eq_true, decide_eq_true_iff, decide_eq_true_iff] at hoffset
  obtain h | h := hoffset
  · exact hwake (by simpa using h)
  · exact Nat.not_le.mpr hearly h

theorem imageCheck_updating (h1 : 1 ≤ s.flash.control.stage) (h3 : s.flash.control.stage ≤ 3) : imageCheck v draws s = enterLoader 1 v s :=
  if_pos ⟨h1, h3⟩

theorem imageCheck_thrice (h4 : s.flash.control.stage = 4) (hboots : 3 ≤ s.flash.control.boots) : imageCheck v draws s = enterLoader 2 v s := by
  simp [imageCheck, h4, hboots]

variable (hstage : s.flash.control.stage = 0 ∨ 4 < s.flash.control.stage ∨ (s.flash.control.stage = 4 ∧ s.flash.control.boots < 3))
include hstage

theorem imageCheck_invalid (hvalid : ¬ (imageValid s v = true ∧ v.digest = s.flash.control.digest)) : imageCheck v draws s = enterLoader 0 v s := by
  have hbad : (imageValid s v && decide (v.digest = s.flash.control.digest)) = false := by
    rw [Bool.eq_false_iff]
    simpa using hvalid
  unfold imageCheck
  dsimp only
  rw [if_neg (by omega), if_neg (by omega), hbad]
  rfl

theorem imageCheck_starts (hvalid : imageValid s v = true ∧ v.digest = s.flash.control.digest) :
    imageCheck v draws s = if s.flash.control.stage = 4 then enterProof draws (bootCounted s) else enterProof draws s := by
  have hgood : (imageValid s v && decide (v.digest = s.flash.control.digest)) = true := by simpa using hvalid
  unfold imageCheck
  dsimp only
  rw [if_neg (by omega), if_neg (by omega), hgood]
  rfl

end

/-- Settles O40. -/
theorem imageCheckDecides : Obligations.ImageCheckDecides := by
  intro t v draws s hop htrain hwait a c valid started
  refine ⟨imageCheck_early, fun hoffset => ?_⟩
  have hexec := imageCheck_runs (v := v) (draws := draws) hop htrain hwait hoffset
  have hcontrol : a.flash.control = c := by rw [advance_flash]
  rw [hexec]
  have hstarted : ∀ u : State, started u ↔ ((a.flt.reaction < 5 ∨ a.flt.heldByReaction = false → u.mode.op = .proofPending)
      ∧ (5 ≤ a.flt.reaction → a.flt.heldByReaction = true → u.mode.op = .safe) ∧ u.upd.fwVersion = imgVersion a) := fun u => by
    simp only [a, advance_flt]
    rfl
  have hmode : a.mode = s.mode := advance_mode t s
  have hflash : a.flash = s.flash := advance_flash t s
  have hvalidity : valid ↔ imageValid a v = true ∧ v.digest = a.flash.control.digest := by rw [hflash]
  simp only [hstarted, hvalidity, ← hcontrol, ← hmode, ← hflash]
  refine ⟨fun h1 h3 => ⟨_, congrArg _ (imageCheck_updating h1 h3), ?_⟩, fun h4 hboots => ⟨_, congrArg _ (imageCheck_thrice h4 hboots), ?_⟩,
    fun hstage hinvalid => ⟨_, congrArg _ (imageCheck_invalid hstage hinvalid), ?_⟩, fun hstage hvalid => ?_, fun h4 hboots hvalid => ?_⟩
  · obtain ⟨h, h', -⟩ := enterLoader_state 1 v a
    exact ⟨h, h'⟩
  · obtain ⟨h, h', -⟩ := enterLoader_state 2 v a
    exact ⟨h, h'⟩
  · obtain ⟨h, h', hkept⟩ := enterLoader_state 0 v a
    exact ⟨h, h', hkept (by omega)⟩
  · have hnot : ¬ a.flash.control.stage = 4 := by omega
    obtain ⟨h1, h2, h3, h4, h5⟩ := enterProof_state draws a
    exact ⟨_, congrArg _ ((imageCheck_starts (s := a) (by omega) hvalid).trans (if_neg hnot)), ⟨h1, h2, h3⟩, h4, h5⟩
  · obtain ⟨hmark, hflt, hboots', hstage, himage⟩ := bootCounted_state a
    obtain ⟨h1, h2, h3, h4', h5⟩ := enterProof_state draws (bootCounted a)
    have hversion : imgVersion (bootCounted a) = imgVersion a := by simp only [imgVersion, imgField, himage]
    rw [hflt] at h1 h2
    exact ⟨_, congrArg _ ((imageCheck_starts (s := a) (.inr (.inr ⟨h4, hboots⟩)) hvalid).trans (if_pos h4)), ⟨h1, h2, h3.trans hversion⟩,
      h4'.trans hmark, (congrArg ControlRec.boots h5).trans hboots', (congrArg ControlRec.stage h5).trans (hstage.trans h4)⟩

end Sys2Proof.Machine

/-! ## The gate (11 R269, Table 11.5) -/

namespace Sys2Proof.Machine

section
variable {ep : Endpoint} {raw : List Byte} {s : State}

theorem psiferMessage_checked {t : Nat} (h : receives (advance t s) ep = true) :
    exec (.psiferMessage t ep raw) s = .next (serveUnknown (gateCheck ep raw (advance t s))) := by
  change execPsiferMessage t ep raw s = _
  exact if_pos h

/-! ### The steps of the gate, in their order -/

theorem gateCheck_runt (h : raw.length < 32) : gateCheck ep raw s = { s with gate := { s.gate with runts := incr32 s.gate.runts } } := if_pos h

variable (hlen : 32 ≤ raw.length)
include hlen

theorem gateCheck_version (hver : (parseMsg ep (tsc s) raw).version ≠ 1) : gateCheck ep raw s =
    replyUntagged (parseMsg ep (tsc s) raw) eVersion 0 { s with gate := { s.gate with verRejects := incr32 s.gate.verRejects } } := by
  rw [gateCheck, if_neg (by omega), if_pos hver]

variable (hver : (parseMsg ep (tsc s) raw).version = 1)
include hver

theorem gateCheck_length (hbad : 1440 < (parseMsg ep (tsc s) raw).length ∨ (parseMsg ep (tsc s) raw).length ≠ raw.length - 32) :
    gateCheck ep raw s = replyUntagged (parseMsg ep (tsc s) raw) eLength (min (raw.length - 32) 0xFFFE)
      { s with gate := { s.gate with lenRejects := incr32 s.gate.lenRejects } } := by
  have hno : lengthOk (parseMsg ep (tsc s) raw) (raw.length - 32) = false := by
    rw [lengthOk, Bool.and_eq_false_iff, decide_eq_false_iff_not, decide_eq_false_iff_not]
    omega
  rw [gateCheck, if_neg (by omega), if_neg (by simpa using hver), if_pos (by rw [hno]; rfl)]

variable (hmax : (parseMsg ep (tsc s) raw).length ≤ 1440) (hexact : (parseMsg ep (tsc s) raw).length = raw.length - 32)
  (hsession : (parseMsg ep (tsc s) raw).session ≠ 0)
include hmax hexact hsession

theorem gateCheck_unknown (hnone : findSession s (parseMsg ep (tsc s) raw).session = none) :
    gateCheck ep raw s = rejectAuth (parseMsg ep (tsc s) raw) s := by
  have hok : lengthOk (parseMsg ep (tsc s) raw) (raw.length - 32) = true := by
    rw [lengthOk, decide_eq_true hmax, decide_eq_true hexact, Bool.and_self]
  rw [gateCheck, if_neg (by omega), if_neg (by simpa using hver), if_neg (by simp [hok])]
  dsimp only
  rw [if_neg hsession, hnone]

theorem gateCheck_session {x : Session} (hx : findSession s (parseMsg ep (tsc s) raw).session = some x) : gateCheck ep raw s =
    if fromEndpoint x (parseMsg ep (tsc s) raw) && decide (tagOf x.kHm (raw.take (raw.length - 8)) = raw.drop (raw.length - 8)) then
      gateTrusted (parseMsg ep (tsc s) raw) x s
    else rejectAuth (parseMsg ep (tsc s) raw) s := by
  have hok : lengthOk (parseMsg ep (tsc s) raw) (raw.length - 32) = true := by
    rw [lengthOk, decide_eq_true hmax, decide_eq_true hexact, Bool.and_self]
  rw [gateCheck, if_neg (by omega), if_neg (by simpa using hver), if_neg (by simp [hok])]
  dsimp only
  rw [if_neg hsession, hx]

end

/-! ### An accepted message -/

theorem gateTrusted_queues {m : Msg} {x : Session} {s : State} (hqueue : msgQueue m ≠ 3) (hfresh : lastFresh x (msgQueue m) < m.freshness)
    (hdomain : m.opcode / 256 = 0x0B → m.ep.viaCan = true) (hmp : s.mp.restarting = none)
    (hroom : (queueOf x (msgQueue m)).length < queueDepth (msgQueue m)) :
    gateTrusted m x s = updSession m.session (enqueue m) (acceptMsg m s) := by
  have hservice : ¬ (m.opcode / 256 = 0x0B ∧ (!m.ep.viaCan) = true) := by
    rintro ⟨hop, hno⟩
    rw [hdomain hop] at hno
    exact absurd hno (by decide)
  unfold gateTrusted
  dsimp only
  rw [if_neg hqueue, if_neg (by omega), if_neg hservice, if_neg (by simp [hmp]), if_neg (by omega)]

/-- A message joins its queue behind those that wait there. -/
theorem queueOf_enqueue (m : Msg) (x : Session) : queueOf (enqueue m x) (msgQueue m) = queueOf x (msgQueue m) ++ [m] := by
  unfold enqueue queueOf
  generalize msgQueue m = q
  match q with
  | 0 | 1 | _ + 2 => rfl

theorem lastFresh_setFresh (q v : Nat) (x : Session) : lastFresh (setFresh q v x) q = v := by
  match q with
  | 0 | 1 | _ + 2 => rfl

/-- What an accepted message leaves of its session beside its queue and its FRESHNESS. -/
@[simp] theorem setFresh_leaves (q v : Nat) (x : Session) : (setFresh q v x).id = x.id ∧ (setFresh q v x).accepted = x.accepted
    ∧ ∀ k, queueOf (setFresh q v x) k = queueOf x k := by
  match q with
  | 0 | 1 | _ + 2 => exact ⟨rfl, rfl, fun _ => rfl⟩

@[simp] theorem enqueue_leaves (m : Msg) (x : Session) : (enqueue m x).id = x.id ∧ (enqueue m x).accepted = x.accepted
    ∧ (enqueue m x).lastArrival = x.lastArrival ∧ ∀ k, lastFresh (enqueue m x) k = lastFresh x k := by
  unfold enqueue
  generalize msgQueue m = q
  match q with
  | 0 | 1 | _ + 2 => exact ⟨rfl, rfl, rfl, fun _ => rfl⟩

/-- The session as an accepted message leaves it (11 R270). -/
def acceptedBy (m : Msg) (x : Session) : Session :=
  { setFresh (msgQueue m) m.freshness x with lastArrival := m.arrival, accepted := incr32 x.accepted, evEp := m.ep }

@[simp] theorem hostArrival_gate (s : State) : (hostArrival s).gate = s.gate := by simp [hostArrival]

theorem hostArrival_link (s : State) : (hostArrival s).link = { s.link with lastHost := tsc s, silenceFrom := tsc s } := by
  have ended : ∀ u : State, (endSource 46 u).link = u.link := fun u => by simp
  rw [hostArrival, ended]

theorem findSession_acceptMsg {m : Msg} {x : Session} {s : State} (hx : findSession s m.session = some x) :
    findSession (acceptMsg m s) m.session = some (acceptedBy m x) := by
  have hfind := findSession_updSession m.session m.session (acceptedBy m) s (fun y => by simp [acceptedBy])
  rw [if_pos rfl, hx] at hfind
  have heq : acceptMsg m s = hostArrival (updSession m.session (acceptedBy m) s) := rfl
  rw [heq, findSession, hostArrival_gate]
  exact hfind

/-- What an accepted message leaves (11 R269, R270). -/
theorem accepted_state {m : Msg} {x : Session} {s : State} (hx : findSession s m.session = some x) :
    let u := updSession m.session (enqueue m) (acceptMsg m s)
    (∃ y, findSession u m.session = some y ∧ queueOf y (msgQueue m) = queueOf x (msgQueue m) ++ [m]
        ∧ lastFresh y (msgQueue m) = m.freshness ∧ y.accepted = incr32 x.accepted ∧ y.lastArrival = m.arrival)
      ∧ u.link.lastHost = tsc s ∧ u.gate.outbox = s.gate.outbox := by
  have hfind := findSession_updSession m.session m.session (enqueue m) (acceptMsg m s) (fun y => by simp)
  rw [if_pos rfl, findSession_acceptMsg hx] at hfind
  refine ⟨⟨_, hfind, ?_, ?_, ?_, ?_⟩, ?_, ?_⟩
  · rw [queueOf_enqueue]
    exact congrArg (· ++ [m]) ((setFresh_leaves (msgQueue m) m.freshness x).2.2 _)
  · rw [(enqueue_leaves m _).2.2.2]
    exact lastFresh_setFresh _ _ x
  · rw [(enqueue_leaves m _).2.1]
    rfl
  · rw [(enqueue_leaves m _).2.2.1]
    rfl
  · change (acceptMsg m s).link.lastHost = _
    rw [acceptMsg, hostArrival_link]
    rfl
  · change (acceptMsg m s).gate.outbox = _
    rw [acceptMsg, hostArrival_gate]
    simp only [updSession]

/-- Settles O46. -/
theorem gateChecksInOrder : Obligations.GateChecksInOrder := by
  intro t ep raw s a m hreceives
  have hexec := psiferMessage_checked (raw := raw) hreceives
  rw [hexec]
  refine ⟨fun h => by rw [gateCheck_runt h], fun hlen hver => by rw [gateCheck_version hlen hver],
    fun hlen hver hbad => by rw [gateCheck_length hlen hver hbad], fun hlen hver hmax hexact hsession => ⟨fun hnone => ?_, fun x hx => ?_⟩⟩
  · rw [gateCheck_unknown hlen hver hmax hexact hsession hnone]
  · have hcheck := gateCheck_session hlen hver hmax hexact hsession hx
    refine ⟨fun hforeign => ?_, fun hep htag hqueue hfresh hdomain hmp hroom => ?_⟩
    · rw [hcheck, if_neg]
      rintro h
      obtain ⟨hfrom, hsigned⟩ := Bool.and_eq_true_iff.mp h
      exact hforeign.elim (· (of_decide_eq_true hfrom)) (· (of_decide_eq_true hsigned))
    · intro u
      obtain ⟨hy, hlink, houtbox⟩ := accepted_state (s := a) hx
      refine ⟨?_, hy, hlink, houtbox⟩
      have hfrom : fromEndpoint x m = true := decide_eq_true hep
      rw [hcheck, if_pos (by rw [hfrom, decide_eq_true htag]; rfl), gateTrusted_queues hqueue hfresh hdomain hmp hroom]

end Sys2Proof.Machine

/-! ## The governor's law (04 R92 to R99) -/

namespace Sys2Proof.Machine

/-! ### scale_for of R94 is the largest scale that fits -/

/-- A scale at or below scale_for keeps its predicted current within the budget. -/
theorem predicted_le {x sum b : Nat} (hfits : 0 ≤ scaleFor sum b) (hx : (x : Int) ≤ scaleFor sum b) : predicted x sum ≤ b := by
  unfold predicted
  obtain rfl | hsum := Nat.eq_zero_or_pos sum
  · simp
  · rw [scaleFor, if_neg (by omega)] at hfits hx
    have hq : x + 1 ≤ b * 1024 * 16383 / (48 * sum) := by omega
    have hprod : (x + 1) * (48 * sum) ≤ b * 1024 * 16383 := (Nat.le_div_iff_mul_le (by omega)).mp hq
    refine Nat.div_le_of_le_mul ?_
    calc 48 * (x + 1) * sum = (x + 1) * (48 * sum) := by rw [Nat.mul_comm 48 (x + 1), Nat.mul_assoc]
      _ ≤ b * 1024 * 16383 := hprod
      _ = 1024 * 16383 * b := by omega

/-- A scale whose predicted current fits is at or below scale_for. -/
theorem le_scaleFor {y sum b : Nat} (hsum : 0 < sum) (hmax : y ≤ 1023) (hfits : 48 * (y + 1) * sum ≤ b * 1024 * 16383) :
    (y : Int) ≤ scaleFor sum b := by
  have hq : y + 1 ≤ b * 1024 * 16383 / (48 * sum) := by
    refine (Nat.le_div_iff_mul_le (by omega)).mpr ?_
    calc (y + 1) * (48 * sum) = 48 * (y + 1) * sum := by rw [Nat.mul_comm 48 (y + 1), Nat.mul_assoc]
      _ ≤ b * 1024 * 16383 := hfits
  rw [scaleFor, if_neg (by omega)]
  omega

/-! ### The least term -/

/-- The least term lies at or below each of the four, and is one of them. -/
theorem GovTerms.least_le (g : GovTerms) : g.least ≤ g.base ∧ g.least ≤ g.budget ∧ g.least ≤ g.power ∧ g.least ≤ g.cap := by
  unfold GovTerms.least
  omega

theorem GovTerms.le_least {g : GovTerms} {y : Int} (hbase : y ≤ g.base) (hbudget : y ≤ g.budget) (hpower : y ≤ g.power) (hcap : y ≤ g.cap) :
    y ≤ g.least := by
  unfold GovTerms.least
  omega

theorem effectiveBudget_le (s : State) (profile : Nat) : effectiveBudget s profile ≤ 1000 * profileBudget s.cfg.gov profile
    ∧ (isAsserted s 34 = true → effectiveBudget s profile ≤ 4000000) := by
  have hstep : (if s.gov.step = 0 then 1000 * profileBudget s.cfg.gov profile
      else 100 * profileBudget s.cfg.gov profile * (10 - s.gov.step)) ≤ 1000 * profileBudget s.cfg.gov profile := by
    split
    · exact Nat.le_refl _
    · calc 100 * profileBudget s.cfg.gov profile * (10 - s.gov.step) ≤ 100 * profileBudget s.cfg.gov profile * 10 :=
          Nat.mul_le_mul_left _ (Nat.sub_le _ _)
        _ = 1000 * profileBudget s.cfg.gov profile := by omega
  unfold effectiveBudget
  refine ⟨?_, fun h34 => ?_⟩
  · dsimp only
    split
    · exact Nat.le_trans (Nat.min_le_left _ _) hstep
    · exact hstep
  · rw [if_pos h34]
    exact Nat.min_le_right _ _

/-- Settles O51. -/
theorem governorStaysInBudget : Obligations.GovernorStaysInBudget := by
  intro s f g x
  obtain ⟨hbase, hbudget, hpower, hcap⟩ := g.least_le
  have hx : x = g.least.toNat := rfl
  have hgbase : g.base = ((max s.cfg.gov.hostScale f.scaleFloor : Nat) : Int) := rfl
  have hgbudget : g.budget = scaleFor f.sum (effectiveBudget s f.profile) := rfl
  have hgpower : g.power = scaleFor f.sum (31000000000 / g.v) := rfl
  refine ⟨fun h => ?_, fun h => ?_, fun h => ?_, ?_, ?_, (effectiveBudget_le s _).1, (effectiveBudget_le s _).2,
    fun y hy hycap hmax hsum hfits hfits' => ?_⟩
  · exact predicted_le (hgbudget ▸ h) (by omega)
  · exact predicted_le (hgpower ▸ h) (by omega)
  · omega
  · omega
  · omega
  · have hleast : (y : Int) ≤ g.least :=
      GovTerms.le_least (by omega) (hgbudget ▸ le_scaleFor hsum hmax hfits) (hgpower ▸ le_scaleFor hsum hmax hfits') hycap
    omega

end Sys2Proof.Machine

/-! ## The DRAM controller (17 R397 to R403) -/

namespace Sys2Proof.Machine

/-! ### What a channel serves is a request of its queue -/

theorem mem_of_firstBy {α : Type} {before : α → α → Bool} {l : List α} {x : α} (h : firstBy before l = some x) : x ∈ l := by
  induction l generalizing x with
  | nil => simp [firstBy] at h
  | cons y l ih =>
    unfold firstBy at h
    split at h
    case h_1 => simp_all
    case h_2 z hz =>
      split at h
      · exact List.mem_cons_of_mem _ (ih (hz.trans h))
      · simp_all

theorem mem_of_hazardWrite {q : List DramReq} {x : DramReq} (h : hazardWrite q = some x) : x ∈ q := by
  obtain ⟨e, -, he⟩ := List.exists_of_findSome?_eq_some h
  split at he
  · simp at he
  · have holder : x ∈ olderOn q e.2 true := List.mem_of_head? he
    exact List.mem_of_mem_take (List.mem_filter.mp holder).1

theorem mem_channelQueue {s : State} {ch : Nat} {x : DramReq} : x ∈ channelQueue s ch ↔ x ∈ s.dram.queue ∧ x.channel = ch := by
  simp [channelQueue]

/-- The requests that nothing older of their block keeps waiting. -/
theorem mem_of_free {q : List DramReq} {x : DramReq} (h : x ∈ (q.zipIdx.filter fun e => mayServe q e.2 e.1).map (·.1)) : x ∈ q := by
  obtain ⟨e, he, rfl⟩ := List.mem_map.mp h
  exact List.fst_mem_of_mem_zipIdx (List.mem_filter.mp he).1

/-- A channel serves a request of its own queue (17 R399). -/
theorem nextDram_mem {s : State} {ch : Nat} {x : DramReq} (h : nextDram s ch = some x) : x ∈ s.dram.queue ∧ x.channel = ch := by
  refine mem_channelQueue.mp ?_
  unfold nextDram at h
  simp only [Option.orElse_eq_orElse, Option.orElse_eq_or, Option.or_eq_some_iff] at h
  obtain h | ⟨-, h | ⟨-, h | ⟨-, h⟩⟩⟩ := h
  · obtain ⟨b, -, hb⟩ := Option.bind_eq_some_iff.mp h
    exact mem_of_free (List.mem_of_find?_eq_some hb)
  · exact mem_of_hazardWrite h
  · split at h
    · exact mem_of_free (List.mem_filter.mp (mem_of_firstBy h)).1
    · simp at h
  · exact mem_of_free (mem_of_firstBy h)

/-! ### A served request -/

/-- Neither the refreshes nor the check of a read touch the queue and the note of what is served. -/
abbrev QueueKept (s u : State) : Prop := u.dram.queue = s.dram.queue ∧ u.dram.served = s.dram.served

@[simp] theorem refreshRow_queue (key row : Nat) (s : State) : QueueKept s (refreshRow key row s) := by
  unfold QueueKept refreshRow
  dsimp only
  split <;> exact ⟨rfl, rfl⟩

@[simp] theorem refreshDue_queue (key : Nat) (s : State) : QueueKept s (refreshDue key s) :=
  ⟨foldl_keeps (fun u => u.dram.queue) (by simp) _ s, foldl_keeps (fun u => u.dram.served) (by simp) _ s⟩

@[simp] theorem activate_queue (r : DramReq) (s : State) : QueueKept s (activate r s) := by
  unfold QueueKept activate
  dsimp only
  split
  · exact ⟨rfl, rfl⟩
  · split
    · simp
    · split <;> simp

/-- The ECC sources react without a block action; no reaction touches the controller. -/
theorem assertSource_dram {src : Nat} (data : Nat) (forced : Bool) (hblock : ∀ data before u, blockAction src data before u = u) (s : State) :
    (assertSource src data forced s).dram = s.dram := by
  rw [assertSource_eq]
  split
  · rfl
  · unfold deliver
    split
    · simp [conditionNoted]
    · simp [hblock, interruptRun, rejectRun, conditionNoted]

@[simp] theorem dramEcc_dram (ch owner : Nat) (ecc : Ecc) (s : State) : (dramEcc ch owner ecc s).dram = s.dram := by
  cases ecc
  · rfl
  · exact assertSource_dram _ _ (fun _ _ _ => rfl) s
  · exact assertSource_dram _ _ (fun _ _ _ => rfl) s

theorem serveDram_queue (r : DramReq) (s : State) : (serveDram r s).dram.served = some r ∧ (serveDram r s).dram.queue = s.dram.queue.erase r := by
  unfold serveDram
  extract_lets q waits n dram s1 s2
  have h2 : s2.dram.served = some r ∧ s2.dram.queue = s.dram.queue.erase r := by simp [s2, s1]
  split
  · simpa using h2
  · exact h2

/-! ### The drift check -/

@[simp] theorem setRefresh_lanes (ch refresh now : Nat) (d : Dram) : (setRefresh ch refresh now d).lanes = d.lanes := by
  unfold setRefresh
  split <;> rfl

theorem setRefresh_refresh (ch refresh now : Nat) (d : Dram) (hch : ch < d.refresh.length) : (setRefresh ch refresh now d).refresh.getD ch 1 = refresh := by
  unfold setRefresh
  split
  · assumption
  · simp [startRefreshWindow, List.getD, hch]

/-- A delay step of the two lanes of a channel, lane by lane (17 R397). -/
theorem movedLanes_getD {ch n : Nat} (steps : List Int) {lanes : List Lane} (hn : n < lanes.length) :
    (lanes.zipIdx.map fun e => if e.2 / 2 = ch then moveDelay (steps.getD (e.2 % 2) 0) e.1 else e.1).getD n {}
      = if n / 2 = ch then moveDelay (steps.getD (n % 2) 0) (lanes.getD n {}) else lanes.getD n {} := by
  simp [List.getD, hn]

/-! ### The refresh window -/

/-- What the end of a window leaves of the tables: those of its channel are cleared if the window is over, and no other entry is. -/
theorem nextRefreshWindow_tables (ch : Nat) (s : State) (e : Nat × List (Nat × Nat)) :
    e ∈ (nextRefreshWindow ch s).dram.tables ↔
      e ∈ s.dram.tables ∧ (s.dram.windowFrom.getD ch 0 + refreshWindow ch s ≤ tsc s → e.1 / 8 ≠ ch) := by
  unfold nextRefreshWindow
  dsimp only
  split
  case isTrue h => rw [imp_iff_right h, startRefreshWindow, List.mem_filter, decide_eq_true_iff]
  case isFalse h => exact ⟨fun he => ⟨he, fun h' => absurd h' h⟩, And.left⟩

/-- The windows of the other channel and the clock stay. -/
theorem nextRefreshWindow_other {ch k : Nat} (h : k ≠ ch) (s : State) : (nextRefreshWindow ch s).dram.windowFrom.getD k 0 = s.dram.windowFrom.getD k 0
    ∧ refreshWindow k (nextRefreshWindow ch s) = refreshWindow k s ∧ tsc (nextRefreshWindow ch s) = tsc s := by
  unfold nextRefreshWindow
  dsimp only
  split
  · refine ⟨?_, rfl, rfl⟩
    simp [startRefreshWindow, List.getD, List.getElem?_set_ne h.symm]
  · exact ⟨rfl, rfl, rfl⟩

theorem windows_tables (s : State) (e : Nat × List (Nat × Nat)) : e ∈ (nextRefreshWindow 1 (nextRefreshWindow 0 s)).dram.tables ↔
    (e ∈ s.dram.tables ∧ (s.dram.windowFrom.getD 0 0 + refreshWindow 0 s ≤ tsc s → e.1 / 8 ≠ 0))
      ∧ (s.dram.windowFrom.getD 1 0 + refreshWindow 1 s ≤ tsc s → e.1 / 8 ≠ 1) := by
  obtain ⟨hfrom, hwindow, htsc⟩ := nextRefreshWindow_other (ch := 0) (k := 1) (by decide) s
  rw [nextRefreshWindow_tables, nextRefreshWindow_tables, hfrom, hwindow, htsc]

/-! ### The counter table -/

theorem leastEntry_isSome {tb : List (Nat × Nat)} (h : tb ≠ []) : ∃ x, leastEntry tb = some x := by
  cases tb with
  | nil => contradiction
  | cons y l =>
    unfold leastEntry firstBy
    split
    · exact ⟨y, rfl⟩
    · split <;> exact ⟨_, rfl⟩

section
variable (row : Nat) (tb : List (Nat × Nat))

theorem countActivate_known (h : tb.any (fun e => e.1 = row) = true) :
    countActivate row tb = tb.map fun e => if e.1 = row then (e.1, e.2 + 1) else e := if_pos h

theorem countActivate_room (h : tb.any (fun e => e.1 = row) = false) (hroom : tb.length < 64) : countActivate row tb = tb ++ [(row, 1)] := by
  rw [countActivate, h, if_neg Bool.false_ne_true, if_pos hroom]

theorem countActivate_full (h : tb.any (fun e => e.1 = row) = false) (hfull : 64 ≤ tb.length) :
    ∃ x ∈ tb, countActivate row tb = tb.map fun e => if e = x then (row, x.2 + 1) else e := by
  obtain ⟨x, hx⟩ := leastEntry_isSome (tb := tb) (by rintro rfl; simp at hfull)
  exact ⟨x, mem_of_firstBy hx, by rw [countActivate, h, if_neg Bool.false_ne_true, if_neg (by omega), hx]⟩

/-- A table of at most 64 entries keeps at most 64, holds the row that was activated, and keeps the others while it has room (17 R402). -/
theorem countActivate_counts (hlen : tb.length ≤ 64) : (countActivate row tb).length ≤ 64 ∧ (∃ c, (row, c) ∈ countActivate row tb ∧ 1 ≤ c)
    ∧ (tb.length < 64 → ∀ e ∈ tb, e.1 ≠ row → e ∈ countActivate row tb) := by
  cases hany : tb.any (fun e => e.1 = row) with
  | true =>
    rw [countActivate_known row tb hany]
    obtain ⟨e, he, hrow⟩ := List.any_eq_true.mp hany
    have hrow := of_decide_eq_true hrow
    refine ⟨by simpa using hlen, ⟨e.2 + 1, ?_, by omega⟩, fun _ e he hne => ?_⟩
    · exact List.mem_map.mpr ⟨e, he, by rw [if_pos hrow, hrow]⟩
    · exact List.mem_map.mpr ⟨e, he, if_neg hne⟩
  | false =>
    by_cases hroom : tb.length < 64
    · rw [countActivate_room row tb hany hroom]
      refine ⟨?_, ⟨1, by simp, Nat.le_refl _⟩, fun _ e he _ => List.mem_append_left _ he⟩
      rw [List.length_append, List.length_singleton]
      omega
    · obtain ⟨x, hx, heq⟩ := countActivate_full row tb hany (by omega)
      rw [heq]
      refine ⟨by simpa using hlen, ⟨x.2 + 1, List.mem_map.mpr ⟨x, hx, if_pos rfl⟩, by omega⟩, fun h => absurd h hroom⟩

end

/-- The rows within two rows of a row, as far as they exist. -/
theorem mem_neighbours (s : State) (row k : Nat) :
    k ∈ neighbours s row [1, 2] ↔ k + 1 = row ∨ k + 2 = row ∨ (k < dramRows s ∧ (k = row + 1 ∨ k = row + 2)) := by
  have below : ∀ d, k ∈ (if d ≤ row then [row - d] else []) ↔ k + d = row := fun d => by
    split <;> simp <;> omega
  have above : ∀ d, k ∈ (if row + d < dramRows s then [row + d] else []) ↔ k < dramRows s ∧ k = row + d := fun d => by
    split <;> simp <;> omega
  simp only [neighbours, List.flatMap_cons, List.flatMap_nil, List.append_nil, List.mem_append, below, above]
  constructor
  · rintro ((h | ⟨hk, h⟩) | h | ⟨hk, h⟩)
    · exact .inl h
    · exact .inr (.inr ⟨hk, .inl h⟩)
    · exact .inr (.inl h)
    · exact .inr (.inr ⟨hk, .inr h⟩)
  · rintro (h | h | ⟨hk, h | h⟩)
    · exact .inl (.inl h)
    · exact .inr (.inl h)
    · exact .inl (.inr ⟨hk, h⟩)
    · exact .inr (.inr ⟨hk, h⟩)

/-- A row whose count has reached 4,096: its neighbours are refreshed and its count starts again (17 R402). -/
theorem refreshRow_refreshes {key row c : Nat} {s : State} (hmem : (row, c) ∈ memRead [] s.dram.tables key) (hc : 4096 ≤ c) :
    refreshRow key row s = { s with dram := { s.dram with
      tables := memWrite [] s.dram.tables key ((memRead [] s.dram.tables key).map fun e => if e.1 = row then (e.1, 0) else e),
      refreshed := some (key, neighbours s row [1, 2]) } } :=
  if_pos (List.any_eq_true.mpr ⟨(row, c), hmem, by rw [decide_eq_true rfl, decide_eq_true hc]; rfl⟩)

/-! ### The commands -/

section
variable {t ch : Nat} {s : State} (hclock : clockRuns s = true) (hch : ch < 2)
include hclock hch

theorem dramRequest_joins {r : DramReq} (hr : dramReqOk s r = true) : exec (.dramRequest t (some r) ch) s =
    .next ((nextDram (enqueueDram r (advance t s)) ch).elim (enqueueDram r (advance t s)) fun x => serveDram x (enqueueDram r (advance t s))) := by
  change execDramRequest t (some r) ch s = _
  rw [execDramRequest, if_neg (by simp [hr, hch])]
  dsimp only
  rw [if_neg (by simpa [clockRuns] using hclock)]
  cases nextDram (enqueueDram r (advance t s)) ch <;> rfl

theorem dramRequest_serves : exec (.dramRequest t none ch) s =
    .next ((nextDram (advance t s) ch).elim (advance t s) fun x => serveDram x (advance t s)) := by
  change execDramRequest t none ch s = _
  rw [execDramRequest, if_neg (by simp [hch])]
  dsimp only
  rw [if_neg (by simpa [clockRuns] using hclock)]
  cases nextDram (advance t s) ch <;> rfl

theorem dqsDriftCheck_due {refresh : Nat} {d0 d1 : Int} (hrefresh : refresh ≠ 0) (hdue : driftDue ch (advance t s) = true) :
    exec (.dqsDriftCheck t ch [d0, d1] refresh) s =
      let a := advance t s
      .next { a with dram := setRefresh ch refresh (tsc a) { a.dram with
        driftAt := a.dram.driftAt.set ch (some (tsc a)),
        lanes := a.dram.lanes.zipIdx.map fun e => if e.2 / 2 = ch then moveDelay ([d0, d1].getD (e.2 % 2) 0) e.1 else e.1 } } := by
  change execDqsDriftCheck t ch [d0, d1] refresh s = _
  rw [execDqsDriftCheck, if_neg (by simp [hch, hrefresh])]
  exact if_neg (by simpa [hdue, clockRuns] using hclock)

end

theorem dqsDriftCheck_early {t ch : Nat} {s : State} (hch : ch < 2) {refresh : Nat} {d0 d1 : Int} (hrefresh : refresh ≠ 0) (hnot : driftDue ch (advance t s) = false) :
    exec (.dqsDriftCheck t ch [d0, d1] refresh) s = .next (advance t s) := by
  change execDqsDriftCheck t ch [d0, d1] refresh s = _
  rw [execDqsDriftCheck, if_neg (by simp [hch, hrefresh])]
  exact if_pos (by simp [hnot])

/-- Settles O60. -/
theorem dramServesAndCounts : Obligations.DramServesAndCounts := by
  refine ⟨fun t s hclock => ?_, ⟨fun row tb => countActivate_counts row tb, fun key row s ⟨c, hmem, hc⟩ => ?_⟩⟩
  · intro a
    refine ⟨fun ch hch => ⟨fun r hr => ⟨fun x hx => ?_, fun hx => ?_⟩, fun hx => ?_, fun x hx => ⟨?_, ?_⟩⟩,
      fun ch refresh d0 d1 hch hrefresh hlanes hlen => ⟨fun hdue => ⟨_, dqsDriftCheck_due hclock hch hrefresh hdue, ?_⟩,
        dqsDriftCheck_early hch hrefresh⟩, fun ch bank row hch hbank hrow => ?_, ?_⟩
    · rw [dramRequest_joins hclock hch hr, hx]
      rfl
    · rw [dramRequest_joins hclock hch hr, hx]
      rfl
    · rw [dramRequest_serves hclock hch, hx]
      rfl
    · rw [dramRequest_serves hclock hch, hx]
      rfl
    · obtain ⟨hmem, hchannel⟩ := nextDram_mem hx
      exact ⟨hmem, hchannel, serveDram_queue x a⟩
    · have hlen' : ch < s.dram.refresh.length := by omega
      have lane := fun n (hn : n < 4) => movedLanes_getD (ch := ch) (n := n) [d0, d1] (lanes := s.dram.lanes) (by omega)
      simp only [setRefresh_lanes, advance_dram]
      refine ⟨by simpa using hlanes, fun n hn hother => ?_, ?_, ?_, setRefresh_refresh _ _ _ _ hlen'⟩
      · rw [lane n hn, if_neg hother]
      · rw [lane (2 * ch) (by omega), if_pos (by omega), Nat.mul_mod_right]
        rfl
      · rw [lane (2 * ch + 1) (by omega), if_pos (by omega), Nat.mul_add_mod]
        rfl
    · change execNeighbourRefresh t ch bank row s = _
      rw [execNeighbourRefresh, if_neg (by omega)]
      dsimp only
      rw [if_pos (by simpa [clockRuns] using hclock)]
    · have hexec : exec (.refreshWindowStart t) s = .next (nextRefreshWindow 1 (nextRefreshWindow 0 a)) := by
        change execRefreshWindowStart t s = _
        rw [execRefreshWindowStart, if_pos (by simpa [clockRuns] using hclock)]
      have hdram : a.dram = s.dram := advance_dram t s
      have hwindow : ∀ k, refreshWindow k a = refreshWindow k s := fun k => by rw [refreshWindow, hdram, refreshWindow]
      have htables := windows_tables a
      simp only [hdram, hwindow] at htables
      refine ⟨_, hexec, fun ch hch => ⟨fun hover e he => ?_, fun hnot e he => ?_⟩⟩
      · obtain ⟨⟨-, h0⟩, h1⟩ := (htables e).mp he
        obtain rfl | rfl : ch = 0 ∨ ch = 1 := by omega
        · exact h0 hover
        · exact h1 hover
      · rw [htables e]
        obtain rfl | rfl : ch = 0 ∨ ch = 1 := by omega
        · exact ⟨fun h => h.1.1, fun h => ⟨⟨h, fun h' => absurd hnot (by omega)⟩, fun _ => by omega⟩⟩
        · exact ⟨fun h => h.1.1, fun h => ⟨⟨h, fun _ => by omega⟩, fun h' => absurd hnot (by omega)⟩⟩
  · rw [refreshRow_refreshes hmem hc]
    refine ⟨⟨_, rfl, fun k => mem_neighbours s row k⟩, fun hwf c' hc' => ?_⟩
    dsimp only at hc'
    rw [memRead_memWrite hwf, if_pos rfl] at hc'
    obtain ⟨e, -, he⟩ := List.mem_map.mp hc'
    split at he
    · exact (congrArg Prod.snd he).symm
    case isFalse hne => exact absurd (congrArg Prod.fst he) hne

end Sys2Proof.Machine

/-! ## The MP watchdog, restart and load, and the gate's windows (15 R357, 11 R274, R280 to R282) -/

namespace Sys2Proof.Machine

section
variable {t : Nat} {s : State}

theorem mpRuns_advance (t : Nat) (s : State) : mpRuns (advance t s) = mpRuns s := by simp [mpRuns]

/-! ### The watchdog -/

theorem mpWatchdogService_notes (hmp : mpRuns s = true) :
    exec (.mpWatchdogService t) s = .next { advance t s with mp := { (advance t s).mp with serviced := tsc (advance t s) } } :=
  if_pos ((mpRuns_advance t s).trans hmp)

theorem mpWatchdogExpiry_late (inHand : Bool) (hmp : mpRuns s = true) (hlate : s.mp.serviced + 5000000 < tsc (advance t s)) :
    exec (.mpWatchdogExpiry t inHand) s =
      .next (assertSource 1 0 false (if inHand && !isShadowed (advance t s) 1 0 then dataLost (advance t s) else advance t s)) := by
  refine if_pos ?_
  rw [mpRuns_advance, hmp, Bool.true_and, decide_eq_true_iff, advance_mp]
  exact hlate

theorem mpWatchdogExpiry_early (inHand : Bool) (hearly : tsc (advance t s) ≤ s.mp.serviced + 5000000) :
    exec (.mpWatchdogExpiry t inHand) s = .next (advance t s) := by
  refine if_neg ?_
  rw [Bool.and_eq_true, decide_eq_true_iff, advance_mp]
  exact fun h => Nat.not_lt.mpr hearly h.2

/-! ### The restart -/

theorem mpRestartEnd_restarting {t0 : Nat} (h : s.mp.restarting = some t0) : exec (.mpRestartEnd t) s =
    if tsc (advance t s) ≤ t0 + 15000000 then
      .next { advance t s with mp := { (advance t s).mp with
        restarting := none, second := false, endedAt := tsc (advance t s), serviced := tsc (advance t s) } }
    else .next (advance t s) := by
  change execMpRestartEnd t s = _
  rw [execMpRestartEnd, advance_mp, h]

theorem mpRestartOverrun_restarting {t0 : Nat} (h : s.mp.restarting = some t0) : exec (.mpRestartOverrun t) s =
    if t0 + 15000000 < tsc (advance t s) then .next (assertSource 1 1 false (advance t s)) else .next (advance t s) := by
  change execMpRestartOverrun t s = _
  rw [execMpRestartOverrun, advance_mp, h]

theorem mpRestart_none (h : s.mp.restarting = none) :
    exec (.mpRestartEnd t) s = .next (advance t s) ∧ exec (.mpRestartOverrun t) s = .next (advance t s) := by
  constructor
  · change execMpRestartEnd t s = _
    rw [execMpRestartEnd, advance_mp, h]
  · change execMpRestartOverrun t s = _
    rw [execMpRestartOverrun, advance_mp, h]

/-! ### The load -/

/-- The load of a window in force (11 Table 11.9). -/
def loadNoted (load : Nat) (s : State) : State := { s with mp := { s.mp with load := load, loadAt := tsc s } }

theorem mpLoadWindow_over {w : LoadWindow} (hmp : mpRuns s = true) (hbusy : w.busy ≤ 100) (hover : s.mp.loadAt + 1000000 ≤ tsc (advance t s)) :
    let load := max w.busy (queueShare w.need (advance t s))
    let b := loadNoted load (advance t s)
    exec (.mpLoadWindow t w) s =
      if 80 ≤ load ∧ (!s.mp.loadHigh) = true then .next (record srcGate 5 load { b with mp := { b.mp with loadHigh := true } })
      else if load < 70 ∧ s.mp.loadHigh = true then .next (record srcGate 6 load { b with mp := { b.mp with loadHigh := false } })
      else .next b := by
  intro load b
  have hhigh : s.mp.loadHigh = (advance t s).mp.loadHigh := by rw [advance_mp]
  have hin : ¬ (!mpRuns (advance t s) || decide (tsc (advance t s) < (advance t s).mp.loadAt + 1000000)) = true := by
    rw [mpRuns_advance, hmp, Bool.not_true, Bool.false_or, decide_eq_true_iff, advance_mp]
    exact Nat.not_lt.mpr hover
  change execMpLoadWindow t w s = _
  rw [execMpLoadWindow, if_neg (by omega), hhigh]
  exact if_neg hin

theorem mpLoadWindow_early {w : LoadWindow} (hbusy : w.busy ≤ 100) (hearly : tsc (advance t s) < s.mp.loadAt + 1000000) :
    exec (.mpLoadWindow t w) s = .next (advance t s) := by
  have hin : (!mpRuns (advance t s) || decide (tsc (advance t s) < (advance t s).mp.loadAt + 1000000)) = true := by
    rw [Bool.or_eq_true, decide_eq_true_iff, advance_mp]
    exact .inr hearly
  change execMpLoadWindow t w s = _
  rw [execMpLoadWindow, if_neg (by omega)]
  exact if_pos hin

/-! ### The gate's windows -/

theorem rollAuth_over (hover : s.gate.authWindow < tsc s / 100000000) : (rollAuth s).gate.authCount = 0 ∧ (rollAuth s).gate.muted = false
    ∧ (rollAuth s).gate.authWindow = tsc s / 100000000
    ∧ (s.gate.authCount ≤ s.cfg.mailbox.authBurst → hasBit (rollAuth s).flt.cond 41 = false) := by
  have hnot : ¬ windowOf (tsc s) ≤ s.gate.authWindow := Nat.not_le.mpr hover
  unfold rollAuth
  dsimp only
  rw [if_neg hnot]
  split
  · refine ⟨by simp, by simp, by simp [windowOf], fun _ => hasBit_endSource_cond rfl _⟩
  case isFalse hcalm =>
    refine ⟨rfl, rfl, rfl, fun h => absurd ?_ hcalm⟩
    rw [decide_eq_true h, Bool.true_or]

theorem rollAuth_running (hin : tsc s / 100000000 ≤ s.gate.authWindow) : rollAuth s = s := if_pos hin

/-! ### Event messages -/

theorem eventMessage_found {id : Nat} {x : Session} (hrun : delivers s = true) (hx : findSession (advance t s) id = some x) :
    exec (.eventMessage t id) s = if eventDue (tsc (advance t s)) (waitingRecords (advance t s) x) = true then
        .next (deliverEvents (countGone (advance t s) (rollEvents (tsc (advance t s)) x)) (waitingRecords (advance t s) x) (advance t s))
      else .next (advance t s) := by
  have hrun' : delivers (advance t s) = true := (mpRuns_advance t s).trans hrun
  change execEventMessage t id s = _
  unfold execEventMessage
  dsimp only
  rw [hx]
  dsimp only
  rw [hrun', Bool.true_and]

theorem eventMessage_none {id : Nat} (hx : findSession (advance t s) id = none) : exec (.eventMessage t id) s = .next (advance t s) := by
  change execEventMessage t id s = _
  unfold execEventMessage
  dsimp only
  rw [hx]

theorem eventWindowEnd_eq : exec (.eventWindowEnd t) s =
    if delivers s = true then .next (((advance t s).gate.sessions.map (·.id)).foldl windowEvent (advance t s)) else .next (advance t s) := by
  have hrun : delivers (advance t s) = delivers s := mpRuns_advance t s
  change execEventWindowEnd t s = _
  unfold execEventWindowEnd
  dsimp only
  rw [hrun]

end

/-- Settles O45. -/
theorem mpWatchdogAndLoad : Obligations.MpWatchdogAndLoad := by
  refine ⟨fun t s => ?_, fun t s => ?_⟩
  · intro a
    refine ⟨mpWatchdogService_notes, fun hmp inHand => ⟨fun hlate hshadow => ?_, fun hlate hin hshadow => ?_, mpWatchdogExpiry_early inHand⟩,
      fun t0 h => ⟨fun hin => ⟨?_, ?_⟩, fun hlate => ⟨?_, ?_⟩⟩, mpRestart_none, fun hmp w hbusy => ?_⟩
    · rw [mpWatchdogExpiry_late inHand hmp hlate, if_neg]
      rcases hshadow with h | h
      · rw [h]
        exact Bool.false_ne_true
      · rw [h, Bool.not_true, Bool.and_false]
        exact Bool.false_ne_true
    · rw [mpWatchdogExpiry_late inHand hmp hlate, if_pos]
      rw [hin, hshadow]
      rfl
    · rw [mpRestartEnd_restarting h, if_pos hin]
    · rw [mpRestartOverrun_restarting h, if_neg (Nat.not_lt.mpr hin)]
    · rw [mpRestartEnd_restarting h, if_neg (Nat.not_le.mpr hlate)]
    · rw [mpRestartOverrun_restarting h, if_pos hlate]
    · intro load b
      refine ⟨fun hover => ?_, mpLoadWindow_early hbusy⟩
      have hexec := mpLoadWindow_over hmp hbusy hover
      refine ⟨fun h80 hlow => hexec.trans (if_pos ⟨h80, by rw [hlow]; rfl⟩), fun h70 hset => ?_, fun h80 hlow => ?_, fun h70 hset => ?_⟩
      · exact hexec.trans ((if_neg (by rw [hset]; simp)).trans (if_pos ⟨h70, hset⟩))
      · exact hexec.trans ((if_neg fun h => Nat.not_le.mpr h80 h.1).trans (if_neg (by rw [hlow]; simp)))
      · exact hexec.trans ((if_neg (by rw [hset]; simp)).trans (if_neg fun h => Nat.not_lt.mpr h70 h.1))
  · intro a
    refine ⟨fun hover => ⟨_, rfl, ?_⟩, fun hin => ?_, fun hrun id x hx hdue => ?_, fun hrun id x hx hdue => ?_, fun id hx => eventMessage_none hx,
      fun hrun => ?_, fun hrun => ?_⟩
    · have h := rollAuth_over (s := a) (by simpa [a] using hover)
      simpa [a] using h
    · change Host.Outcome.next (rollAuth a) = _
      rw [rollAuth_running (by simpa [a] using hin)]
    · rw [eventMessage_found hrun hx, if_pos hdue]
    · rw [eventMessage_found hrun hx, hdue]
      rfl
    · rw [eventWindowEnd_eq, if_pos hrun]
    · rw [eventWindowEnd_eq, hrun]
      rfl

end Sys2Proof.Machine

/-! ## The time base (01 R22 to R28, 10 R249 to R251) -/

namespace Sys2Proof.Machine

/-! ### Steps of the TSC -/

theorem logAppend_written (e : EventRec) (g : Log) : (logAppend e g).written = g.written + 1 := by
  unfold logAppend
  dsimp only
  split <;> rfl

theorem tscStep_steps {t : Nat} {s : State} (offset : Int)
    (hop : s.mode.op = .boot ∨ s.mode.op = .loader ∨ s.mode.op = .proofPending ∨ s.mode.op = .idle) (hmp : s.mp.restarting = none)
    (hacc : 0 ≤ ((advance t s).time.acc : Int) + offset * 4294967296) :
    NextIs (exec (.tscStep t offset) s) fun u =>
      (u.time.acc : Int) = ((advance t s).time.acc : Int) + offset * 4294967296 ∧ u.time.step = (advance t s).time.step % 65535 + 1
        ∧ u.log.written = (advance t s).log.written + 2 ∧ u.cfg = (advance t s).cfg ∧ u.mode = (advance t s).mode := by
  have hallowed : stepAllowed (advance t s) = true := by
    rcases hop with h | h | h | h <;> simp [stepAllowed, servoRuns, h, hmp]
  refine ⟨_, if_neg (by rw [hallowed]; decide), ?_, rfl, ?_, rfl, rfl⟩
  · exact Int.toNat_of_nonneg hacc
  · simp only [moveRunning, record, recordAt, logAppend_written]

theorem tscStep_refused {t : Nat} {s : State} (offset : Int) (hop : s.mode.op = .full ∨ s.mode.op = .safe ∨ s.mode.op = .brownoutSave) :
    exec (.tscStep t offset) s = .next (advance t s) := by
  refine if_pos ?_
  rcases hop with h | h | h <;> simp [stepAllowed, h]

/-! ### What the ports have heard -/

/-- The Announces of the two ports are the same. -/
abbrev AnnouncesKept (s u : State) : Prop := u.time.annA = s.time.annA ∧ u.time.annB = s.time.annB

@[simp] theorem startSchedule_announces (s : State) : AnnouncesKept s (startSchedule s) := by simp [AnnouncesKept, startSchedule]

@[simp] theorem proofToSafe_announces (kind cause : Nat) (s : State) : AnnouncesKept s (proofToSafe kind cause s) := by
  simp [AnnouncesKept, proofToSafe]

@[simp] theorem withholdBy_time (src data : Nat) (s : State) : (withholdBy src data s).time = s.time := by simp [withholdBy]

@[simp] theorem react_announces (src data r : Nat) (s : State) : AnnouncesKept s (react src data r s) := by
  cases h : s.mode.op <;> simp [AnnouncesKept, react, h, apply_ite TimeBase.annA, apply_ite TimeBase.annB]

@[simp] theorem settleFails_announces (s : State) : AnnouncesKept s (settleFails s) := by simp [AnnouncesKept, settleFails]

/-- The loss of the lock has no block action. -/
@[simp] theorem lockLost_announces (s : State) : AnnouncesKept s (assertSource 27 0 false s) := by
  have hblock : ∀ data before u, blockAction 27 data before u = u := fun _ _ _ => rfl
  unfold AnnouncesKept
  rw [assertSource_eq]
  split
  · exact ⟨rfl, rfl⟩
  · unfold deliver
    split
    · simp [conditionNoted]
    · simp [hblock, conditionNoted]

@[simp] theorem followOffset_announces (s : State) : AnnouncesKept s (followOffset s) := by
  unfold AnnouncesKept followOffset
  split <;> simp

@[simp] theorem selectMaster_announces (s : State) : AnnouncesKept s (selectMaster s) := by
  unfold AnnouncesKept selectMaster
  split
  · exact ⟨rfl, rfl⟩
  · dsimp only
    split <;> simp

@[simp] theorem gptpSend_announces (bytes : Nat) (g : GptpOut) (s : State) : AnnouncesKept s (gptpSend bytes g s) := by
  unfold gptpSend
  split <;> exact ⟨rfl, rfl⟩

theorem announceOf_congr {b c : TimeBase} (h : c.annA = b.annA ∧ c.annB = b.annB) (p : Port) : announceOf c p = announceOf b p := by
  cases p
  · exact h.1
  · exact h.2

/-- An Announce that has not gone too far is the one of its port (10 R249). -/
theorem takeAnnounce_announce (p : Port) (x : Announced) (s : State) (hhops : x.hops < 255) : announceOf (takeAnnounce p x s).time p = some x := by
  have hset : announceOf (setAnnounce p (some x) s.time) p = some x := by cases p <;> rfl
  rw [← hset]
  refine announceOf_congr ?_ p
  unfold takeAnnounce
  rw [if_neg (by omega)]
  dsimp only
  (repeat' split) <;> simp

/-! ### gPTP on a port with link -/

/-- The clock alone moves (01 R22). -/
theorem advance_time (t : Nat) (s : State) : (advance t s).time = { s.time with acc := (advance t s).time.acc } := by
  unfold advance
  split <;> rfl

@[simp] theorem pdelayOf_advance (t : Nat) (s : State) (p : Port) : pdelayOf (advance t s).time p = pdelayOf s.time p := by
  rw [advance_time]
  cases p <;> rfl

@[simp] theorem announceOf_advance (t : Nat) (s : State) (p : Port) : announceOf (advance t s).time p = announceOf s.time p := by
  rw [advance_time]
  cases p <;> rfl

section
variable {t : Nat} {p : Port} {s : State}

/-- A frame of the module leaves on a port with link (10 R239). -/
theorem gptpSend_up {bytes : Nat} {g : GptpOut} (h : linkUpOn s g.port = true) :
    gptpSend bytes g s = { s with time := { s.time with gptpOut := some g }, link := joinQueue (tsc s) 3 bytes g.port s.link } := if_pos h

variable (hclock : clockRuns s = true) (hlink : linkUpOn s p = true)
include hclock hlink

theorem gptpMessage_refused : ¬ (!clockRuns (advance t s) || !linkUpOn (advance t s) p) = true := by
  simp [clockRuns_advance, linkUpOn_advance, hclock, hlink]

theorem gptpMessage_request : exec (.gptpMessage t p .pdelayReq) s = .next (gptpSend 140 (gptpPlain p 1) (advance t s)) :=
  if_neg (gptpMessage_refused hclock hlink)

theorem gptpMessage_response (delay : Nat) (rate : Int) : exec (.gptpMessage t p (.pdelayResp delay rate)) s =
    .next { advance t s with time := setProp p (delay, rate) (advance t s).time } :=
  if_neg (gptpMessage_refused hclock hlink)

theorem gptpMessage_announce (k : Int) (ident : List Nat) (hops source : Nat) : exec (.gptpMessage t p (.announce 0 k ident hops source)) s =
    .next (takeAnnounce p { identity := ident, hops := hops, source := source, arrived := tsc (advance t s), interval := gptpInterval k }
      (advance t s)) :=
  if_neg (gptpMessage_refused hclock hlink)

/-- The request of a second (10 R249). -/
theorem pdelayRequest_due (hdue : (pdelayOf s.time p).elim true (fun x => decide (x + 100000000 ≤ tsc (advance t s))) = true) :
    NextIs (exec (.pdelayRequest t p) s) fun u =>
      pdelayOf u.time p = some (tsc (advance t s)) ∧ u.time.gptpOut = some { port := p, kind := 0, correction := 0, rate := 0, hops := 0 }
        ∧ u.link = joinQueue (tsc (advance t s)) 3 72 p (advance t s).link := by
  have hup : linkUpOn (advance t s) p = true := (linkUpOn_advance t s p).trans hlink
  refine ⟨_, if_pos ?_, ?_⟩
  · rw [clockRuns_advance, hclock, hup, Bool.true_and, Bool.true_and]
    rwa [pdelayOf_advance]
  · cases p <;> (dsimp only; rw [gptpSend_up (by exact hup)]; exact ⟨rfl, rfl, rfl⟩)

omit hclock hlink in
theorem pdelayRequest_early {x : Nat} (hx : pdelayOf s.time p = some x) (hearly : tsc (advance t s) < x + 100000000) :
    exec (.pdelayRequest t p) s = .next (advance t s) := by
  refine if_neg ?_
  rw [pdelayOf_advance, hx, Option.elim_some, Bool.and_eq_true, decide_eq_true_iff]
  exact fun h => Nat.not_le.mpr hearly h.2

end

/-! ### What stays away -/

section
variable {t : Nat} {s : State}

theorem announceReceiptTimeout_over {p : Port} {x : Announced} (hx : announceOf s.time p = some x) (hover : x.arrived + 3 * x.interval < tsc (advance t s)) :
    exec (.announceReceiptTimeout t p) s = .next (if servoRuns s = true then
        selectMaster { advance t s with time := setAnnounce p none (advance t s).time }
      else { advance t s with time := setAnnounce p none (advance t s).time }) := by
  have hservo : servoRuns { advance t s with time := setAnnounce p none (advance t s).time } = servoRuns s := by simp [servoRuns]
  change execAnnounceReceiptTimeout t p s = _
  rw [execAnnounceReceiptTimeout, announceOf_advance, hx, Option.elim_some, receiptOver, if_pos (decide_eq_true hover), ← hservo]

theorem announceReceiptTimeout_waits {p : Port} {x : Announced} (hx : announceOf s.time p = some x) (hin : tsc (advance t s) ≤ x.arrived + 3 * x.interval) :
    exec (.announceReceiptTimeout t p) s = .next (advance t s) := by
  refine if_neg ?_
  rw [announceOf_advance, hx, Option.elim_some, receiptOver, decide_eq_true_iff]
  exact Nat.not_lt.mpr hin

theorem syncReceiptTimeout_over {x : Nat × Nat} (hx : s.time.syncAt = some x) (hover : x.1 + 3 * x.2 < tsc (advance t s)) :
    exec (.syncReceiptTimeout t) s = .next (if s.time.gptp = 2 then
        assertSource 27 0 false { advance t s with time := { (advance t s).time with good := 0, syncAt := none, gptp := 3 } }
      else { advance t s with time := { (advance t s).time with good := 0, syncAt := none } }) := by
  have hgptp : (advance t s).time.gptp = s.time.gptp := by rw [advance_time]
  have hsync : (advance t s).time.syncAt = s.time.syncAt := by rw [advance_time]
  change execSyncReceiptTimeout t s = _
  rw [execSyncReceiptTimeout, if_neg (by simpa [hsync, hx, receiptOver] using hover)]
  by_cases h : s.time.gptp = 2 <;> simp [hgptp, h]

theorem syncReceiptTimeout_waits (hin : ∀ x, s.time.syncAt = some x → tsc (advance t s) ≤ x.1 + 3 * x.2) :
    exec (.syncReceiptTimeout t) s = .next (advance t s) := by
  refine if_pos ?_
  have hsync : (advance t s).time.syncAt = s.time.syncAt := by rw [advance_time]
  rw [hsync]
  cases hx : s.time.syncAt with
  | none => rfl
  | some x =>
    rw [Option.elim_some, receiptOver, decide_eq_false (Nat.not_lt.mpr (hin x hx))]
    rfl

end

/-- Settles O47. -/
theorem timeBaseFollows : Obligations.TimeBaseFollows := by
  intro t s a
  refine ⟨fun hop hmp offset hacc => tscStep_steps offset hop hmp hacc, fun hop offset => tscStep_refused offset hop,
    fun hclock p hlink => ⟨?_, fun delay rate => ⟨_, gptpMessage_response hclock hlink delay rate, ?_⟩, pdelayRequest_due hclock hlink,
      fun x hx hearly => pdelayRequest_early hx hearly, fun k ident hops source hhops =>
        ⟨_, gptpMessage_announce hclock hlink k ident hops source, takeAnnounce_announce p _ a hhops⟩⟩,
    fun p x hx => ⟨fun hover hservo => ?_, fun hover hservo => ?_, announceReceiptTimeout_waits hx⟩,
    fun x hx => ⟨fun hover hlock => ?_, fun hover hlock => ?_, fun hin => syncReceiptTimeout_waits fun y hy => ?_⟩,
    fun hnone => syncReceiptTimeout_waits fun y hy => ?_⟩
  · rw [gptpMessage_request hclock hlink, gptpSend_up ((linkUpOn_advance t s p).trans hlink)]
    rfl
  · exact ⟨by cases p <;> rfl, by simp, by simp⟩
  · rw [announceReceiptTimeout_over hx hover, if_pos hservo]
  · rw [announceReceiptTimeout_over hx hover, hservo]
    rfl
  · rw [syncReceiptTimeout_over hx hover, if_pos hlock]
  · rw [syncReceiptTimeout_over hx hover, if_neg hlock]
  · obtain rfl : x = y := Option.some.inj (hx.symm.trans hy)
    exact hin
  · exact absurd (hnone.symm.trans hy) (by simp)

end Sys2Proof.Machine

/-! ## Assertions without a block action (15 R352, Table 15.6) -/

namespace Sys2Proof.Machine

/-- The source has no block action, and its assertion does nothing beside its reaction. -/
def isPlain (src : Nat) : Bool := !([0, 1, 4, 8, 9, 36, 38, 40].contains src)

theorem blockAction_plain {src : Nat} (h : isPlain src = true) (data before : Nat) (s : State) : blockAction src data before s = s := by
  unfold blockAction
  split <;> simp [isPlain] at h ⊢

theorem deliver_plain {src : Nat} (h : isPlain src = true) (data : Nat) (forced act : Bool) (s : State) :
    deliver src data forced act s = if isShadowed s src data then deliverShadowed src data forced s
      else
        let f := latchFirst src (tsc s) (countAssertion src data s.flt)
        let u := { s with flt := { f with status := withBit f.status src, masked := withoutBit f.masked src } }
        react src data (carriedOut u src data) (if carriedOut u src data = 0 then u else recordFault src 1 (carriedOut u src data) data forced u) := by
  have h9 : ¬ src = 9 := by rintro rfl; simp [isPlain] at h
  have h38 : ¬ src = 38 := by rintro rfl; simp [isPlain] at h
  unfold deliver
  split
  · rfl
  · dsimp only
    rw [blockAction_plain h, ite_self]

/-- What an assertion without a block action leaves beside the light, the schedule and the collector. -/
theorem assertSource_reactKept {src : Nat} (h : isPlain src = true) (data : Nat) (forced : Bool) (s : State) :
    ReactKept s (assertSource src data forced s) := by
  rw [assertSource_eq]
  split
  · simp [ReactKept, conditionNoted]
  · rw [deliver_plain h]
    split
    · simp [ReactKept, conditionNoted]
    · simp [ReactKept, conditionNoted]

/-! ### The schedule -/

/-- The schedule without the frame being composed and what is withheld or switched off: its grid, its cut-offs and what it has composed. -/
def Sched.course (g : Sched) : Sched := { g with cur := none, dropNext := [], withhold := [], ownWithheld := [] }

@[simp] theorem withholdCurrent_course (s : State) : (withholdCurrent s).sched.course = s.sched.course := by
  unfold withholdCurrent
  (repeat' split) <;> rfl

@[simp] theorem addWithhold_course (s : State) : (addWithhold s).sched.course = s.sched.course := by
  unfold addWithhold
  dsimp only
  split <;> rfl

@[simp] theorem switchOff_course (slots : List Nat) (s : State) : (switchOff slots s).sched.course = s.sched.course := by
  unfold switchOff
  dsimp only
  (repeat' split) <;> rfl

@[simp] theorem withholdBy_course (src data : Nat) (s : State) : (withholdBy src data s).sched.course = s.sched.course := by
  simp [withholdBy, apply_ite Sched.course]

/-- The frames are lit: the module is in FULL or SAFE. -/
def Lit (s : State) : Prop := s.mode.op = .full ∨ s.mode.op = .safe

/-- In FULL and SAFE no reaction moves the schedule, and the module stays in FULL or SAFE. -/
theorem react_course {src data r : Nat} {s : State} (hop : Lit s) :
    (react src data r s).sched.course = s.sched.course ∧ Lit (react src data r s) := by
  rcases hop with hop | hop <;>
  · simp only [react, hop]
    split
    · split
      · exact ⟨switchOff_course _ _, by simp [Lit, hop]⟩
      · exact ⟨rfl, by simp [Lit, hop]⟩
    · split
      · split
        · exact ⟨withholdBy_course _ _ _, by simp [Lit, hop]⟩
        · exact ⟨rfl, by simp [Lit, hop]⟩
      · split
        · simp [Lit]
        · exact ⟨rfl, by simp [Lit, hop]⟩

theorem assertSource_course {src : Nat} (h : isPlain src = true) (data : Nat) (forced : Bool) {s : State} (hop : Lit s) :
    (assertSource src data forced s).sched.course = s.sched.course ∧ Lit (assertSource src data forced s) := by
  have hnoted : Lit (conditionNoted src data forced s) := by simpa [Lit] using hop
  have hsched : (conditionNoted src data forced s).sched = s.sched := by simp
  rw [assertSource_eq]
  split
  · exact ⟨rfl, hnoted⟩
  · rw [deliver_plain h, ← hsched]
    generalize conditionNoted src data forced s = u at hnoted ⊢
    split
    · exact ⟨by simp, by simpa [Lit] using hnoted⟩
    · dsimp only
      generalize carriedOut _ _ _ = r
      generalize hv : (if r = 0 then _ else recordFault src 1 r (data % 65536) forced _) = v
      have hv' : v.sched = u.sched ∧ v.mode = u.mode := by
        rw [← hv]
        split <;> simp
      obtain ⟨hcourse, hlit⟩ := react_course (src := src) (data := data % 65536) (r := r) (s := v) (by simpa [Lit, hv'.2] using hnoted)
      exact ⟨by rw [hcourse, hv'.1], hlit⟩

/-! ### The map of the pixels -/

@[simp] theorem rakeUpdate_map (s : State) : (rakeUpdate s).rake.map = s.rake.map ∧ (rakeUpdate s).rake.bridges = s.rake.bridges := by
  unfold rakeUpdate
  dsimp only
  (repeat' split) <;> simp

@[simp] theorem ite_map {c : Prop} [Decidable c] (a b : Rake) : (if c then a else b).map = if c then a.map else b.map := apply_ite Rake.map c a b

@[simp] theorem goSafe_map (kind cause : Nat) (s : State) : (goSafe kind cause s).rake.map = s.rake.map := by simp [goSafe]

@[simp] theorem react_map (src data r : Nat) (s : State) : (react src data r s).rake.map = s.rake.map := by
  cases h : s.mode.op <;> simp [react, h, proofToSafe]

theorem assertSource_map {src : Nat} (h : isPlain src = true) (data : Nat) (forced : Bool) (s : State) :
    (assertSource src data forced s).rake.map = s.rake.map := by
  rw [assertSource_eq]
  split
  · rfl
  · rw [deliver_plain h]
    split <;> simp [conditionNoted]

end Sys2Proof.Machine

/-! ## The content cut-off and the composition start (09 R223, 06 R160, 08 R197) -/

namespace Sys2Proof.Machine

/-- The schedule without the frame being composed, what is withheld or switched off, and the marks of the boundary itself. -/
def Sched.plan (g : Sched) : Sched := { g.course with cutDone := none, lastCut := 0, prevCut := 0, fbNote := none }

/-- What the boundary leaves of the module in FULL and SAFE up to the frame that it composes. -/
structure BoundaryKept (s u : State) : Prop where
  lit : Lit u
  plan : u.sched.plan = s.sched.plan
  cfg : u.cfg = s.cfg
  conv : u.conv = s.conv
  map : u.rake.map = s.rake.map
  trim : u.time.trim = s.time.trim

section
variable {s : State}

theorem BoundaryKept.refl (h : Lit s) : BoundaryKept s s := ⟨h, rfl, rfl, rfl, rfl, rfl⟩

/-- A change of the drawers, the records, the compositor or the monitor. -/
theorem BoundaryKept.of_eq {u v : State} (h : BoundaryKept s u) (hmode : v.mode.op = u.mode.op) (hsched : v.sched.plan = u.sched.plan) (hcfg : v.cfg = u.cfg)
    (hconv : v.conv = u.conv) (hrake : v.rake.map = u.rake.map) (htrim : v.time.trim = u.time.trim) : BoundaryKept s v :=
  ⟨by simpa [Lit, hmode] using h.lit, hsched.trans h.plan, hcfg.trans h.cfg, hconv.trans h.conv, hrake.trans h.map, htrim.trans h.trim⟩

theorem BoundaryKept.ite {c : Prop} [Decidable c] {a b : State} (ha : BoundaryKept s a) (hb : BoundaryKept s b) :
    BoundaryKept s (if c then a else b) := by
  split <;> assumption

theorem BoundaryKept.foldl {α : Type} {f : State → α → State} (hf : ∀ u x, BoundaryKept s u → BoundaryKept s (f u x)) (l : List α) {u : State}
    (h : BoundaryKept s u) : BoundaryKept s (l.foldl f u) := by
  induction l generalizing u with
  | nil => exact h
  | cons x l ih => exact ih (hf u x h)

theorem BoundaryKept.assert {u : State} {src : Nat} (hsrc : isPlain src = true) (data : Nat) (h : BoundaryKept s u) :
    BoundaryKept s (assertSource src data false u) := by
  obtain ⟨hcourse, hlit⟩ := assertSource_course hsrc data false h.lit
  obtain ⟨hcfg, -, -, -, -, -, -, hconv, -⟩ := assertSource_reactKept hsrc data false u
  have hplan : (assertSource src data false u).sched.plan = u.sched.plan := by rw [Sched.plan, hcourse, Sched.plan]
  exact ⟨hlit, hplan.trans h.plan, hcfg.trans h.cfg, hconv.trans h.conv, (assertSource_map hsrc data false u).trans h.map,
    (assertSource_kept src data false u (.refl u)).trim.trans h.trim⟩

theorem cutSlot_boundary (c prev : Int) (r : TableRow) {u : State} (h : BoundaryKept s u) : BoundaryKept s (cutSlot c prev r u) := by
  unfold cutSlot
  extract_lets sl best from_ stale chosen v
  have hv : BoundaryKept s v := h.of_eq (by simp [v]) (by simp [v]) (by simp [v]) (by simp [v]) (by simp [v]) (by simp [v])
  have noted : ∀ code data, BoundaryKept s (record (srcDrawer r.slot) code data v) :=
    fun _ _ => hv.of_eq (by simp) (by simp) (by simp) (by simp) (by simp) (by simp)
  exact .ite (.ite (hv.assert (src := 47) rfl _) (noted _ _)) (.ite (noted _ _) hv)

theorem contentCut_boundary (m : Nat) {u : State} (h : BoundaryKept s u) : BoundaryKept s (contentCut m u) := by
  unfold contentCut
  extract_lets c prev table rows s1 s2 sch s3
  have h1 : BoundaryKept s s1 := .foldl (fun _ r hu => cutSlot_boundary c prev r hu) rows h
  have h3 : BoundaryKept s s3 := h1.of_eq rfl rfl rfl rfl rfl rfl
  exact .ite h3 (h3.of_eq (by simp) (by simp) (by simp) (by simp) (by simp) (by simp))

/-- What changes the drawers and the log alone. -/
theorem BoundaryKept.of_drawers {f : State → State} (hkeeps : ∀ {β : Type} (g : State → β) (_ : ∀ (s : State) d, g { s with drw := d } = g s)
    (_ : ∀ a b c s, g (record a b c s) = g s) (s : State), g (f s) = g s) {u : State} (h : BoundaryKept s u) : BoundaryKept s (f u) :=
  h.of_eq (hkeeps (fun s => s.mode.op) (by simp) (by simp) u) (hkeeps (fun s => s.sched.plan) (by simp) (by simp) u)
    (hkeeps State.cfg (by simp) (by simp) u) (hkeeps State.conv (by simp) (by simp) u) (hkeeps (fun s => s.rake.map) (by simp) (by simp) u)
    (hkeeps (fun s => s.time.trim) (by simp) (by simp) u)

theorem applyDue_boundary (m : Nat) {u : State} (h : BoundaryKept s u) : BoundaryKept s (applyDue m u) :=
  h.of_drawers (f := applyDue m) fun g hdrw hrec s => by
    unfold applyDue
    rw [foldl_keeps g (fun s c => applyCommit_keeps g hdrw hrec _ s), hdrw]

theorem retireDue_boundary (m : Option Nat) {u : State} (h : BoundaryKept s u) : BoundaryKept s (retireDue m u) :=
  h.of_drawers (f := retireDue m) fun g hdrw hrec s => retireDue_keeps g hdrw (fun _ _ s => hdrw s _) hrec m s

theorem startStale_boundary (fresh : List Nat) {u : State} (h : BoundaryKept s u) : BoundaryKept s (startStale fresh u) := by
  unfold startStale
  refine .foldl (fun v n hv => ?_) fresh h
  exact .ite (hv.of_eq rfl rfl rfl rfl rfl rfl) hv

theorem recut_boundary (fresh : List Nat) {u : State} (h : BoundaryKept s u) : BoundaryKept s (recut fresh u) :=
  .foldl (fun _ _ hu => cutSlot_boundary _ _ _ hu) _ h

theorem applyChests_boundary (m : Nat) {u : State} (h : BoundaryKept s u) : BoundaryKept s (applyChests m u) := by
  unfold applyChests
  split <;> exact h.of_eq rfl rfl rfl rfl rfl rfl

theorem monitorBoundary_boundary (m : Nat) {u : State} (h : BoundaryKept s u) : BoundaryKept s (monitorBoundary m u) :=
  h.of_eq rfl rfl rfl rfl rfl rfl

end

/-! ### The frame that is composed -/

/-- In FULL and SAFE a source other than FS06 withholds swaps and leaves out layers; the frame being composed goes on. -/
theorem react_cur {src data r : Nat} {s : State} {f : CompFrame} (hop : Lit s) (hsrc : src ≠ 6) (hcur : s.sched.cur = some f) :
    ∃ layers, (react src data r s).sched.cur = some { f with layers := layers } := by
  have off : ∀ slots, ∃ layers, (switchOff slots s).sched.cur = some { f with layers := layers } := fun slots => by
    unfold switchOff
    rw [hcur]
    dsimp only
    split
    · exact ⟨f.layers, hcur⟩
    · exact ⟨_, rfl⟩
  have held : (withholdBy src data s).sched.cur = some f := by
    have hbase : isBaseFetch s src data = false := by simp [isBaseFetch, hsrc]
    have hadd : ∀ u : State, u.sched.cur = some f → (addWithhold u).sched.cur = some f := fun u hu => by
      unfold addWithhold
      dsimp only
      split <;> exact hu
    unfold withholdBy
    rw [hbase, if_neg Bool.false_ne_true]
    split <;> exact hadd _ hcur
  rcases hop with hop | hop <;>
  · simp only [react, hop]
    split
    · split
      · exact off _
      · exact ⟨f.layers, hcur⟩
    · split
      · split
        · exact ⟨f.layers, held⟩
        · exact ⟨f.layers, hcur⟩
      · split
        · exact ⟨f.layers, by simpa using hcur⟩
        · exact ⟨f.layers, hcur⟩

theorem assertSource_cur {src : Nat} (h : isPlain src = true) (hsrc : src ≠ 6) (data : Nat) {s : State} {f : CompFrame} (hop : Lit s)
    (hcur : s.sched.cur = some f) : ∃ layers, (assertSource src data false s).sched.cur = some { f with layers := layers } := by
  rw [assertSource_eq]
  split
  · exact ⟨f.layers, hcur⟩
  · rw [deliver_plain h]
    split
    · exact ⟨f.layers, by simpa using hcur⟩
    · refine react_cur ?_ hsrc ?_
      · split <;> simpa [Lit] using hop
      · split <;> simpa using hcur

/-- The frame `f` is being composed; beside the light, the collector, the drawers' notes and the monitor nothing has changed since `s`. -/
structure FrameBegun (f : CompFrame) (s u : State) : Prop where
  lit : Lit u
  next : u.sched.nextComp = s.sched.nextComp
  cut : u.sched.cutDone = s.sched.cutDone
  cfg : u.cfg = s.cfg
  chest : u.comp.chest = s.comp.chest ∧ u.comp.chestRef = s.comp.chestRef
  cur : ∃ layers, u.sched.cur = some { f with layers := layers }

section
variable {f : CompFrame} {s : State}

theorem FrameBegun.of_eq {u v : State} (h : FrameBegun f s u) (hmode : v.mode.op = u.mode.op) (hnext : v.sched.nextComp = u.sched.nextComp)
    (hcut : v.sched.cutDone = u.sched.cutDone) (hcur : v.sched.cur = u.sched.cur) (hcfg : v.cfg = u.cfg)
    (hchest : v.comp.chest = u.comp.chest ∧ v.comp.chestRef = u.comp.chestRef) : FrameBegun f s v :=
  ⟨by simpa [Lit, hmode] using h.lit, hnext.trans h.next, hcut.trans h.cut, hcfg.trans h.cfg,
    ⟨hchest.1.trans h.chest.1, hchest.2.trans h.chest.2⟩, hcur ▸ h.cur⟩

theorem FrameBegun.ite {c : Prop} [Decidable c] {a b : State} (ha : FrameBegun f s a) (hb : FrameBegun f s b) :
    FrameBegun f s (if c then a else b) := by
  split <;> assumption

theorem FrameBegun.foldl {α : Type} {g : State → α → State} (hg : ∀ u x, FrameBegun f s u → FrameBegun f s (g u x)) (l : List α) {u : State}
    (h : FrameBegun f s u) : FrameBegun f s (l.foldl g u) := by
  induction l generalizing u with
  | nil => exact h
  | cons x l ih => exact ih (hg u x h)

theorem FrameBegun.assert {u : State} {src : Nat} (hsrc : isPlain src = true) (h6 : src ≠ 6) (data : Nat) (h : FrameBegun f s u) :
    FrameBegun f s (assertSource src data false u) := by
  obtain ⟨hcourse, hlit⟩ := assertSource_course hsrc data false h.lit
  obtain ⟨hcfg, -, -, -, hcomp, -⟩ := assertSource_reactKept hsrc data false u
  obtain ⟨layers, hcur⟩ := h.cur
  obtain ⟨layers', hcur'⟩ := assertSource_cur hsrc h6 data h.lit hcur
  have hnext := congrArg Sched.nextComp hcourse
  have hcut := congrArg Sched.cutDone hcourse
  exact ⟨hlit, hnext.trans h.next, hcut.trans h.cut, hcfg.trans h.cfg, by rw [hcomp]; exact h.chest, layers', hcur'⟩

theorem noteFetches_begun (g : CompFrame) {u : State} (h : FrameBegun f s u) : FrameBegun f s (noteFetches g u) := by
  unfold noteFetches
  refine .foldl (fun v l hv => ?_) _ (h.of_eq rfl rfl rfl rfl rfl ⟨rfl, rfl⟩)
  exact .ite (hv.of_eq rfl rfl rfl rfl rfl ⟨rfl, rfl⟩) hv

theorem noteHorizon_begun (swap : Int) (r : TableRow) {u : State} (h : FrameBegun f s u) : FrameBegun f s (noteHorizon swap r u) := by
  have noted : ∀ {v : State} code data, FrameBegun f s v → FrameBegun f s (record (srcDrawer r.slot) code data v) :=
    fun _ _ hv => hv.of_eq rfl rfl rfl rfl rfl ⟨rfl, rfl⟩
  unfold noteHorizon
  extract_lets sl ext now v
  have hv : FrameBegun f s v := .foldl (fun w e hw => .ite (noted _ _ hw) (.ite (noted _ _ hw) hw)) ext h
  exact hv.of_eq rfl rfl rfl rfl rfl ⟨rfl, rfl⟩

theorem stuckCheck_begun (g : CompFrame) {u : State} (h : FrameBegun f s u) : FrameBegun f s (stuckCheck g u) := by
  unfold stuckCheck
  dsimp only
  split
  · have hv : FrameBegun f s { u with comp := { u.comp with stuckUnder := true } } := h.of_eq rfl rfl rfl rfl rfl ⟨rfl, rfl⟩
    exact .ite hv (hv.assert (src := 21) rfl (by decide) _)
  · exact h.of_eq rfl rfl rfl rfl rfl ⟨rfl, rfl⟩

theorem monitorStart_begun (g : CompFrame) {u : State} (h : FrameBegun f s u) : FrameBegun f s (monitorStart g u) := by
  unfold monitorStart
  exact .ite h (.ite (h.of_eq rfl rfl rfl rfl rfl ⟨rfl, rfl⟩) (h.of_eq rfl rfl rfl rfl rfl ⟨rfl, rfl⟩))

theorem beginThrottle_begun {u : State} (h : FrameBegun f s u) : FrameBegun f s (beginThrottle u) := by
  unfold beginThrottle
  exact .ite (h.of_eq rfl rfl rfl rfl rfl ⟨rfl, rfl⟩) (h.of_eq rfl rfl rfl rfl rfl ⟨rfl, rfl⟩)

end

/-! ### The composition start -/

/-- The grid is read off the plan. -/
theorem swapAt_plan (g : Sched) (n : Nat) : swapAt g.plan n = swapAt g n := rfl

theorem compAt_plan (g : Sched) (n : Nat) : compAt g.plan n = compAt g n := rfl

theorem reinitialising_plan (s : State) (c : Int) : reinitialising s c = s.sched.plan.reinitAt.elim false fun t0 => decide (c < (t0 : Int) + 1000) := rfl

/-- Without a change of timing that waits, none is taken. -/
theorem applyChange_none {m : Nat} {s : State} (h : s.sched.change = none) : applyChange m s = s := by
  unfold applyChange
  rw [h]

theorem applyHostChange_none {s : State} (h : s.sched.change = none) : applyHostChange s = s := by
  unfold applyHostChange
  rw [h]

/-- The boundary up to the note of the fallback grid: the cut-off is taken where it is missing, and the timing of the frame is in force. -/
def boundaryReached (m : Nat) (s : State) : State :=
  let s := if s.sched.cutDone = some m then s else contentCut m s
  let s := applyChange m s
  match s.sched.fbNote with
  | some v => record srcGov 0x0005 v { s with sched := { s.sched with fbNote := none } }
  | none => s

/-- The boundary up to the frame: the COMMITs of the frame, what retires, the cut-off once more, the Chest and the monitor. -/
def boundaryApplied (m : Nat) (s : State) : State :=
  let fresh := freshSlots s m
  let held := reinitialising s (compAt s.sched m)
  let s := applyDue m s
  let s := recut fresh (startStale fresh (if held then s else retireDue (some m) s))
  let s := monitorBoundary m (applyChests m s)
  { s with sched := { s.sched with tLed := tLedNow s } }

/-- The frame of the boundary; while the compositor reinitialises, one that is withheld (15 R365). -/
def frameOf (m : Nat) (held : Bool) (s : State) : CompFrame :=
  let f := newFrame m s
  if held then { f with layers := [], cores := [], withheld := true, checked := true } else f

/-- The schedule goes on to the next frame. -/
def frameTaken (m : Nat) (held : Bool) (s : State) : State :=
  let g := s.sched
  { s with sched := { g with
    shown := gridShown g, swapTsc := swapOf g g.nextSwap, cur := some (frameOf m held s), nextComp := m + 1, cutDone := none,
    dropNext := if held then g.dropNext else [], frame := if held then g.frame else m, composed := if held then g.composed else m,
    ownWithheld := if held then m :: g.ownWithheld else g.ownWithheld } }

/-- What the composition of frame `f` starts. -/
def frameStarted (m : Nat) (held : Bool) (f : CompFrame) (s : State) : State :=
  let s := if held then s
    else
      let s := cvuStart 0 true (noteFetches f { s with comp := { s.comp with frame := m } })
      let s := (shadeRows s.drw.table).foldl (fun s r => noteHorizon f.swapTsc r s) s
      monitorStart f (stuckCheck f s)
  if throttled s && !s.sched.skip then beginThrottle s else s

theorem composeFrame_eq (m : Nat) (s : State) : composeFrame m s =
    let r := boundaryReached m s
    let held := reinitialising r (compAt r.sched m)
    let b := boundaryApplied m r
    frameStarted m held (frameOf m held b) (frameTaken m held b) := by
  unfold composeFrame boundaryReached boundaryApplied frameStarted frameTaken frameOf
  rfl

theorem boundaryReached_boundary {m : Nat} {s : State} (hop : Lit s) (hchange : s.sched.change = none) : BoundaryKept s (boundaryReached m s) := by
  unfold boundaryReached
  extract_lets s1 s2
  have h1 : BoundaryKept s s1 := .ite (.refl hop) (contentCut_boundary m (.refl hop))
  have h2 : s2 = s1 := applyChange_none ((congrArg Sched.change h1.plan).trans hchange)
  split
  · exact (h2 ▸ h1).of_eq rfl rfl rfl rfl rfl rfl
  · exact h2 ▸ h1

/-- The boundary keeps the plan of the schedule, but for T_LED. -/
theorem boundaryApplied_boundary (m : Nat) {s u : State} (h : BoundaryKept s u) :
    ∃ v, BoundaryKept s v ∧ boundaryApplied m u = { v with sched := { v.sched with tLed := tLedNow v } } := by
  have h4 := applyDue_boundary m h
  exact ⟨_, monitorBoundary_boundary m (applyChests_boundary m (recut_boundary _ (startStale_boundary _ (.ite h4 (retireDue_boundary _ h4))))), rfl⟩

theorem frameOf_state (m : Nat) (held : Bool) (s : State) :
    let f := frameOf m held s
    f.frame = m ∧ f.nextRow = 0 ∧ f.chest = s.comp.chest ∧ f.chestRef = s.comp.chestRef ∧ f.map = s.rake.map ∧ f.corr = s.conv.corr
      ∧ f.trim = s.time.trim ∧ f.swapTsc = swapAt s.sched m ∧ f.scale = none ∧ f.withheld = held := by
  cases held <;> exact ⟨rfl, rfl, rfl, rfl, rfl, rfl, rfl, rfl, rfl, rfl⟩

theorem frameStarted_begun (m : Nat) (held : Bool) (f : CompFrame) {s : State} (hop : Lit s) (hcur : s.sched.cur = some f) :
    FrameBegun f s (frameStarted m held f s) := by
  have h0 : FrameBegun f s s := ⟨hop, rfl, rfl, rfl, ⟨rfl, rfl⟩, f.layers, hcur⟩
  have h1 : FrameBegun f s (noteFetches f { s with comp := { s.comp with frame := m } }) :=
    noteFetches_begun f (h0.of_eq rfl rfl rfl rfl rfl ⟨rfl, rfl⟩)
  unfold frameStarted
  extract_lets comp s1 s2 s3
  have h2 : FrameBegun f s s1 := h1.of_eq rfl rfl rfl rfl rfl ⟨rfl, rfl⟩
  have h3 : FrameBegun f s s2 := .foldl (fun _ r hv => noteHorizon_begun _ r hv) _ h2
  have h4 : FrameBegun f s s3 := .ite h0 (monitorStart_begun f (stuckCheck_begun f h3))
  exact .ite (beginThrottle_begun h4) h4

/-- What the composition start of frame `m` begins (09 R223). -/
theorem composeFrame_begins {m : Nat} {s : State} (hop : Lit s) (hchange : s.sched.change = none) :
    let u := composeFrame m s
    u.sched.nextComp = m + 1 ∧ u.sched.cutDone = none ∧ u.cfg = s.cfg
      ∧ ∃ f, u.sched.cur = some f ∧ f.frame = m ∧ f.nextRow = 0 ∧ f.chest = u.comp.chest ∧ f.chestRef = u.comp.chestRef
          ∧ f.map = s.rake.map ∧ f.corr = s.conv.corr ∧ f.trim = s.time.trim ∧ f.swapTsc = swapAt s.sched m ∧ f.scale = none
          ∧ f.withheld = reinitialising s (compAt s.sched m) := by
  have hr := boundaryReached_boundary (m := m) hop hchange
  obtain ⟨v, hv, hb⟩ := boundaryApplied_boundary m hr
  rw [composeFrame_eq]
  dsimp only
  rw [hb]
  have hheld : reinitialising (boundaryReached m s) (compAt (boundaryReached m s).sched m) = reinitialising s (compAt s.sched m) := by
    rw [reinitialising_plan, reinitialising_plan, ← compAt_plan, hr.plan, compAt_plan]
  rw [hheld]
  generalize hw : ({ v with sched := { v.sched with tLed := tLedNow v } } : State) = w
  have hswap : swapAt w.sched m = swapAt s.sched m := by
    rw [← hw, ← swapAt_plan s.sched, ← hv.plan]
    rfl
  have hwv : w.rake = v.rake ∧ w.conv = v.conv ∧ w.cfg = v.cfg ∧ w.mode = v.mode ∧ w.time = v.time := by
    rw [← hw]
    exact ⟨rfl, rfl, rfl, rfl, rfl⟩
  obtain ⟨hrake, hconv, hcfg, hmode, htime⟩ := hwv
  generalize reinitialising s (compAt s.sched m) = held
  obtain ⟨hframe, hrow, hchest, href, hmap, hcorr, htrim, hswap', hscale, hwith⟩ := frameOf_state m held w
  have bu := frameStarted_begun m held (frameOf m held w) (s := frameTaken m held w) (by simpa [Lit, frameTaken, hmode] using hv.lit) rfl
  obtain ⟨layers, hcur⟩ := bu.cur
  exact ⟨bu.next, bu.cut, bu.cfg.trans (hcfg.trans hv.cfg), _, hcur, hframe, hrow, hchest.trans bu.chest.1.symm, href.trans bu.chest.2.symm,
    hmap.trans ((congrArg Rake.map hrake).trans hv.map), hcorr.trans (congrArg Converters.corr (hconv.trans hv.conv)),
    htrim.trans ((congrArg TimeBase.trim htime).trans hv.trim), hswap'.trans hswap, hscale, hwith⟩

/-! ### The content cut-off -/

/-- The judgement of a VIDEO drawer at a cut-off touches no shade object. -/
theorem cutSlot_objects (c prev : Int) (r : TableRow) (n : Nat) (s : State) :
    (slotAt (cutSlot c prev r s) n).latched = (slotAt s n).latched ∧ (slotAt (cutSlot c prev r s) n).handed = (slotAt s n).handed := by
  have upd : ∀ (f : Slot → Slot) u, (∀ x, (f x).latched = x.latched ∧ (f x).handed = x.handed) →
      (slotAt (updSlot r.slot f u) n).latched = (slotAt u n).latched ∧ (slotAt (updSlot r.slot f u) n).handed = (slotAt u n).handed := by
    intro f u hf
    by_cases hn : n = r.slot
    · subst hn
      by_cases hlen : r.slot < u.drw.slots.length
      · rw [slotAt_updSlot_same f hlen]
        exact hf _
      · have hsame : slotAt (updSlot r.slot f u) r.slot = slotAt u r.slot := by simp [slotAt, updSlot, listUpdate, hlen]
        rw [hsame]
        exact ⟨rfl, rfl⟩
    · rw [slotAt_updSlot_ne f u hn]
      exact ⟨rfl, rfl⟩
  have congr : ∀ u v : State, u.drw = v.drw → slotAt u n = slotAt v n := fun u v h => by rw [slotAt, slotAt, h]
  unfold cutSlot
  extract_lets sl best from_ stale chosen v
  have hv : (slotAt v n).latched = (slotAt s n).latched ∧ (slotAt v n).handed = (slotAt s n).handed := upd _ s fun x => ⟨rfl, rfl⟩
  split
  · split
    · obtain ⟨-, -, -, hdrw, -⟩ := assertSource_reactKept (src := 47) rfl r.slot false v
      rw [congr _ v hdrw]
      exact hv
    · exact hv
  · split <;> exact hv

theorem contentCut_latches (m n : Nat) (s : State) :
    (slotAt (contentCut m s) n).latched = (latchObjects (cutoffAt s.sched m) (slotAt s n)).latched := by
  have fold : ∀ (c prev : Int) (rows : List TableRow) (u : State), (slotAt (rows.foldl (fun s r => cutSlot c prev r s) u) n).latched = (slotAt u n).latched
      ∧ (slotAt (rows.foldl (fun s r => cutSlot c prev r s) u) n).handed = (slotAt u n).handed := fun c prev rows u =>
    ⟨foldl_keeps (fun u => (slotAt u n).latched) (fun v r => (cutSlot_objects c prev r n v).1) rows u,
      foldl_keeps (fun u => (slotAt u n).handed) (fun v r => (cutSlot_objects c prev r n v).2) rows u⟩
  have latch : ∀ (c : Int) (x y : Slot), x.latched = y.latched → x.handed = y.handed → (latchObjects c x).latched = (latchObjects c y).latched := by
    intro c x y hl hh
    unfold latchObjects
    rw [hh]
    split
    · rfl
    · exact hl
  unfold contentCut
  extract_lets c prev table rows s1 s2 sch s3
  have h2 : (slotAt s2 n).latched = (latchObjects c (slotAt s n)).latched := by
    change (slotAt (mapSlots (latchObjects c) s1) n).latched = _
    rw [slotAt_mapSlots (f := latchObjects c) rfl]
    exact latch _ _ _ (fold c prev rows s).1 (fold c prev rows s).2
  split
  · exact h2
  · have hend : slotAt (endSource 47 s3) n = slotAt s3 n := by simp [slotAt]
    rw [hend]
    exact h2

theorem contentCut_marks (m : Nat) (s : State) :
    (contentCut m s).sched.cutDone = some m ∧ (contentCut m s).sched.lastCut = cutoffAt s.sched m := by
  unfold contentCut
  extract_lets c prev table rows s1 s2 sch s3
  split
  · exact ⟨rfl, rfl⟩
  · have hend : (endSource 47 s3).sched = s3.sched := by simp
    rw [hend]
    exact ⟨rfl, rfl⟩

/-! ### The commands -/

section
variable {t : Nat} {s : State}

theorem contentCutoff_due (hrun : s.sched.running = true) (hnot : s.sched.cutDone ≠ some s.sched.nextComp)
    (hdue : cutoffAt s.sched s.sched.nextComp ≤ tsc (advance t s)) :
    exec (.contentCutoff t) s = .next (contentCut s.sched.nextComp (advance t s)) := by
  change execContentCutoff t s = _
  unfold execContentCutoff
  dsimp only
  rw [advance_sched, if_pos]
  rw [hrun, decide_eq_true hnot, decide_eq_true hdue]
  rfl

theorem contentCutoff_waits (hnot : ¬ (s.sched.running = true ∧ s.sched.cutDone ≠ some s.sched.nextComp
    ∧ cutoffAt s.sched s.sched.nextComp ≤ tsc (advance t s))) : exec (.contentCutoff t) s = .next (advance t s) := by
  change execContentCutoff t s = _
  unfold execContentCutoff
  dsimp only
  rw [advance_sched, if_neg]
  rw [Bool.and_eq_true, Bool.and_eq_true, decide_eq_true_iff, decide_eq_true_iff]
  exact fun h => hnot ⟨h.1.1, h.1.2, h.2⟩

theorem compositionStart_idle (hrun : s.sched.running = false) : exec (.compositionStart t) s = .next (advance t s) := by
  change execCompositionStart t s = _
  unfold execCompositionStart
  dsimp only
  rw [advance_sched, hrun]
  rfl

theorem compositionStart_runs (hrun : s.sched.running = true) (hchange : s.sched.change = none) : exec (.compositionStart t) s =
    if compAt s.sched s.sched.nextComp ≤ tsc (advance t s) then .next (composeFrame s.sched.nextComp (advance t s)) else .next (advance t s) := by
  have hhost : applyHostChange (advance t s) = advance t s := applyHostChange_none (by rw [advance_sched]; exact hchange)
  change execCompositionStart t s = _
  unfold execCompositionStart
  dsimp only
  rw [hhost, advance_sched, hrun]
  rfl

end

/-- Settles O48. -/
theorem frameBoundary : Obligations.FrameBoundary := by
  intro t s a m
  have hsched : a.sched = s.sched := advance_sched t s
  have hmode : a.mode = s.mode := advance_mode t s
  refine ⟨fun hrun hop hnot hdue => ⟨_, contentCutoff_due hrun hnot hdue, ?_⟩, fun hrun hdone => contentCutoff_waits fun h => h.2.1 hdone,
    fun hrun hearly => contentCutoff_waits fun h => absurd h.2.2 (Int.not_le.mpr hearly),
    fun hidle => ⟨contentCutoff_waits fun h => absurd h.1 (by rw [hidle]; decide), compositionStart_idle hidle⟩,
    fun hrun hop hchange hdue => ⟨composeFrame m a, (compositionStart_runs hrun hchange).trans (if_pos hdue), ?_⟩,
    fun hrun hchange hearly => (compositionStart_runs hrun hchange).trans (if_neg (Int.not_le.mpr hearly))⟩
  · have hlit : Lit a := by rw [Lit, hmode]; exact hop
    have hb := contentCut_boundary m (.refl hlit)
    have hmarks := contentCut_marks m a
    rw [hsched] at hmarks
    have hplan : (contentCut m a).sched.nextComp = a.sched.nextComp :=
      show (contentCut m a).sched.plan.nextComp = a.sched.plan.nextComp from congrArg Sched.nextComp hb.plan
    refine ⟨hmarks.1, hmarks.2, hplan.trans (congrArg Sched.nextComp hsched), fun n hn hlen => ?_,
      (contentCut_kept m a (.refl a)).bankSel.trans (by rw [advance_arr]), hb.cfg.trans (advance_cfg t s)⟩
    have hl := contentCut_latches m n a
    rw [hsched] at hl
    exact hl.trans (by rw [slotAt, slotAt, advance_drw])
  · have hlit : Lit a := by rw [Lit, hmode]; exact hop
    obtain ⟨hnext, hcut, hcfg, f, hcur, hframe, hrow, hchest, href, hmap, hcorr, htrim, hswap, hscale, hwith⟩ := composeFrame_begins (m := m) hlit
      (by rw [hsched]; exact hchange)
    have hheld : reinitialising a (compAt s.sched m) = reinitialising s (compAt s.sched m) := by
      rw [reinitialising_plan, hsched, reinitialising_plan]
    rw [hsched] at hswap hwith
    exact ⟨hnext, hcut, (composeFrame_kept m a (.refl a)).bankSel.trans (by rw [advance_arr]), hcfg.trans (advance_cfg t s), f, hcur, hframe, hrow,
      hchest, href, hmap.trans (by rw [advance_rake]), hcorr.trans (by rw [advance_conv]), htrim.trans (by rw [advance_time]), hswap, hscale,
      hwith.trans hheld⟩

end Sys2Proof.Machine

/-! ## Rows over the link (09 R220, R224 to R226, 03 R69 to R71) -/

namespace Sys2Proof.Machine

/-! ### No reaction touches WRDONE -/

/-- WRDONE and its instant are the same. -/
abbrev WrdoneKept (s u : State) : Prop := u.arr.wrdone = s.arr.wrdone ∧ u.arr.wrdoneAt = s.arr.wrdoneAt

section
variable {c : Prop} [Decidable c] (a b : PixelArray)

@[simp] theorem ite_wrdone : (if c then a else b).wrdone = if c then a.wrdone else b.wrdone := apply_ite PixelArray.wrdone c a b
@[simp] theorem ite_wrdoneAt : (if c then a else b).wrdoneAt = if c then a.wrdoneAt else b.wrdoneAt := apply_ite PixelArray.wrdoneAt c a b

end

@[simp] theorem closeSwitch_wrdone (s : State) : WrdoneKept s (closeSwitch s) := by
  unfold closeSwitch
  split <;> simp [WrdoneKept]

@[simp] theorem openSwitch_wrdone (cause : Nat) (s : State) : WrdoneKept s (openSwitch cause s) := by
  unfold openSwitch
  split <;> simp [WrdoneKept]

@[simp] theorem selectSettle_wrdone (s : State) : WrdoneKept s (selectSettle s) := ⟨rfl, rfl⟩

@[simp] theorem drvLow_wrdone (s : State) : WrdoneKept s (drvLow s) := ⟨rfl, rfl⟩

@[simp] theorem kindHardware_wrdone (kind cause : Nat) (s : State) : WrdoneKept s (kindHardware kind cause s) := by
  unfold kindHardware
  split <;> simp [WrdoneKept]

@[simp] theorem goSafe_wrdone (kind cause : Nat) (s : State) : WrdoneKept s (goSafe kind cause s) := by simp [WrdoneKept, goSafe]

@[simp] theorem startSchedule_wrdone (s : State) : WrdoneKept s (startSchedule s) := by simp [WrdoneKept, startSchedule]

@[simp] theorem proofToSafe_wrdone (kind cause : Nat) (s : State) : WrdoneKept s (proofToSafe kind cause s) := by simp [WrdoneKept, proofToSafe]

@[simp] theorem withholdBy_arr (src data : Nat) (s : State) : (withholdBy src data s).arr = s.arr := by simp [withholdBy]

@[simp] theorem react_wrdone (src data r : Nat) (s : State) : WrdoneKept s (react src data r s) := by
  cases h : s.mode.op <;> simp [WrdoneKept, react, h]

@[simp] theorem settleFails_wrdone (s : State) : WrdoneKept s (settleFails s) := by simp [WrdoneKept, settleFails]

theorem deliver_wrdone (src data : Nat) (forced : Bool) (s : State) : WrdoneKept s (deliver src data forced false s) := by
  unfold WrdoneKept deliver
  split <;> simp

@[simp] theorem endShadow_wrdone (x : Action) (s : State) : WrdoneKept s (endShadow x s) := by
  have keeps {β} (g : State → β) (h : ∀ n d forced u, g (deliver n d forced false u) = g u) (s : State) : g ((List.range 48).foldl (fun s n =>
      if hasBit s.flt.masked n && isAsserted s n && !isShadowed s n (s.flt.datas.getD n 0) then
        deliver n (s.flt.datas.getD n 0) (!hasBit s.flt.cond n) false s
      else s) s) = g s := foldl_keeps g (fun u n => by
    split
    · exact h _ _ _ u
    · rfl) _ s
  unfold WrdoneKept endShadow
  split
  · dsimp only
    rw [keeps (fun u => u.arr.wrdone) fun n d forced u => (deliver_wrdone n d forced u).1,
      keeps (fun u => u.arr.wrdoneAt) fun n d forced u => (deliver_wrdone n d forced u).2]
    exact ⟨rfl, rfl⟩
  · exact ⟨rfl, rfl⟩

/-! ### A row that is stored -/

@[simp] theorem storeRow_leaves (row : Nat) (codes : List Nat) (a : PixelArray) :
    (storeRow row codes a).bankSel = a.bankSel ∧ (storeRow row codes a).writeFrame = a.writeFrame ∧ (storeRow row codes a).writeBad = a.writeBad := by
  unfold storeRow
  split <;> exact ⟨rfl, rfl, rfl⟩

theorem storeRow_inactive (row : Nat) (codes : List Nat) (a : PixelArray) :
    (a.bankSel = .a → (storeRow row codes a).bankB = memWriteList 0 a.bankB (2048 * row) codes)
      ∧ (a.bankSel = .b → (storeRow row codes a).bankA = memWriteList 0 a.bankA (2048 * row) codes) := by
  constructor <;> (intro h; simp [storeRow, h, Bank.other])

@[simp] theorem noteDriven_leaves (t : Nat) (a : PixelArray) : (noteDriven t a).writeFrame = a.writeFrame ∧ (noteDriven t a).wrdone = a.wrdone := by
  unfold noteDriven
  split <;> exact ⟨rfl, rfl⟩

/-- WRDONE after the last row of a good frame. -/
theorem raiseWrdone_raises (s : State) : (raiseWrdone s).arr.wrdone = true ∧ (raiseWrdone s).arr.wrdoneAt = tsc s := by
  have hraised : ∀ u : State, (endShadow .compReinit u).arr.wrdone = u.arr.wrdone ∧ (endShadow .compReinit u).arr.wrdoneAt = u.arr.wrdoneAt :=
    endShadow_wrdone .compReinit
  unfold raiseWrdone
  dsimp only
  split
  · exact hraised _
  · exact ⟨rfl, rfl⟩

theorem raiseWrdone_quiet {s : State} (h : s.sched.reinitAt = none) :
    (raiseWrdone s).arr.writeRow = s.arr.writeRow ∧ (raiseWrdone s).flt = s.flt ∧ (raiseWrdone s).mode = s.mode := by
  simp [raiseWrdone, takeSlTrim, h]

/-- The row as it is stored, before WRDONE. -/
def rowStored (p : RowPacket) (s : State) : State :=
  let a := storeRow p.row p.codes s.arr
  let a := if p.row = 0 then noteDriven (tsc s) { a with writeFrame := p.frame, writeBad := false, wrdone := false }
    else { a with writeBad := a.writeBad || decide (p.frame ≠ a.writeFrame) }
  { s with arr := { a with writeRow := p.row + 1 } }

theorem takeRow_eq (p : RowPacket) (s : State) :
    takeRow p s = if p.row = 639 ∧ !(rowStored p s).arr.writeBad then raiseWrdone (rowStored p s) else rowStored p s := rfl

/-- What the backplane takes from a good row (03 R70). -/
theorem takeRow_state (p : RowPacket) (s : State) :
    (p.row < 639 ∨ s.sched.reinitAt = none → (takeRow p s).arr.writeRow = p.row + 1 ∧ (takeRow p s).flt = s.flt ∧ (takeRow p s).mode = s.mode)
      ∧ (p.row = 0 → (takeRow p s).arr.writeFrame = p.frame ∧ (takeRow p s).arr.wrdone = false)
      ∧ (p.row = 639 → p.frame = s.arr.writeFrame → s.arr.writeBad = false → (takeRow p s).arr.wrdone = true ∧ (takeRow p s).arr.wrdoneAt = tsc s) := by
  rw [takeRow_eq]
  refine ⟨fun hquiet => ?_, fun hfirst => ?_, fun hlast hframe hgood => ?_⟩
  · split
    case isTrue h => exact raiseWrdone_quiet (s := rowStored p s) (hquiet.resolve_left (by omega))
    case isFalse => exact ⟨rfl, rfl, rfl⟩
  · rw [if_neg (by omega)]
    simp [rowStored, hfirst]
  · rw [if_pos ⟨hlast, by simp [rowStored, hlast, hframe, hgood]⟩]
    exact raiseWrdone_raises _

/-! ### A row that is composed -/

theorem composeRow_length (s : State) (f : CompFrame) (r : Nat) : (composeRow s f r).length = 2048 := by simp [composeRow]

@[simp] theorem updCur_cur (g : CompFrame → CompFrame) (s : State) : (updCur g s).sched.cur = s.sched.cur.map g := rfl

@[simp] theorem monitorTake_leaves (frame : Nat) (values codes : List Nat) (s : State) :
    (monitorTake frame values codes s).arr = s.arr ∧ (monitorTake frame values codes s).sched = s.sched := by
  unfold monitorTake dropMonitor monitorChecked updMon
  dsimp only
  (repeat' split) <;> simp

/-- Composing a row touches neither the array nor the schedule of the swaps (09 R226). -/
theorem sendRow_sends {f : CompFrame} {row : Nat} {s : State} (hcur : s.sched.cur = some f) :
    (sendRow f row s).arr = s.arr
      ∧ ∃ g codes, (sendRow f row s).sched.cur = some g ∧ g.frame = f.frame ∧ g.nextRow = row + 1 ∧ g.sum = f.sum + codes.foldl (· + ·) 0
        ∧ g.withheld = f.withheld
        ∧ (sendRow f row s).sched.link = some (sealed { row := row, bank := targetBank s f, kind := 0, frame := f.frame % 16, codes := codes })
        ∧ codes.length = 2048 := by
  unfold sendRow
  extract_lets out codes br s1 sch
  have hlen : codes.length = 2048 := by rw [List.length_map, composeRow_length]
  obtain ⟨harr, hsched⟩ : s1.arr = s.arr ∧ s1.sched = s.sched := monitorTake_leaves _ _ _ _
  have htarget : targetBank s1 f = targetBank s f := by rw [targetBank, targetBank, harr, hsched]
  clear_value out codes br s1
  have hcur1 : ({ s1 with sched := sch } : State).sched.cur = some f := by simp only [sch, hsched, hcur]
  refine ⟨harr, _, codes, (updCur_cur _ _).trans (congrArg (Option.map _) hcur1), rfl, rfl, rfl, rfl, ?_, hlen⟩
  simp only [updCur, sch, htarget]

/-- The frame with the watermark noted. -/
theorem noteLevels_cur {f : CompFrame} {s : State} (row : Nat) (levels : List Nat) (hcur : s.sched.cur = some f) :
    ∃ g, (noteLevels row levels f s).sched.cur = some g ∧ g.frame = f.frame ∧ g.sum = f.sum ∧ g.withheld = f.withheld
      ∧ targetBank (noteLevels row levels f s) g = targetBank s f := by
  unfold noteLevels
  dsimp only
  rw [updCur_cur, hcur]
  exact ⟨_, rfl, rfl, rfl, rfl, rfl⟩

@[simp] theorem noteLevels_arr (row : Nat) (levels : List Nat) (f : CompFrame) (s : State) : (noteLevels row levels f s).arr = s.arr := rfl

section
variable {t row : Nat} {levels : List Nat} {s : State} {f : CompFrame} {d : Int} (hcur : s.sched.cur = some f) (hshown : f.withheld = false)
  (hrow : f.nextRow = row) (hlt : row < 640)

/-- The levels are possible readings of the line buffer. -/
theorem levels_possible (hlt : row < 640) (hne : levels ≠ []) (hle : ∀ l ∈ levels, l ≤ 8) :
    ¬(640 ≤ row ∨ levels = [] ∨ levels.any (fun l => decide (8 < l)) = true) := by
  simp only [List.any_eq_true, decide_eq_true_iff]
  rintro (h | h | ⟨l, hl, h⟩)
  · omega
  · exact hne h
  · exact absurd (hle l hl) (by omega)

include hcur hlt

theorem execRowTransferStart_early (complete : Bool) (hne : levels ≠ []) (hle : ∀ l ∈ levels, l ≤ 8) (hd : transferAt s.sched f row = some d)
    (hearly : tsc (advance t s) < d) : execRowTransferStart t row complete levels s = .next (advance t s) := by
  unfold execRowTransferStart
  dsimp only
  rw [if_neg (levels_possible hlt hne hle), advance_sched, hcur]
  dsimp only
  rw [hd, Option.elim_some, if_pos]
  rw [decide_eq_false (Int.not_le.mpr hearly)]
  exact .inr (.inr rfl)

theorem execRowLatePoint_early (hd : lateAt s.sched f row = some d) (hearly : tsc (advance t s) < d) :
    execRowLatePoint t row [] s = .next (advance t s) := by
  have hpossible : ¬(640 ≤ row ∨ ([] : List LateFetch).any lateImpossible = true) :=
    not_or.mpr ⟨Nat.not_le.mpr hlt, Bool.false_ne_true⟩
  unfold execRowLatePoint
  dsimp only
  rw [if_neg hpossible, advance_sched, hcur]
  dsimp only
  rw [hd, Option.elim_some, if_pos]
  rw [decide_eq_false (Int.not_le.mpr hearly)]
  exact .inr (.inr rfl)

include hshown hrow

theorem execRowTransferStart_due (complete : Bool) (hne : levels ≠ []) (hle : ∀ l ∈ levels, l ≤ 8) (hd : transferAt s.sched f row = some d)
    (hdue : d ≤ tsc (advance t s)) :
    execRowTransferStart t row complete levels s =
      if complete then .next (sendRow (((noteLevels row levels f (advance t s)).sched.cur).getD f) row (noteLevels row levels f (advance t s)))
      else .next (underrun row 3 (advance t s)) := by
  unfold execRowTransferStart
  dsimp only
  rw [if_neg (levels_possible hlt hne hle), advance_sched, hcur]
  dsimp only
  rw [hd, Option.elim_some, if_neg]
  rintro (h | h | h)
  · rw [hshown] at h; cases h
  · exact h hrow
  · rw [decide_eq_true hdue] at h; cases h

/-- The late point of the next row, once it is due (09 R225). -/
theorem execRowLatePoint_due {late : List LateFetch} (hpossible : late.any lateImpossible = false) (hd : lateAt s.sched f row = some d)
    (hdue : d ≤ tsc (advance t s)) {r : State × List Nat} (hr : late.foldl (lateFetch (baseSlots (advance t s))) (advance t s, []) = r) :
    (r.2 = [] → execRowLatePoint t row late s = .next r.1)
      ∧ (∀ cause, r.2 = [cause] → execRowLatePoint t row late s = .next (underrun row cause r.1)) := by
  unfold execRowLatePoint
  dsimp only
  rw [if_neg (not_or.mpr ⟨Nat.not_le.mpr hlt, by rw [hpossible]; decide⟩), advance_sched, hcur]
  dsimp only
  rw [hd, Option.elim_some, if_neg, hr]
  · constructor
    · intro h; rw [h]; rfl
    · intro cause h; rw [h]; rfl
  · rintro (h | h | h)
    · rw [hshown] at h; cases h
    · exact h hrow
    · rw [decide_eq_true hdue] at h; cases h

end

/-- One late fetch of the frame being composed. -/
theorem lateFetch_of_cur {f : CompFrame} {s : State} (base : List Nat) (l : LateFetch) (hcur : s.sched.cur = some f) :
    [l].foldl (lateFetch base) (s, []) = ((lateEffect f base l).1.foldl (fun s x => layerLate x s) s, (lateEffect f base l).2.toList) := by
  rw [List.foldl_cons, List.foldl_nil, lateFetch]
  dsimp only
  rw [hcur]
  rfl

theorem lateEffect_drawer {f : CompFrame} {base : List Nat} {slot : Nat}
    (hshown : f.layers.any (fun x => x.slot = slot && x.buf.isSome && x.cabinet.isNone && !x.off) = true) :
    lateEffect f base (.drawer slot) = if base.contains slot then ([], some 0) else ([(slot, false)], none) := by
  unfold lateEffect
  dsimp only
  rw [hshown]
  rfl

/-! ### A frame that is withheld -/

theorem withholdCurrent_withholds {a : State} {f : CompFrame} (hcur : a.sched.cur = some f) (hshown : f.withheld = false) :
    ∃ g, (withholdCurrent a).sched.cur = some g ∧ g.frame = f.frame ∧ g.withheld = true := by
  unfold withholdCurrent
  rw [hcur]
  exact ⟨{ f with withheld := true, checked := true }, by simp [hshown], rfl, rfl⟩

theorem underruns_of_course {a b : Sched} (h : a.course = b.course) : a.underruns = b.underruns :=
  show a.course.underruns = b.course.underruns from congrArg Sched.underruns h

theorem underrun_withholds {row cause : Nat} {a : State} {f : CompFrame} (hcur : a.sched.cur = some f) (hshown : f.withheld = false) (hlit : Lit a) :
    (∃ g, (underrun row cause a).sched.cur = some g ∧ g.frame = f.frame ∧ g.withheld = true)
      ∧ (underrun row cause a).sched.underruns = incr32 a.sched.underruns := by
  obtain ⟨g, hheld, hframe, hwithheld⟩ := withholdCurrent_withholds hcur hshown
  unfold underrun
  extract_lets s1
  generalize hcount : ({ s1.sched with underruns := incr32 s1.sched.underruns } : Sched) = sch
  have hlit1 : Lit { s1 with sched := sch } := by simpa [Lit, s1] using hlit
  obtain ⟨layers, hcur1⟩ := assertSource_cur (src := 13) rfl (by decide) (row + 1024 * cause) (f := g) hlit1 (by simpa [← hcount, s1] using hheld)
  have hcourse := (assertSource_course (src := 13) rfl (row + 1024 * cause) false hlit1).1
  refine ⟨⟨{ g with layers := layers }, hcur1, hframe, hwithheld⟩, (underruns_of_course hcourse).trans ?_⟩
  rw [← hcount]
  exact congrArg incr32 (underruns_of_course (withholdCurrent_course a))

/-! ### A row that is rejected -/

/-- The assertion of a pulse source is seen, shadowed or not (15 R359, R363). -/
theorem assertSource_seen {src data : Nat} {s : State} (hsrc : src < 48) (hpulse : isLevel src = false) (hrun : s.flt.running = true) :
    hasBit (assertSource src data false s).flt.seen src = true := by
  rw [assertSource_delivered false hrun (by simp [hpulse]), conditionNoted_pulse _ hpulse]
  cases h : isShadowed s src (data % 65536) with
  | true =>
    rw [deliver_shadowed _ _ h]
    exact (deliverShadowed_notes _ _ _ hsrc).1
  | false =>
    rw [(deliver_latched h).2.1]
    exact (latchedBy_bits _ _ _ hsrc).2.1

theorem rejectRow_seen (row : Nat) {s : State} (hrun : s.flt.running = true) : hasBit (rejectRow row s).flt.seen 45 = true :=
  assertSource_seen (by decide) rfl (by simpa using hrun)

/-! ### The statement -/

theorem rowGood_iff (s : State) (p : RowPacket) (crc : Nat) :
    rowGood s p crc = true ↔ crc = crc32 (packetBytes p) ∧ p.bank ≠ s.arr.bankSel ∧ inOrder s.arr p = true := by
  simp [rowGood, crcGood, and_assoc]

/-- Settles O49. -/
theorem rowsReachTheInactiveBank : Obligations.RowsReachTheInactiveBank := by
  unfold Obligations.RowsReachTheInactiveBank
  refine ⟨fun t row s f => ?_, fun row cause a f hcur hshown hlit => underrun_withholds hcur hshown hlit, fun t p crc s hok hrunning => ?_⟩
  · intro a hcur hshown hrow hlt
    have hcura : a.sched.cur = some f := by rw [advance_sched, hcur]
    refine ⟨fun d levels hd hdue hne hle => ⟨?_, ?_⟩, fun d complete levels hd hearly hne hle => ?_, fun d hd hdue => ⟨?_, ?_, ?_, ?_⟩,
      fun d hd hearly => ?_⟩
    · obtain ⟨g, hg, hframe, hsum, hheld, htarget⟩ := noteLevels_cur row levels hcura
      obtain ⟨harr, g', codes, hcur', h1, h2, h3, h4, h5, h6⟩ := sendRow_sends (row := row) hg
      refine ⟨_, execRowTransferStart_due hcur hshown hrow hlt true hne hle hd hdue, ?_, ?_⟩
      · rw [hg, Option.getD_some, harr, noteLevels_arr]
      · rw [hg, Option.getD_some]
        refine ⟨g', codes, hcur', h1.trans hframe, h2, by rw [h3, hsum], by rw [h4, hheld, hshown], ?_, h6⟩
        rw [h5, htarget, hframe]
        simp [targetBank, a]
    · exact execRowTransferStart_due hcur hshown hrow hlt false hne hle hd hdue
    · exact execRowTransferStart_early hcur hlt complete hne hle hd hearly
    · exact (execRowLatePoint_due hcur hshown hrow hlt rfl hd hdue (lateFetch_of_cur _ _ hcura)).2 1 rfl
    · exact (execRowLatePoint_due hcur hshown hrow hlt rfl hd hdue (lateFetch_of_cur _ _ hcura)).2 2 rfl
    · exact (execRowLatePoint_due hcur hshown hrow hlt rfl hd hdue rfl).1 rfl
    · intro slot hslot hlayer
      have hlate := lateFetch_of_cur (baseSlots a) (.drawer slot) hcura
      have hpossible : [LateFetch.drawer slot].any lateImpossible = false := by simp [lateImpossible]; omega
      rw [lateEffect_drawer hlayer] at hlate
      constructor
      · intro hbase
        rw [if_pos hbase] at hlate
        exact (execRowLatePoint_due hcur hshown hrow hlt hpossible hd hdue hlate).2 0 rfl
      · intro hbase
        rw [if_neg (by rw [hbase]; decide)] at hlate
        exact (execRowLatePoint_due hcur hshown hrow hlt hpossible hd hdue hlate).1 rfl
    · exact execRowLatePoint_early hcur hlt hd hearly
  · intro a
    have hrun : a.sched.running = true := by rw [advance_sched, hrunning]
    have hexec : exec (.rowPacket t p crc) s = if !rowDue a p (rowGood a p crc) then .next a
        else if rowGood a p crc then .next (takeRow p a) else .next (rejectRow p.row a) := by
      change execRowPacket t p crc s = _
      unfold execRowPacket
      dsimp only
      rw [hok, if_neg (by decide), hrun]
      simp only [Bool.not_true, Bool.false_eq_true, false_or]
      rfl
    have harr : a.arr = s.arr := advance_arr t s
    refine ⟨by rw [rowGood_iff, harr], fun hgood hdue => ?_, fun hbad hdue => ?_, fun hearly => by rw [hexec, hearly]; rfl⟩
    · obtain ⟨hrest, hfirst, hlast⟩ := takeRow_state p a
      obtain ⟨hbankA, hbankB⟩ := takeRow_banks p a
      rw [harr] at hlast hbankA hbankB
      refine ⟨_, by rw [hexec, hgood, hdue]; rfl, ?_, fun hsel => ?_, fun hsel => ?_, ?_, hfirst, hlast⟩
      · exact (takeRow_kept p a (.refl a)).bankSel.trans (congrArg PixelArray.bankSel harr)
      · exact ⟨hbankA.trans ((storeRow_stored _ _ _).1 hsel), hbankB.trans ((storeRow_inactive _ _ _).1 hsel)⟩
      · exact ⟨hbankB.trans ((storeRow_stored _ _ _).2 hsel), hbankA.trans ((storeRow_inactive _ _ _).2 hsel)⟩
      · simpa [a] using hrest
    · obtain ⟨hbankA, hbankB, -, -⟩ := rejectRow_lasting p.row a
      refine ⟨by rw [hexec, hbad, hdue]; rfl, ?_, ?_, fun hflt => rejectRow_seen p.row (by simpa [a] using hflt)⟩
      · rw [hbankA, harr]
      · rw [hbankB, harr]

end Sys2Proof.Machine

/-! ## The frame's checks, the governor latch and the swap (04 R95, 05 R111 to R115, R132, R133, 07 R182, 08 R202) -/

namespace Sys2Proof.Machine

/-! ### What an assertion leaves in FULL and SAFE -/

/-- The chain and the clock are the same, and so are the conditions and the forces of the sources. -/
abbrev SteadyKept (s u : State) : Prop := u.sync = s.sync ∧ u.time = s.time ∧ u.flt.cond = s.flt.cond ∧ u.flt.force = s.flt.force

@[simp] theorem withholdBy_sync (src data : Nat) (s : State) : (withholdBy src data s).sync = s.sync := by simp [withholdBy]

/-- In FULL and SAFE no reaction starts the schedule. -/
theorem react_steady {src data r : Nat} {s : State} (hop : Lit s) : SteadyKept s (react src data r s) := by
  obtain ⟨-, -, -, -, -, -, hcond, hforce, -⟩ := react_latched src data r s
  refine ⟨?_, ?_, hcond, hforce⟩ <;>
  · rcases hop with hop | hop <;> simp [react, hop]

theorem deliverShadowed_steady (src data : Nat) (forced : Bool) (s : State) : SteadyKept s (deliverShadowed src data forced s) := by
  unfold deliverShadowed
  dsimp only
  split <;> simp [SteadyKept, countAssertion]

/-- The assertion of a source without a block action, in FULL or SAFE. -/
theorem assertSource_steady {src : Nat} (h : isPlain src = true) (data : Nat) (forced : Bool) {s : State} (hop : Lit s) :
    (assertSource src data forced s).sync = s.sync ∧ (assertSource src data forced s).time = s.time
      ∧ (isLevel src = false → (assertSource src data forced s).flt.cond = s.flt.cond ∧ (assertSource src data forced s).flt.force = s.flt.force) := by
  have hlit : Lit (conditionNoted src data forced s) := by simpa [Lit] using hop
  have hnoted : (conditionNoted src data forced s).sync = s.sync ∧ (conditionNoted src data forced s).time = s.time := by
    simp [conditionNoted]
  have hpulse : isLevel src = false → conditionNoted src data forced s = s := conditionNoted_pulse forced
  have hdelivered : SteadyKept (conditionNoted src data forced s) (assertSource src data forced s) := by
    rw [assertSource_eq]
    split
    · simp [SteadyKept]
    · rw [deliver_plain h]
      generalize conditionNoted src data forced s = u at hlit ⊢
      split
      · exact deliverShadowed_steady ..
      · dsimp only
        generalize carriedOut _ _ _ = r
        generalize hv : (if r = 0 then _ else recordFault src 1 r (data % 65536) forced _) = v
        have hv' : SteadyKept u v ∧ v.mode = u.mode := by
          rw [← hv, latchFirst_eq]
          split <;> simp [SteadyKept, countAssertion]
        obtain ⟨⟨hsync, htime, hcond, hforce⟩, hmode⟩ := hv'
        obtain ⟨rsync, rtime, rcond, rforce⟩ := react_steady (src := src) (data := data % 65536) (r := r) (s := v) (by simpa [Lit, hmode] using hlit)
        exact ⟨rsync.trans hsync, rtime.trans htime, rcond.trans hcond, rforce.trans hforce⟩
  obtain ⟨hsync, htime, hcond, hforce⟩ := hdelivered
  exact ⟨hsync.trans hnoted.1, htime.trans hnoted.2, fun hp => by rw [hcond, hforce, hpulse hp]; exact ⟨rfl, rfl⟩⟩


/-! ### The governor latch -/

@[simp] theorem commandVled_leaves (v t : Nat) (a : PixelArray) :
    (commandVled v t a).bankSel = a.bankSel ∧ (commandVled v t a).irefA = a.irefA ∧ (commandVled v t a).irefB = a.irefB := by
  unfold commandVled
  split <;> exact ⟨rfl, rfl, rfl⟩

theorem governFrame_arr (f : CompFrame) (s : State) : (governFrame f s).arr =
    commandVled (govTerms s f).v (vledFrom s)
      (setInactive (govTerms s f).least.toNat f.sum (effectiveBudget s f.profile) (govTerms s f).v s.arr) := by
  simp [governFrame, notePower, noteConflict, updMon]

/-- The reference of the inactive bank alone takes the scale (04 R95). -/
theorem governFrame_sets (f : CompFrame) (s : State) :
    (governFrame f s).arr.bankSel = s.arr.bankSel ∧ bankScale (governFrame f s).arr s.arr.bankSel = bankScale s.arr s.arr.bankSel
      ∧ bankScale (governFrame f s).arr s.arr.bankSel.other = (govTerms s f).least.toNat := by
  rw [governFrame_arr]
  cases hsel : s.arr.bankSel <;> simp [bankScale, setInactive, hsel, Bank.other]

/-! ### The decision -/

@[simp] theorem followWithhold_course (s : State) : (followWithhold s).sched.course = s.sched.course := by
  unfold followWithhold
  split <;> simp

@[simp] theorem followWithhold_op (s : State) : (followWithhold s).mode = s.mode := by
  unfold followWithhold
  split <;> simp

theorem swaps_of_course {a b : Sched} (h : a.course = b.course) : a.nextSwap = b.nextSwap ∧ a.decided = b.decided :=
  ⟨show a.course.nextSwap = b.course.nextSwap by rw [h], show a.course.decided = b.course.decided by rw [h]⟩

theorem decideSwap_decided {s : State} (h : s.sched.decided.isSome) : decideSwap s = s := if_pos h

/-- The swap of the next frame is decided (05 R112, 09 R228). -/
theorem decideSwap_decides {s : State} (hlit : Lit s) (hopen : s.sched.decided = none) :
    (decideSwap s).sched.nextSwap = s.sched.nextSwap
      ∧ (decideSwap s).sched.decided = some (wrdoneFor s s.sched.nextSwap
        && !(holds s s.sched.nextSwap || s.sched.withhold.contains s.sched.nextSwap) && !s.sched.ownWithheld.contains s.sched.nextSwap) := by
  unfold decideSwap
  rw [if_neg (by rw [hopen]; decide)]
  extract_lets n demanded own done ok src sch chain s1 s2
  have h2 : s2.sched.course = sch.course := followWithhold_course _
  have hlit2 : Lit s2 := by simpa [Lit, s2, s1] using hlit
  have hcourse : (if !done && !demanded && !own && sentInFull s2 n then assertSource 11 (n % 65536) false s2 else s2).sched.course = sch.course := by
    split
    · exact (assertSource_course (src := 11) rfl _ _ hlit2).1.trans h2
    · exact h2
  exact swaps_of_course hcourse

/-! ### The swap -/

theorem passSwap_later (executed : Option Nat) (s : State) : s.sched.nextSwap < (passSwap executed s).sched.nextSwap :=
  Nat.lt_of_lt_of_le (Nat.lt_succ_self _) (Nat.le_max_right _ _)

@[simp] theorem passSwap_leaves (executed : Option Nat) (s : State) :
    (passSwap executed s).sync = s.sync ∧ (passSwap executed s).time = s.time ∧ (passSwap executed s).flt = s.flt
      ∧ (passSwap executed s).mode = s.mode := by
  simp [passSwap, takeSlTrim, updMon]

@[simp] theorem noteProfiles_leaves (n : Nat) (s : State) :
    (noteProfiles n s).sync = s.sync ∧ (noteProfiles n s).time = s.time ∧ (noteProfiles n s).flt = s.flt ∧ (noteProfiles n s).mode = s.mode
      ∧ (noteProfiles n s).sched.nextSwap = s.sched.nextSwap := by
  have keeps {β : Type} (g : State → β) (h : ∀ x u, g (record srcGov 0x0004 x u) = g u) (l : List (Nat × Nat)) (s : State) :
      g (l.foldl (fun s x => record srcGov 0x0004 x.2 s) s) = g s := foldl_keeps g (fun u x => h x.2 u) l s
  unfold noteProfiles
  exact ⟨keeps State.sync (by simp) _ _, keeps State.time (by simp) _ _, keeps State.flt (by simp) _ _, keeps State.mode (by simp) _ _,
    keeps (fun s => s.sched.nextSwap) (by simp) _ _⟩

/-- On the way to the swap the chain, the clock, the conditions and the next swap stay, and so does the light. -/
structure SwapKept (s u : State) : Prop where
  steady : SteadyKept s u
  next : u.sched.nextSwap = s.sched.nextSwap
  lit : Lit s → Lit u

theorem SwapKept.trans {s u v : State} (h : SwapKept s u) (k : SwapKept u v) : SwapKept s v := by
  obtain ⟨hsync, htime, hcond, hforce⟩ := h.steady
  obtain ⟨ksync, ktime, kcond, kforce⟩ := k.steady
  exact ⟨⟨ksync.trans hsync, ktime.trans htime, kcond.trans hcond, kforce.trans hforce⟩, k.next.trans h.next, k.lit ∘ h.lit⟩

theorem takeIrefTrim_swapKept (s : State) : SwapKept s (takeIrefTrim s) := by
  unfold takeIrefTrim
  split <;> exact ⟨⟨rfl, rfl, rfl, rfl⟩, rfl, id⟩

theorem recovered_swapKept (s : State) : SwapKept s (recovered s) := by
  unfold recovered
  refine ⟨?_, ?_, fun _ => ?_⟩
  · simp [SteadyKept, followWithhold, rearmCollector]
  · exact (swaps_of_course (followWithhold_course _)).1.trans (by simp)
  · simp [Lit]

theorem swapLight_swapKept (s : State) : SwapKept s (swapLight s) := ⟨⟨rfl, rfl, rfl, rfl⟩, rfl, id⟩

theorem noteProfiles_swapKept (n : Nat) (s : State) : SwapKept s (noteProfiles n s) := by
  obtain ⟨hsync, htime, hflt, hmode, hnext⟩ := noteProfiles_leaves n s
  exact ⟨⟨hsync, htime, congrArg _ hflt, congrArg _ hflt⟩, hnext, fun h => by simpa [Lit, hmode] using h⟩

/-- The swap toggles the banks and notes itself in the chain. -/
def swapped (s : State) : State :=
  { s with arr := { s.arr with bankSel := s.arr.bankSel.other, wrdone := false },
           sync := { s.sync with lastFrame := some s.sched.nextSwap, executed := incr32 s.sync.executed, lastExec := tsc s } }

/-- The swap before the schedule goes on. -/
def swapShown (s : State) : State :=
  let u := takeIrefTrim (swapped s)
  let u := swapLight (if gapPassed u then recovered u else u)
  let b := bankBudget u.arr u.arr.bankSel
  let u := { u with gov := { u.gov with inForce := b, windowMax := if u.arr.srcSettle then u.gov.windowMax else max u.gov.windowMax b } }
  noteProfiles s.sched.nextSwap (updMon s.sched.nextSwap (fun x => { x with shown := some (bankLit u) }) u)

theorem executeSwap_eq (readback : Bool) (s : State) : executeSwap readback s =
    if readback then passSwap (some (tsc s)) (swapShown s) else assertSource 10 0 false (passSwap (some (tsc s)) (swapShown s)) := by
  unfold executeSwap swapShown swapped
  rfl

theorem swapShown_swapKept (s : State) : SwapKept (swapped s) (swapShown s) := by
  unfold swapShown
  extract_lets u v b
  have hu : SwapKept (swapped s) u := takeIrefTrim_swapKept _
  have hv : SwapKept u v := by
    refine SwapKept.trans ?_ (swapLight_swapKept _)
    split
    · exact recovered_swapKept u
    · exact ⟨⟨rfl, rfl, rfl, rfl⟩, rfl, id⟩
  refine (hu.trans hv).trans (.trans ?_ (noteProfiles_swapKept _ _))
  exact ⟨⟨rfl, rfl, rfl, rfl⟩, rfl, id⟩

/-- A swap that is executed in FULL or SAFE (05 R111). -/
theorem executeSwap_state (readback : Bool) {s : State} (hlit : Lit s) :
    SteadyKept (swapped s) (executeSwap readback s) ∧ s.sched.nextSwap < (executeSwap readback s).sched.nextSwap ∧ Lit (executeSwap readback s) := by
  obtain ⟨hshown, hnext, hlit'⟩ := swapShown_swapKept s
  have hnext' : (swapShown s).sched.nextSwap = s.sched.nextSwap := hnext
  have hpass : SteadyKept (swapped s) (passSwap (some (tsc s)) (swapShown s)) := by
    obtain ⟨psync, ptime, pflt, -⟩ := passSwap_leaves (some (tsc s)) (swapShown s)
    simpa [SteadyKept, psync, ptime, pflt] using hshown
  have hlater := passSwap_later (some (tsc s)) (swapShown s)
  have hlitp : Lit (passSwap (some (tsc s)) (swapShown s)) := by simpa [Lit] using hlit' hlit
  rw [hnext'] at hlater
  rw [executeSwap_eq]
  split
  · exact ⟨hpass, hlater, hlitp⟩
  · obtain ⟨hcourse, hlita⟩ := assertSource_course (src := 10) rfl 0 false hlitp
    obtain ⟨hsync, htime, hkept⟩ := assertSource_steady (src := 10) rfl 0 false hlitp
    obtain ⟨hcond, hforce⟩ := hkept rfl
    refine ⟨?_, ?_, hlita⟩
    · obtain ⟨psync, ptime, pcond, pforce⟩ := hpass
      exact ⟨hsync.trans psync, htime.trans ptime, hcond.trans pcond, hforce.trans pforce⟩
    · rw [(swaps_of_course hcourse).1]
      exact hlater

/-! ### The island -/

/-- After a swap instant a node that drives nothing keeps its place in the chain, and only FS24 may have ended (05 R135). -/
theorem islandSwap_leaves (s : State) :
    (islandSwap s).sched = s.sched ∧ (islandSwap s).sync.lastFrame = s.sync.lastFrame ∧ (islandSwap s).sync.missed = s.sync.missed
      ∧ (islandSwap s).sync.armed = s.sync.armed ∧ (islandSwap s).sync.timedSwaps = s.sync.timedSwaps
      ∧ (islandSwap s).sync.headRun = s.sync.headRun ∧ (islandSwap s).sync.headTsc = s.sync.headTsc ∧ (islandSwap s).time = s.time
      ∧ (s.sync.role ≠ .islandHead → (islandSwap s).sync.role = s.sync.role) := by
  unfold islandSwap
  split
  case isTrue h =>
    dsimp only
    split <;> simp [h]
  case isFalse h => split <;> simp

@[simp] theorem releaseHold_op (s : State) : (releaseHold s).mode.op = s.mode.op := by
  unfold releaseHold
  (repeat' split) <;> simp

theorem endSource_steady (src : Nat) (s : State) :
    (endSource src s).mode.op = s.mode.op ∧ (endSource src s).flt.force = s.flt.force := by
  have hforce (u : State) : (releaseHold u).flt.force = u.flt.force := by rw [releaseHold_flt]
  unfold endSource levelEnded
  split
  · dsimp only
    split
    · exact ⟨rfl, rfl⟩
    · split <;> simp [hforce]
  · exact ⟨rfl, rfl⟩

/-- Only FS24 may have ended at the swap instant. -/
theorem islandSwap_lit {s : State} (h : Lit s) : Lit (islandSwap s) := by
  unfold islandSwap
  split
  · dsimp only
    split <;> simpa [Lit] using h
  · split
    · simpa [Lit, endSource_steady] using h
    · exact h

theorem isAsserted_lost (s : State) : isAsserted s 23 = (hasBit s.flt.cond 23 || hasBit s.flt.force 23) := rfl

theorem islandSwap_asserted (s : State) : isAsserted (islandSwap s) 23 = isAsserted s 23 := by
  unfold islandSwap
  split
  · dsimp only
    split <;> simp [isAsserted]
  · split
    · rw [isAsserted_lost, isAsserted_lost, (endSource_steady 24 _).2, endSource_cond (src := 24) rfl]
      split
      · rw [hasBit_withoutBit]; simp
      · rfl
    · rfl

/-- The condition of R133 stays over the swap. -/
theorem upstreamGone_islandSwap {s u : State} (hsync : u.sync.headRun = s.sync.headRun ∧ u.sync.headTsc = s.sync.headTsc) (htime : u.time = s.time)
    (hcond : u.flt.cond = s.flt.cond) (hforce : u.flt.force = s.flt.force) : upstreamGone (islandSwap u) = upstreamGone s := by
  obtain ⟨-, -, -, -, -, hrun, htsc, hclock, -⟩ := islandSwap_leaves u
  have hnow : tsc (islandSwap u) = tsc s := by rw [tsc, tsc, hclock, htime]
  have hlost : isAsserted (islandSwap u) 23 = isAsserted s 23 := by
    rw [islandSwap_asserted]
    rw [isAsserted_lost, isAsserted_lost, hcond, hforce]
  rw [upstreamGone, upstreamGone, hlost, hnow, hrun, htsc, hsync.1, hsync.2]

/-- A member that promotes itself drives on (05 R133). -/
theorem promote_leaves {s : State} (hlit : Lit s) :
    (promote s).sync.role = .islandHead ∧ (promote s).sync.lastFrame = s.sync.lastFrame ∧ (promote s).sync.timedSwaps = s.sync.timedSwaps
      ∧ (promote s).sync.executed = s.sync.executed ∧ (promote s).sync.missed = 0
      ∧ (promote s).sched.nextSwap = s.sched.nextSwap ∧ (promote s).arr.bankSel = s.arr.bankSel := by
  unfold promote
  generalize hu : ({ s with sync := _ } : State) = u
  have hlitu : Lit u := by rw [← hu]; exact hlit
  obtain ⟨hsync, -, -⟩ := assertSource_steady (src := 24) rfl s.sync.depth false hlitu
  obtain ⟨hcourse, -⟩ := assertSource_course (src := 24) rfl s.sync.depth false hlitu
  rw [hsync, (swaps_of_course hcourse).1, (assertSource_kept 24 s.sync.depth false u (.refl u)).bankSel, ← hu]
  exact ⟨rfl, rfl, rfl, rfl, rfl, rfl, rfl⟩

/-! ### The frame's checks -/

theorem lowestObject_isSome {l : List (Nat × Nat)} (h : l ≠ []) : ∃ o, lowestObject l = some o := by
  cases l with
  | nil => exact absurd rfl h
  | cons x l => exact ⟨_, rfl⟩

/-- The frame being composed is checked, and withheld where `held` says so. -/
def Judged (held : Prop) (s : State) : Prop := ∃ g, s.sched.cur = some g ∧ g.checked = true ∧ (held → g.withheld = true)

theorem Judged.withhold {held : Prop} {s : State} (h : Judged held s) (p : Prop) : Judged p (withholdCurrent s) := by
  obtain ⟨g, hcur, hchecked, -⟩ := h
  unfold withholdCurrent
  rw [hcur]
  dsimp only
  split
  case isTrue hw => exact ⟨g, hcur, hchecked, fun _ => hw⟩
  case isFalse => exact ⟨_, rfl, rfl, fun _ => rfl⟩

theorem Judged.assert {held : Prop} {src : Nat} (h : isPlain src = true) (hsrc : src ≠ 6) (data : Nat) {s : State} (hlit : Lit s)
    (hj : Judged held s) : Judged held (assertSource src data false s) := by
  obtain ⟨g, hcur, hchecked, hheld⟩ := hj
  obtain ⟨layers, hcur'⟩ := assertSource_cur h hsrc data hlit hcur
  exact ⟨_, hcur', hchecked, hheld⟩

theorem Judged.of_cur {held : Prop} {s u : State} (h : Judged held s) (hcur : u.sched.cur = s.sched.cur) : Judged held u := by
  rwa [Judged, hcur]

theorem deliver_chest (data : Nat) (forced : Bool) (s : State) : deliver 8 data forced true s =
    if isShadowed s 8 data then deliverShadowed 8 data forced s else reinitialise (deliver 8 data forced false s) := by
  unfold deliver
  split <;> rfl

theorem Judged.react {held : Prop} {src data r : Nat} {s : State} (hj : Judged held s) (hlit : Lit s) (hsrc : src ≠ 6) :
    Judged held (react src data r s) := by
  obtain ⟨g, hcur, hchecked, hheld⟩ := hj
  obtain ⟨layers, hcur'⟩ := react_cur (data := data) (r := r) hlit hsrc hcur
  exact ⟨_, hcur', hchecked, hheld⟩

/-- FS08 without its block action. -/
theorem Judged.deliver_quiet {held : Prop} {s : State} (data : Nat) (forced : Bool) (hlit : Lit s) (hj : Judged held s) :
    Judged held (deliver 8 data forced false s) ∧ (deliver 8 data forced false s).comp = s.comp := by
  unfold deliver
  split
  · exact ⟨hj.of_cur (by simp), by simp⟩
  · dsimp only
    rw [if_neg (by decide), if_neg (by decide)]
    refine ⟨Judged.react (hj.of_cur ?_) ?_ (by decide), by simp⟩
    · split <;> simp
    · split <;> simpa [Lit] using hlit

theorem reinitialise_leaves (s : State) : (reinitialise s).sched.cur = (withholdCurrent s).sched.cur ∧ (reinitialise s).comp = s.comp := by
  simp [reinitialise]

/-- The assertion of FS08: its block action reinitialises the compositor (15 R365). -/
theorem Judged.assert_eight {s : State} (data : Nat) (hlit : Lit s) (hj : Judged True s) :
    Judged True (assertSource 8 data false s) ∧ (assertSource 8 data false s).comp = s.comp := by
  rw [assertSource_eq, conditionNoted_pulse false rfl]
  split
  · exact ⟨hj, rfl⟩
  · rw [deliver_chest]
    split
    · exact ⟨hj.of_cur (by simp), by simp⟩
    · obtain ⟨hquiet, hcomp⟩ := hj.deliver_quiet (data % 65536) false hlit
      obtain ⟨hcur, hsame⟩ := reinitialise_leaves (deliver 8 (data % 65536) false false s)
      exact ⟨(hquiet.withhold True).of_cur hcur, hsame.trans hcomp⟩

theorem breachCheck_judges {f : CompFrame} {s : State} (hlit : Lit s) (hj : Judged False s) :
    Judged (f.breaches ≠ []) (breachCheck f s) ∧ (breachCheck f s).comp = s.comp ∧ Lit (breachCheck f s) := by
  have keeps {β : Type} (g : State → β) (h : ∀ n sl u, g (updSlot n sl u) = g u) (l : List Nat) (s : State) :
      g (l.foldl (fun s n => updSlot n (fun sl => { sl with breaches := incr32 sl.breaches }) s) s) = g s := foldl_keeps g (fun u n => h n _ u) l s
  unfold breachCheck
  split
  case h_1 o ho =>
    extract_lets u
    have hlitu : Lit (withholdCurrent u) := by
      simpa [Lit, u, keeps (fun s => s.mode) (by simp)] using hlit
    have hju : Judged (f.breaches ≠ []) (withholdCurrent u) := Judged.withhold (hj.of_cur (keeps (fun s => s.sched.cur) (by simp) _ _)) _
    obtain ⟨-, -, -, -, hcomp, -⟩ := assertSource_reactKept (src := 21) rfl (o.1 + 64 * o.2) false (withholdCurrent u)
    refine ⟨hju.assert rfl (by decide) _ hlitu, hcomp.trans ?_, (assertSource_course (src := 21) rfl _ _ hlitu).2⟩
    rw [withholdCurrent_comp]
    exact keeps State.comp (by simp) _ _
  case h_2 hnone =>
    obtain ⟨g, hcur, hchecked, -⟩ := hj
    refine ⟨⟨g, hcur, hchecked, fun hne => ?_⟩, rfl, hlit⟩
    obtain ⟨o, ho⟩ := lowestObject_isSome hne
    rw [ho] at hnone
    cases hnone

/-- The Chest comparison of a frame (07 R182). -/
theorem chestCheck_judges {f : CompFrame} {held : Prop} {s : State} (crc : Nat) (hlit : Lit s) (hj : Judged held s) :
    Judged (crc ≠ f.chestRef ∨ held) (chestCheck f crc s) ∧ (chestCheck f crc s).comp.chestLast = crc
      ∧ (chestCheck f crc s).comp.chestFails = if crc = f.chestRef then s.comp.chestFails else incr32 s.comp.chestFails := by
  unfold chestCheck
  extract_lets comp u failed v
  have hju : Judged held u := hj.of_cur (by simp [u])
  split
  case isTrue heq => exact ⟨by simpa [heq] using hju, by simp [u, comp], by simp [u, comp]⟩
  case isFalse hne =>
    have hheld : Judged True v := by
      refine Judged.withhold (held := held) ?_ True
      exact hju.of_cur rfl
    have hmarked : Judged True (updMon f.frame (fun m => { m with chestFail := true }) (updCur (fun f => { f with chestFail := true }) v)) := by
      obtain ⟨g, hcur, hchecked, hw⟩ := hheld
      exact ⟨{ g with chestFail := true }, by simp [hcur], hchecked, hw⟩
    obtain ⟨hj', hcomp⟩ := hmarked.assert_eight (f.frame % 65536) (by simpa [Lit, v, u] using hlit)
    obtain ⟨g, hcur, hchecked, hw⟩ := hj'
    rw [hcomp]
    exact ⟨⟨g, hcur, hchecked, fun _ => hw trivial⟩, by simp [v, failed, u, comp], by simp [v, failed, u, comp]⟩

/-! ### The commands -/

theorem passWithheld_undecided {s : State} (h : s.sched.decided ≠ some false) : passWithheld s = s := if_neg fun ⟨_, hd, _⟩ => h hd

section
variable {t : Nat} {s : State}

theorem execChestCheckComplete_of_cur {crc : Nat} {f : CompFrame} (hcur : s.sched.cur = some f) (hshown : f.withheld = false) (hrow : f.nextRow = 640)
    (hcrc : crc < 4294967296) : execChestCheckComplete t crc s =
      if f.checked then .next (advance t s)
      else .next (chestCheck f crc (breachCheck f (updCur (fun f => { f with checked := true }) (advance t s)))) := by
  unfold execChestCheckComplete
  dsimp only
  rw [if_neg (Nat.not_le.mpr hcrc), advance_sched, hcur]
  dsimp only
  simp [hshown, hrow]

theorem execGovernorLatch_of_cur {f : CompFrame} (hcur : s.sched.cur = some f) (hshown : f.withheld = false) (hrow : f.nextRow = 640) :
    execGovernorLatch t s = if f.scale.isSome ∨ s.sched.nextSwap ≠ f.frame then .next (advance t s) else .next (governFrame f (advance t s)) := by
  unfold execGovernorLatch
  dsimp only
  rw [advance_sched, hcur]
  dsimp only
  simp [hshown, hrow]

theorem execWrdoneDeadline_of_running (hrun : s.sched.running = true) (hdecided : s.sched.decided ≠ some false) : execWrdoneDeadline t s =
    if s.sched.decided.isNone && decide (swapOf s.sched s.sched.nextSwap - 1000 ≤ tsc (advance t s)) then .next (decideSwap (advance t s))
      else .next (advance t s) := by
  unfold execWrdoneDeadline
  dsimp only
  rw [passWithheld_undecided (by rwa [advance_sched]), advance_sched, hrun, Bool.true_and]

theorem drives_advance (t : Nat) (s : State) : drives (advance t s) = drives s := by simp [drives]

theorem holds_advance (t n : Nat) (s : State) : holds (advance t s) n = holds s n := by
  simp [holds, mayRecover, gapOver, anyFatal, isAsserted]

theorem wrdoneFor_advance (t n : Nat) (s : State) : wrdoneFor (advance t s) n = wrdoneFor s n := by simp [wrdoneFor]

/-- The swap of a SLUICE that is taken. -/
theorem execSluiceExecute_due {rb : Bool} (hrun : s.sched.running = true)
    (hdue : (drives s = true ∧ s.sync.sluiceSent = some s.sched.nextSwap ∧ drivenAt s / 4 ≤ tsc (advance t s))
      ∨ (drives s = false ∧ ∃ x, s.sync.armed = some (s.sched.nextSwap % 65536, x) ∧ x / 4 ≤ tsc (advance t s))) :
    execSluiceExecute t rb s = .next (islandSwap (takeSwap rb (noMiss (advance t s)))) := by
  have hdrives := drives_advance t s
  have hat : drivenAt (advance t s) = drivenAt s := by simp [drivenAt]
  unfold execSluiceExecute
  dsimp only
  rw [hdrives, hat, advance_sched, advance_sync, hrun, if_neg (by decide)]
  rcases hdue with ⟨hd, hsent, hnow⟩ | ⟨hd, x, harmed, hnow⟩
  · rw [if_pos hd, if_pos ⟨hsent, hnow⟩]
  · rw [if_neg (by rw [hd]; decide), harmed]
    exact if_pos ⟨rfl, hnow⟩

theorem execSluiceExecute_unsent {rb : Bool} (hdrives : drives s = true)
    (hearly : s.sync.sluiceSent ≠ some s.sched.nextSwap ∨ (tsc (advance t s) : Int) < drivenAt s / 4) :
    execSluiceExecute t rb s = .next (advance t s) := by
  have hd := drives_advance t s
  have hat : drivenAt (advance t s) = drivenAt s := by simp [drivenAt]
  unfold execSluiceExecute
  dsimp only
  have hnot : ¬(s.sync.sluiceSent = some s.sched.nextSwap ∧ drivenAt s / 4 ≤ tsc (advance t s)) := fun ⟨hsent, hnow⟩ =>
    hearly.elim (fun h => h hsent) fun h => absurd hnow (Int.not_le.mpr h)
  rw [hd, hat, advance_sched, advance_sync, if_pos hdrives, if_neg hnot, ite_self]

theorem execSluiceExecute_unarmed {rb : Bool} (hdrives : drives s = false) (harmed : s.sync.armed = none) :
    execSluiceExecute t rb s = .next (advance t s) := by
  have hd := drives_advance t s
  unfold execSluiceExecute
  dsimp only
  rw [hd, advance_sched, advance_sync, if_neg (c := drives s = true) (by rw [hdrives]; decide), harmed, ite_self]

end

/-- A swap that no SLUICE came for is counted, and recorded as the first of a run (05 R132). -/
def missedNoted (go : Bool) (s : State) : State :=
  let u := { s with sync := { s.sync with missed := s.sync.missed + 1, timedRun := s.sync.timedRun || go,
                                          timedSwaps := if go then incr32 s.sync.timedSwaps else s.sync.timedSwaps } }
  if go && !s.sync.timedRun then record srcSync 0x0008 (s.sched.nextSwap % 65536) u else u

/-- A member whose upstream node is gone promotes itself at the second one missed (05 R133). -/
def promoteIfGone (s : State) : State := if s.sync.role = .member ∧ 2 ≤ s.sync.missed ∧ upstreamGone s then promote s else s

theorem missedNoted_leaves (go : Bool) (s : State) :
    (missedNoted go s).arr = s.arr ∧ (missedNoted go s).sched = s.sched ∧ (missedNoted go s).time = s.time ∧ (missedNoted go s).flt = s.flt
      ∧ (missedNoted go s).mode = s.mode ∧ (missedNoted go s).sync = { s.sync with
        missed := s.sync.missed + 1, timedRun := s.sync.timedRun || go, timedSwaps := if go then incr32 s.sync.timedSwaps else s.sync.timedSwaps } := by
  unfold missedNoted
  dsimp only
  split <;> simp

section
variable {t : Nat} {s : State}

theorem execTimedSwap_due {rb go : Bool} (hrun : s.sched.running = true) (hdrives : drives s = false) (harmed : s.sync.armed = none)
    (hlate : swapOf s.sched s.sched.nextSwap + 100 < tsc (advance t s)) (hdecided : s.sched.decided = some go) :
    execTimedSwap t rb s = .next (promoteIfGone (islandSwap
      (if go then executeSwap rb (missedNoted go (advance t s)) else passSwap none (missedNoted go (advance t s))))) := by
  have hcond : ¬((!(advance t s).sched.running) = true ∨ drives (advance t s) = true ∨ (advance t s).sync.armed.isSome = true
      ∨ (!decide (swapOf (advance t s).sched (advance t s).sched.nextSwap + 100 < tsc (advance t s))) = true) := by
    rw [advance_sched, advance_sync, hrun, harmed, decide_eq_true hlate, drives_advance, hdrives]
    decide
  have hgo : decide ((advance t s).sched.decided = some true) = go := by
    rw [advance_sched, hdecided]
    cases go <;> rfl
  unfold execTimedSwap missedNoted promoteIfGone
  dsimp only
  rw [if_neg hcond, decideSwap_decided (by rw [advance_sched, hdecided]; rfl), hgo]

theorem execTimedSwap_early {rb : Bool} (h : drives s = true ∨ s.sync.armed ≠ none ∨ (tsc (advance t s) : Int) ≤ swapOf s.sched s.sched.nextSwap + 100) :
    execTimedSwap t rb s = .next (advance t s) := by
  have hd := drives_advance t s
  unfold execTimedSwap
  dsimp only
  rw [advance_sched, advance_sync, hd, if_pos]
  rcases h with h | h | h
  · exact .inr (.inl h)
  · exact .inr (.inr (.inl (Option.isSome_iff_ne_none.mpr h)))
  · rw [decide_eq_false (Int.not_lt.mpr h)]
    exact .inr (.inr (.inr rfl))

end

/-- A swap that a SLUICE executes (05 R111, R132). -/
theorem takeSwap_executes (readback : Bool) {s : State} (hlit : Lit s) (hgo : s.sched.decided = some true) :
    let u := islandSwap (takeSwap readback (noMiss s))
    u.arr.bankSel = s.arr.bankSel.other ∧ u.sync.executed = incr32 s.sync.executed ∧ u.sync.lastFrame = some s.sched.nextSwap
      ∧ s.sched.nextSwap < u.sched.nextSwap ∧ u.sync.missed = 0 ∧ u.sync.armed = none := by
  have htake : takeSwap readback (noMiss s) = executeSwap readback (noMiss s) := by
    unfold takeSwap
    rw [decideSwap_decided (s := noMiss s) (by simp [noMiss, hgo])]
    exact if_pos hgo
  intro u
  obtain ⟨hbank, hexecuted⟩ := islandSwap_unswapped (executeSwap readback (noMiss s))
  obtain ⟨hsched, hframe, hmissed, harmed, -⟩ := islandSwap_leaves (executeSwap readback (noMiss s))
  obtain ⟨⟨hsync, -⟩, hlater, -⟩ := executeSwap_state readback (s := noMiss s) hlit
  rw [hsync] at hframe hmissed harmed hexecuted
  simp only [u, htake]
  exact ⟨hbank.trans (executeSwap_kept readback (noMiss s)).bankSel, hexecuted, hframe, by rw [hsched]; exact hlater, hmissed, harmed⟩

/-- A swap that passes withheld at its SLUICE (05 R113). -/
theorem takeSwap_passes (readback : Bool) {s : State} (hno : s.sched.decided = some false) :
    let u := islandSwap (takeSwap readback (noMiss s))
    u.arr.bankSel = s.arr.bankSel ∧ u.sync.executed = s.sync.executed ∧ u.sync.lastFrame = s.sync.lastFrame
      ∧ s.sched.nextSwap < u.sched.nextSwap ∧ u.sync.missed = 0 ∧ u.sync.armed = none := by
  have htake : takeSwap readback (noMiss s) = passSwap none (noMiss s) := by
    unfold takeSwap
    rw [decideSwap_decided (s := noMiss s) (by simp [noMiss, hno])]
    exact if_neg (by simp [noMiss, hno])
  intro u
  obtain ⟨hbank, hexecuted⟩ := Unswapped.trans (passSwap_unswapped (noMiss s)) (islandSwap_unswapped (passSwap none (noMiss s)))
  obtain ⟨hsched, hframe, hmissed, harmed, -⟩ := islandSwap_leaves (passSwap none (noMiss s))
  obtain ⟨hsync, -⟩ := passSwap_leaves none (noMiss s)
  rw [hsync] at hframe hmissed harmed
  simp only [u, htake]
  exact ⟨hbank, hexecuted, hframe, by rw [hsched]; exact passSwap_later none (noMiss s), hmissed, harmed⟩

/-- After a missed SLUICE: the first one leaves the member what it is, and one whose upstream node is gone promotes itself at the second. -/
theorem promoteIfGone_state {w : State} (hlit : Lit w) :
    (promoteIfGone w).arr.bankSel = w.arr.bankSel ∧ (promoteIfGone w).sync.timedSwaps = w.sync.timedSwaps
      ∧ (promoteIfGone w).sync.executed = w.sync.executed ∧ (promoteIfGone w).sync.lastFrame = w.sync.lastFrame
      ∧ (promoteIfGone w).sched.nextSwap = w.sched.nextSwap ∧ (w.sync.missed = 1 → (promoteIfGone w).sync.missed = 1)
      ∧ (w.sync.role = .member → 2 ≤ w.sync.missed → upstreamGone w = true → (promoteIfGone w).sync.role = .islandHead) := by
  obtain ⟨hrole, hframe, htimed, hexecuted, -, hnext, hbank⟩ := promote_leaves hlit
  unfold promoteIfGone
  split
  case isTrue h => exact ⟨hbank, htimed, hexecuted, hframe, hnext, fun h1 => absurd h.2.1 (by omega), fun _ _ _ => hrole⟩
  case isFalse h => exact ⟨rfl, rfl, rfl, rfl, rfl, id, fun h1 h2 h3 => absurd ⟨h1, h2, h3⟩ h⟩

/-- What stays over the swap instant of a node that drives nothing, from the swap that was missed. -/
theorem missedSwap_state {s x : State} (hdrives : drives s = false) (hsync : x.sync.role = s.sync.role ∧ x.sync.missed = s.sync.missed + 1
      ∧ x.sync.headRun = s.sync.headRun ∧ x.sync.headTsc = s.sync.headTsc)
    (htime : x.time = s.time) (hcond : x.flt.cond = s.flt.cond) (hforce : x.flt.force = s.flt.force) (hlit : Lit x) :
    let u := promoteIfGone (islandSwap x)
    u.arr.bankSel = x.arr.bankSel ∧ u.sync.timedSwaps = x.sync.timedSwaps ∧ u.sync.executed = x.sync.executed ∧ u.sync.lastFrame = x.sync.lastFrame
      ∧ u.sched.nextSwap = x.sched.nextSwap ∧ (s.sync.missed = 0 → u.sync.missed = 1)
      ∧ (s.sync.role = .member → 1 ≤ s.sync.missed → upstreamGone s = true → u.sync.role = .islandHead) := by
  obtain ⟨hrole, hmissed, hhead⟩ := hsync
  obtain ⟨ibank, iexecuted⟩ := islandSwap_unswapped x
  obtain ⟨isched, iframe, imissed, -, itimed, -, -, -, irole⟩ := islandSwap_leaves x
  obtain ⟨pbank, ptimed, pexecuted, pframe, pnext, pmissed, prole⟩ := promoteIfGone_state (islandSwap_lit hlit)
  have hnot : x.sync.role ≠ .islandHead := fun h => by simp [drives, ← hrole, h] at hdrives
  refine ⟨pbank.trans ibank, ptimed.trans itimed, pexecuted.trans iexecuted, pframe.trans iframe, by rw [pnext, isched], fun h0 => pmissed ?_,
    fun hmember hone hgone => prole ?_ ?_ ?_⟩
  · rw [imissed, hmissed, h0]
  · rw [irole hnot, hrole, hmember]
  · rw [imissed, hmissed]
    omega
  · rw [upstreamGone_islandSwap hhead htime hcond hforce, hgone]

/-- A timed swap that is executed (05 R132). -/
theorem timedSwap_executes (readback : Bool) {s : State} (hlit : Lit s) (hdrives : drives s = false) :
    let u := promoteIfGone (islandSwap (executeSwap readback (missedNoted true s)))
    u.arr.bankSel = s.arr.bankSel.other ∧ u.sync.timedSwaps = incr32 s.sync.timedSwaps ∧ u.sync.executed = incr32 s.sync.executed
      ∧ u.sync.lastFrame = some s.sched.nextSwap ∧ (s.sync.missed = 0 → u.sync.missed = 1)
      ∧ (s.sync.role = .member → 1 ≤ s.sync.missed → upstreamGone s = true → u.sync.role = .islandHead) := by
  intro u
  obtain ⟨warr, wsched, wtime, wflt, wmode, wsync⟩ := missedNoted_leaves true s
  obtain ⟨⟨hsync, htime, hcond, hforce⟩, -, hlitx⟩ := executeSwap_state readback (s := missedNoted true s) (by simpa [Lit, wmode] using hlit)
  have hbank := (executeSwap_kept readback (missedNoted true s)).bankSel
  simp only [swapped, wsync, wsched] at hsync
  rw [warr] at hbank
  obtain ⟨ubank, utimed, uexecuted, uframe, -, umissed, urole⟩ := missedSwap_state hdrives (by rw [hsync]; exact ⟨rfl, rfl, rfl, rfl⟩)
    (htime.trans wtime) (hcond.trans (congrArg _ wflt)) (hforce.trans (congrArg _ wflt)) hlitx
  exact ⟨ubank.trans hbank, by rw [utimed, hsync]; rfl, by rw [uexecuted, hsync], by rw [uframe, hsync], umissed, urole⟩

/-- A timed swap that passes withheld (05 R113, R132). -/
theorem timedSwap_passes {s : State} (hlit : Lit s) (hdrives : drives s = false) :
    let u := promoteIfGone (islandSwap (passSwap none (missedNoted false s)))
    u.arr.bankSel = s.arr.bankSel ∧ u.sync.timedSwaps = s.sync.timedSwaps ∧ u.sync.executed = s.sync.executed ∧ s.sched.nextSwap < u.sched.nextSwap
      ∧ (s.sync.missed = 0 → u.sync.missed = 1) := by
  intro u
  obtain ⟨warr, wsched, wtime, wflt, wmode, wsync⟩ := missedNoted_leaves false s
  obtain ⟨hsync, htime, hflt, hmode⟩ := passSwap_leaves none (missedNoted false s)
  have hbank := (passSwap_kept none (missedNoted false s) (.refl _)).bankSel
  have hlater := passSwap_later none (missedNoted false s)
  rw [wsync] at hsync
  rw [warr] at hbank
  rw [wsched] at hlater
  obtain ⟨ubank, utimed, uexecuted, -, unext, umissed, -⟩ := missedSwap_state hdrives (by rw [hsync]; exact ⟨rfl, rfl, rfl, rfl⟩)
    (htime.trans wtime) (by rw [hflt, wflt]) (by rw [hflt, wflt]) (by simpa [Lit, hmode, wmode] using hlit)
  exact ⟨ubank.trans hbank, by rw [utimed, hsync]; rfl, by rw [uexecuted, hsync], by rw [unext]; exact hlater, umissed⟩

/-- Settles O50. -/
theorem swapIsDecidedOnce : Obligations.SwapIsDecidedOnce := by
  unfold Obligations.SwapIsDecidedOnce
  intro t s hlit a n
  have hlita : Lit a := by simpa [Lit, a] using hlit
  have hsched : a.sched = s.sched := advance_sched t s
  have harr : a.arr = s.arr := advance_arr t s
  have hsync : a.sync = s.sync := advance_sync t s
  refine ⟨fun f crc hcur hshown hrow hcrc => ⟨fun hchecked => ?_, fun hchecked => ?_, fun hscale hnext => ⟨?_, ?_⟩, fun hother => ?_⟩,
    fun hrun hopen hdue => ?_, fun hrun hopen hearly => ?_, fun hrun hdecided => ?_, fun rb hrun hdue => ⟨fun hgo => ?_, fun hno => ?_⟩,
    fun rb hdrives hearly => ?_, fun rb hdrives harmed => ?_, fun rb hrun hdrives harmed hlate => ⟨fun hgo => ?_, fun hno => ?_⟩,
    fun rb hearly => execTimedSwap_early hearly⟩
  · exact (execChestCheckComplete_of_cur hcur hshown hrow hcrc).trans (if_pos hchecked)
  · refine ⟨_, (execChestCheckComplete_of_cur hcur hshown hrow hcrc).trans (if_neg (by rw [hchecked]; decide)), ?_⟩
    have hmarked : Judged False (updCur (fun f => { f with checked := true }) a) :=
      ⟨{ f with checked := true }, by simp [hsched, hcur], rfl, False.elim⟩
    obtain ⟨hbreach, hcomp, hlitb⟩ := breachCheck_judges (f := f) (s := updCur (fun f => { f with checked := true }) a) hlita hmarked
    obtain ⟨hjudged, hlast, hfails⟩ := chestCheck_judges (f := f) crc hlitb hbreach
    rw [hcomp] at hfails
    have hcount : a.comp.chestFails = s.comp.chestFails := congrArg Compositor.chestFails (advance_comp t s)
    refine ⟨hlast, fun heq => ?_, fun hne => ?_, hjudged⟩
    · rw [hfails, if_pos heq]; exact hcount
    · rw [hfails, if_neg hne]; exact congrArg incr32 hcount
  · exact (execGovernorLatch_of_cur hcur hshown hrow).trans (if_neg (by simp [hscale, hnext, n]))
  · rw [← harr]
    exact governFrame_sets f a
  · exact (execGovernorLatch_of_cur hcur hshown hrow).trans (if_pos (hother.imp_left Option.isSome_iff_ne_none.mpr))
  · obtain ⟨hnext, hdecided⟩ := decideSwap_decides hlita (by rw [hsched, hopen])
    have hexec := (execWrdoneDeadline_of_running (t := t) hrun (by rw [hopen]; decide)).trans
      (if_pos (by rw [hopen, decide_eq_true hdue]; rfl))
    rw [hsched, holds_advance, wrdoneFor_advance] at hdecided
    refine ⟨_, hexec, by rw [hnext, hsched], ?_, ?_⟩
    · rw [hdecided]
      cases wrdoneFor s s.sched.nextSwap && _ && _
      · exact .inr rfl
      · exact .inl rfl
    · rw [hdecided]
      simp [n, and_assoc]
  · exact (execWrdoneDeadline_of_running hrun (by rw [hopen]; decide)).trans
      (if_neg (by rw [hopen, decide_eq_false (Int.not_le.mpr hearly)]; decide))
  · exact (execWrdoneDeadline_of_running hrun (by rw [hdecided]; decide)).trans (if_neg (by rw [hdecided]; simp))
  · have taken := takeSwap_executes rb hlita (by rw [hsched, hgo])
    rw [harr, hsync, hsched] at taken
    exact ⟨_, execSluiceExecute_due hrun hdue, taken⟩
  · have taken := takeSwap_passes rb (s := a) (by rw [hsched, hno])
    rw [harr, hsync, hsched] at taken
    exact ⟨_, execSluiceExecute_due hrun hdue, taken⟩
  · exact execSluiceExecute_unsent hdrives hearly
  · exact execSluiceExecute_unarmed hdrives harmed
  · have missed := timedSwap_executes rb hlita ((drives_advance t s).trans hdrives)
    rw [harr, hsync, hsched] at missed
    exact ⟨_, execTimedSwap_due hrun hdrives harmed hlate hgo, missed⟩
  · have missed := timedSwap_passes hlita ((drives_advance t s).trans hdrives)
    rw [harr, hsync, hsched] at missed
    exact ⟨_, execTimedSwap_due hrun hdrives harmed hlate hno, missed⟩

end Sys2Proof.Machine

/-! ## The detectors (15 Table 15.3, 04 R102, R103, 16 R377 to R387) -/

namespace Sys2Proof.Machine

/-! ### A ramp that was judged stays so -/

/-- The state of Safe-Dim and the trip of its ramp are the same. -/
abbrev RampKept (s u : State) : Prop := u.dim.state = s.dim.state ∧ u.dim.rampTripped = s.dim.rampTripped

@[simp] theorem selectSettle_ramp (s : State) : RampKept s (selectSettle s) := ⟨rfl, rfl⟩

@[simp] theorem kindHardware_ramp (kind cause : Nat) (s : State) : RampKept s (kindHardware kind cause s) := by
  unfold kindHardware
  split <;> simp [RampKept]

@[simp] theorem goSafe_ramp (kind cause : Nat) (s : State) : RampKept s (goSafe kind cause s) := by
  unfold goSafe
  dsimp only
  (repeat' split) <;> simp [RampKept]

@[simp] theorem startSchedule_dim (s : State) : (startSchedule s).dim = s.dim := by simp [startSchedule]

@[simp] theorem proofToSafe_ramp (kind cause : Nat) (s : State) : RampKept s (proofToSafe kind cause s) := by simp [RampKept, proofToSafe]

@[simp] theorem withholdBy_dim (src data : Nat) (s : State) : (withholdBy src data s).dim = s.dim := by simp [withholdBy]

@[simp] theorem react_ramp (src data r : Nat) (s : State) : RampKept s (react src data r s) := by
  unfold RampKept react
  dsimp only
  (repeat' split) <;> simp

theorem assertSource_ramp {src : Nat} (h : isPlain src = true) (data : Nat) (forced : Bool) (s : State) :
    RampKept s (assertSource src data forced s) := by
  rw [assertSource_eq]
  split
  · simp [RampKept, conditionNoted]
  · rw [deliver_plain h]
    split
    · simp [RampKept, conditionNoted]
    · simp [RampKept, conditionNoted]

/-- The DATA of a pulse source is kept, shadowed or not. -/
theorem assertSource_datas {src data : Nat} {s : State} (hsrc : src < 48) (hpulse : isLevel src = false) (hrun : s.flt.running = true)
    (hlen : s.flt.datas.length = 48) : (assertSource src data false s).flt.datas.getD src 0 = data % 65536 := by
  rw [assertSource_delivered false hrun (by simp [hpulse]), conditionNoted_pulse _ hpulse]
  cases h : isShadowed s src (data % 65536) with
  | true =>
    rw [deliver_shadowed _ _ h]
    have hset : (deliverShadowed src (data % 65536) false s).flt.datas = s.flt.datas.set src (data % 65536) := by
      unfold deliverShadowed
      dsimp only
      split
      · rfl
      · rw [recordFault_flt]
        rfl
    rw [hset, List.getD_eq_getElem?_getD, List.getElem?_set_self (by rwa [hlen])]
    rfl
  | false =>
    rw [(deliver_latched h).2.2.2.2.1]
    exact (latchedBy_bits _ _ _ hsrc).2.2.2 hlen

/-! ### The deadlines -/

/-- A deadline of `d` tk from `t0` is over. -/
theorem elim_over {o : Option Nat} {t0 d now : Nat} (h : o = some t0) (hover : t0 + d < now) :
    o.elim false (fun x => decide (x + d < now)) = true := by
  rw [h, Option.elim_some, decide_eq_true hover]

theorem elim_within {o : Option Nat} {t0 d now : Nat} (h : o = some t0) (hwithin : now ≤ t0 + d) :
    o.elim false (fun x => decide (x + d < now)) = false := by
  rw [h, Option.elim_some, decide_eq_false (Nat.not_lt.mpr hwithin)]

theorem elim_none {o : Option Nat} (p : Nat → Bool) (h : o = none) : o.elim false p = false := by
  rw [h, Option.elim_none]

section
variable (t : Nat) (s : State)

theorem execLinkDownTimeout_a : execLinkDownTimeout t .a s =
    if s.link.aDown.elim false fun t0 => decide (t0 + 10000 < tsc (advance t s)) then .next (assertSource 25 0 false (advance t s))
    else .next (advance t s) := by
  unfold execLinkDownTimeout
  rw [if_neg (by simp [hasPort])]
  dsimp only
  rw [advance_link]
  rfl

theorem execLinkDownTimeout_b (h : s.fuse.variant ≠ .e) : execLinkDownTimeout t .b s =
    if s.link.bDown.elim false fun t0 => decide (t0 + 10000 < tsc (advance t s)) then .next (assertSource 26 0 false (advance t s))
    else .next (advance t s) := by
  unfold execLinkDownTimeout
  rw [if_neg (by simp [hasPort, hasLinkB, h])]
  dsimp only
  rw [advance_link]
  rfl

theorem execTscJump_eq : execTscJump t s =
    if s.sched.running && s.time.highFrom.elim false (fun t0 => decide (t0 + 100000000 < tsc (advance t s))) then
      .next (assertSource 43 0 false (advance t s))
    else .next (advance t s) := by
  have htime : (advance t s).time.highFrom = s.time.highFrom := by rw [advance_time]
  unfold execTscJump
  dsimp only
  rw [advance_sched, htime]

theorem execHostSilent_eq : execHostSilent t s =
    if s.sched.running && decide (s.link.silenceFrom + 100000 * s.cfg.link.hostTimeout < tsc (advance t s)) then
      .next (assertSource 46 0 false (advance t s))
    else .next (advance t s) := by
  unfold execHostSilent
  dsimp only
  rw [advance_sched, advance_link, advance_cfg]

theorem execDroopTimer_eq : execDroopTimer t s =
    if s.arr.droopFrom.elim false (fun t0 => decide (t0 + 2000000 < tsc (advance t s))) && bankLit s then
      .next (assertSource 22 0 false { advance t s with arr := { (advance t s).arr with droopFrom := none } })
    else .next (advance t s) := by
  have hlit : bankLit (advance t s) = bankLit s := by simp [bankLit]
  unfold execDroopTimer
  dsimp only
  rw [hlit, advance_arr]

theorem execDramScrub_runs {ch owner : Nat} (ecc : Ecc) (hclock : clockRuns s = true) (hch : ch < 2) (howner : owner < 256) :
    execDramScrub t ch owner ecc s = .next (dramEcc ch owner ecc (advance t s)) := by
  unfold execDramScrub
  rw [if_neg (by omega)]
  dsimp only
  rw [clockRuns_advance, if_pos hclock]

theorem execSyncLoss_eq : execSyncLoss t s =
    if arrayUp s && !drives s && s.sync.carrier && !s.sync.loss && decide (s.sync.lastSym + 30 < tsc (advance t s)) && !lossSuspended (advance t s) then
      .next (assertSource 23 0 false { advance t s with sync := { (advance t s).sync with loss := true, carrier := false, validRun := 0 } })
    else .next (advance t s) := by
  have hup : arrayUp (advance t s) = arrayUp s := by simp [arrayUp]
  unfold execSyncLoss
  dsimp only
  rw [hup, drives_advance, advance_sync]

end

section
variable {t : Nat} {s : State}

theorem execPanSramScrub_runs {bank : Nat} (hclock : clockRuns s = true) (hbank : bank < 16) :
    execPanSramScrub t bank .clean s = .next (advance t s)
      ∧ execPanSramScrub t bank .corrected s = .next (assertSource 3 bank false (advance t s))
      ∧ execPanSramScrub t bank .uncorrectable s = .next (assertSource 4 bank false (advance t s)) := by
  have hrun : ¬(!clockRuns (advance t s)) = true := by rw [clockRuns_advance, hclock]; decide
  have hfits : ¬16 ≤ bank := by omega
  unfold execPanSramScrub
  refine ⟨?_, ?_, ?_⟩ <;> (rw [if_neg hfits]; exact if_neg hrun)

theorem execSwitchReadback_same {isOpen : Bool} (h : isOpen = s.arr.switchOpen) : execSwitchReadback t isOpen s =
    .next { advance t s with dim := { (advance t s).dim with differs := none, differsNoted := false } } :=
  if_pos (by rw [advance_arr, h])

theorem execSwitchReadback_differs {isOpen : Bool} (h : isOpen ≠ s.arr.switchOpen) : execSwitchReadback t isOpen s =
    if s.dim.differs.getD (tsc (advance t s)) + 500 < tsc (advance t s) ∧ !s.dim.differsNoted then
      .next (assertSource 18 2 false { advance t s with
        dim := { (advance t s).dim with differs := some (s.dim.differs.getD (tsc (advance t s))), differsNoted := true } })
    else .next { advance t s with dim := { (advance t s).dim with differs := some (s.dim.differs.getD (tsc (advance t s))) } } := by
  unfold execSwitchReadback
  dsimp only
  rw [if_neg (by rwa [advance_arr]), advance_dim]

end

/-! ### The power stage and Safe-Dim -/

section
variable {t : Nat} {s : State} (hup : arrayUp s = true) (hflt : s.flt.running = true)
include hup hflt

theorem filterRuns_advance : filterRuns (advance t s) = true := by
  have harray : arrayUp (advance t s) = arrayUp s := by simp [arrayUp]
  simp [filterRuns, harray, hup, hflt]

/-- VLED measured, by the band it lies in (04 R102). -/
theorem execVledRegulation_in {mv : Nat} (hlow : vledTooLow mv (advance t s) = false) (hhigh : vledTooHigh mv (advance t s) = false) :
    execVledRegulation t mv s = .next (endSource 44 { advance t s with arr := { (advance t s).arr with vledLow := none, vledHigh := none } }) := by
  unfold execVledRegulation
  dsimp only
  rw [filterRuns_advance hup hflt, hlow, hhigh]
  rfl

theorem execVledRegulation_low {mv : Nat} (hlow : vledTooLow mv (advance t s) = true) : execVledRegulation t mv s =
    if s.arr.vledLow.getD (tsc (advance t s)) + 2000 < tsc (advance t s) then
      .next (assertSource 44 0 false { advance t s with
        arr := { (advance t s).arr with vledLow := some (s.arr.vledLow.getD (tsc (advance t s))), vledHigh := none } })
    else .next { advance t s with arr := { (advance t s).arr with vledLow := some (s.arr.vledLow.getD (tsc (advance t s))), vledHigh := none } } := by
  have hhigh : vledTooHigh mv (advance t s) = false := by
    simp only [vledTooLow, Bool.and_eq_true, decide_eq_true_iff] at hlow
    obtain ⟨⟨⟨hbelow, -⟩, -⟩, -⟩ := hlow
    rw [vledTooHigh, decide_eq_false (by omega), Bool.false_and, Bool.false_and]
  unfold execVledRegulation
  dsimp only
  rw [filterRuns_advance hup hflt, hlow, hhigh, advance_arr]
  simp only [Bool.not_true, Bool.false_eq_true, if_false, if_true, Option.elim_some, Option.elim_none, Option.isNone_some, false_and,
    decide_eq_true_iff]
  rfl

theorem execVledRegulation_high {mv : Nat} (hhigh : vledTooHigh mv (advance t s) = true) : execVledRegulation t mv s =
    if s.arr.vledHigh.getD (tsc (advance t s)) + 10000 < tsc (advance t s) then
      .next (assertSource 44 1 false { advance t s with
        arr := { (advance t s).arr with vledLow := none, vledHigh := some (s.arr.vledHigh.getD (tsc (advance t s))) } })
    else .next { advance t s with arr := { (advance t s).arr with vledLow := none, vledHigh := some (s.arr.vledHigh.getD (tsc (advance t s))) } } := by
  have hlow : vledTooLow mv (advance t s) = false := by
    simp only [vledTooHigh, Bool.and_eq_true, decide_eq_true_iff] at hhigh
    obtain ⟨⟨habove, -⟩, -⟩ := hhigh
    rw [vledTooLow, decide_eq_false (by omega), Bool.false_and, Bool.false_and, Bool.false_and]
  unfold execVledRegulation
  dsimp only
  rw [filterRuns_advance hup hflt, hlow, hhigh, advance_arr]
  simp only [Bool.not_true, Bool.false_eq_true, if_false, if_true, Option.elim_some, Option.elim_none, Option.isNone_some, and_false,
    decide_eq_true_iff]
  rfl

theorem execSdimDiscrepancy_eq : execSdimDiscrepancy t s =
    if s.dim.disagree.elim false (fun ta => decide (ta + 100000 * s.dim.tDisc + 100000 ≤ tsc (advance t s))) && !hasBit s.flt.cond 16 then
      .next (assertSource 16 (if s.dim.a then 0 else 1) false
        { advance t s with dim := { (advance t s).dim with discrepancies := incr32 (advance t s).dim.discrepancies } })
    else .next (advance t s) := by
  unfold execSdimDiscrepancy raiseDiscrepancy discrepancyDue
  dsimp only
  rw [filterRuns_advance hup hflt, if_pos rfl, advance_dim, advance_flt]
  split <;> rfl

end

theorem execProofMissing_eq (t : Nat) (s : State) : execProofMissing t s =
    if proofDue (advance t s) then
      .next (assertSource 17 (proofStage (advance t s)) false { advance t s with dim := { (advance t s).dim with proofLate := true } })
    else .next (advance t s) := by
  unfold execProofMissing raiseProofMissing
  split <;> rfl

/-- The latest window of R103 that has ended is the one before the present. -/
theorem windowBefore {now : Nat} (h : 100000 ≤ now) : (now / 100000 * 100000 - 100000) / 100000 = now / 100000 - 1 := by omega

/-- The window is judged: its mean lies above the envelope of the demand's ramp, or of the entry to IDLE (16 R379). -/
def aboveRamp (s : State) (tw mean : Nat) : Bool :=
  (rampChecked s && overRamp s tw mean s.dim.t0 s.dim.tEnd s.dim.i0 s.dim.iEnd)
    || s.dim.idleRamp.elim false fun r => overRamp s tw mean r.1 r.2.1 r.2.2 0

/-- The ramp's trip, before FS15. -/
def rampTrip (tw : Nat) (s : State) : State :=
  { s with dim := { s.dim with rampWindow := some (tw / 100000), rampTripped := true, state := if s.dim.state = .ramp then .applied else s.dim.state } }

section
variable {t mean : Nat} {s : State} (hnow : 100000 ≤ tsc (advance t s))
include hnow

theorem execRampEnvelope_eq : execRampEnvelope t mean s =
    if s.dim.rampWindow = some (tsc (advance t s) / 100000 - 1) then .next (advance t s)
    else if aboveRamp (advance t s) (tsc (advance t s) / 100000 * 100000 - 100000) mean then
      .next (assertSource 15 (sat16 (mean / 10000)) false (rampTrip (tsc (advance t s) / 100000 * 100000 - 100000) (advance t s)))
    else .next { advance t s with
      dim := { (advance t s).dim with rampWindow := some ((tsc (advance t s) / 100000 * 100000 - 100000) / 100000) } } := by
  unfold execRampEnvelope aboveRamp rampTrip
  dsimp only
  rw [decide_eq_false (Nat.not_lt.mpr hnow), Bool.false_or, windowBefore hnow, advance_dim]
  simp only [decide_eq_true_iff]

/-- The mean of a window of the power stage (04 R103). -/
theorem execGovernorEnvelope_eq (hup : arrayUp s = true) (hflt : s.flt.running = true) : execGovernorEnvelope t mean s =
    if tsc (advance t s) / 100000 - 1 < s.gov.windowsDone then .next (advance t s)
    else if decide (s.gov.windowsDone = tsc (advance t s) / 100000 - 1)
        && overBudget s.dim.lastMean (highBudget (advance t s) (tsc (advance t s) / 100000 - 1))
        && overBudget mean (highBudget (advance t s) (tsc (advance t s) / 100000 - 1)) then
      .next (assertSource 14 (min (mean / 10000) 65535) false (rollWindow (tsc (advance t s) / 100000 - 1) mean (advance t s)))
    else .next (rollWindow (tsc (advance t s) / 100000 - 1) mean (advance t s)) := by
  unfold execGovernorEnvelope
  dsimp only
  rw [filterRuns_advance hup hflt, decide_eq_false (Nat.not_lt.mpr hnow), advance_gov, advance_dim]
  simp only [Bool.not_true, Bool.false_or, decide_eq_true_iff]
  rfl

end

/-- FS15 trips the ramp (16 R379). -/
theorem rampTrip_asserts {data tw : Nat} {s : State} (hflt : s.flt.running = true) (hdata : data ≤ 65535) :
    let u := assertSource 15 data false (rampTrip tw s)
    u.dim.state ≠ .ramp ∧ u.dim.rampTripped = true ∧ hasBit u.flt.seen 15 = true ∧ (s.flt.datas.length = 48 → u.flt.datas.getD 15 0 = data) := by
  intro u
  obtain ⟨hstate, htripped⟩ := assertSource_ramp (src := 15) rfl data false (rampTrip tw s)
  refine ⟨?_, htripped, assertSource_seen (by decide) rfl hflt, fun hlen => ?_⟩
  · rw [show u.dim.state = _ from hstate]
    unfold rampTrip
    dsimp only
    split
    · decide
    · assumption
  · exact (assertSource_datas (src := 15) (by decide) rfl (s := rampTrip tw s) hflt hlen).trans (Nat.mod_eq_of_lt (by omega))

/-- Settles O44. -/
theorem detectorsAssert : Obligations.DetectorsAssert := by
  unfold Obligations.DetectorsAssert
  refine ⟨fun t s => ?_, fun t s hup hflt => ?_⟩
  · intro a
    refine ⟨fun c hc => if_neg (by omega), fun t0 h0 => ⟨fun hover => ?_, fun hwithin => ?_⟩, fun h0 => ?_,
      fun hb t0 h0 => ⟨fun hover => ?_, fun hwithin => ?_⟩, fun t0 h0 => ⟨fun hrun hover => ?_, fun hwithin => ?_⟩, fun h0 => ?_,
      fun hrun hover => ?_, fun hwithin => ?_, fun t0 h0 => ⟨fun hover hlit => ?_, fun hwithin => ?_⟩, fun h0 => ?_,
      fun hclock ch owner hch howner => ⟨?_, ?_, ?_⟩, fun hclock bank hbank => execPanSramScrub_runs hclock hbank,
      fun hup hd hcarrier hloss hover hopen => ?_, fun hnot => ?_, fun isOpen => ⟨fun hsame => execSwitchReadback_same hsame,
      fun hne hwithin => ?_, fun t0 hne h0 hnoted hover => ?_⟩⟩
    · exact (execLinkDownTimeout_a t s).trans (if_pos (elim_over h0 hover))
    · exact (execLinkDownTimeout_a t s).trans (if_neg (by rw [elim_within h0 hwithin]; decide))
    · exact (execLinkDownTimeout_a t s).trans (if_neg (by rw [elim_none _ h0]; decide))
    · exact (execLinkDownTimeout_b t s hb).trans (if_pos (elim_over h0 hover))
    · exact (execLinkDownTimeout_b t s hb).trans (if_neg (by rw [elim_within h0 hwithin]; decide))
    · exact (execTscJump_eq t s).trans (if_pos (by rw [hrun, elim_over h0 hover]; decide))
    · refine (execTscJump_eq t s).trans (if_neg ?_)
      rcases hwithin with h | h
      · rw [h, Bool.false_and]; decide
      · rw [elim_within h0 h, Bool.and_false]; decide
    · exact (execTscJump_eq t s).trans (if_neg (by rw [elim_none _ h0, Bool.and_false]; decide))
    · exact (execHostSilent_eq t s).trans (if_pos (by rw [hrun, decide_eq_true hover]; decide))
    · refine (execHostSilent_eq t s).trans (if_neg ?_)
      rcases hwithin with h | h
      · rw [h, Bool.false_and]; decide
      · rw [decide_eq_false (Nat.not_lt.mpr h), Bool.and_false]; decide
    · exact (execDroopTimer_eq t s).trans (if_pos (by rw [hlit, elim_over h0 hover]; decide))
    · refine (execDroopTimer_eq t s).trans (if_neg ?_)
      rcases hwithin with h | h
      · rw [elim_within h0 h, Bool.false_and]; decide
      · rw [h, Bool.and_false]; decide
    · exact (execDroopTimer_eq t s).trans (if_neg (by rw [elim_none _ h0, Bool.false_and]; decide))
    · exact execDramScrub_runs t s .clean hclock hch howner
    · exact execDramScrub_runs t s .corrected hclock hch howner
    · exact execDramScrub_runs t s .uncorrectable hclock hch howner
    · exact (execSyncLoss_eq t s).trans (if_pos (by rw [hup, hd, hcarrier, hloss, decide_eq_true hover, hopen]; decide))
    · refine (execSyncLoss_eq t s).trans (if_neg ?_)
      simp only [Bool.and_eq_true, Bool.not_eq_true', decide_eq_true_iff]
      rintro ⟨⟨⟨⟨⟨-, hd⟩, hcarrier⟩, hloss⟩, hover⟩, hopen⟩
      rcases hnot with h | h | h | h | h
      · rw [h] at hd; cases hd
      · rw [h] at hcarrier; cases hcarrier
      · rw [h] at hloss; cases hloss
      · exact absurd hover (Nat.not_lt.mpr h)
      · rw [h] at hopen; cases hopen
    · refine (execSwitchReadback_differs hne).trans (if_neg ?_)
      rcases hwithin with h | h
      · simp [h]
      · exact fun hover => absurd hover.1 (Nat.not_lt.mpr h)
    · refine (execSwitchReadback_differs hne).trans ?_
      rw [h0, Option.getD_some, hnoted]
      exact if_pos ⟨hover, rfl⟩
  · intro a
    refine ⟨fun mv => execVledRegulation_in hup hflt, fun mv hlow => ?_, fun mv hhigh => ?_, fun ta hta => ⟨fun hopen hover => ?_, fun hnot => ?_⟩,
      fun hnone => ?_, fun hdue => (execProofMissing_eq t s).trans (if_pos hdue),
      fun hnot => (execProofMissing_eq t s).trans (if_neg (by rw [hnot]; decide)), fun mean hnow hidle hchecked hwindow => ?_, fun mean hnow hwindow => ?_,
      fun mean hnow => ?_⟩
    · intro t0 b
      exact ⟨fun hover => (execVledRegulation_low hup hflt hlow).trans (if_pos hover),
        fun hwithin => (execVledRegulation_low hup hflt hlow).trans (if_neg (Nat.not_lt.mpr hwithin))⟩
    · intro t0 b
      exact ⟨fun hover => (execVledRegulation_high hup hflt hhigh).trans (if_pos hover),
        fun hwithin => (execVledRegulation_high hup hflt hhigh).trans (if_neg (Nat.not_lt.mpr hwithin))⟩
    · exact (execSdimDiscrepancy_eq hup hflt).trans (if_pos (by rw [hta, Option.elim_some, decide_eq_true hover, hopen]; rfl))
    · refine (execSdimDiscrepancy_eq hup hflt).trans (if_neg ?_)
      rcases hnot with h | h
      · rw [h, Bool.not_true, Bool.and_false]; decide
      · rw [hta, Option.elim_some, decide_eq_false (Nat.not_le.mpr h), Bool.false_and]; decide
    · exact (execSdimDiscrepancy_eq hup hflt).trans (if_neg (by rw [hnone, Option.elim_none, Bool.false_and]; decide))
    · intro tw above
      have habove : aboveRamp a tw mean = above := by
        have hidlea : a.dim.idleRamp = none := by rw [advance_dim, hidle]
        have hcheckeda : rampChecked a = true := by simpa [rampChecked, a] using hchecked
        rw [aboveRamp, hidlea, hcheckeda, Bool.true_and, Option.elim_none, Bool.or_false, advance_dim]
      have hexec := (execRampEnvelope_eq (mean := mean) hnow).trans (if_neg hwindow)
      constructor
      · intro h
        obtain ⟨hstate, htripped, hseen, hdata⟩ :=
          rampTrip_asserts (tw := tw) (s := a) (by simpa [a] using hflt) (Nat.min_le_right (mean / 10000) 65535)
        exact ⟨_, hexec.trans (if_pos (habove.trans h)), hstate, htripped, hseen, fun hlen => hdata (by simpa [a] using hlen)⟩
      · intro h
        exact hexec.trans (if_neg (by rw [habove, h]; decide))
    · exact (execRampEnvelope_eq hnow).trans (if_pos hwindow)
    · intro k limit
      have hexec := execGovernorEnvelope_eq (mean := mean) hnow hup hflt
      refine ⟨fun hk hlast hmean => ?_, fun hk hnot => ?_, fun hk => ?_, fun hk => hexec.trans (if_pos hk)⟩
      · exact hexec.trans ((if_neg (Nat.not_lt.mpr (Nat.le_of_eq hk))).trans (if_pos (by
          rw [decide_eq_true hk, overBudget, overBudget, decide_eq_true hlast, decide_eq_true hmean]; rfl)))
      · refine hexec.trans ((if_neg (Nat.not_lt.mpr (Nat.le_of_eq hk))).trans (if_neg ?_))
        simp only [overBudget, Bool.and_eq_true, decide_eq_true_iff]
        rintro ⟨⟨-, hlast⟩, hmean⟩
        exact hnot.elim (fun h => absurd hlast (Nat.not_lt.mpr h)) fun h => absurd hmean (Nat.not_lt.mpr h)
      · exact hexec.trans ((if_neg (Nat.not_lt.mpr (Nat.le_of_lt hk))).trans (if_neg (by
          rw [decide_eq_false (Nat.ne_of_lt hk), Bool.false_and, Bool.false_and]; decide)))

end Sys2Proof.Machine

/-! ## The monitor stream (07 R189 to R191, 10 R248) -/

namespace Sys2Proof.Machine

/-- The check of a monitor frame touches the monitor and its check-value unit alone. -/
theorem monitorChecked_state (x : MonFrame) (s : State) :
    ∃ mon cvus, monitorChecked x s = { s with mon := mon, cvus := cvus } ∧ mon.skipped = s.mon.skipped ∧ mon.sent = s.mon.sent := by
  unfold monitorChecked
  split
  · exact ⟨_, _, rfl, rfl, rfl⟩
  · exact ⟨_, _, rfl, rfl, rfl⟩

/-- The payload's CRC that the trailer carries. -/
theorem monitorChecked_crc {x : MonFrame} {rest : List MonFrame} {s : State} {crc : Nat} (hring : s.mon.ring = x :: rest)
    (hcrc : x.crc = some crc ∨ (x.crc = none ∧ crc = crc32 (monitorPayload x))) :
    (((monitorChecked x s).mon.ring.head?.bind (·.crc)).getD 0) = crc := by
  unfold monitorChecked
  rcases hcrc with h | ⟨h, hval⟩
  · rw [if_pos (by rw [h]; rfl), hring]
    simp [h]
  · rw [if_neg (by rw [h]; decide), hval]
    simp [updMon, hring]

section
variable {t : Nat} {s : State} {x : MonFrame} {rest : List MonFrame} (hring : s.mon.ring = x :: rest)
include hring

theorem execMonitorPacketSend_ring : execMonitorPacketSend t s =
    if monitorPackets x.mode ≤ x.sent then .next (advance t s)
    else if rowsNeeded x.mode (x.sent / packetsPerRow x.mode) ≤ x.rows.length ∨ monitorEnded s x then
      if monitorStops (advance t s) x (monitorPacket (advance t s) x) then .next (skipMonitor rest (advance t s))
      else .next (monitorSend x (monitorPacket (advance t s) x)
        { advance t s with mon := { (advance t s).mon with ring := { x with sent := x.sent + 1 } :: rest } })
    else if s.link.aState ≠ 2 then .next (skipMonitor rest (advance t s))
    else .next (advance t s) := by
  have hended : monitorEnded (advance t s) x = monitorEnded s x := by simp [monitorEnded]
  have hringa : (advance t s).mon.ring = x :: rest := by rw [advance_mon, hring]
  unfold execMonitorPacketSend
  dsimp only
  rw [hringa]
  dsimp only
  rw [hended, advance_link]

theorem execMonitorTrailer_ring (hdecided : s.sched.decided ≠ some false) : execMonitorTrailer t s =
    if x.sent < monitorPackets x.mode ∨ (x.shown.isNone ∧ s.sched.running) then .next (advance t s)
    else
      let u := monitorChecked x (advance t s)
      let p := brineHeader u 3 x.frame 0 0 0 ++ trailerBytes x ((u.mon.ring.head?.bind (·.crc)).getD 0)
      if monitorStops u x p then .next (skipMonitor rest u)
      else .next (monitorSend x p { u with mon := { u.mon with ring := rest, sent := incr32 u.mon.sent } }) := by
  have hringa : (advance t s).mon.ring = x :: rest := by rw [advance_mon, hring]
  unfold execMonitorTrailer
  dsimp only
  rw [passWithheld_undecided (by rwa [advance_sched]), hringa]
  dsimp only
  rw [advance_sched]

end

theorem skipMonitor_skips (rest : List MonFrame) (s : State) :
    (skipMonitor rest s).mon.ring = rest ∧ (skipMonitor rest s).mon.skipped = incr32 s.mon.skipped ∧ (skipMonitor rest s).mon.sent = s.mon.sent :=
  ⟨rfl, rfl, rfl⟩

/-- Settles O53. -/
theorem monitorStreamSends : Obligations.MonitorStreamSends := by
  unfold Obligations.MonitorStreamSends
  intro t s x rest hring a p
  have hmon : a.mon = s.mon := advance_mon t s
  have hskip : a.mon.skipped = s.mon.skipped := congrArg Monitor.skipped hmon
  have hpacket := execMonitorPacketSend_ring (t := t) hring
  have hwaiting (hlacks : x.rows.length < rowsNeeded x.mode (x.sent / packetsPerRow x.mode)) (hgoing : monitorEnded s x = false) :
      ¬(rowsNeeded x.mode (x.sent / packetsPerRow x.mode) ≤ x.rows.length ∨ monitorEnded s x = true) := by
    rw [hgoing]
    rintro (h | h)
    · exact absurd hlacks (Nat.not_lt.mpr h)
    · cases h
  refine ⟨fun hmore => ⟨fun hready => ⟨fun hstops => ?_, fun hgoes => ?_⟩, fun hlacks hgoing => ⟨fun hdown => ?_, fun hup => ?_⟩⟩, fun hdone => ?_,
    fun hdecided hall hshown crc hcrc => ?_, fun hdecided hmore => ?_⟩
  · rw [if_neg (Nat.not_le.mpr hmore), if_pos hready, if_pos hstops] at hpacket
    exact ⟨_, hpacket, rfl, congrArg incr32 hskip⟩
  · rw [if_neg (Nat.not_le.mpr hmore), if_pos hready, if_neg (by rw [hgoes]; decide)] at hpacket
    exact ⟨_, hpacket, rfl, rfl, hskip⟩
  · rw [if_neg (Nat.not_le.mpr hmore), if_neg (hwaiting hlacks hgoing), if_pos hdown] at hpacket
    exact ⟨_, hpacket, rfl, congrArg incr32 hskip⟩
  · rw [if_neg (Nat.not_le.mpr hmore), if_neg (hwaiting hlacks hgoing), if_neg (by simp [hup])] at hpacket
    exact hpacket
  · exact hpacket.trans (if_pos hdone)
  · intro q
    have htrailer := execMonitorTrailer_ring (t := t) hring hdecided
    have hcond : ¬(x.sent < monitorPackets x.mode ∨ (x.shown.isNone = true ∧ s.sched.running = true)) := by
      rintro (h | ⟨hnone, hrun⟩)
      · omega
      · rcases hshown with h | h
        · exact h (Option.isNone_iff_eq_none.mp hnone)
        · rw [h] at hrun; cases hrun
    have hvalue := monitorChecked_crc (s := a) (by rw [hmon, hring]) hcrc
    obtain ⟨mon, cvus, heq, hskipped, hsent⟩ := monitorChecked_state x a
    rw [if_neg hcond] at htrailer
    dsimp only at htrailer
    rw [hvalue, heq] at htrailer
    rw [hmon] at hskipped hsent
    constructor
    · intro hstops
      refine ⟨_, htrailer.trans (if_pos hstops), rfl, congrArg incr32 hskipped, hsent⟩
    · intro hgoes
      refine ⟨_, htrailer.trans (if_neg (Bool.eq_false_iff.mp hgoes)), rfl, congrArg incr32 hsent, hskipped, rfl⟩
  · exact (execMonitorTrailer_ring hring hdecided).trans (if_pos (.inl hmore))

end Sys2Proof.Machine

/-! ## Rake's windows and the map's way to flash (chapter 13) -/

namespace Sys2Proof.Machine

/-! ### No reaction touches Rake's rounds -/

/-- Rake's rounds: the row that is next, the passes, the cursor and the sweeps. -/
abbrev RoundsKept (s u : State) : Prop :=
  u.rake.nextRow = s.rake.nextRow ∧ u.rake.passes = s.rake.passes ∧ u.rake.cursor = s.rake.cursor ∧ u.rake.sweeps = s.rake.sweeps

section
variable {c : Prop} [Decidable c] (a b : Rake)

@[simp] theorem ite_nextRow : (if c then a else b).nextRow = if c then a.nextRow else b.nextRow := apply_ite Rake.nextRow c a b
@[simp] theorem ite_passes : (if c then a else b).passes = if c then a.passes else b.passes := apply_ite Rake.passes c a b
@[simp] theorem ite_cursor : (if c then a else b).cursor = if c then a.cursor else b.cursor := apply_ite Rake.cursor c a b
@[simp] theorem ite_sweeps : (if c then a else b).sweeps = if c then a.sweeps else b.sweeps := apply_ite Rake.sweeps c a b

end

@[simp] theorem rakeUpdate_rounds (s : State) : RoundsKept s (rakeUpdate s) := by
  unfold rakeUpdate
  dsimp only
  (repeat' split) <;> simp [RoundsKept]

@[simp] theorem goSafe_rounds (kind cause : Nat) (s : State) : RoundsKept s (goSafe kind cause s) := by simp [RoundsKept, goSafe]

@[simp] theorem react_rounds (src data r : Nat) (s : State) : RoundsKept s (react src data r s) := by
  cases h : s.mode.op <;> simp [RoundsKept, react, h, proofToSafe]

/-- Rake's rounds, the converters and the fuses. -/
def roundsOf (s : State) : Nat × Nat × Nat × Nat × Converters × Fuses :=
  (s.rake.nextRow, s.rake.passes, s.rake.cursor, s.rake.sweeps, s.conv, s.fuse)

@[simp] theorem record_roundsOf (source code data : Nat) (s : State) : roundsOf (record source code data s) = roundsOf s := by simp [roundsOf]

theorem deliver_roundsOf {src : Nat} (h : isPlain src = true) (data : Nat) (forced act : Bool) (s : State) :
    roundsOf (deliver src data forced act s) = roundsOf s := by
  rw [deliver_plain h]
  split <;> simp [roundsOf]

theorem assertSource_roundsOf {src : Nat} (h : isPlain src = true) (data : Nat) (forced : Bool) (s : State) :
    roundsOf (assertSource src data forced s) = roundsOf s := by
  rw [assertSource_eq]
  split
  · simp [roundsOf, conditionNoted]
  · rw [deliver_roundsOf h]
    simp [roundsOf, conditionNoted]

/-! ### The results of a window leave them too -/

@[simp] theorem checkThresholds_roundsOf (p : Nat) (s : State) : roundsOf (checkThresholds p s) = roundsOf s := by
  have h19 := assertSource_roundsOf (src := 19) rfl
  have h20 := assertSource_roundsOf (src := 20) rfl
  have hd := deliver_roundsOf (src := 19) rfl
  unfold checkThresholds
  dsimp only
  (repeat' split) <;> simp only [h19, h20, hd] <;> rfl

@[simp] theorem enterPixel_roundsOf (p cls link : Nat) (s : State) : roundsOf (enterPixel p cls link s) = roundsOf s := by
  unfold enterPixel
  rw [checkThresholds_roundsOf, record_roundsOf]
  rfl

@[simp] theorem makeDead_roundsOf (p : Nat) (s : State) : roundsOf (makeDead p s) = roundsOf s := by
  unfold makeDead
  split
  · exact enterPixel_roundsOf ..
  · rfl

@[simp] theorem addCand_roundsOf (c : Cand) (s : State) : roundsOf (addCand c s) = roundsOf s := by
  unfold addCand
  dsimp only
  split
  · rfl
  · split
    · rfl
    · rw [record_roundsOf]
      rfl

@[simp] theorem dropCand_roundsOf (c : Cand) (s : State) : roundsOf (dropCand c s) = roundsOf s := rfl

@[simp] theorem confirmPair_roundsOf (p q : Nat) (s : State) : roundsOf (confirmPair p q s) = roundsOf s := by
  unfold confirmPair
  extract_lets g b s1 queued s2
  have h1 : roundsOf s1 = roundsOf s := rfl
  have h2 : roundsOf s2 = roundsOf s := by
    unfold s2
    split
    · rw [enterPixel_roundsOf, h1]
    · exact h1
  (repeat' split)
  · simp
  · rw [foldl_keeps roundsOf fun s x => makeDead_roundsOf x s, record_roundsOf]
  · rw [enterPixel_roundsOf, h2]
  · exact h2

@[simp] theorem pixelResult_roundsOf (p r : Nat) (s : State) : roundsOf (pixelResult p r s) = roundsOf s := by
  unfold pixelResult
  dsimp only
  (repeat' split) <;> simp

@[simp] theorem pairResult_roundsOf (found : List (Nat × Nat)) (c : Cand) (row : Nat) (s : State) :
    roundsOf (pairResult found c row s) = roundsOf s := by
  unfold pairResult
  (repeat' split) <;> simp

@[simp] theorem newPair_roundsOf (old : List Cand) (e : Nat × Nat) (s : State) : roundsOf (newPair old e s) = roundsOf s := by
  unfold newPair
  dsimp only
  split <;> simp

@[simp] theorem windowResults_roundsOf (row : Nat) (m : Probe) (s : State) : roundsOf (windowResults row m s) = roundsOf s := by
  unfold windowResults
  extract_lets pairs cols s1 old s2
  have h1 : roundsOf s1 = roundsOf s := foldl_keeps roundsOf (fun s c => by split <;> simp) cols s
  have h2 : roundsOf s2 = roundsOf s1 := foldl_keeps roundsOf (fun s c => pairResult_roundsOf pairs c row s) old s1
  exact (foldl_keeps roundsOf (fun s e => newPair_roundsOf old e s) pairs s2).trans (h2.trans h1)

@[simp] theorem checkCoverage_roundsOf (row e : Nat) (s : State) : roundsOf (checkCoverage row e s) = roundsOf s := by
  unfold checkCoverage
  extract_lets prev late u
  have hu : roundsOf u = roundsOf s := by
    unfold u
    split <;> simp
  exact hu

/-! ### The sampling of a sweep window -/

/-- The window in progress, and where Rake is in its rounds. -/
def sweepOf (s : State) : Option RakeWindow × Nat × Nat × Nat × Fuses :=
  (s.rake.window, s.rake.nextRow, s.rake.cursor, s.rake.sweeps, s.fuse)

@[simp] theorem sweepPixel_sweepOf (e : List (Sample × Bool) × Nat) (s : State) : sweepOf (sweepPixel s e) = sweepOf s := by
  unfold sweepPixel
  split <;> rfl

/-- The block of a sweep window sampled, before the cursor moves. -/
def sampled (w : RakeWindow) (samples : List Sample) (s : State) : State :=
  let B := 2048 / blockCols s
  let first := 2048 * (s.rake.cursor / B) + blockCols s * (s.rake.cursor % B)
  if w.ready then
    let l := withTaint (sweepTaint s) samples
    let s := { s with conv := countSamples (sweepTaint s) samples s.conv }
    let s := ((List.range (blockCols s)).map fun k => (if w.touched.contains k then [] else (l.drop (6 * k)).take 6, first + k)).foldl sweepPixel s
    { s with rake := { s.rake with vfMax := vfMaxOf s.rake.map s.conv.cal.vfBase s.rake.dvf } }
  else { s with rake := { s.rake with skipped := (s.rake.skipped + blockCols s) % 4294967296 } }

theorem sweepSamples_eq (w : RakeWindow) (samples : List Sample) (s : State) : sweepSamples w samples s = advanceCursor (sampled w samples s) := by
  unfold sweepSamples sampled
  rfl

theorem sampled_sweepOf (w : RakeWindow) (samples : List Sample) (s : State) : sweepOf (sampled w samples s) = sweepOf s := by
  unfold sampled
  extract_lets B first l counted u
  split
  · exact show sweepOf u = sweepOf counted from foldl_keeps sweepOf (fun s e => sweepPixel_sweepOf e s) _ counted
  · rfl

theorem sweepDone_state (s : State) :
    (sweepDone s).rake.window = s.rake.window ∧ (sweepDone s).rake.nextRow = s.rake.nextRow ∧ (sweepDone s).rake.cursor = s.rake.cursor
      ∧ (sweepDone s).rake.sweeps = incr32 s.rake.sweeps := by
  unfold sweepDone
  simp [rebuild]

/-- The cursor of the sweep moves on, and starts again at its end (13 R317). -/
theorem advanceCursor_state (s : State) :
    (advanceCursor s).rake.window = s.rake.window ∧ (advanceCursor s).rake.nextRow = s.rake.nextRow
      ∧ (s.rake.cursor + 1 < cursorEnd s → (advanceCursor s).rake.cursor = s.rake.cursor + 1)
      ∧ (cursorEnd s ≤ s.rake.cursor + 1 → (advanceCursor s).rake.cursor = 0 ∧ (advanceCursor s).rake.sweeps = incr32 s.rake.sweeps) := by
  unfold advanceCursor
  split
  case isTrue h => exact ⟨rfl, rfl, fun _ => rfl, fun hend => absurd h (Nat.not_lt.mpr hend)⟩
  case isFalse h =>
    obtain ⟨hwindow, hrow, hcursor, hsweeps⟩ := sweepDone_state { s with rake := { s.rake with cursor := 0 } }
    exact ⟨hwindow, hrow, fun hmore => absurd hmore h, fun _ => ⟨hcursor, hsweeps⟩⟩

theorem endSweep_state (w : RakeWindow) (m : Probe) (samples : List Sample) (s : State) :
    (endSweep w m samples s).rake.window = none ∧ (endSweep w m samples s).rake.nextRow = s.rake.nextRow
      ∧ (s.rake.cursor + 1 < cursorEnd s → (endSweep w m samples s).rake.cursor = s.rake.cursor + 1)
      ∧ (cursorEnd s ≤ s.rake.cursor + 1 → (endSweep w m samples s).rake.cursor = 0 ∧ (endSweep w m samples s).rake.sweeps = incr32 s.rake.sweeps) := by
  unfold endSweep
  rw [sweepSamples_eq]
  generalize hu : ({ windowResults w.row m s with rake := _ } : State) = u
  obtain ⟨hrow, -, hcursor, hsweeps, -, hfuse⟩ : _ ∧ _ ∧ _ ∧ _ ∧ _ ∧ _ := by simpa [roundsOf] using windowResults_roundsOf w.row m s
  obtain ⟨vwindow, vrow, vcursor, vsweeps, vfuse⟩ : _ ∧ _ ∧ _ ∧ _ ∧ _ := by simpa [sweepOf] using sampled_sweepOf w samples u
  obtain ⟨awindow, arow, amore, aend⟩ := advanceCursor_state (sampled w samples u)
  have huwindow : u.rake.window = none := by rw [← hu]
  have hurow : u.rake.nextRow = s.rake.nextRow := by rw [← hu]; exact hrow
  have hucursor : u.rake.cursor = s.rake.cursor := by rw [← hu]; exact hcursor
  have husweeps : u.rake.sweeps = s.rake.sweeps := by rw [← hu]; exact hsweeps
  have hend : cursorEnd (sampled w samples u) = cursorEnd s := by
    have hufuse : u.fuse = s.fuse := by rw [← hu]; exact hfuse
    rw [cursorEnd, cursorEnd, hasConvB, hasConvB, vfuse, hufuse]
  rw [hend, vcursor, hucursor] at amore aend
  rw [vsweeps, husweeps] at aend
  exact ⟨by rw [awindow, vwindow, huwindow], by rw [arow, vrow, hurow], amore, aend⟩

/-- A completed probe window (13 R301 to R304). -/
theorem endProbe_state (w : RakeWindow) (m : Probe) (s : State) :
    (endProbe w m s).rake.window = none ∧ (endProbe w m s).rake.nextRow = (w.row + 1) % 640
      ∧ (endProbe w m s).rake.passes = (if w.row = 639 then incr32 s.rake.passes else s.rake.passes) ∧ (endProbe w m s).conv = s.conv := by
  have hrounds := (checkCoverage_roundsOf w.row (w.start + 400) (windowResults w.row m s)).trans (windowResults_roundsOf w.row m s)
  unfold endProbe
  dsimp only
  generalize checkCoverage w.row (w.start + 400) (windowResults w.row m s) = u at hrounds
  obtain ⟨-, hpasses, -, -, hconv, -⟩ : _ ∧ _ ∧ _ ∧ _ ∧ _ ∧ _ := by simpa [roundsOf] using hrounds
  exact ⟨rfl, rfl, by rw [hpasses], hconv⟩

/-! ### The start of a window -/

theorem freshBase_leaves (s : State) :
    (freshBase s).rake.nextRow = s.rake.nextRow ∧ (freshBase s).rake.map = s.rake.map ∧ (freshBase s).rake.cursor = s.rake.cursor
      ∧ (freshBase s).flt = s.flt ∧ (freshBase s).time = s.time ∧ (freshBase s).fuse = s.fuse := by
  unfold freshBase
  dsimp only
  split <;> exact ⟨rfl, rfl, rfl, rfl, rfl, rfl⟩

@[simp] theorem refNotReady_leaves (s : State) :
    (refNotReady s).rake = s.rake ∧ (refNotReady s).time = s.time ∧ (refNotReady s).conv.timedAt = s.conv.timedAt := by
  unfold refNotReady
  dsimp only
  split <;> simp

section
variable {s : State}

theorem startProbe_starts {i : Nat} (hslot : windowSlot (freshBase s) = some i) (hmay : mayStart (freshBase s) = true)
    (hcount : (freshBase s).rake.windows ≤ i) (hrows : i < (freshBase s).rake.rows) :
    startProbe s = startWindow i (freshBase s).rake.nextRow false false (freshBase s) := by
  unfold startProbe
  dsimp only
  rw [hslot]
  exact if_pos (by rw [hmay, decide_eq_true hcount, decide_eq_true hrows]; rfl)

theorem startProbe_waits (h : ∀ i, windowSlot (freshBase s) = some i →
    mayStart (freshBase s) = false ∨ i < (freshBase s).rake.windows ∨ (freshBase s).rake.rows ≤ i) : startProbe s = freshBase s := by
  unfold startProbe
  dsimp only
  split
  case h_1 i hslot =>
    rw [if_neg]
    simp only [Bool.and_eq_true, decide_eq_true_iff]
    rintro ⟨⟨hmay, hcount⟩, hrows⟩
    rcases h i hslot with h | h | h
    · rw [h] at hmay; cases hmay
    · exact absurd hcount (Nat.not_le.mpr h)
    · exact absurd hrows (Nat.not_lt.mpr h)
  case h_2 => rfl

/-- The conditions of a sweep window's start (13 R317, 14 R328). -/
def sweepDue (s : State) : Prop :=
  windowSlot s = some s.rake.rows ∧ s.rake.rows ≠ 0 ∧ (!s.rake.swept) = true ∧ mayStart s = true ∧ sweepRuns s = true ∧ (!reserved s) = true

theorem startSweep_starts (h : sweepDue (freshBase s)) :
    ∃ ready u, startSweep s = startWindow (freshBase s).rake.rows ((freshBase s).rake.cursor / (2048 / blockCols (freshBase s))) true ready u
      ∧ u.rake = (freshBase s).rake ∧ u.time = (freshBase s).time ∧ u.conv.timedAt = tsc (freshBase s) := by
  unfold startSweep
  dsimp only
  rw [if_pos (show _ ∧ _ from h)]
  refine ⟨_, _, rfl, ?_⟩
  split <;> simp

theorem startSweep_waits (h : ¬sweepDue (freshBase s)) : startSweep s = freshBase s := if_neg h

/-- A sweep window that starts (13 R316, R317). -/
theorem startWindow_sweep (i row : Nat) (ready : Bool) (s : State) :
    (startWindow i row true ready s).rake.swept = true ∧ (startWindow i row true ready s).rake.nextRow = s.rake.nextRow
      ∧ (startWindow i row true ready s).conv = s.conv
      ∧ ∃ w, (startWindow i row true ready s).rake.window = some w ∧ w.row = row ∧ w.start = tsc s ∧ w.sweep = true :=
  ⟨Bool.or_true _, rfl, rfl, _, rfl, rfl, rfl, rfl⟩

end

/-! ### The commands -/

theorem execProbeWindow_end (t : Nat) (m : Probe) (s : State) : execProbeWindow t (some m) s =
    .next ((endedWindow (advance t s) false).elim (advance t s) fun w => endProbe w m (advance t s)) := by
  unfold execProbeWindow
  dsimp only
  split <;> (rename_i h; rw [h]; rfl)

theorem execSweepWindow_end (t : Nat) (m : Probe) {smp : List Sample} (s : State) (hsmp : smp.all sampleOk = true) :
    execSweepWindow t (some m) smp s =
      .next ((endedWindow (advance t s) true).elim (advance t s) fun w => endSweep w m smp (advance t s)) := by
  unfold execSweepWindow
  dsimp only
  rw [if_neg (by rw [hsmp]; decide)]
  split <;> (rename_i h; rw [h]; rfl)

theorem flashWork_advance (t : Nat) (s : State) : flashWork (advance t s) = flashWork s := by simp [flashWork]

theorem execVfModelRewrite_mp {t : Nat} {s : State} (hfw : isFw s.mode.op = true) (hmp : s.mp.restarting = none) (hloaded : s.conv.loaded = true) :
    execVfModelRewrite t s =
      if s.rake.vfAt = 0 ∨ s.rake.vfAt + 100000000 ≤ tsc (advance t s) then .next (rewriteModel (advance t s)) else .next (advance t s) := by
  unfold execVfModelRewrite
  dsimp only
  rw [advance_mode, advance_mp, advance_conv, advance_rake, hfw, hmp, hloaded, Option.isNone_none, Bool.and_self, Bool.and_self, Bool.true_and]
  simp only [Bool.or_eq_true, decide_eq_true_iff]

/-- A snapshot is due (13 R315). -/
def snapshotDue (s : State) : Bool := decide (s.rake.snapFrom + 8640000000 ≤ tsc s) || decide (24576 ≤ s.flash.delta.length)

/-- The snapshot of the map. -/
def snapshotOf (s : State) : Snapshot :=
  { sequence := max (s.flash.snapA.elim 0 (·.sequence)) (s.flash.snapB.elim 0 (·.sequence)) + 1,
    map := s.rake.map, dvf := s.rake.dvf, bridges := s.rake.bridges }

/-- The delta log is erased, and the check-value unit has worked. -/
def deltaErased (s : State) : State :=
  let u := cvuJob 3 (Config.recordCrc ((s.cvus.getD 3 {}).jobs) % 4294967296) none s
  { u with flash := { u.flash with delta := [] }, rake := { u.rake with snapFrom := tsc u } }

theorem execMapSnapshot_eq (t : Nat) (s : State) : execMapSnapshot t s =
    if flashWork s && s.rake.restored && snapshotDue (advance t s) then
      .next (if (s.flash.snapA.elim 0 (·.sequence)) ≤ (s.flash.snapB.elim 0 (·.sequence)) then
          { deltaErased (advance t s) with flash := { (deltaErased (advance t s)).flash with snapA := some (snapshotOf (advance t s)) } }
        else { deltaErased (advance t s) with flash := { (deltaErased (advance t s)).flash with snapB := some (snapshotOf (advance t s)) } })
    else .next (advance t s) := by
  unfold execMapSnapshot snapshotDue snapshotOf deltaErased
  dsimp only
  rw [flashWork_advance, advance_rake, advance_flash]

/-- Settles O54. -/
theorem rakeWindowsInTurn : Obligations.RakeWindowsInTurn := by
  unfold Obligations.RakeWindowsInTurn
  intro t s a b
  have hrake : a.rake = s.rake := advance_rake t s
  have hconv : a.conv = s.conv := advance_conv t s
  have hflash : a.flash = s.flash := advance_flash t s
  obtain ⟨brow, bmap, bcursor, bflt, btime, bfuse⟩ := freshBase_leaves a
  have bnow : tsc b = tsc a := by rw [tsc, tsc, btime]
  refine ⟨fun i hslot hmay hcount hrows => ?_, fun hno => ?_, fun i hslot hno => ?_, fun m w hw => ?_, fun m hw => ?_,
    fun smp hslot hrows hswept hmay hruns hfree => ?_, fun smp hno => ?_, fun m smp w hsmp hw => ?_, fun m smp hsmp hw => ?_,
    fun hfw hmp hloaded => ⟨fun hdue => ?_, fun hset hearly => ?_⟩, fun hwork => ⟨?_, fun hrestored hdue => ?_⟩, fun hno => ?_, fun hwork => ⟨?_, ?_⟩⟩
  · refine ⟨_, congrArg Host.Outcome.next (startProbe_starts hslot hmay hcount hrows), ?_, rfl, ?_, ?_, ?_⟩
    · show some _ = some _
      rw [brow, hrake, bnow]
    · exact brow.trans (by rw [hrake])
    · exact bmap.trans (by rw [hrake])
    · exact bflt.trans (advance_flt t s)
  · refine congrArg Host.Outcome.next (startProbe_waits fun i hslot => ?_)
    rcases hno with h | h
    · rw [h] at hslot; cases hslot
    · exact .inl h
  · refine congrArg Host.Outcome.next (startProbe_waits fun j hslot' => .inr ?_)
    obtain rfl : i = j := Option.some_inj.mp (hslot.symm.trans hslot')
    exact hno
  · obtain ⟨hwindow, hrow, hpasses, hc⟩ := endProbe_state w m a
    refine ⟨endProbe w m a, (execProbeWindow_end t m s).trans (by rw [hw, Option.elim_some]), hwindow, hrow, fun hne => ?_, fun heq => ?_, by rw [hc, hconv]⟩
    · rw [hpasses, if_neg hne, hrake]
    · rw [hpasses, if_pos heq, hrake]
  · exact (execProbeWindow_end t m s).trans (by rw [hw, Option.elim_none])
  · obtain ⟨ready, u, hstart, urake, utime, uconv⟩ := startSweep_starts (s := a)
      ⟨hslot, hrows, by rw [hswept]; rfl, hmay, hruns, by rw [hfree]; rfl⟩
    obtain ⟨wswept, wrow, wconv, w, hw, hrow, hat, hsweep⟩ :=
      startWindow_sweep (freshBase a).rake.rows ((freshBase a).rake.cursor / (2048 / blockCols (freshBase a))) ready u
    have hcols : blockCols (freshBase a) = blockCols s := by simp [blockCols, hasConvB, bfuse, a]
    have hnow : tsc u = tsc a := by rw [tsc, utime, ← tsc, bnow]
    refine ⟨_, congrArg Host.Outcome.next hstart, wswept, ?_, ?_, w, hw, ?_, hat.trans hnow, hsweep⟩
    · rw [wrow, urake, brow, hrake]
    · rw [wconv, uconv, bnow]
    · rw [hrow, hcols, bcursor, hrake]
  · refine congrArg Host.Outcome.next (startSweep_waits ?_)
    rintro ⟨hslot, hrows, hswept, hmay, hruns, hfree⟩
    rcases hno with h | h | h | h | h | h
    · exact h hslot
    · exact hrows h
    · rw [show (freshBase a).rake.swept = true from h] at hswept; cases hswept
    · rw [show mayStart (freshBase a) = false from h] at hmay; cases hmay
    · rw [show sweepRuns (freshBase a) = false from h] at hruns; cases hruns
    · rw [show reserved (freshBase a) = true from h] at hfree; cases hfree
  · obtain ⟨hwindow, hrow, hmore, hend⟩ := endSweep_state w m smp a
    have hlimit : cursorEnd a = cursorEnd s := by simp [cursorEnd, hasConvB, a]
    rw [hlimit, hrake] at hmore hend
    exact ⟨endSweep w m smp a, (execSweepWindow_end t m s hsmp).trans (by rw [hw, Option.elim_some]), hwindow, by rw [hrow, hrake], hmore, hend⟩
  · exact (execSweepWindow_end t m s hsmp).trans (by rw [hw, Option.elim_none])
  · exact (execVfModelRewrite_mp hfw hmp hloaded).trans (if_pos hdue)
  · exact (execVfModelRewrite_mp hfw hmp hloaded).trans (if_neg (not_or.mpr ⟨hset, Nat.not_le.mpr hearly⟩))
  · exact if_pos ((flashWork_advance t s).trans hwork)
  · have hdue' : snapshotDue a = true := by
      rw [snapshotDue, hrake, hflash, Bool.or_eq_true, decide_eq_true_iff, decide_eq_true_iff]
      exact hdue
    have hexec := (execMapSnapshot_eq t s).trans (if_pos (by rw [hwork, hrestored, hdue']; rfl))
    have herased : (deltaErased a).flash.snapA = s.flash.snapA ∧ (deltaErased a).flash.snapB = s.flash.snapB := by
      rw [← hflash]
      exact ⟨rfl, rfl⟩
    refine ⟨_, hexec, ?_, snapshotOf a, ?_, ?_, ?_, ?_, fun hle => ?_, fun hlt => ?_⟩
    · split <;> rfl
    · rw [snapshotOf, hrake]
    · rw [snapshotOf, hrake]
    · rw [snapshotOf, hrake]
    · rw [snapshotOf, hflash]
    · rw [if_pos hle]
      exact ⟨rfl, herased.2⟩
    · rw [if_neg (Nat.not_le.mpr hlt)]
      exact ⟨rfl, herased.1⟩
  · refine (execMapSnapshot_eq t s).trans (if_neg ?_)
    rcases hno with h | ⟨hearly, hroom⟩
    · rw [h, Bool.and_false, Bool.false_and]; decide
    · have hnot : snapshotDue a = false := by
        rw [snapshotDue, hrake, hflash, decide_eq_false (Nat.not_le.mpr hearly), decide_eq_false (Nat.not_le.mpr hroom), Bool.or_self]
      rw [hnot, Bool.and_false]; decide
  · exact if_neg (by rw [flashWork_advance, hwork]; decide)
  · exact (execMapSnapshot_eq t s).trans (if_neg (by rw [hwork, Bool.false_and, Bool.false_and]; decide))

end Sys2Proof.Machine

/-! ## The sync chain (chapter 05) -/

namespace Sys2Proof.Machine

/-! ### Arrival, addresses and lengths -/

/-- An arrival touches the carrier and the run of valid symbols alone (05 R118, R131). -/
@[simp] theorem symArrive_leaves (x : Sym) (s : State) :
    (symArrive x s).arr = s.arr ∧ (symArrive x s).sched = s.sched ∧ (symArrive x s).time = s.time ∧ (symArrive x s).sync.role = s.sync.role
      ∧ (symArrive x s).sync.depth = s.sync.depth ∧ (symArrive x s).sync.len = s.sync.len ∧ (symArrive x s).sync.loss = s.sync.loss
      ∧ (symArrive x s).sync.armed = s.sync.armed ∧ (symArrive x s).sync.lastFrame = s.sync.lastFrame
      ∧ (symArrive x s).sync.duplicates = s.sync.duplicates ∧ (symArrive x s).sync.bankMismatch = s.sync.bankMismatch
      ∧ (symArrive x s).sync.frameMismatch = s.sync.frameMismatch := by
  unfold symArrive
  split <;> simp

theorem symArrive_bad {x : Sym} (h : symOk x = false) (s : State) : symArrive x s = { s with sync := { s.sync with validRun := 0 } } :=
  if_neg (by rw [h]; decide)

/-- LEN_SHORT alone follows the length (05 R129). -/
@[simp] theorem checkLen_leaves (s : State) :
    (checkLen s).sync.role = s.sync.role ∧ (checkLen s).sync.depth = s.sync.depth ∧ (checkLen s).sync.len = s.sync.len
      ∧ (checkLen s).sync.origin = s.sync.origin ∧ (checkLen s).sync.epoch = s.sync.epoch ∧ (checkLen s).sync.headRun = s.sync.headRun
      ∧ (checkLen s).sync.depthPending = s.sync.depthPending := by
  unfold checkLen
  dsimp only
  split <;> simp

theorem drives_of_role {s u : State} (h : u.sync.role = s.sync.role) : drives u = drives s := by rw [drives, drives, h]

theorem drives_symArrive (x : Sym) (s : State) : drives (symArrive x s) = drives s := drives_of_role (by simp)

theorem listens_advance (t : Nat) (s : State) : listens (advance t s) = listens s := by simp [listens, arrayUp]

/-! ### Symbols sent -/

section
variable {t : Nat} {s : State}

/-- The slot that ends now is noted. -/
def slotNoted (s : State) : State := { s with sync := { s.sync with slotAt := some (tsc s) } }

theorem execSymbolSlot_due (h : slotDue (advance t s) = true) : execSymbolSlot t s =
    if drives s then .next
      (let x := slotSymbol (advance t s) (tsc (advance t s) / 10)
       { slotNoted (advance t s) with sync := { (slotNoted (advance t s)).sync with
          lineOut := some x.1, sluiceSent := if x.2 then some s.sched.nextSwap else s.sync.sluiceSent } })
    else if s.sync.carrier then .next (slotNoted (advance t s))
    else .next { slotNoted (advance t s) with sync := { (slotNoted (advance t s)).sync with lineOut := some (mkSym 1 0) } } := by
  have hd : drives (slotNoted (advance t s)) = drives s := (drives_of_role rfl).trans (drives_advance t s)
  have hsync : (advance t s).sync = s.sync := advance_sync t s
  have hsched : (advance t s).sched = s.sched := advance_sched t s
  unfold execSymbolSlot
  dsimp only
  rw [if_neg (by rw [h]; decide)]
  change (if drives (slotNoted (advance t s)) = true then _ else _) = _
  rw [hd]
  rw [← hsync, ← hsched]
  rfl

theorem execSymbolSlot_early (h : slotDue (advance t s) = false) : execSymbolSlot t s = .next (advance t s) := if_pos (by rw [h]; rfl)

/-- A symbol that a listening module repeats or takes (05 R122). -/
theorem execSymbolRepeat_listens {x : Sym} (h : listens s = true) : execSymbolRepeat t x s =
    if drives s ∨ s.sync.loss then .next (symArrive x (advance t s))
    else .next { symArrive x (advance t s) with
      sync := { (symArrive x (advance t s)).sync with lineOut := some (repeated (symArrive x (advance t s)) x) } } := by
  have hloss : (symArrive x (advance t s)).sync.loss = s.sync.loss := by simp
  unfold execSymbolRepeat
  dsimp only
  rw [if_neg (by rw [listens_advance, h]; decide), drives_symArrive, drives_advance, hloss]

theorem repeated_of_other {x : Sym} (h : x.type ≠ 3) : repeated s x = x := if_neg fun hc => h hc.2

theorem repeated_enum {x : Sym} (hok : symOk x = true) (h : x.type = 3) :
    repeated s x = mkSym 3 (enumPayload (s.sync.depth + 1) (decide (symField x 9 1 = 1) || decide (511 ≤ s.sync.depth))) := if_pos ⟨hok, h⟩

/-- The depth that a member sends on below the deepest place. -/
theorem enumPayload_shallow {d : Nat} (h : d < 512) : enumPayload d false = BitVec.ofNat 24 d := by
  rw [enumPayload, Nat.mod_eq_of_lt h]
  rfl

end

/-! ### Symbols received -/

/-- The fields of the payloads (05 Table 5.2). -/
theorem symField_eq (x : Sym) :
    symField x 0 9 = x.payload.toNat % 512 ∧ symField x 9 1 = x.payload.toNat / 512 % 2 ∧ symField x 9 9 = x.payload.toNat / 512 % 512
      ∧ symField x 18 5 = x.payload.toNat / 262144 % 32 ∧ symField x 23 1 = x.payload.toNat / 8388608 % 2
      ∧ symField x 0 16 = x.payload.toNat % 65536 ∧ symField x 16 1 = x.payload.toNat / 65536 % 2 ∧ symField x 17 6 = x.payload.toNat / 131072 % 64 := by
  simp [symField]

/-- A head's fields are taken (05 R123, R129). -/
theorem takeHead_state (x : Sym) (s : State) :
    (takeHead x s).sync.role = s.sync.role ∧ (takeHead x s).sync.len = x.payload.toNat % 512 + 1
      ∧ (takeHead x s).sync.origin = x.payload.toNat / 512 % 512 ∧ (takeHead x s).sync.epoch = x.payload.toNat / 262144 % 32
      ∧ (takeHead x s).sync.headRun = decide (x.payload.toNat / 8388608 % 2 = 1) ∧ (takeHead x s).sync.depth = s.sync.depth := by
  obtain ⟨hlen, -, horigin, hepoch, hrun, -⟩ := symField_eq x
  unfold takeHead
  rw [hlen, horigin, hepoch, hrun]
  extract_lets origin epoch first fresh moved old u v
  obtain ⟨crole, cdepth, clen, corigin, cepoch, crun, -⟩ := checkLen_leaves v
  have hv : v.sync = u.sync := by
    unfold v
    split <;> simp
  rw [crole, cdepth, clen, corigin, cepoch, crun, hv]
  exact ⟨rfl, rfl, rfl, rfl, rfl, rfl⟩

theorem takeDepth_state (depth : Nat) (s : State) :
    (takeDepth depth s).sync.role = .member ∧ (takeDepth depth s).sync.depth = depth ∧ (takeDepth depth s).sync.depthPending = false := by
  unfold takeDepth
  extract_lets changed u v
  obtain ⟨crole, cdepth, -, -, -, -, cpending⟩ := checkLen_leaves (readdress (if changed = true then record srcSync 0x0003 depth v else v))
  have hv : (readdress (if changed = true then record srcSync 0x0003 depth v else v)).sync = v.sync := by
    rw [readdress_sync]
    split <;> simp
  rw [crole, cdepth, cpending, hv]
  exact ⟨rfl, rfl, rfl⟩

theorem unenumerate_state (s : State) : (unenumerate s).sync.role = .unenumerated ∧ (unenumerate s).sync.depthPending = false := by
  simp [unenumerate]

theorem pendDepth_state (depth : Nat) (s : State) :
    (pendDepth depth s).sync.depth = s.sync.depth ∧ (pendDepth depth s).sync.depthPending = true ∧ (pendDepth depth s).sync.pendingDepth = depth := by
  unfold pendDepth
  dsimp only
  split <;> simp

section
variable {t : Nat} {s : State} {x : Sym}

/-- A HEAD that a listening module receives (05 R127, R129). -/
theorem execHeadReceived_valid (hlisten : listens s = true) (hok : symOk x = true) (htype : x.type = 4) :
    (s.sync.role = .member → execHeadReceived t x s = .next (takeHead x (symArrive x (advance t s))))
      ∧ (s.sync.role = .head → s.sched.running = false → execHeadReceived t x s = .next (takeHead x (record srcSync 0x0002 (symField x 9 9)
          { symArrive x (advance t s) with sync := { (symArrive x (advance t s)).sync with role := .member } })))
      ∧ (s.sync.role = .head → s.sched.running = true → execHeadReceived t x s = .next (symArrive x (advance t s))) := by
  have hrole : (symArrive x (advance t s)).sync.role = s.sync.role := by simp
  have hrun : (symArrive x (advance t s)).sched.running = s.sched.running := by simp
  unfold execHeadReceived
  dsimp only
  rw [if_neg (by rw [listens_advance, hlisten]; decide), if_neg (by rw [hok, htype]; decide), hrole, hrun]
  exact ⟨fun h => by rw [h], fun h hr => by rw [h]; exact if_neg (by rw [hr]; decide), fun h hr => by rw [h]; exact if_pos hr⟩

/-- An ENUM that a listening module receives (05 R128, R129). -/
theorem execEnumReceived_valid (hlisten : listens s = true) (hok : symOk x = true) (htype : x.type = 3) :
    (s.sync.role = .member → symField x 9 1 = 1 → execEnumReceived t x s = .next (unenumerate (symArrive x (advance t s))))
      ∧ (s.sync.role = .member ∨ s.sync.role = .unenumerated → symField x 9 1 = 0 → symField x 0 9 ≠ 0 → s.sched.running = false →
          execEnumReceived t x s = .next (takeDepth (symField x 0 9) (symArrive x (advance t s))))
      ∧ (s.sync.role = .member → symField x 9 1 = 0 → symField x 0 9 ≠ 0 → s.sched.running = true → symField x 0 9 ≠ s.sync.depth →
          execEnumReceived t x s = .next (pendDepth (symField x 0 9) (symArrive x (advance t s))))
      ∧ (s.sync.role = .head → execEnumReceived t x s = .next (symArrive x (advance t s))) := by
  have hrole : (symArrive x (advance t s)).sync.role = s.sync.role := by simp
  have hrun : (symArrive x (advance t s)).sched.running = s.sched.running := by simp
  have hdepth : (symArrive x (advance t s)).sync.depth = s.sync.depth := by simp
  unfold execEnumReceived
  dsimp only
  rw [if_neg (by rw [listens_advance, hlisten]; decide), hok, htype, hrole, hrun, hdepth]
  refine ⟨fun h ho => ?_, fun h ho hd hr => ?_, fun h ho hd hr hne => ?_, fun h => ?_⟩
  · simp [h, ho]
  · rcases h with h | h <;> simp [h, ho, hd, hr]
  · simp [h, ho, hd, hr, hne]
  · simp [h]

/-- A symbol with a coding error is only taken as an arrival (05 R118). -/
theorem execHeadReceived_bad (hlisten : listens s = true) (hbad : symOk x = false) :
    execHeadReceived t x s = .next (symArrive x (advance t s)) := by
  unfold execHeadReceived
  dsimp only
  rw [if_neg (by rw [listens_advance, hlisten]; decide), if_pos (by rw [hbad]; exact .inl rfl)]

theorem execEnumReceived_bad (hlisten : listens s = true) (hbad : symOk x = false) :
    execEnumReceived t x s = .next (symArrive x (advance t s)) := by
  unfold execEnumReceived
  dsimp only
  rw [if_neg (by rw [listens_advance, hlisten]; decide), if_pos (by rw [hbad]; exact .inl rfl)]

/-- A SLUICE that a listening module receives (05 R121, R133). -/
theorem execSluiceSymbolReceived_listens (tEnd : Nat) (hlisten : listens s = true) : execSluiceSymbolReceived t x tEnd s =
    .next (if symOk x ∧ x.type = 2 ∧ s.sync.role ≠ .islandHead then takeSluice x tEnd (symArrive x (advance t s)) else symArrive x (advance t s)) := by
  have hrole : (symArrive x (advance t s)).sync.role = s.sync.role := by simp
  unfold execSluiceSymbolReceived
  dsimp only
  rw [if_neg (by rw [listens_advance, hlisten]; decide), hrole]

end

/-! ### A SLUICE taken -/

section
variable {x : Sym} {tEnd : Nat} {s : State}

theorem takeSluice_duplicate (h : isDuplicate x s = true) :
    takeSluice x tEnd s = { s with sync := { s.sync with duplicates := incr32 s.sync.duplicates } } := if_pos h

theorem ite_eq_left_or_right {α : Type} {c : Prop} [Decidable c] (a b : α) : (if c then a else b) = a ∨ (if c then a else b) = b := by
  split
  · exact .inl rfl
  · exact .inr rfl

theorem compareBank_cases (x : Sym) (s : State) :
    compareBank x s = s ∨ compareBank x s = { s with sync := { s.sync with bankMismatch := incr32 s.sync.bankMismatch } } := by
  unfold compareBank
  exact ite_eq_left_or_right _ _

/-- BANK names another bank than the inactive one (05 R117). -/
theorem compareBank_mismatch {x : Sym} {s : State}
    (h : (s.arr.bankSel = .a → symField x 16 1 ≠ 1) ∧ (s.arr.bankSel = .b → symField x 16 1 ≠ 0)) :
    (compareBank x s).sync.bankMismatch = incr32 s.sync.bankMismatch := by
  unfold compareBank
  cases hsel : s.arr.bankSel with
  | a => exact congrArg (fun u : State => u.sync.bankMismatch) (if_neg (h.1 hsel))
  | b => exact congrArg (fun u : State => u.sync.bankMismatch) (if_neg (h.2 hsel))

theorem compareBank_leaves (x : Sym) (s : State) :
    (compareBank x s).arr = s.arr ∧ (compareBank x s).sched = s.sched ∧ (compareBank x s).time = s.time
      ∧ (compareBank x s).sync = { s.sync with bankMismatch := (compareBank x s).sync.bankMismatch } := by
  rcases compareBank_cases x s with h | h <;> (rw [h]; exact ⟨rfl, rfl, rfl, rfl⟩)

/-- A SLUICE that is no duplicate, by the module's place and its frame (05 R112, R117, R121). -/
theorem takeSluice_taken (h : isDuplicate x s = false) : takeSluice x tEnd s =
    if s.sched.running = false ∨ s.sync.role ≠ .member then compareBank x s
    else if symField x 0 16 ≠ s.sched.nextSwap % 65536 then
      let u := { compareBank x s with sync := { (compareBank x s).sync with
        frameMismatch := incr32 (compareBank x s).sync.frameMismatch, mismatchNoted := true } }
      if (compareBank x s).sync.mismatchNoted then u else record srcSync 0x0009 (symField x 0 16) u
    else if s.sync.armed.isSome then
      { compareBank x s with sync := { (compareBank x s).sync with duplicates := incr32 (compareBank x s).sync.duplicates } }
    else if swapOf s.sched s.sched.nextSwap + 100 < tsc s then compareBank x s
    else { compareBank x s with sync := { (compareBank x s).sync with
      armed := some (symField x 0 16, tEnd + 60 + symField x 17 6 + 5 * (s.sync.len - 1 - s.sync.depth)) } } := by
  obtain ⟨-, csched, ctime, csync⟩ := compareBank_leaves x s
  have hnow : tsc (compareBank x s) = tsc s := by rw [tsc, tsc, ctime]
  have hrole : (compareBank x s).sync.role = s.sync.role := by rw [csync]
  have harmed : (compareBank x s).sync.armed = s.sync.armed := by rw [csync]
  have hlen : (compareBank x s).sync.len = s.sync.len := by rw [csync]
  have hdepth : (compareBank x s).sync.depth = s.sync.depth := by rw [csync]
  unfold takeSluice
  dsimp only
  rw [if_neg (by rw [h]; decide), csched, hnow, hrole, harmed, hlen, hdepth]
  simp only [Bool.not_eq_true']

theorem takeSluice_bank (h : isDuplicate x s = false) : (takeSluice x tEnd s).sync.bankMismatch = (compareBank x s).sync.bankMismatch := by
  rw [takeSluice_taken h]
  dsimp only
  (repeat' split) <;> simp

end

/-! ### Roles -/

theorem becomeHead_state (s : State) :
    (becomeHead s).sync.role = .head ∧ (becomeHead s).sync.depth = 0 ∧ (becomeHead s).sync.epoch = (s.sync.epoch + 1) % 32
      ∧ (becomeHead s).sync.started = s.sync.started ∧ (becomeHead s).sync.len = s.cfg.sync.chainLen := by
  simp [becomeHead]

section
variable {t : Nat} {s : State} (hup : arrayUp s = true)
include hup

theorem execStartWindowEnd_up : execStartWindowEnd t s =
    if s.sync.started = true ∨ tsc (advance t s) ≤ s.sync.windowEnd then .next (advance t s)
    else if s.sync.heard then .next { advance t s with sync := { (advance t s).sync with started := true } }
    else
      let u := becomeHead { advance t s with sync := { (advance t s).sync with started := true } }
      .next (record srcSync 0x0001 u.sync.epoch u) := by
  have hupa : arrayUp (advance t s) = true := by simpa [arrayUp] using hup
  unfold execStartWindowEnd
  dsimp only
  rw [hupa, advance_sync]
  simp only [Bool.not_true, Bool.false_eq_true, false_or]

theorem execLinkDelayMeasure_up (delay : Nat) : execLinkDelayMeasure t delay s =
    if s.sync.measuring && !s.sched.running then
      let u := { advance t s with
        sync := { (advance t s).sync with measuring := false, linkDelay := sat16 delay, linkLong := decide (480 < delay) } }
      .next (if 480 < delay then record srcSync 0x0007 (sat16 delay) u else u)
    else .next (advance t s) := by
  have hupa : arrayUp (advance t s) = true := by simpa [arrayUp] using hup
  unfold execLinkDelayMeasure
  dsimp only
  rw [hupa, advance_sync, advance_sched, Bool.and_true]
  simp only [decide_eq_true_iff]

end

theorem execSyncLossEnd_eq (t : Nat) (s : State) : execSyncLossEnd t s =
    if s.sync.loss = true ∧ 16 ≤ s.sync.validRun then
      .next (endSource 23 { advance t s with sync := { (advance t s).sync with loss := false, carrier := true } })
    else .next (advance t s) := by
  unfold execSyncLossEnd
  dsimp only
  rw [advance_sync]

/-- Settles O55. -/
theorem syncSymbols : Obligations.SyncSymbols := by
  unfold Obligations.SyncSymbols
  refine ⟨fun t s => ?_, fun t x s hlisten => ?_, fun t s hup => ?_⟩
  · intro a
    refine ⟨fun hdue => ⟨fun hdrives => ?_, fun hdrives hquiet => ?_, fun hdrives hcarrier => ?_⟩, fun hno => execSymbolSlot_early hno⟩
    · refine ⟨_, (execSymbolSlot_due hdue).trans (if_pos hdrives), rfl, rfl, ?_, ?_, fun hsluice => ?_, fun hother => ?_⟩
      · exact advance_arr t s
      · exact advance_sched t s
      · exact if_pos hsluice
      · exact if_neg (by rw [hother]; decide)
    · exact ⟨_, (execSymbolSlot_due hdue).trans ((if_neg (by rw [hdrives]; decide)).trans (if_neg (by rw [hquiet]; decide))), rfl, rfl⟩
    · refine ⟨_, (execSymbolSlot_due hdue).trans ((if_neg (by rw [hdrives]; decide)).trans (if_pos hcarrier)), ?_, rfl⟩
      exact show (advance t s).sync.lineOut = _ from congrArg Sync.lineOut (advance_sync t s)
  · intro a depth ovr
    obtain ⟨hdepthField, hoverField, -, -, -, hframeField, hbankField, hfineField⟩ := symField_eq x
    obtain ⟨barr, bsched, btime, brole, bdepth, blen, bloss, barmed, blast, bdup, bbank, bframe⟩ := symArrive_leaves x a
    have hsync : a.sync = s.sync := advance_sync t s
    have hsched : a.sched = s.sched := advance_sched t s
    have harr : a.arr = s.arr := advance_arr t s
    rw [hsync] at brole bdepth blen bloss barmed blast bdup bbank bframe
    rw [hsched] at bsched
    rw [harr] at barr
    refine ⟨fun hdrives hloss => ?_, fun hno => (execSymbolRepeat_listens hlisten).trans (if_pos hno), fun hok htype => ?_, fun hok htype => ?_,
      fun tEnd hok htype hrole => ?_, fun tEnd hrole => ?_, fun tEnd hbad => ?_⟩
    · have hexec := (execSymbolRepeat_listens (t := t) (x := x) hlisten).trans (if_neg (by rw [hdrives, hloss]; decide))
      refine ⟨_, hexec, bdepth, fun hother => ?_, fun hok htype hshallow hover => ?_, fun hok htype hover => ?_⟩
      · exact congrArg some (repeated_of_other hother)
      · refine congrArg some ((repeated_enum hok htype).trans ?_)
        rw [bdepth, hoverField, show x.payload.toNat / 512 % 2 = 0 from hover, decide_eq_false (show ¬511 ≤ s.sync.depth by omega)]
        exact congrArg (mkSym 3) (enumPayload_shallow (by omega))
      · refine congrArg some ((repeated_enum hok htype).trans ?_)
        rw [bdepth, hoverField, show x.payload.toNat / 512 % 2 = 1 from hover]
        rfl
    · obtain ⟨hover, htaken, hheld, hhead⟩ := execEnumReceived_valid (t := t) hlisten hok htype
      rw [hoverField] at hover htaken hheld
      rw [hdepthField] at htaken hheld
      refine ⟨fun hm ho => ⟨_, hover hm ho, unenumerate_state _⟩, fun hm ho hd hr => ⟨_, htaken hm ho hd hr, takeDepth_state _ _⟩,
        fun hm ho hd hr hne => ⟨_, hheld hm ho hd hr hne, ?_⟩, hhead⟩
      obtain ⟨pdepth, ppending, pheld⟩ := pendDepth_state (x.payload.toNat % 512) (symArrive x a)
      exact ⟨pdepth.trans bdepth, ppending, pheld⟩
    · obtain ⟨hmember, hyields, hstays⟩ := execHeadReceived_valid (t := t) hlisten hok htype
      refine ⟨fun h => ?_, hstays⟩
      rcases h with h | ⟨h, hr⟩
      · obtain ⟨trole, tlen, torigin, tepoch, trun, tdepth⟩ := takeHead_state x (symArrive x a)
        exact ⟨_, hmember h, trole.trans (brole.trans h), tlen, torigin, tepoch, trun, tdepth.trans bdepth⟩
      · refine ⟨_, hyields h hr, ?_⟩
        obtain ⟨trole, tlen, torigin, tepoch, trun, tdepth⟩ := takeHead_state x (record srcSync 0x0002 (symField x 9 9)
          { symArrive x a with sync := { (symArrive x a).sync with role := .member } })
        rw [record_sync] at trole tdepth
        exact ⟨trole, tlen, torigin, tepoch, trun, tdepth.trans bdepth⟩
    · have hexec := (execSluiceSymbolReceived_listens (t := t) (x := x) tEnd hlisten).trans (congrArg Host.Outcome.next (if_pos ⟨hok, htype, hrole⟩))
      have hdupEq : isDuplicate x (symArrive x a) = isDuplicate x s := by rw [isDuplicate, isDuplicate, blast]
      refine ⟨fun hdup => ⟨_, hexec, ?_⟩, fun hdup hbank => ⟨_, hexec, ?_⟩, fun hdup hrun hmember hframe harmed hnow => ⟨_, hexec, ?_⟩,
        fun hdup hrun hmember hframe => ⟨_, hexec, ?_⟩⟩
      · rw [takeSluice_duplicate (hdupEq.trans hdup)]
        exact ⟨congrArg incr32 bdup, barmed⟩
      · refine (takeSluice_bank (hdupEq.trans hdup)).trans ((compareBank_mismatch ?_).trans (congrArg incr32 bbank))
        rw [barr, hbankField]
        refine ⟨fun hsel => ?_, fun hsel => ?_⟩ <;> (rw [hsel] at hbank; exact hbank)
      · obtain ⟨carr, csched, -, -⟩ := compareBank_leaves x (symArrive x a)
        rw [takeSluice_taken (hdupEq.trans hdup), bsched, brole, barmed, hframeField, hfineField, blen, bdepth, if_neg (by simp [hrun, hmember]),
          if_neg (fun hne => hne hframe), if_neg (by rw [harmed]; decide), if_neg (Int.not_lt.mpr (by rw [tsc, btime]; exact hnow))]
        exact ⟨rfl, carr.trans barr, csched.trans bsched⟩
      · obtain ⟨-, -, -, csync⟩ := compareBank_leaves x (symArrive x a)
        have carmed : (compareBank x (symArrive x a)).sync.armed = s.sync.armed := by rw [csync]; exact barmed
        have cframe : (compareBank x (symArrive x a)).sync.frameMismatch = s.sync.frameMismatch := by rw [csync]; exact bframe
        rw [takeSluice_taken (hdupEq.trans hdup), bsched, brole, hframeField, if_neg (by simp [hrun, hmember]), if_pos hframe]
        dsimp only
        split
        · exact ⟨carmed, congrArg incr32 cframe⟩
        · rw [record_sync]
          exact ⟨carmed, congrArg incr32 cframe⟩
    · exact (execSluiceSymbolReceived_listens tEnd hlisten).trans (congrArg Host.Outcome.next (if_neg fun h => h.2.2 hrole))
    · have harrive : symArrive x a = { a with sync := { a.sync with validRun := 0 } } := symArrive_bad hbad a
      rw [← harrive]
      refine ⟨execEnumReceived_bad hlisten hbad, execHeadReceived_bad hlisten hbad, ?_⟩
      exact (execSluiceSymbolReceived_listens tEnd hlisten).trans (congrArg Host.Outcome.next (if_neg fun h => by rw [hbad] at h; cases h.1))
  · intro a
    refine ⟨fun hstarted hover => ⟨fun hheard => ?_, fun hheard => ?_⟩, fun hno => (execStartWindowEnd_up hup).trans (if_pos hno),
      fun hloss hvalid => (execSyncLossEnd_eq t s).trans (if_pos ⟨hloss, hvalid⟩), fun hno => ?_, fun hmeasuring hrun delay => ?_, fun hno delay => ?_⟩
    · have hcond : ¬(s.sync.started = true ∨ tsc a ≤ s.sync.windowEnd) := by
        rw [hstarted]
        rintro (h | h)
        · cases h
        · exact absurd hover (Nat.not_lt.mpr h)
      refine ⟨_, (execStartWindowEnd_up hup).trans ((if_neg hcond).trans (if_neg (by rw [hheard]; decide))), ?_⟩
      obtain ⟨hrole, hdepth, hepoch, hstart, hlen⟩ := becomeHead_state { a with sync := { a.sync with started := true } }
      rw [record_sync]
      exact ⟨hrole, hdepth, by rw [hepoch, advance_sync], hstart, by rw [hlen, advance_cfg]⟩
    · have hcond : ¬(s.sync.started = true ∨ tsc a ≤ s.sync.windowEnd) := by
        rw [hstarted]
        rintro (h | h)
        · cases h
        · exact absurd hover (Nat.not_lt.mpr h)
      exact (execStartWindowEnd_up hup).trans ((if_neg hcond).trans (if_pos hheard))
    · refine (execSyncLossEnd_eq t s).trans (if_neg fun h => ?_)
      rcases hno with hl | hv
      · rw [hl] at h; cases h.1
      · exact absurd hv (Nat.not_lt.mpr h.2)
    · refine ⟨_, (execLinkDelayMeasure_up hup delay).trans (if_pos (by rw [hmeasuring, hrun]; rfl)), ?_⟩
      dsimp only
      split <;> simp [sat16]
    · refine (execLinkDelayMeasure_up hup delay).trans (if_neg ?_)
      rcases hno with h | h
      · rw [h, Bool.false_and]; decide
      · rw [h, Bool.not_true, Bool.and_false]; decide

end Sys2Proof.Machine

/-! ## The link ports and the switch (10 R234 to R244) -/

namespace Sys2Proof.Machine

/-! ### The queues -/

/-- The state of the ports, and what the module counts and delivers, are the same: a queue alone changes. -/
abbrev QueueOnly (l m : Links) : Prop :=
  m.aState = l.aState ∧ m.aSpeed = l.aSpeed ∧ m.aMaster = l.aMaster ∧ m.aDown = l.aDown ∧ m.bState = l.bState ∧ m.bSpeed = l.bSpeed
    ∧ m.bMaster = l.bMaster ∧ m.bDown = l.bDown ∧ m.arp = l.arp ∧ m.forwarded = l.forwarded ∧ m.fcsErrors = l.fcsErrors ∧ m.delivered = l.delivered
    ∧ m.peers = l.peers

@[simp] theorem setEgress_queueOnly (p : Port) (e : Egress) (l : Links) : QueueOnly l (setEgress p e l) := by
  cases p <;> simp [QueueOnly, setEgress]

@[simp] theorem setEgress_drop (p : Port) (e : Egress) (l : Links) : (setEgress p e l).egressDrop = l.egressDrop := by cases p <;> rfl

@[simp] theorem joinQueue_queueOnly (now q bytes : Nat) (p : Port) (l : Links) : QueueOnly l (joinQueue now q bytes p l) := by
  unfold joinQueue
  dsimp only
  split
  · exact setEgress_queueOnly ..
  · simp [QueueOnly]

/-- A frame that finds its queue full is counted (10 R239). -/
theorem joinQueue_drop (now q bytes : Nat) (p : Port) (l : Links) :
    (joinQueue now q bytes p l).egressDrop = if egressRoom now q bytes p l then l.egressDrop else incr32 l.egressDrop := by
  unfold joinQueue egressRoom
  simp only [decide_eq_true_iff]
  split
  · exact setEgress_drop ..
  · rfl

/-- An ARP that leaves (10 R241). -/
theorem sendArp_state (now : Nat) (p : Port) (gratuitous : Bool) (l : Links) :
    (sendArp now p gratuitous l).arp = some { port := p, gratuitous := gratuitous, tag := ownTag l 0 }
      ∧ (sendArp now p gratuitous l).aState = l.aState ∧ (sendArp now p gratuitous l).aSpeed = l.aSpeed
      ∧ (sendArp now p gratuitous l).aMaster = l.aMaster ∧ (sendArp now p gratuitous l).aDown = l.aDown
      ∧ (sendArp now p gratuitous l).bState = l.bState ∧ (sendArp now p gratuitous l).bSpeed = l.bSpeed
      ∧ (sendArp now p gratuitous l).bMaster = l.bMaster ∧ (sendArp now p gratuitous l).bDown = l.bDown := by
  simp [sendArp]

/-! ### The ports -/

theorem hasPort_advance (t : Nat) (s : State) (p : Port) : hasPort (advance t s) p = hasPort s p := by simp [hasPort, hasLinkB]

theorem arrayUp_advance (t : Nat) (s : State) : arrayUp (advance t s) = arrayUp s := by simp [arrayUp]

theorem cutMonitor_link (s : State) : (cutMonitor s).link = s.link := by
  unfold cutMonitor
  (repeat' split) <;> rfl

/-- The link after LINK_UP, with the ARP that waited (10 R240). -/
def linkRaised (now : Nat) (port : Port) (mode : LinkMode) (l : Links) : Links :=
  let u := match port with
    | .a => { l with aState := 2, aSpeed := mode.speed, aMaster := mode.master, aDown := none }
    | .b => { l with bState := 2, bSpeed := mode.speed, bMaster := mode.master, bDown := none }
  if u.arpDue then sendArp now port true { u with arpDue := false } else u

theorem linkRaised_a (now : Nat) (mode : LinkMode) (l : Links) :
    (linkRaised now .a mode l).aState = 2 ∧ (linkRaised now .a mode l).aSpeed = mode.speed ∧ (linkRaised now .a mode l).aMaster = mode.master
      ∧ (linkRaised now .a mode l).aDown = none := by
  unfold linkRaised
  dsimp only
  split <;> simp [sendArp_state]

theorem linkRaised_b (now : Nat) (mode : LinkMode) (l : Links) :
    (linkRaised now .b mode l).bState = 2 ∧ (linkRaised now .b mode l).bSpeed = mode.speed ∧ (linkRaised now .b mode l).bMaster = mode.master
      ∧ (linkRaised now .b mode l).bDown = none := by
  unfold linkRaised
  dsimp only
  split <;> simp [sendArp_state]

section
variable {t : Nat} {s : State} (hup : arrayUp s = true)
include hup

theorem execLinkDown_a (training : Bool) : execLinkDown t { port := .a, training := training } s =
    if s.link.aState = 2 then .next (cutMonitor { advance t s with
      link := { (advance t s).link with aState := bit training, aSpeed := 0, egressA := {}, aDown := some (tsc (advance t s)) } })
    else .next { advance t s with link := { (advance t s).link with aState := bit training } } := by
  unfold execLinkDown
  rw [if_neg (by simp [hasPort])]
  dsimp only
  rw [linkUpOn_advance, arrayUp_advance, hup]
  simp [linkUpOn]

theorem execLinkDown_b (hport : s.fuse.variant ≠ .e) (training : Bool) : execLinkDown t { port := .b, training := training } s =
    if s.link.bState = 2 then .next { advance t s with
      link := { (advance t s).link with bState := bit training, bSpeed := 0, egressB := {}, bDown := some (tsc (advance t s)) } }
    else .next { advance t s with link := { (advance t s).link with bState := bit training } } := by
  unfold execLinkDown
  rw [if_neg (by simp [hasPort, hasLinkB, hport])]
  dsimp only
  rw [linkUpOn_advance, arrayUp_advance, hup]
  simp [linkUpOn]

/-- A port that comes up (10 R234, R236). -/
theorem execLinkUp_up {port : Port} {mode : LinkMode} (hport : hasPort s port = true) (hlow : 1 ≤ mode.speed) (hhigh : mode.speed ≤ 3) :
    execLinkUp t port mode s =
      if phyAllowed s.link.inForce port mode.speed mode.master then .next (endSource (linkSource port) { advance t s with
        link := linkRaised (tsc (advance t s)) port mode (advance t s).link })
      else .next (advance t s) := by
  have hspeed : between mode.speed 1 3 = true := by rw [between, decide_eq_true hlow, decide_eq_true hhigh]; rfl
  unfold execLinkUp linkRaised
  rw [if_neg (by rw [hport, hspeed]; decide)]
  dsimp only
  rw [arrayUp_advance, hup, advance_link]
  cases phyAllowed s.link.inForce port mode.speed mode.master
  · rfl
  · cases port <;> rfl

end

/-- An ARP request on a port with link (10 R241). -/
theorem execArpRequest_port {t : Nat} {s : State} {p : Port} (hup : arrayUp s = true) (hport : hasPort s p = true) (hlink : linkUpOn s p = true)
    (target : Nat) : execArpRequest t p target s =
      if s.link.ip = some target then .next { advance t s with link := sendArp (tsc (advance t s)) p false (advance t s).link }
      else .next (advance t s) := by
  unfold execArpRequest
  rw [if_neg (by rw [hport]; decide)]
  dsimp only
  rw [arrayUp_advance, linkUpOn_advance, hup, hlink, Bool.and_self, Bool.true_and, advance_link]
  simp only [decide_eq_true_iff]

/-! ### Frames -/

/-- A frame that is forwarded leaves the counters of the ports and what was delivered (10 R238). -/
theorem forwardFrame_leaves (f : EthFrame) (s : State) :
    (forwardFrame f s).link.fcsErrors = s.link.fcsErrors ∧ (forwardFrame f s).link.delivered = s.link.delivered
      ∧ (forwardFrame f s).link.peers = s.link.peers := by
  unfold forwardFrame cutThrough
  dsimp only
  (repeat' split) <;> simp

/-- A good frame for another module, over a port with link (10 R238, R239). -/
theorem forwardFrame_good {f : EthFrame} {s : State} (hport : s.fuse.variant ≠ .e) (hout : linkUpOn s (otherPort f.port) = true) (hfcs : f.fcsOk = true) :
    (cutsThrough s f = true → (forwardFrame f s).link.forwarded = some { port := otherPort f.port, frame := f, cutThrough := true }
        ∧ (forwardFrame f s).link.egressDrop = s.link.egressDrop)
      ∧ (cutsThrough s f = false → egressRoom (tsc s) (egressQueue f.tag) f.bytes (otherPort f.port) s.link = true →
        (forwardFrame f s).link.forwarded = some { port := otherPort f.port, frame := f, cutThrough := false }
        ∧ (forwardFrame f s).link.egressDrop = s.link.egressDrop)
      ∧ (cutsThrough s f = false → egressRoom (tsc s) (egressQueue f.tag) f.bytes (otherPort f.port) s.link = false →
        (forwardFrame f s).link.forwarded = s.link.forwarded ∧ (forwardFrame f s).link.egressDrop = incr32 s.link.egressDrop) := by
  have hgoes : ¬(!hasLinkB s || !linkUpOn s (otherPort f.port)) = true := by simp [hasLinkB, hport, hout]
  unfold forwardFrame
  dsimp only
  rw [if_neg hgoes]
  refine ⟨fun hcut => ?_, fun hcut hroom => ?_, fun hcut hroom => ?_⟩
  · rw [if_pos hcut]
    simp [cutThrough]
  · rw [if_neg (by rw [hcut]; decide), if_neg (by rw [hfcs]; decide), if_pos hroom]
    have hroom' : egressRoom (tsc s) (egressQueue f.tag) f.bytes (otherPort f.port)
        { s.link with forwarded := some { port := otherPort f.port, frame := f, cutThrough := false } } = true := by
      rw [← hroom]
      cases otherPort f.port <;> rfl
    simp [joinQueue_drop, hroom']
  · rw [if_neg (by rw [hcut]; decide), if_neg (by rw [hfcs]; decide), if_neg (by rw [hroom]; decide)]
    simp [joinQueue_drop, hroom]

theorem deliverFrame_forwarded (f : EthFrame) (s : State) : (deliverFrame f s).link.forwarded = s.link.forwarded := by
  unfold deliverFrame
  (repeat' split) <;> rfl

/-- Where a frame for one module goes (10 Table 10.3). -/
theorem frameRoute_unicast {own dst : Nat} (hgroup : isGroup dst = false) (hfree : dst < 0x0180C2000000 ∨ 0x0180C200000F < dst) :
    frameRoute own dst = (decide (dst ≠ own), decide (dst = own)) := by
  unfold frameRoute reservedMac
  rw [if_neg (by omega), if_neg (by omega), hgroup, if_neg (by decide)]
  split
  case isTrue h => simp [h]
  case isFalse h => simp [h]

section
variable {t : Nat} {s : State} {f : EthFrame} (hup : arrayUp s = true) (hport : hasPort s f.port = true) (hlink : linkUpOn s f.port = true)
include hup hport hlink

theorem execEthernetFrame_up : execEthernetFrame t f s =
    let u := if f.fcsOk then advance t s else { advance t s with link := { (advance t s).link with fcsErrors := incr32 (advance t s).link.fcsErrors } }
    if f.pause || decide (1522 < f.bytes) then .next u
    else
      let v := if (frameRoute u.fuse.mac f.dst).1 then forwardFrame f u else u
      .next (if (frameRoute u.fuse.mac f.dst).2 && f.fcsOk then deliverFrame f v else v) := by
  unfold execEthernetFrame
  rw [if_neg (by rw [hport]; decide)]
  dsimp only
  rw [arrayUp_advance, linkUpOn_advance, hup, hlink, if_neg (by decide)]

/-- A frame with a wrong FCS is counted and not delivered (10 Table 10.3). -/
theorem execEthernetFrame_bad (hbad : f.fcsOk = false) : ∃ u, execEthernetFrame t f s = .next u ∧ u.link.fcsErrors = incr32 s.link.fcsErrors
    ∧ u.link.delivered = s.link.delivered ∧ u.link.peers = s.link.peers := by
  rw [execEthernetFrame_up hup hport hlink, hbad]
  extract_lets a l u v
  have hu : u.link.fcsErrors = incr32 s.link.fcsErrors ∧ u.link.delivered = s.link.delivered ∧ u.link.peers = s.link.peers := by simp [u, a, l]
  split
  · exact ⟨_, rfl, hu⟩
  · refine ⟨v, by rw [Bool.and_false]; rfl, ?_⟩
    unfold v
    split
    · obtain ⟨h1, h2, h3⟩ := forwardFrame_leaves f u
      rwa [h1, h2, h3]
    · exact hu

/-- A good frame for one module. -/
theorem execEthernetFrame_unicast (hgood : f.fcsOk = true) (hpause : f.pause = false) (hbytes : f.bytes ≤ 1522) (hgroup : isGroup f.dst = false)
    (hfree : f.dst < 0x0180C2000000 ∨ 0x0180C200000F < f.dst) : execEthernetFrame t f s =
      if f.dst = s.fuse.mac then .next (deliverFrame f (advance t s)) else .next (forwardFrame f (advance t s)) := by
  rw [execEthernetFrame_up hup hport hlink, hgood, hpause]
  dsimp only
  rw [if_pos rfl, decide_eq_false (Nat.not_lt.mpr hbytes), frameRoute_unicast hgroup hfree, advance_fuse]
  by_cases h : f.dst = s.fuse.mac <;> simp [h]

end

/-- Settles O56. -/
theorem linkPortsForward : Obligations.LinkPortsForward := by
  unfold Obligations.LinkPortsForward
  intro t s hup a
  have hlink : a.link = s.link := advance_link t s
  have hporta : hasPort s .a = true := rfl
  have hportb (hb : s.fuse.variant ≠ .e) : hasPort s .b = true := by simp [hasPort, hasLinkB, hb]
  refine ⟨fun training => ⟨fun hstate => ?_, fun hstate => (execLinkDown_a hup training).trans (if_neg hstate),
      fun hb hstate => (execLinkDown_b hup hb training).trans (if_pos hstate), fun hb hstate => (execLinkDown_b hup hb training).trans (if_neg hstate)⟩,
    fun mode hlow hhigh => ⟨fun hphy => ?_, fun hphy => ?_, fun hb hphy => ?_, fun hb hphy => ?_⟩,
    fun f hport hlinkUp => ⟨fun hbad => ?_, fun hgood hlong => ?_, fun hgood hpause hbytes hgroup hfree => ⟨fun hown => ⟨?_, ?_⟩,
      fun hother hb hout => ?_⟩⟩, fun p ip hport hlinkUp hip => ⟨?_, fun other hne => ?_⟩⟩
  · refine ⟨_, (execLinkDown_a hup training).trans (if_pos hstate), ?_⟩
    dsimp only
    rw [cutMonitor_link]
    exact ⟨rfl, rfl, rfl, show a.link.bState = _ from congrArg Links.bState hlink⟩
  · refine ⟨_, (execLinkUp_up hup hporta hlow hhigh).trans (if_pos hphy), ?_⟩
    obtain ⟨h1, h2, h3, h4⟩ := linkRaised_a (tsc a) mode a.link
    simp only [linkSource, endSource_lightOnly]
    exact ⟨h1, h2, h3, h4, hasBit_endSource_cond rfl _⟩
  · exact (execLinkUp_up hup hporta hlow hhigh).trans (if_neg (by rw [hphy]; decide))
  · refine ⟨_, (execLinkUp_up hup (hportb hb) hlow hhigh).trans (if_pos hphy), ?_⟩
    obtain ⟨h1, h2, h3, h4⟩ := linkRaised_b (tsc a) mode a.link
    simp only [linkSource, endSource_lightOnly]
    exact ⟨h1, h2, h3, h4, hasBit_endSource_cond rfl _⟩
  · exact (execLinkUp_up hup (hportb hb) hlow hhigh).trans (if_neg (by rw [hphy]; decide))
  · exact execEthernetFrame_bad hup hport hlinkUp hbad
  · refine (execEthernetFrame_up hup hport hlinkUp).trans ?_
    dsimp only
    rw [hgood, if_pos rfl, if_pos]
    rcases hlong with h | h
    · rw [h]; rfl
    · rw [decide_eq_true h, Bool.or_true]
  · exact (execEthernetFrame_unicast hup hport hlinkUp hgood hpause hbytes hgroup hfree).trans (if_pos hown)
  · exact (deliverFrame_forwarded f a).trans (congrArg Links.forwarded hlink)
  · intro room
    have hexec := (execEthernetFrame_unicast (t := t) hup hport hlinkUp hgood hpause hbytes hgroup hfree).trans (if_neg hother)
    obtain ⟨hcut, hstored, hfull⟩ := forwardFrame_good (s := a) (f := f) (by rw [advance_fuse]; exact hb) ((linkUpOn_advance t s _).trans hout) hgood
    rw [hlink] at hcut hstored hfull
    exact ⟨fun h => ⟨_, hexec, hcut h⟩, fun h hr => ⟨_, hexec, hstored h hr⟩, fun h hr => ⟨_, hexec, hfull h hr⟩⟩
  · refine ⟨_, (execArpRequest_port hup hport hlinkUp ip).trans (if_pos hip), ?_, advance_arr t s⟩
    refine (sendArp_state _ _ _ _).1.trans ?_
    rw [hlink]
  · exact (execArpRequest_port hup hport hlinkUp other).trans (if_neg fun h => hne (Option.some_inj.mp (h.symm.trans hip)))

end Sys2Proof.Machine

/-! ## Video packets and the service port (10 R245 to R247, R253 to R255) -/

namespace Sys2Proof.Machine

/-! ### Video -/

section
variable {t : Nat} {s : State} (hup : arrayUp s = true)
include hup

/-- A datagram, by what the internal port accepts (10 R241). -/
theorem execBrineVideoPacket_up (d : Datagram) : execBrineVideoPacket t d s =
    if !ipAccepted s d.ip || decide (d.ip.dstPort ≠ 50111) then .next (advance t s)
    else if boundRows (advance t s) d.payload = [] then
      .next { advance t s with link := { (advance t s).link with unbound := incr32 (advance t s).link.unbound } }
    else .next ((boundRows (advance t s) d.payload).foldl (fun s r => deliverPacket r d.payload s) (advance t s)) := by
  have hip : ipAccepted (advance t s) d.ip = ipAccepted s d.ip := by simp [ipAccepted]
  unfold execBrineVideoPacket
  dsimp only
  rw [arrayUp_advance, hup, hip, Bool.not_true, Bool.false_or]

/-- A frame on the service port (10 R253). -/
theorem execCanFrame_up {f : CanFrame} (hlen : f.data.length ≤ 64) : execCanFrame t f s =
    if s.can.busOff = false ∧ canReqId s = some f.id then .next { advance t s with can := isoFrame (tsc (advance t s)) f s.can }
    else .next (advance t s) := by
  have hid : canReqId (advance t s) = canReqId s := by simp [canReqId]
  unfold execCanFrame
  rw [if_neg (Nat.not_lt.mpr hlen)]
  dsimp only
  rw [arrayUp_advance, hup, hid, advance_can, Bool.true_and]
  simp only [Bool.and_eq_true, Bool.not_eq_true', decide_eq_true_iff]

end

/-! ### Frames of the transport (10 R255) -/

section
variable {c : CanPort} (hrx : c.rx = none) (hsend : c.sending = none)

include hrx in
theorem isoExpire_idle (now : Nat) : isoExpire now c = c := by
  rw [isoExpire, hrx]
  rfl

include hsend in
theorem sendExpire_idle (now id : Nat) : sendExpire now id c = c := by
  rw [sendExpire, hsend]
  rfl

include hrx in
theorem isoRestart_idle : isoRestart c = c := by
  rw [isoRestart, hrx]
  rfl

include hrx hsend

/-- A frame on an idle transport, by its kind. -/
theorem isoFrame_idle (now : Nat) (f : CanFrame) :
    (f.fd = false → isoFrame now f c = { c with isoErrors := incr32 c.isoErrors })
      ∧ (f.fd = true → byteAt f.data 0 / 16 = 0 → isoFrame now f c = isoSingle f.data c)
      ∧ (f.fd = true → byteAt f.data 0 / 16 = 1 → isoFrame now f c = isoFirst now (f.id + 1) f.data c) := by
  unfold isoFrame
  dsimp only
  rw [isoExpire_idle hrx, sendExpire_idle hsend]
  refine ⟨fun h => if_pos (by rw [h]; rfl), fun h hkind => ?_, fun h hkind => ?_⟩ <;>
  · rw [if_neg (by rw [h]; decide), hkind]
    rfl

end

theorem byteAt_ofNat_zero {n : Nat} (body : List Byte) (h : n < 256) : byteAt (BitVec.ofNat 8 n :: body) 0 = n :=
  (BitVec.toNat_ofNat n 8).trans (Nat.mod_eq_of_lt h)

theorem byteAt_ofNat_one (x : Byte) (n : Nat) (body : List Byte) : byteAt (x :: BitVec.ofNat 8 n :: body) 1 = n % 256 := BitVec.toNat_ofNat n 8

/-- A short single frame that is complete (10 Table 10.9). -/
theorem isoSingle_complete {c : CanPort} {n : Nat} {body : List Byte} (hrx : c.rx = none) (hlow : 1 ≤ n) (hhigh : n ≤ 7) (hlen : body.length = n) :
    isoSingle (BitVec.ofNat 8 n :: body) c = { c with complete := some body } := by
  have hshort : decide ((BitVec.ofNat 8 n :: body).length ≤ 8) = true := by
    rw [decide_eq_true_iff, List.length_cons]
    omega
  unfold isoSingle
  dsimp only
  rw [hshort, isoRestart_idle hrx, if_pos rfl, byteAt_ofNat_zero body (by omega), if_pos rfl, List.drop_one, List.tail_cons, if_neg,
    List.take_of_length_le (Nat.le_of_eq hlen)]
  rintro (h | h | h)
  · omega
  · exact absurd h.1 (by decide)
  · omega

/-- A first frame whose message is longer than what it holds (10 Table 10.9). -/
theorem isoFirst_starts {c : CanPort} {n : Nat} {body : List Byte} (now txId : Nat) (hrx : c.rx = none) (hlen : body.length < n) (hlong : n < 4096) :
    isoFirst now txId (BitVec.ofNat 8 (16 + n / 256) :: BitVec.ofNat 8 n :: body) c =
      if 1472 < n then canEmit now txId (flowControl 2) c
      else canEmit now txId (flowControl 0) { c with rx := some { total := n, bytes := body, next := 1, last := now } } := by
  have hdl : byteAt (BitVec.ofNat 8 (16 + n / 256) :: BitVec.ofNat 8 n :: body) 0 % 16 * 256
      + byteAt (BitVec.ofNat 8 (16 + n / 256) :: BitVec.ofNat 8 n :: body) 1 = n := by
    rw [byteAt_ofNat_zero _ (by omega), byteAt_ofNat_one]
    omega
  unfold isoFirst
  dsimp only
  rw [hdl, isoRestart_idle hrx, decide_eq_false (by omega)]
  simp only [Bool.false_eq_true, if_false, List.drop_succ_cons, List.drop_zero]
  rw [if_neg (c := n ≤ body.length) (by omega)]

/-! ### Expiry and bus-off -/

theorem canFlush_busOffs (now id : Nat) (l : List (List Byte)) (c : CanPort) : (canFlush now id l c).busOffs = c.busOffs := by
  induction l generalizing c with
  | nil => rfl
  | cons m ms ih =>
    unfold canFlush
    split
    · exact ih _
    · rfl

theorem canResume_busOffs (s : State) : (canResume s).busOffs = s.can.busOffs := by
  unfold canResume
  split
  · rfl
  · exact canFlush_busOffs _ _ _ _

/-- A reception whose consecutive frame stays away ends, counted (10 R255). -/
theorem isoExpire_some {c : CanPort} {r : IsoRx} (now : Nat) (h : c.rx = some r) :
    isoExpire now c = if r.last + 100000000 < now then { c with isoErrors := incr32 c.isoErrors, rx := none } else c := by
  rw [isoExpire, h, Option.elim_some]
  simp only [decide_eq_true_iff]
  rfl

/-- A transmission whose flow control stays away ends, counted; nothing waits behind it. -/
theorem sendExpire_over {c : CanPort} {x : IsoTx} (now id : Nat) (h : c.sending = some x) (hover : x.since + 100000000 < now) (hq : c.sendq = []) :
    sendExpire now id c = { c with isoErrors := incr32 c.isoErrors, sending := none } := by
  rw [sendExpire, h, Option.elim_some, if_pos (by rw [decide_eq_true_iff]; exact hover), canAbort, canNext]
  dsimp only
  rw [hq, canFlush]

theorem execIsotpTimeout_eq (t : Nat) (s : State) : execIsotpTimeout t s = .next { advance t s with
    can := sendExpire (tsc (advance t s)) ((canTxId (advance t s)).getD 0) (isoExpire (tsc (advance t s)) (advance t s).can) } := rfl

theorem execCanBusOff_off (t : Nat) (s : State) : execCanBusOff t .busOff s = .next { advance t s with
    can := { (advance t s).can with busOff := true, errPassive := false,
                                    busOffs := if (advance t s).can.busOff then (advance t s).can.busOffs else incr32 (advance t s).can.busOffs } } := by
  unfold execCanBusOff
  dsimp only
  rw [if_pos rfl]

/-- Settles O57. -/
theorem videoAndServicePort : Obligations.VideoAndServicePort := by
  unfold Obligations.VideoAndServicePort
  intro t s hup a
  have hcan : a.can = s.can := advance_can t s
  refine ⟨fun d => ⟨fun hno => ?_, fun haccepted hport => ⟨fun hnone => ?_, fun hsome => ?_⟩, fun r b hbad => if_pos hbad⟩, fun item => rfl,
    fun f hlen => ⟨fun hno => ?_, fun hid hbus hrx hsend => ⟨fun hfd => ?_, fun n body hfd hdata hlow hhigh hbody => ?_,
      fun n body hfd hdata hbody => ⟨fun hshort => ?_, fun hlong hlt => ?_⟩⟩⟩,
    fun hrx hsend => ?_, fun r hrx hsend => ⟨fun hover => ?_, fun hwithin => ?_⟩, fun x hrx hsend hover hq => ?_, fun hbus => ?_, fun hbus => ?_,
    fun st hst => ?_⟩
  · refine (execBrineVideoPacket_up hup d).trans (if_pos ?_)
    rcases hno with h | h
    · rw [h]; rfl
    · rw [decide_eq_true h, Bool.or_true]
  · exact (execBrineVideoPacket_up hup d).trans ((if_neg (by simp [haccepted, hport])).trans (if_pos hnone))
  · exact (execBrineVideoPacket_up hup d).trans ((if_neg (by simp [haccepted, hport])).trans (if_neg hsome))
  · refine (execCanFrame_up hup hlen).trans (if_neg ?_)
    rintro ⟨hbus, hid⟩
    rcases hno with h | h
    · exact h hid
    · rw [h] at hbus; cases hbus
  · refine (execCanFrame_up hup hlen).trans ((if_pos ⟨hbus, hid⟩).trans ?_)
    rw [(isoFrame_idle hrx hsend _ f).1 hfd, hcan]
  · refine (execCanFrame_up hup hlen).trans ((if_pos ⟨hbus, hid⟩).trans ?_)
    have hkind : byteAt f.data 0 / 16 = 0 := by rw [hdata, byteAt_ofNat_zero body (by omega)]; omega
    rw [(isoFrame_idle hrx hsend _ f).2.1 hfd hkind, hdata, isoSingle_complete hrx hlow hhigh hbody, hcan]
  · have hkind : byteAt f.data 0 / 16 = 1 := by rw [hdata, byteAt_ofNat_zero _ (by omega)]; omega
    refine ⟨_, (execCanFrame_up hup hlen).trans (if_pos ⟨hbus, hid⟩), ?_⟩
    rw [(isoFrame_idle hrx hsend _ f).2.2 hfd hkind, hdata, isoFirst_starts _ _ hrx hbody (by omega), if_neg (Nat.not_lt.mpr hshort)]
    exact ⟨rfl, rfl⟩
  · have hkind : byteAt f.data 0 / 16 = 1 := by rw [hdata, byteAt_ofNat_zero _ (by omega)]; omega
    refine ⟨_, (execCanFrame_up hup hlen).trans (if_pos ⟨hbus, hid⟩), ?_⟩
    rw [(isoFrame_idle hrx hsend _ f).2.2 hfd hkind, hdata, isoFirst_starts _ _ hrx hbody hlt, if_pos hlong]
    exact ⟨hrx, rfl⟩
  · refine (execIsotpTimeout_eq t s).trans ?_
    rw [hcan, isoExpire_idle hrx, sendExpire_idle hsend, ← hcan]
  · refine (execIsotpTimeout_eq t s).trans ?_
    rw [hcan, isoExpire_some _ hrx, if_pos hover, sendExpire_idle (c := { s.can with isoErrors := incr32 s.can.isoErrors, rx := none }) hsend]
  · refine (execIsotpTimeout_eq t s).trans ?_
    rw [hcan, isoExpire_some _ hrx, if_neg (Nat.not_lt.mpr hwithin), sendExpire_idle hsend, ← hcan]
  · refine (execIsotpTimeout_eq t s).trans ?_
    rw [hcan, isoExpire_idle hrx, sendExpire_over _ _ hsend hover hq]
  · refine (execCanBusOff_off t s).trans ?_
    rw [hcan, hbus, if_neg (by decide)]
  · refine (execCanBusOff_off t s).trans ?_
    rw [hcan, if_pos hbus, ← hbus]
  · refine ⟨_, if_neg hst, rfl, rfl, ?_⟩
    exact (canResume_busOffs a).trans (congrArg CanPort.busOffs hcan)

end Sys2Proof.Machine

/-! ## Converters and heat (chapter 14, 04 R97, 18 R422 to R425) -/

namespace Sys2Proof.Machine

/-! ### Entries counted -/

/-- What counting the samples of an entry leaves. -/
def uncounted (s : State) : List Int × Nat × Nat × Nat × CalData × Collector × Fuses × TimeBase :=
  (s.conv.readings, s.conv.lastScan, s.conv.selfRun, s.conv.selfFails, s.conv.cal, s.flt, s.fuse, s.time)

@[simp] theorem record_uncounted (source code data : Nat) (s : State) : uncounted (record source code data s) = uncounted s := by simp [uncounted]

@[simp] theorem noteTaint_uncounted (n input : Nat) (l : List Sample) (s : State) : uncounted (noteTaint n input l s) = uncounted s := by
  unfold noteTaint
  dsimp only
  split
  · split
    · rfl
    · rw [record_uncounted]
      rfl
  · rfl

@[simp] theorem countEntry_uncounted (n input : Nat) (l : List Sample) (s : State) : uncounted (countEntry n input l s) = uncounted s := by
  unfold countEntry
  rw [noteTaint_uncounted]
  rfl

@[simp] theorem countEntries_uncounted (n first : Nat) (entries : List (List Sample)) (s : State) :
    uncounted (countEntries n first entries s) = uncounted s := by
  unfold countEntries
  exact foldl_keeps uncounted (fun s (e : List Sample × Nat) => countEntry_uncounted n (first + e.2) e.1 s) _ s

/-- A scan's readings are taken (14 R335). -/
theorem takeReadings_state (r : List (List Sample)) (s : State) :
    (takeReadings r s).conv.readings.length = r.length ∧ (takeReadings r s).conv.lastScan = tsc s := by
  unfold takeReadings
  dsimp only
  generalize hu : ({ s with conv := _ } : State) = u
  obtain ⟨hreadings, hscan, -⟩ : _ ∧ _ ∧ _ := by simpa [uncounted] using countEntries_uncounted 8 1 r u
  rw [hreadings, hscan, ← hu]
  exact ⟨by simp, rfl⟩

/-! ### Urgent requests -/

@[simp] theorem touchWindow_conv (s : State) : (touchWindow s).conv = s.conv := by
  unfold touchWindow
  (repeat' split) <;> rfl

/-- An urgent request that finds its slot occupied is dropped (14 R333). -/
theorem urgent_dropped {input e : Nat} {x : Sample} {s : State} (h : s.conv.urgentUntil = some e) (hbusy : tsc s < e) :
    (urgent input x s).conv.urgentDrop = incr32 s.conv.urgentDrop ∧ (urgent input x s).conv.urgentResult = s.conv.urgentResult
      ∧ (urgent input x s).conv.urgentUntil = s.conv.urgentUntil := by
  unfold urgent
  rw [if_pos (by rw [h, Option.elim_some, decide_eq_true hbusy])]
  dsimp only
  split <;> simp

/-- An urgent request that is taken (14 R333, R334). -/
theorem urgent_taken {input : Nat} {x : Sample} {s : State} (hfree : ∀ e, s.conv.urgentUntil = some e → e ≤ tsc s) :
    (urgent input x s).conv.urgentResult = some (input, sampleResult s.conv.cal (scanConv s) input x)
      ∧ (urgent input x s).conv.urgentDrop = s.conv.urgentDrop
      ∧ (urgent input x s).conv.urgentUntil = some (tsc s + if isWarm s (scanConv s) then 60 else 310) := by
  have hidle : ¬(s.conv.urgentUntil.elim false fun u => decide (tsc s < u)) = true := by
    cases h : s.conv.urgentUntil with
    | none => exact Bool.false_ne_true
    | some e => rw [Option.elim_some, decide_eq_false (Nat.not_lt.mpr (hfree e h))]; decide
  unfold urgent
  rw [if_neg hidle]
  dsimp only
  rw [touchWindow_conv]
  exact ⟨rfl, rfl, rfl⟩

/-! ### The self-test -/

/-- FS38 has no block action. -/
theorem deliver_selftest (data : Nat) (forced : Bool) (s : State) : deliver 38 data forced true s = deliver 38 data forced false s := by
  unfold deliver
  split <;> rfl

theorem deliver_cond (src data : Nat) (forced : Bool) (s : State) : (deliver src data forced false s).flt.cond = s.flt.cond := by
  cases h : isShadowed s src data with
  | true =>
    rw [deliver_shadowed _ _ h]
    exact (deliverShadowed_steady ..).2.2.1
  | false =>
    obtain ⟨-, -, -, -, -, -, hcond, -⟩ := deliver_latched (forced := forced) (act := false) h
    rw [hcond, latchedBy, latchFirst_eq]
    rfl

/-- FS38 is asserted, and a calibration run that it interrupts leaves the converters' counters (14 R336, R341). -/
theorem assertSource_selftest (data : Nat) (s : State) :
    (assertSource 38 data false s).conv = s.conv ∧ hasBit (assertSource 38 data false s).flt.cond 38 = true := by
  have hnoted : conditionNoted 38 data false s = _ := conditionNoted_level rfl
  rw [assertSource_eq]
  split
  · rw [hnoted]
    exact ⟨rfl, hasBit_withBit_same _ (by decide)⟩
  · rw [deliver_selftest, deliver_conv, deliver_cond, hnoted]
    exact ⟨rfl, hasBit_withBit_same _ (by decide)⟩

/-- A self-test that passes, and one that fails (14 R336). -/
theorem selfOutcome_state (x y : List Int) (s : State) :
    (selfFinding x y s = none → (selfOutcome x y s).conv.selfRun = 0 ∧ (selfOutcome x y s).conv.selfFails = s.conv.selfFails
        ∧ hasBit (selfOutcome x y s).flt.cond 38 = false)
      ∧ (selfFinding x y s ≠ none → (selfOutcome x y s).conv.selfRun = s.conv.selfRun + 1
        ∧ (selfOutcome x y s).conv.selfFails = incr32 s.conv.selfFails ∧ (s.conv.selfRun = 0 → (selfOutcome x y s).flt = s.flt)
        ∧ (1 ≤ s.conv.selfRun → hasBit (selfOutcome x y s).flt.cond 38 = true)) := by
  unfold selfOutcome
  cases h : selfFinding x y s with
  | none =>
    refine ⟨fun _ => ?_, fun hne => absurd rfl hne⟩
    dsimp only
    rw [(endSource_lightOnly 38 _).2.2.2.2.2.2.2.2.2.1]
    exact ⟨rfl, rfl, hasBit_endSource_cond rfl _⟩
  | some data =>
    refine ⟨fun hnone => (nomatch hnone), fun _ => ?_⟩
    dsimp only
    split
    case isTrue h2 =>
      obtain ⟨hconv, hcond⟩ := assertSource_selftest data
        { s with conv := { s.conv with selfFails := incr32 s.conv.selfFails, selfRun := s.conv.selfRun + 1 } }
      rw [hconv]
      exact ⟨rfl, rfl, fun h0 => absurd h2 (by omega), fun _ => hcond⟩
    case isFalse h2 => exact ⟨rfl, rfl, fun _ => rfl, fun h1 => absurd h1 (by omega)⟩

/-- The entries of a self-test counted, before it is judged. -/
def selfCounted (x y : List (List Sample)) (s : State) : State :=
  let u := countEntries 16 25 x { s with conv := { s.conv with selfAt := some (tsc s) } }
  if hasConvB u then countEntries 16 25 y u else u

theorem takeSelftest_eq (x y : List (List Sample)) (s : State) : takeSelftest x y s =
    selfOutcome (x.map (selfResult s.conv.cal .a)) (y.map (selfResult s.conv.cal .b)) (selfCounted x y s) := rfl

theorem selfCounted_uncounted (x y : List (List Sample)) (s : State) : uncounted (selfCounted x y s) = uncounted s := by
  unfold selfCounted
  extract_lets old u
  have hu : uncounted u = uncounted s := countEntries_uncounted ..
  split
  · rw [countEntries_uncounted, hu]
  · exact hu

theorem selfFinding_counted (a b : List Int) (x y : List (List Sample)) (s : State) : selfFinding a b (selfCounted x y s) = selfFinding a b s := by
  obtain ⟨-, -, -, -, -, -, hfuse, htime⟩ : _ ∧ _ ∧ _ ∧ _ ∧ _ ∧ _ ∧ _ ∧ _ := by simpa [uncounted] using selfCounted_uncounted x y s
  unfold selfFinding hasConvB tsc
  rw [hfuse, htime]

/-! ### The commands -/

section

variable {t : Nat} {s : State}

theorem execScan_eq {r : List (List Sample)} (hlen : r.length = 23) (hok : r.all (entryOk 8) = true) (hup : arrayUp s = true) :
    exec (.scan t r) s = if (scanDue (advance t s) && !reserved (advance t s)) = true
      then .next (followInterlock (followHeat (takeReadings r (advance t s)))) else .next (advance t s) := by
  refine (if_neg (by simp [hlen, hok]) : execScan t r s = _).trans ?_
  dsimp only
  rw [arrayUp_advance, hup, Bool.true_and]

theorem execThermalStep_early (h : tsc (advance t s) < s.gov.stepFrom + 100000000) : exec (.thermalStep t) s = .next (advance t s) :=
  if_pos (by rwa [advance_gov])

theorem execThermalStep_steps (h : s.gov.stepFrom + 100000000 ≤ tsc (advance t s)) : NextIs (exec (.thermalStep t) s) fun u =>
    u.gov.step = (if hasBit s.flt.cond 29 then min 8 (s.gov.step + 1) else s.gov.step - 1)
      ∧ u.gov.stepFrom = s.gov.stepFrom + 100000000 ∧ u.arr = s.arr := by
  refine ⟨_, (if_neg (by rw [advance_gov]; exact Nat.not_lt.mpr h) : execThermalStep t s = _), ?_⟩
  dsimp only
  rw [advance_flt, advance_gov]
  simp

theorem execUrgentRequest_eq {input : Nat} {x : Sample} (hi : input < 30) (hx : sampleOk x = true) (hup : arrayUp s = true) :
    exec (.urgentRequest t input x) s = .next (urgent input x (advance t s)) := by
  refine (if_neg (by simp [hx, hi]) : execUrgentRequest t input x s = _).trans ?_
  dsimp only
  rw [arrayUp_advance, if_pos hup]

theorem execShutdownComparator_eq {input : Nat} {x : Sample} (h10 : 10 ≤ input) (h20 : input < 20) (hx : sampleOk x = true)
    (hup : arrayUp s = true) : exec (.shutdownComparator t input x) s =
      .next (assertSource (if input < 18 then 30 else 33) input false (urgent input x (advance t s))) := by
  refine (if_neg (by simp [hx, h10, h20]) : execShutdownComparator t input x s = _).trans ?_
  dsimp only
  rw [arrayUp_advance, if_pos hup]

theorem execSelftest_eq {x y : List (List Sample)} (hx : x.length = 4) (hy : y.length = 4) (hok : (x ++ y).all (entryOk 16) = true)
    (hup : arrayUp s = true) : exec (.selftest t x y) s =
      if (!reserved (advance t s) && s.conv.selfAt.elim true fun t0 => decide (t0 + 10000000 ≤ tsc (advance t s))) = true
      then .next (takeSelftest x y (advance t s)) else .next (advance t s) := by
  refine (if_neg (by rw [hok]; simp [hx, hy]) : execSelftest t x y s = _).trans ?_
  rw [arrayUp_advance, hup, Bool.true_and, advance_conv]

/-- No timed sequence holds a converter in WARM (14 R327, R329). -/
theorem execReferenceModeWarm_off {c : Conv} (h : warmHeld (advance t s) = false) : exec (.referenceModeWarm t c) s = .next (advance t s) :=
  if_pos (by rw [h, Bool.not_false, Bool.or_true])

theorem execReferenceModeWarm_a (hmp : mpRuns s = true) (h : warmHeld (advance t s) = true) :
    exec (.referenceModeWarm t .a) s = .next { advance t s with conv := { (advance t s).conv with aWarm := true } } :=
  if_neg (by rw [mpRuns_advance, hmp, h, convPresent]; decide)

theorem execReferenceModeWarm_b (hmp : mpRuns s = true) (hb : hasConvB s = true) (h : warmHeld (advance t s) = true) :
    exec (.referenceModeWarm t .b) s = .next { advance t s with conv := { (advance t s).conv with bWarm := true } } :=
  if_neg (by rw [mpRuns_advance, hmp, h, convPresent, hasConvB, advance_fuse, ← hasConvB, hb]; decide)

theorem execReferenceModeAuto_off {c : Conv} (h : warmHeld (advance t s) = true) : exec (.referenceModeAuto t c) s = .next (advance t s) :=
  if_pos (by rw [h, Bool.or_true])

theorem execReferenceModeAuto_a (hmp : mpRuns s = true) (h : warmHeld (advance t s) = false) :
    exec (.referenceModeAuto t .a) s = .next { advance t s with conv := { (advance t s).conv with aWarm := false, aReady := false } } :=
  if_neg (by rw [mpRuns_advance, hmp, h]; decide)

theorem execReferenceModeAuto_b (hmp : mpRuns s = true) (h : warmHeld (advance t s) = false) :
    exec (.referenceModeAuto t .b) s = .next { advance t s with conv := { (advance t s).conv with bWarm := false, bReady := false } } :=
  if_neg (by rw [mpRuns_advance, hmp, h]; decide)

theorem isWarm_advance (c : Conv) : isWarm (advance t s) c = isWarm s c := by cases c <;> simp [isWarm]

theorem execConvRefReady_cold {c : Conv} (h : isWarm s c = false) : exec (.convRefReady t c) s = .next (advance t s) :=
  if_pos (by rw [isWarm_advance, h]; rfl)

theorem execConvRefReady_a (h : s.conv.aWarm = true) :
    exec (.convRefReady t .a) s = .next { advance t s with conv := { (advance t s).conv with aReady := true } } :=
  if_neg (by rw [isWarm_advance, isWarm, h]; decide)

theorem execConvRefReady_b (h : s.conv.bWarm = true) :
    exec (.convRefReady t .b) s = .next { advance t s with conv := { (advance t s).conv with bReady := true } } :=
  if_neg (by rw [isWarm_advance, isWarm, h]; decide)

theorem scanConv_advance : scanConv (advance t s) = scanConv s := by simp [scanConv, hasConvB]

/-- A self-test whose readings are taken (14 R336). -/
theorem takeSelftest_state (x y : List (List Sample)) (s : State) :
    let finding := selfFinding (x.map (selfResult s.conv.cal .a)) (y.map (selfResult s.conv.cal .b)) s
    (finding = none → (takeSelftest x y s).conv.selfRun = 0 ∧ (takeSelftest x y s).conv.selfFails = s.conv.selfFails
        ∧ hasBit (takeSelftest x y s).flt.cond 38 = false)
      ∧ (finding ≠ none → (takeSelftest x y s).conv.selfRun = s.conv.selfRun + 1
        ∧ (takeSelftest x y s).conv.selfFails = incr32 s.conv.selfFails ∧ (s.conv.selfRun = 0 → (takeSelftest x y s).flt = s.flt)
        ∧ (1 ≤ s.conv.selfRun → hasBit (takeSelftest x y s).flt.cond 38 = true)) := by
  intro finding
  obtain ⟨hpass, hfail⟩ := selfOutcome_state (x.map (selfResult s.conv.cal .a)) (y.map (selfResult s.conv.cal .b)) (selfCounted x y s)
  obtain ⟨-, -, hrun, hfails, -, hflt, -⟩ : _ ∧ _ ∧ _ ∧ _ ∧ _ ∧ _ ∧ _ := by simpa [uncounted] using selfCounted_uncounted x y s
  rw [selfFinding_counted, hfails] at hpass hfail
  rw [hrun, hflt] at hfail
  exact ⟨hpass, hfail⟩

end

/-- Settles O59. -/
theorem convertersAndHeat : Obligations.ConvertersAndHeat := by
  intro t s hup
  refine ⟨fun r hlen hok => ⟨fun hdue hfree => ?_, fun hnot => ?_⟩, fun hsec => ⟨fun h29 => ?_, fun h29 => ?_⟩, execThermalStep_early,
    fun input x hi hx => ⟨fun e he hbusy => ?_, fun hfree => ?_⟩, fun input x hx => ⟨fun h10 h18 => ?_, fun h18 h20 => ?_⟩,
    fun x y hx hy hok => ?_, fun hmp => ⟨fun hwarm => ⟨?_, fun hb => ?_, ?_, ?_⟩, fun hcold => ⟨?_, ?_, ?_, ?_⟩⟩, fun h => ?_, fun h => ?_,
    fun h => ?_⟩
  case refine_1 =>
    obtain ⟨hreadings, hlast⟩ := takeReadings_state r (advance t s)
    exact ⟨(execScan_eq hlen hok hup).trans (if_pos (by rw [hdue, hfree]; rfl)), hreadings.trans hlen, hlast⟩
  case refine_2 =>
    refine (execScan_eq hlen hok hup).trans (if_neg ?_)
    rcases hnot with hdue | hres
    · rw [hdue, Bool.false_and]
      exact Bool.false_ne_true
    · rw [hres, Bool.not_true, Bool.and_false]
      exact Bool.false_ne_true
  case refine_3 =>
    obtain ⟨u, he, hstep, hrest⟩ := execThermalStep_steps hsec
    exact ⟨u, he, hstep.trans (if_pos h29), hrest⟩
  case refine_4 =>
    obtain ⟨u, he, hstep, hrest⟩ := execThermalStep_steps hsec
    exact ⟨u, he, hstep.trans (if_neg (by rw [h29]; exact Bool.false_ne_true)), hrest⟩
  case refine_5 =>
    obtain ⟨hdrop, hres, huntil⟩ := urgent_dropped (input := input) (x := x) (s := advance t s) (by rw [advance_conv, he]) hbusy
    rw [advance_conv] at hdrop hres huntil
    exact ⟨_, execUrgentRequest_eq hi hx hup, hdrop, hres, huntil⟩
  case refine_6 =>
    obtain ⟨hres, hdrop, huntil⟩ := urgent_taken (input := input) (x := x) (s := advance t s) (by rwa [advance_conv])
    rw [scanConv_advance] at hres huntil
    rw [advance_conv] at hres hdrop
    rw [isWarm_advance] at huntil
    refine ⟨_, execUrgentRequest_eq hi hx hup, hres, hdrop, fun hw => ?_, fun hw => ?_⟩
    · rw [huntil, hw, if_pos rfl]
    · rw [huntil, hw, if_neg Bool.false_ne_true]
  case refine_7 => exact (execShutdownComparator_eq h10 (by omega) hx hup).trans (by rw [if_pos h18])
  case refine_8 => exact (execShutdownComparator_eq (by omega) h20 hx hup).trans (by rw [if_neg (Nat.not_lt.mpr h18)])
  case refine_9 =>
    intro finding
    obtain ⟨hpass, hfail⟩ := takeSelftest_state x y (advance t s)
    rw [advance_conv] at hpass hfail
    rw [advance_flt] at hfail
    refine ⟨fun hfree hlong => ?_, fun hnot => ?_⟩
    · have hdue : (s.conv.selfAt.elim true fun t0 => decide (t0 + 10000000 ≤ tsc (advance t s))) = true := by
        cases h : s.conv.selfAt with
        | none => rfl
        | some t0 => rw [Option.elim_some, decide_eq_true (hlong t0 h)]
      have htaken := (execSelftest_eq (t := t) hx hy hok hup).trans (if_pos (by rw [hfree, hdue]; rfl))
      exact ⟨fun hf => ⟨_, htaken, hpass hf⟩, fun hf => ⟨_, htaken, hfail hf⟩⟩
    · refine (execSelftest_eq hx hy hok hup).trans (if_neg ?_)
      rcases hnot with hres | ⟨t0, h0, hlt⟩
      · rw [hres, Bool.not_true, Bool.false_and]
        exact Bool.false_ne_true
      · rw [h0, Option.elim_some, decide_eq_false (Nat.not_le.mpr hlt), Bool.and_false]
        exact Bool.false_ne_true
  case refine_10 => exact execReferenceModeWarm_a hmp hwarm
  case refine_11 => exact execReferenceModeWarm_b hmp hb hwarm
  case refine_12 => exact execReferenceModeAuto_off hwarm
  case refine_13 => exact execReferenceModeAuto_off hwarm
  case refine_14 => exact execReferenceModeAuto_a hmp hcold
  case refine_15 => exact execReferenceModeAuto_b hmp hcold
  case refine_16 => exact execReferenceModeWarm_off hcold
  case refine_17 => exact execReferenceModeWarm_off hcold
  case refine_18 => exact execConvRefReady_a h
  case refine_19 => exact execConvRefReady_b h
  case refine_20 => exact execConvRefReady_cold h

end Sys2Proof.Machine

/-! ## Safe-Dim's demands, ramps and test pulses (16 R372 to R387) -/

namespace Sys2Proof.Machine

/-! ### What the light leaves of a demand -/

/-- The demand, its ramp and the counters are the same. -/
abbrev DemandKept (s u : State) : Prop :=
  u.dim.a = s.dim.a ∧ u.dim.b = s.dim.b ∧ u.dim.state = s.dim.state ∧ u.dim.demand = s.dim.demand ∧ u.dim.target = s.dim.target
    ∧ u.dim.t0 = s.dim.t0 ∧ u.dim.demands = s.dim.demands ∧ u.dim.withdrawn = s.dim.withdrawn ∧ u.dim.pulseFails = s.dim.pulseFails
    ∧ u.dim.retest = s.dim.retest ∧ u.dim.proofFrom = s.dim.proofFrom

theorem demandKept_of_dim {s u : State} (h : u.dim = s.dim) : DemandKept s u := by simp [DemandKept, h]

@[simp] theorem selectSettle_demand (s : State) : DemandKept s (selectSettle s) := by simp [DemandKept, selectSettle]

@[simp] theorem kindHardware_demand (kind cause : Nat) (s : State) : DemandKept s (kindHardware kind cause s) := by
  unfold kindHardware
  split
  · exact selectSettle_demand s
  · exact demandKept_of_dim (by simp)
  · exact demandKept_of_dim (by simp)
  · exact demandKept_of_dim rfl

@[simp] theorem goSafe_demand (kind cause : Nat) (s : State) : DemandKept s (goSafe kind cause s) := by
  unfold goSafe
  dsimp only
  (repeat' split) <;> simp [DemandKept]

/-- An entry to IDLE is abandoned (18 R408). -/
@[simp] theorem goSafe_idleRamp (kind cause : Nat) (s : State) : (goSafe kind cause s).dim.idleRamp = none := by
  unfold goSafe
  extract_lets cur s1 mode flt s2
  by_cases h : s2.dim.idleRamp.isSome = true
  · rw [if_pos h, record_dim]
  · rw [if_neg h]
    exact Option.not_isSome_iff_eq_none.mp h

@[simp] theorem proofToSafe_demand (kind cause : Nat) (s : State) : DemandKept s (proofToSafe kind cause s) := by
  simp [proofToSafe, DemandKept]

@[simp] theorem react_demand (src data r : Nat) (s : State) : DemandKept s (react src data r s) := by
  unfold DemandKept react
  dsimp only
  (repeat' split) <;> simp

theorem assertSource_demand {src : Nat} (h : isPlain src = true) (data : Nat) (forced : Bool) (s : State) :
    DemandKept s (assertSource src data forced s) := by
  rw [assertSource_eq]
  split
  · simp [DemandKept, conditionNoted]
  · rw [deliver_plain h]
    split
    · simp [DemandKept, conditionNoted]
    · simp [DemandKept, conditionNoted]

@[simp] theorem restoreBeam_demand (s : State) : DemandKept s (restoreBeam s) := by simp [DemandKept, restoreBeam, selectSettle]

@[simp] theorem releaseHold_demand (s : State) : DemandKept s (releaseHold s) := by
  unfold releaseHold
  dsimp only
  (repeat' split) <;> simp [DemandKept]

@[simp] theorem levelEnded_demand (src : Nat) (forced : Bool) (s : State) : DemandKept s (levelEnded src forced s) := by
  unfold levelEnded
  dsimp only
  split <;> simp [DemandKept]

@[simp] theorem endSource_demand (src : Nat) (s : State) : DemandKept s (endSource src s) := by
  unfold endSource
  dsimp only
  (repeat' split) <;> simp [DemandKept]

@[simp] theorem targetLight_demand (s : State) : DemandKept s (targetLight s) := by
  unfold targetLight
  dsimp only
  (repeat' split) <;> simp [DemandKept]

@[simp] theorem kindHardware_idleRamp (kind cause : Nat) (s : State) : (kindHardware kind cause s).dim.idleRamp = s.dim.idleRamp := by
  unfold kindHardware
  split <;> simp [selectSettle]

theorem targetLight_idleRamp {s : State} (h : s.dim.idleRamp = none) : (targetLight s).dim.idleRamp = none := by
  unfold targetLight
  dsimp only
  (repeat' split) <;> simp [h]

/-! ### Samples (16 R372) -/

section

variable {t : Nat} {s : State} (hup : arrayUp s = true) (hrun : s.flt.running = true)

include hup hrun

theorem execSdimSample_eq (x y : Contact) : exec (.sdimSample t x y) s =
    if (decide (tsc (advance t s) % 10000 = 0) && decide (s.dim.sampledAt ≠ some (tsc (advance t s)))) = true
    then .next (takeSample (sdimAsserted x) (sdimAsserted y) (advance t s)) else .next (advance t s) := by
  change execSdimSample t x y s = _
  unfold execSdimSample
  dsimp only
  rw [filterRuns_advance hup hrun, Bool.true_and, advance_dim]

end

/-- A sample that follows the one before joins it, and any other starts anew. -/
theorem takeSample_next (a b : Bool) {s : State} {t0 : Nat} (hat : s.dim.sampledAt = some t0) (h : t0 + 10000 = tsc s) :
    (takeSample a b s).dim.samples = ((a, b) :: s.dim.samples).take 10 := by
  simp [takeSample, hat, h]

theorem takeSample_anew (a b : Bool) {s : State} (h : ∀ t0, s.dim.sampledAt = some t0 → t0 + 10000 ≠ tsc s) :
    (takeSample a b s).dim.samples = [(a, b)] := by
  cases hat : s.dim.sampledAt with
  | none => simp [takeSample, hat]
  | some t0 => simp [takeSample, hat, h t0 hat]

/-! ### The filter tick (16 R373 to R376) -/

section

variable {t : Nat} {s : State}

theorem execSdimFilterTick_off (h : tsc (advance t s) % 100000 ≠ 0) : exec (.sdimFilterTick t) s = .next (advance t s) :=
  if_pos (by rw [decide_eq_true h, Bool.or_true])

theorem execSdimFilterTick_eq (hup : arrayUp s = true) (hrun : s.flt.running = true) (h : tsc (advance t s) % 100000 = 0) :
    exec (.sdimFilterTick t) s = if tenSamples (tickDue (advance t s)) then .next (takeLevels (tickDue (advance t s)))
      else .next (tickDue (advance t s)) :=
  if_neg (by rw [filterRuns_advance hup hrun, h]; decide)

/-- Nothing falls due at a tick before its levels are taken. -/
theorem tickDue_idle (hramp : rampDue s = false) (hdisc : discrepancyDue s = false) (hproof : proofDue s = false) : tickDue s = s := by
  unfold tickDue endRamp
  rw [if_neg (by rw [hramp]; decide)]
  unfold raiseDiscrepancy
  rw [if_neg (by rw [hdisc]; decide)]
  unfold raiseProofMissing
  rw [if_neg (by rw [hproof]; decide)]

theorem discrepancyDue_none (h : s.dim.disagree = none) : discrepancyDue s = false := by simp [discrepancyDue, h]

theorem proofDue_none (h : s.dim.proofFrom = none ∨ s.dim.proofLate = true) : proofDue s = false := by
  obtain h | h := h <;> simp [proofDue, h]

theorem tenSamples_of {x : Bool × Bool} (hten : s.dim.samples = List.replicate 10 x) (hat : s.dim.sampledAt = some (tsc s)) :
    tenSamples s = true := by simp [tenSamples, hten, hat]

end

/-- A demand starts (16 R374). -/
theorem startDemand_state (a b : Bool) (s : State) :
    let u := startDemand a b s
    u.dim.a = s.dim.a ∧ u.dim.b = s.dim.b ∧ u.dim.demand = true ∧ u.dim.target = s.cfg.sdim.target ∧ u.dim.t0 = tsc s
      ∧ u.dim.demands = incr32 s.dim.demands ∧ (u.dim.state = .ramp ∨ u.dim.state = .applied) := by
  unfold startDemand
  extract_lets c t0 ramp i0 old v w u
  have hw : DemandKept v (rakeUpdate (interruptRun w)) := by
    unfold w
    split <;> simp [DemandKept, interruptRun, rejectRun]
  obtain ⟨ha, hb, hstate, hdem, htarget, ht0, hcount, -⟩ := hw
  unfold u
  rw [ha, hb, hstate, hdem, htarget, ht0, hcount]
  unfold v
  rw [record_dim]
  refine ⟨rfl, rfl, rfl, rfl, rfl, rfl, ?_⟩
  split
  · exact .inl rfl
  · exact .inr rfl

/-- A ramp is withdrawn (16 R376): the light and the state stay. -/
theorem releaseDemand_ramp {s : State} (h : s.dim.state = .ramp) :
    let u := releaseDemand s
    u.dim.a = s.dim.a ∧ u.dim.b = s.dim.b ∧ u.dim.demand = false ∧ u.dim.state = .quiet ∧ u.dim.withdrawn = incr32 s.dim.withdrawn
      ∧ u.dim.proofFrom = s.dim.proofFrom ∧ u.flt = s.flt ∧ u.arr = s.arr ∧ u.mode = s.mode := by
  simp [releaseDemand, h]

@[simp] theorem releaseLight_demand (target : Nat) (held : Bool) (s : State) : DemandKept s (releaseLight target held s) := by
  unfold releaseLight
  (repeat' split) <;> simp [DemandKept]

@[simp] theorem releaseLight_mode (target : Nat) (held : Bool) (s : State) : (releaseLight target held s).mode = s.mode := by
  unfold releaseLight
  (repeat' split) <;> simp

/-- A target is released (16 R376). -/
theorem releaseDemand_applied {s : State} (h : s.dim.state = .applied) :
    let u := releaseDemand s
    u.dim.demand = false ∧ u.dim.state = .quiet ∧ u.dim.target = 0 ∧ u.dim.withdrawn = s.dim.withdrawn ∧ u.dim.proofFrom = s.dim.proofFrom
      ∧ u.mode = s.mode := by
  simp [releaseDemand, h]

theorem followProof_asserted (oldA oldB : Bool) {s : State} (ha : s.dim.a = true) (hb : s.dim.b = true) : DemandKept s (followProof oldA oldB s) := by
  unfold followProof
  dsimp only
  split
  · exact demandKept_of_dim rfl
  · rw [if_pos (by rw [ha, hb]; rfl)]
    simp [DemandKept]

theorem followAgreement_demand (s : State) : DemandKept s (followAgreement s) := by
  unfold followAgreement
  split <;> simp [DemandKept]

/-- Ten samples with both channels asserted, or released, decide both levels (16 R373). -/
def levelsTaken (x : Bool) (s : State) : State := { s with dim := { s.dim with a := x, b := x, valid := true } }

theorem takeLevels_starts {s : State} (hten : s.dim.samples = List.replicate 10 (true, true)) (hdem : s.dim.demand = false) :
    takeLevels s = followProof s.dim.a s.dim.b (followAgreement (startDemand true true (levelsTaken true s))) := by
  unfold takeLevels levelsTaken
  simp [hten, hdem, filtered]

theorem takeLevels_ends {s : State} (hten : s.dim.samples = List.replicate 10 (false, false)) (hdem : s.dim.demand = true) :
    takeLevels s = followProof s.dim.a s.dim.b (followAgreement (releaseDemand (levelsTaken false s))) := by
  unfold takeLevels levelsTaken
  simp [hten, hdem, filtered]

/-- The end of a source that limits nothing leaves the mode (15 R350). -/
theorem endSource_mode {src : Nat} (h : src ≠ 39) (s : State) : (endSource src s).mode = s.mode := by
  have hended : ∀ u : State, (levelEnded src false u).mode = u.mode := by
    intro u
    rw [levelEnded_eq]
    simp [levelCleared, h]
  unfold endSource
  dsimp only
  (repeat' split) <;> simp [hended]

theorem followAgreement_arr {s : State} (hab : s.dim.a = s.dim.b) (h16 : hasBit s.flt.cond 16 = false) :
    (followAgreement s).arr = s.arr := by
  unfold followAgreement
  rw [if_neg (fun hne => hne hab)]
  exact (congrArg State.arr (endSource_none (s := { s with dim := { s.dim with disagree := none } }) (.inr h16))).trans rfl

theorem followAgreement_mode (s : State) : (followAgreement s).mode = s.mode := by
  unfold followAgreement
  split
  · rfl
  · rw [endSource_mode (by decide)]

theorem followProof_none (oldA oldB : Bool) {s : State} (h : s.dim.proofFrom = none) : followProof oldA oldB s = s := by
  unfold followProof
  simp [h]

/-- Ten samples with both channels asserted start a demand. -/
theorem takeLevels_demands {s : State} (hten : s.dim.samples = List.replicate 10 (true, true)) (hdem : s.dim.demand = false) :
    let u := takeLevels s
    u.dim.a = true ∧ u.dim.b = true ∧ u.dim.demand = true ∧ u.dim.target = s.cfg.sdim.target ∧ u.dim.t0 = tsc s
      ∧ u.dim.demands = incr32 s.dim.demands ∧ (u.dim.state = .ramp ∨ u.dim.state = .applied) := by
  obtain ⟨ha, hb, hdemand, htarget, ht0, hcount, hstate⟩ := startDemand_state true true (levelsTaken true s)
  obtain ⟨ka, kb, kstate, kdem, ktarget, k0, kcount, -⟩ := followAgreement_demand (startDemand true true (levelsTaken true s))
  obtain ⟨la, lb, lstate, ldem, ltarget, l0, lcount, -⟩ := followProof_asserted s.dim.a s.dim.b (ka.trans ha) (kb.trans hb)
  rw [takeLevels_starts hten hdem]
  exact ⟨la.trans (ka.trans ha), lb.trans (kb.trans hb), ldem.trans (kdem.trans hdemand), ltarget.trans (ktarget.trans htarget),
    l0.trans (k0.trans ht0), lcount.trans (kcount.trans hcount), (lstate.trans kstate) ▸ hstate⟩

/-- Ten samples with both channels released withdraw a ramp. -/
theorem takeLevels_withdraws {s : State} (hten : s.dim.samples = List.replicate 10 (false, false)) (hdem : s.dim.demand = true)
    (hproof : s.dim.proofFrom = none) (hramp : s.dim.state = .ramp) (h16 : hasBit s.flt.cond 16 = false) :
    let u := takeLevels s
    u.dim.a = false ∧ u.dim.b = false ∧ u.dim.demand = false ∧ u.dim.state = .quiet ∧ u.dim.withdrawn = incr32 s.dim.withdrawn
      ∧ u.arr = s.arr ∧ u.mode = s.mode := by
  obtain ⟨ha, hb, hdemand, hstate, hcount, hfrom, hflt, harr, hmode⟩ := releaseDemand_ramp (s := levelsTaken false s) hramp
  obtain ⟨ka, kb, kstate, kdem, -, -, -, kcount, -, -, kfrom⟩ := followAgreement_demand (releaseDemand (levelsTaken false s))
  have hcalm := followAgreement_arr (s := releaseDemand (levelsTaken false s)) (by rw [ha, hb]; rfl) (by rw [hflt]; exact h16)
  rw [takeLevels_ends hten hdem, followProof_none _ _ (kfrom.trans (hfrom.trans hproof))]
  exact ⟨ka.trans ha, kb.trans hb, kdem.trans hdemand, kstate.trans hstate, kcount.trans hcount, hcalm.trans harr,
    (followAgreement_mode _).trans hmode⟩

/-- Ten samples with both channels released release a target that was applied. -/
theorem takeLevels_releases {s : State} (hten : s.dim.samples = List.replicate 10 (false, false)) (hdem : s.dim.demand = true)
    (hproof : s.dim.proofFrom = none) (happ : s.dim.state = .applied) :
    let u := takeLevels s
    u.dim.demand = false ∧ u.dim.state = .quiet ∧ u.dim.target = 0 ∧ u.dim.withdrawn = s.dim.withdrawn ∧ u.mode = s.mode := by
  obtain ⟨hdemand, hstate, htarget, hcount, hfrom, hmode⟩ := releaseDemand_applied (s := levelsTaken false s) happ
  obtain ⟨-, -, kstate, kdem, ktarget, -, -, kcount, -, -, kfrom⟩ := followAgreement_demand (releaseDemand (levelsTaken false s))
  rw [takeLevels_ends hten hdem, followProof_none _ _ (kfrom.trans (hfrom.trans hproof))]
  exact ⟨kdem.trans hdemand, kstate.trans hstate, ktarget.trans htarget, kcount.trans hcount, (followAgreement_mode _).trans hmode⟩

/-- Where nothing else falls due at a tick, it takes its levels. -/
theorem execSdimFilterTick_takes {t : Nat} {s : State} {x : Bool × Bool} (hup : arrayUp s = true) (hrun : s.flt.running = true)
    (htick : tsc (advance t s) % 100000 = 0) (hten : s.dim.samples = List.replicate 10 x) (hat : s.dim.sampledAt = some (tsc (advance t s)))
    (hramp : rampDue (advance t s) = false) (hagree : s.dim.disagree = none) (hproof : s.dim.proofFrom = none ∨ s.dim.proofLate = true) :
    exec (.sdimFilterTick t) s = .next (takeLevels (advance t s)) := by
  rw [execSdimFilterTick_eq hup hrun htick,
    tickDue_idle hramp (discrepancyDue_none (by rwa [advance_dim])) (proofDue_none (by rwa [advance_dim]))]
  exact if_pos (tenSamples_of (by rwa [advance_dim]) (by rwa [advance_dim]))

/-! ### The ramp (16 R378) -/

section

variable {t : Nat} {s : State}

theorem bankScale_setBankScale (shown : Bank) (v : Nat) (a : PixelArray) :
    bankScale (setBankScale shown v a) shown = v ∧ (setBankScale shown v a).bankSel = a.bankSel := by cases shown <;> exact ⟨rfl, rfl⟩

theorem lowerShown_state (env : Nat) (s : State) :
    bankScale (lowerShown env s).arr s.arr.bankSel ≤ bankScale s.arr s.arr.bankSel ∧ (lowerShown env s).arr.bankSel = s.arr.bankSel
      ∧ (lowerShown env s).mode = s.mode ∧ (lowerShown env s).dim = s.dim := by
  unfold lowerShown
  split
  · obtain ⟨hscale, hsel⟩ := bankScale_setBankScale s.arr.bankSel
      (min (bankScale s.arr s.arr.bankSel) (scaleFor (bankSum s.arr s.arr.bankSel) env).toNat) s.arr
    exact ⟨hscale ▸ Nat.min_le_left .., hsel, rfl, rfl⟩
  · exact ⟨Nat.le_refl _, rfl, rfl, rfl⟩

theorem lowerShown_lit (env : Nat) {s : State} (h : bankLit s = true) : bankScale (lowerShown env s).arr s.arr.bankSel =
    min (bankScale s.arr s.arr.bankSel) (scaleFor (bankSum s.arr s.arr.bankSel) env).toNat := by
  unfold lowerShown
  rw [if_pos h]
  exact (bankScale_setBankScale ..).1

theorem execRampTick_state : NextIs (exec (.rampTick t) s) fun u =>
    bankScale u.arr s.arr.bankSel ≤ bankScale s.arr s.arr.bankSel ∧ u.arr.bankSel = s.arr.bankSel ∧ u.mode = s.mode
      ∧ u.dim.demand = s.dim.demand := by
  change NextIs (execRampTick t s) _
  unfold execRampTick
  dsimp only
  split
  · exact ⟨_, rfl, by simp⟩
  · rename_i e es _
    refine ⟨_, rfl, ?_⟩
    generalize hv : ({ advance t s with dim := _ } : State) = v
    obtain ⟨harr, hmode, hdemand⟩ : v.arr = s.arr ∧ v.mode = s.mode ∧ v.dim.demand = s.dim.demand := by simp [← hv]
    obtain ⟨hscale, hsel, hmode', hdim⟩ := lowerShown_state (leastOr e es) v
    rw [harr] at hscale hsel
    exact ⟨hscale, hsel, hmode'.trans hmode, (congrArg SafeDim.demand hdim).trans hdemand⟩

theorem execRampTick_lowers (hramp : s.dim.state = .ramp) (hidle : s.dim.idleRamp = none)
    (hnow : rampTickNow s.dim.t0 s.dim.tEnd (tsc (advance t s)) = true) :
    exec (.rampTick t) s = .next (lowerShown (envAt s.dim.t0 s.dim.tEnd s.dim.i0 s.dim.iEnd ((tsc (advance t s) : Int) + 10000))
      { advance t s with dim := { (advance t s).dim with envelope := envAt s.dim.t0 s.dim.tEnd s.dim.i0 s.dim.iEnd (tsc (advance t s)) } }) := by
  have htick : ∀ at_, tickEnvelopes (advance t s) at_ = [envAt s.dim.t0 s.dim.tEnd s.dim.i0 s.dim.iEnd at_] := by
    intro at_
    simp [tickEnvelopes, hramp, hidle, hnow]
  change execRampTick t s = _
  unfold execRampTick
  dsimp only
  rw [htick, htick, Int.natCast_add]
  rfl

/-- t_end applies the target (16 R377). -/
theorem applyTarget_applied (s : State) : (applyTarget s).dim.state = .applied := by simp [applyTarget]

theorem applyTarget_idleRamp {s : State} (h : s.dim.idleRamp = none) : (applyTarget s).dim.idleRamp = none := by
  unfold applyTarget
  dsimp only
  rw [rakeUpdate_dim, record_dim]
  exact targetLight_idleRamp h

theorem endRamp_waits (h : s.dim.state ≠ .ramp ∨ tsc s < s.dim.tEnd) : endRamp s = s := by
  refine if_neg ?_
  obtain h | h := h <;> simp [rampDue, h]

theorem execRampEnd_applies (hramp : s.dim.state = .ramp) (hend : s.dim.tEnd ≤ tsc (advance t s)) (hidle : s.dim.idleRamp = none) :
    exec (.rampEnd t) s = .next (applyTarget (advance t s)) := by
  have hends : endRamp (advance t s) = applyTarget (advance t s) := if_pos (by simp [rampDue, hramp, hend])
  change execRampEnd t s = _
  unfold execRampEnd
  dsimp only
  rw [hends, applyTarget_idleRamp (by simpa using hidle)]
  exact if_neg (by simp)

theorem execRampEnd_waits (hwait : tsc (advance t s) < s.dim.tEnd) (hidle : s.dim.idleRamp = none) : exec (.rampEnd t) s = .next (advance t s) := by
  change execRampEnd t s = _
  unfold execRampEnd
  dsimp only
  rw [endRamp_waits (.inr (by simpa using hwait)), advance_dim, hidle]
  exact if_neg (by simp)

/-! ### The entry to IDLE (18 R408) -/

theorem closeSwitch_drvEn (s : State) : (closeSwitch s).arr.drvEn = s.arr.drvEn := by
  unfold closeSwitch
  split <;> simp

/-- In IDLE the end of a source closes at most the switch. -/
theorem releaseHold_dark (h : s.mode.op = .idle) : (releaseHold s).arr.drvEn = s.arr.drvEn ∧ (releaseHold s).dim = s.dim := by
  unfold releaseHold
  rw [h]
  dsimp only
  (repeat' split) <;> simp [closeSwitch_drvEn]

theorem endSource_dark {src : Nat} (h : s.mode.op = .idle) : (endSource src s).arr.drvEn = s.arr.drvEn ∧ (endSource src s).dim = s.dim := by
  unfold endSource levelEnded
  dsimp only
  (repeat' split) <;> simp [releaseHold_dark, h]

theorem stopSchedule_dim (s : State) : (stopSchedule s).dim = s.dim := by
  have hstop : ∀ u, (drawersStop u).dim = u.dim := drawersStop_keeps State.dim (by simp) (by simp)
  unfold stopSchedule
  split
  · rfl
  · simp [takePendingDepth, checkLen, hstop]

theorem enterIdle_state (h : s.dim.state ≠ .ramp) :
    (enterIdle s).mode.op = .idle ∧ (enterIdle s).sched.running = false ∧ (enterIdle s).arr.drvEn = false
      ∧ (enterIdle s).dim.idleRamp = none := by
  unfold enterIdle
  extract_lets low mode flt dim v u w
  have hv : v.mode.op = .idle ∧ v.arr.drvEn = false ∧ v.dim.idleRamp = none ∧ v.dim.state ≠ .ramp :=
    ⟨rfl, rfl, rfl, by simpa [v, dim, low] using h⟩
  obtain ⟨hop, hdark, hidle, hramp⟩ := hv
  have hstop : (stopSchedule v).mode.op = .idle := by rw [(stopSchedule_rest v).1, hop]
  have hu : u.arr.drvEn = false ∧ u.dim = v.dim := by
    obtain ⟨hdrv, hdim⟩ := endSource_dark (src := 43) hstop
    exact ⟨hdrv.trans ((stopSchedule_switches v).2.trans hdark), hdim.trans (stopSchedule_dim v)⟩
  have hsched : u.sched.running = false := by
    rw [(endSource_lightOnly 43 _).2.2.1]
    exact stopSchedule_stops v
  have hmode : u.mode.op = .idle := by rw [endSource_op, hstop]
  rw [if_neg (by rw [record_dim, rakeUpdate_dim, hu.2]; exact hramp)]
  unfold w
  simp [hmode, hsched, hu.1, hu.2, hidle]

theorem execRampEnd_idles {r : Nat × Nat × Nat} (hramp : s.dim.state ≠ .ramp) (hop : s.mode.op = .full) (hr : s.dim.idleRamp = some r)
    (hend : r.2.1 ≤ tsc (advance t s)) : exec (.rampEnd t) s = .next (enterIdle (advance t s)) := by
  change execRampEnd t s = _
  unfold execRampEnd
  dsimp only
  rw [endRamp_waits (.inl (by simpa using hramp)), advance_dim, hr]
  exact if_pos (by simp [hop, hend])

/-! ### Test pulses (16 R385 to R387) -/

theorem pulseOutcome_passes {fallOk : Bool} {recOk : Option Bool} (hfall : fallOk = true) (hrec : recOk ≠ some false) :
    let u := pulseOutcome fallOk recOk s
    u.dim.pulses = incr32 s.dim.pulses ∧ u.dim.pulseFails = s.dim.pulseFails ∧ u.dim.retest = false ∧ u.flt = s.flt ∧ u.arr = s.arr := by
  have hok : (fallOk && recOk.getD true) = true := by
    rw [hfall, Bool.true_and]
    cases recOk with
    | none => rfl
    | some b => exact (Bool.not_eq_false b).mp fun hb => hrec (congrArg some hb)
  unfold pulseOutcome
  dsimp only
  rw [if_pos hok]
  exact ⟨rfl, rfl, rfl, rfl, rfl⟩

theorem pulseOutcome_repeats {fallOk : Bool} {recOk : Option Bool} (hfail : fallOk = false ∨ recOk = some false) (hfirst : s.dim.retest = false) :
    let u := pulseOutcome fallOk recOk s
    u.dim.pulseFails = incr32 s.dim.pulseFails ∧ u.dim.retest = true ∧ u.dim.retestAt = some (tsc s + 100000) ∧ u.flt = s.flt := by
  have hbad : ¬(fallOk && recOk.getD true) = true := by obtain h | h := hfail <;> simp [h]
  unfold pulseOutcome
  dsimp only
  rw [if_neg hbad, if_neg (by rw [hfirst]; decide), record_dim, record_flt]
  exact ⟨rfl, rfl, by simp [tsc], rfl⟩

theorem pulseOutcome_asserts {fallOk : Bool} {recOk : Option Bool} (hfail : fallOk = false ∨ recOk = some false) (hagain : s.dim.retest = true)
    (hrun : s.flt.running = true) :
    let u := pulseOutcome fallOk recOk s
    u.dim.pulseFails = incr32 s.dim.pulseFails ∧ u.dim.retest = false ∧ hasBit u.flt.seen 18 = true := by
  have hbad : ¬(fallOk && recOk.getD true) = true := by obtain h | h := hfail <;> simp [h]
  unfold pulseOutcome
  dsimp only
  rw [if_neg hbad, if_pos hagain]
  generalize hv : record srcSafeDim 0x0008 _ _ = v
  obtain ⟨hfails, hretest, hflt⟩ : v.dim.pulseFails = incr32 s.dim.pulseFails ∧ v.dim.retest = false ∧ v.flt = s.flt := by simp [← hv]
  obtain ⟨-, -, -, -, -, -, -, -, hfails', hretest', -⟩ := assertSource_demand (src := 18) (by decide) (if fallOk then 1 else 0) false v
  exact ⟨hfails'.trans hfails, hretest'.trans hretest, assertSource_seen (by decide) (by decide) (by rw [hflt, hrun])⟩

theorem execCutoffTestpulse_off {fallOk : Bool} {recOk : Option Bool} (h : pulseState (advance t s) = false ∨ pulseDue (advance t s) = false) :
    exec (.cutoffTestpulse t fallOk recOk) s = .next (advance t s) :=
  if_pos (by obtain h | h := h <;> simp [h])

section

variable {fallOk : Bool} {recOk : Option Bool} (hstate : pulseState (advance t s) = true) (hdue : pulseDue (advance t s) = true)

include hstate hdue

theorem execCutoffTestpulse_now (hnow : pulseDeferred (advance t s) = false) :
    exec (.cutoffTestpulse t fallOk recOk) s = .next (pulseOutcome fallOk recOk (advance t s)) :=
  (if_neg (by rw [hstate, hdue]; decide)).trans (if_neg (by rw [hnow]; decide))

theorem execCutoffTestpulse_waits (hlater : pulseDeferred (advance t s) = true) (hwaits : s.dim.pulseWaits = true) :
    exec (.cutoffTestpulse t fallOk recOk) s = .next (advance t s) :=
  (if_neg (by rw [hstate, hdue]; decide)).trans ((if_pos hlater).trans (if_pos (by rwa [advance_dim])))

theorem execCutoffTestpulse_deferred (hlater : pulseDeferred (advance t s) = true) (hfirst : s.dim.pulseWaits = false) :
    NextIs (exec (.cutoffTestpulse t fallOk recOk) s) fun u =>
      u.dim.pulseWaits = true ∧ u.rake.deferred = incr32 s.rake.deferred ∧ u.dim.pulses = s.dim.pulses := by
  refine ⟨_, (if_neg (by rw [hstate, hdue]; decide)).trans ((if_pos hlater).trans (if_neg (by rw [advance_dim, hfirst]; decide))), rfl, ?_, ?_⟩
  · rw [advance_rake]
  · rw [advance_dim]

end

end

/-- Settles O58. -/
theorem safeDimDemands : Obligations.SafeDimDemands := by
  refine ⟨⟨rfl, rfl, rfl⟩, fun t s hup hrun => ?_⟩
  intro a
  refine ⟨fun x y => ⟨fun t0 htick hat hnext => ?_, fun htick hgap => ?_, fun hno => ?_⟩, fun htick hat hten hquiet hdem hagree hproof => ?_,
    fun htick hat hten hdem hagree hproof => ⟨fun hramp hend h16 => ?_, fun happ => ?_⟩, execSdimFilterTick_off,
    fun htick hten hramp hdisc hproof => ?_,
    execRampTick_state, fun hlit hramp hidle hnow => ?_, fun hramp hend hidle => ⟨execRampEnd_applies hramp hend hidle, applyTarget_applied _⟩,
    fun _ hwait hidle => execRampEnd_waits hwait hidle,
    fun r hramp hop hr hend => ⟨_, execRampEnd_idles hramp hop hr hend, enterIdle_state (by rwa [advance_dim])⟩,
    fun fallOk recOk hstate hdue => ⟨fun hnow hfall hrec => ?_, fun hnow hfail hfirst => ?_, fun hnow hfail hagain => ?_,
      execCutoffTestpulse_deferred hstate hdue, execCutoffTestpulse_waits hstate hdue⟩, fun fallOk recOk => execCutoffTestpulse_off⟩
  case refine_1 =>
    have hsamples := takeSample_next (sdimAsserted x) (sdimAsserted y) (s := a) (by rwa [advance_dim]) hnext
    refine ⟨_, (execSdimSample_eq hup hrun x y).trans (if_pos ?_), by rwa [advance_dim] at hsamples, rfl, ?_⟩
    · have hold : t0 ≠ tsc a := by omega
      simp [a, htick, hat, hold]
    · simp [takeSample]
  case refine_2 =>
    refine ⟨_, (execSdimSample_eq hup hrun x y).trans (if_pos ?_), takeSample_anew _ _ fun t0 hat => ?_, rfl⟩
    · have hnew : s.dim.sampledAt ≠ some (tsc a) := fun hat => (hgap _ hat).1 rfl
      simp [a, htick, hnew]
    · rw [advance_dim] at hat
      exact (hgap t0 hat).2
  case refine_3 =>
    refine (execSdimSample_eq hup hrun x y).trans (if_neg ?_)
    obtain h | h := hno <;> simp [h, a]
  case refine_4 =>
    obtain ⟨ha, hb, hdemand, htarget, ht0, hcount, hstate⟩ := takeLevels_demands (s := a) (by rwa [advance_dim]) (by rwa [advance_dim])
    exact ⟨_, execSdimFilterTick_takes hup hrun htick hten hat (by simp [rampDue, hquiet]) hagree hproof, ha, hb, hdemand,
      htarget.trans (by rw [advance_cfg]), ht0, hcount.trans (by rw [advance_dim]), hstate⟩
  case refine_5 =>
    obtain ⟨ha, hb, hdemand, hstate, hcount, harr, hmode⟩ := takeLevels_withdraws (s := a) (by rwa [advance_dim]) (by rwa [advance_dim])
      (by rwa [advance_dim]) (by rwa [advance_dim]) (by rwa [advance_flt])
    exact ⟨_, execSdimFilterTick_takes hup hrun htick hten hat (by simpa [rampDue, hramp] using hend) hagree (.inl hproof), ha, hb, hdemand, hstate,
      hcount.trans (by rw [advance_dim]), harr.trans (advance_arr ..), hmode.trans (advance_mode ..)⟩
  case refine_6 =>
    obtain ⟨hdemand, hstate, htarget, hcount, hmode⟩ := takeLevels_releases (s := a) (by rwa [advance_dim]) (by rwa [advance_dim])
      (by rwa [advance_dim]) (by rwa [advance_dim])
    exact ⟨_, execSdimFilterTick_takes hup hrun htick hten hat (by simp [rampDue, happ]) hagree (.inl hproof), hdemand, hstate, htarget,
      hcount.trans (by rw [advance_dim]), hmode.trans (advance_mode ..)⟩
  case refine_7 =>
    have hidle : tickDue a = a := tickDue_idle (by simp [rampDue, a, hramp]) hdisc hproof
    rw [execSdimFilterTick_eq hup hrun htick, hidle]
    exact if_neg (by rw [hten]; decide)
  case refine_8 =>
    refine ⟨_, execRampTick_lowers hramp hidle hnow, ?_, ?_⟩
    · have hscale := lowerShown_lit (envAt s.dim.t0 s.dim.tEnd s.dim.i0 s.dim.iEnd ((tsc a : Int) + 10000))
        (s := { a with dim := { a.dim with envelope := envAt s.dim.t0 s.dim.tEnd s.dim.i0 s.dim.iEnd (tsc a) } }) (by simpa [bankLit, a] using hlit)
      rw [← advance_arr t s]
      exact hscale
    · rw [(lowerShown_state ..).2.2.2]
  case refine_9 =>
    obtain ⟨hp, hf, hr, hflt, harr⟩ := pulseOutcome_passes (s := a) hfall hrec
    exact ⟨_, execCutoffTestpulse_now hstate hdue hnow, by simp [hp, a], by simp [hf, a], hr, by simp [hflt, a], by simp [harr, a]⟩
  case refine_10 =>
    obtain ⟨hf, hr, hat, hflt⟩ := pulseOutcome_repeats (s := a) hfail (by rwa [advance_dim])
    exact ⟨_, execCutoffTestpulse_now hstate hdue hnow, by simp [hf, a], hr, hat, by simp [hflt, a]⟩
  case refine_11 =>
    obtain ⟨hf, hr, hseen⟩ := pulseOutcome_asserts (s := a) hfail (by rwa [advance_dim]) (by rwa [advance_flt])
    exact ⟨_, execCutoffTestpulse_now hstate hdue hnow, by simp [hf, a], hr, hseen⟩

end Sys2Proof.Machine

/-! ## The latches: what every operation leaves of them (03 R78, R79) -/

namespace Sys2Proof.Machine

/-- An outcome that leads to a state leads to one with the latches of `s`. -/
abbrev LatchesKept (s : State) : Out → Prop := Leads fun u => u.arr.latches = s.arr.latches

/-- An answer of the MP that carries a state carries one with the latches of `s`. -/
abbrev LatchesAnswered (s : State) : Answer → Prop := AnswerLeads fun u => u.arr.latches = s.arr.latches

section

variable (P : State → Prop) (c : Prop) [Decidable c]

@[simp] theorem leads_next (u : State) : Leads P (.next u) ↔ P u := Iff.rfl
@[simp] theorem leads_fault (f : Fault) : Leads P (.fault f) ↔ True := Iff.rfl
@[simp] theorem leads_ite (x y : Out) : Leads P (if c then x else y) ↔ if c then Leads P x else Leads P y := by split <;> rfl

@[simp] theorem answerLeads_ok (data : List Byte) (u : State) : AnswerLeads P (.ok data u) ↔ P u := Iff.rfl
@[simp] theorem answerLeads_failIn (st d : Nat) (u : State) : AnswerLeads P (.failIn st d u) ↔ P u := Iff.rfl
@[simp] theorem answerLeads_fail (st d : Nat) : AnswerLeads P (.fail st d) ↔ True := Iff.rfl
@[simp] theorem answerLeads_ite (x y : Answer) : AnswerLeads P (if c then x else y) ↔ if c then AnswerLeads P x else AnswerLeads P y := by
  split <;> rfl
@[simp] theorem answerLeads_checked {cs : List Check} {x : Answer} (h : AnswerLeads P x) : AnswerLeads P (checked cs x) := .checked h

end

@[simp] theorem foldl_keepsLatches {α : Type} {f : State → α → State} (h : ∀ s x, (f s x).arr.latches = s.arr.latches) (l : List α)
    (s : State) : (l.foldl f s).arr.latches = s.arr.latches := foldl_keeps (fun s => s.arr.latches) h l s

/-! ### The service of a message -/

theorem serveThen_keepsLatches (t : Nat) (r : Row) (absent : State → Bool) (m : Msg) {body : State → Answer} {after : State → State} (s : State)
    (hb : ∀ s, LatchesAnswered s (body s)) (ha : ∀ s, (after s).arr.latches = s.arr.latches) :
    LatchesKept s (serveThen t r absent m body after s) := by
  have work := hb (dequeue m (serveUnknown (advance t s)))
  unfold serveThen
  dsimp only
  split
  · simp
  · split
    · simp
    · split
      · next e => simpa [ha] using (e ▸ work :)
      · simp
      · next e => simpa using (e ▸ work :)

theorem serve_keepsLatches (t : Nat) (r : Row) (absent : State → Bool) (m : Msg) {body : State → Answer} (s : State)
    (hb : ∀ s, LatchesAnswered s (body s)) : LatchesKept s (serve t r absent m body s) := serveThen_keepsLatches t r absent m s hb fun _ => rfl

/-! ### The operations of `Machine/Operands` -/

@[simp] theorem setCalData_keepsLatches (c : CalData) (s : State) : (setCalData c s).arr.latches = s.arr.latches := by simp [setCalData]

/-! ### The operations of `Machine/Drawers` -/

@[simp] theorem applyDue_keepsLatches (m : Nat) (s : State) : (applyDue m s).arr.latches = s.arr.latches := by simp [applyDue]

@[simp] theorem bootDrawers_keepsLatches (s : State) : (bootDrawers s).arr.latches = s.arr.latches := by simp [bootDrawers]

/-! ### The operations of `Machine/Collector` -/

@[simp] theorem endForce_keepsLatches (src : Nat) (s : State) : (endForce src s).arr.latches = s.arr.latches := by simp [endForce]

@[simp] theorem levelSource_keepsLatches (src data : Nat) (on : Bool) (s : State) :
    (levelSource src data on s).arr.latches = s.arr.latches := by simp [levelSource]

@[simp] theorem assertAnew_keepsLatches (s : State) : (assertAnew s).arr.latches = s.arr.latches := by simp [assertAnew]

/-! ### The operations of `Machine/Calib` -/

@[simp] theorem rewriteModel_keepsLatches (s : State) : (rewriteModel s).arr.latches = s.arr.latches := by simp [rewriteModel]

/-! ### The operations of `Machine/BootOps` -/

@[simp] theorem trainDram_keepsLatches (ws : List (List LaneSweep)) (s : State) :
    (trainDram ws s).arr.latches = s.arr.latches := by simp [trainDram]

@[simp] theorem bootSync_keepsLatches (s : State) : (bootSync s).arr.latches = s.arr.latches := by simp [bootSync]

/-- A module reset does not load the latches anew (15 R358). -/
@[simp] theorem bootSteps_keepsLatches (lost : Nat) (boot : BootInputs) (s : State) : (bootSteps false lost boot s).arr.latches = s.arr.latches := by
  simp [bootSteps]

@[simp] theorem warmStart_keepsLatches (boot : BootInputs) (s : State) : (warmStart boot s).arr.latches = s.arr.latches := by
  unfold warmStart
  dsimp only
  split <;> simp

@[simp] theorem writeControl_keepsLatches (f : ControlRec → ControlRec) (s : State) :
    (writeControl f s).arr.latches = s.arr.latches := by simp [writeControl]

@[simp] theorem writeSettings_keepsLatches (format : Nat) (c : Settings) (s : State) :
    (writeSettings format c s).arr.latches = s.arr.latches := by simp [writeSettings]

@[simp] theorem enterLoader_keepsLatches (cause : Nat) (v : ImageVerdict) (s : State) :
    (enterLoader cause v s).arr.latches = s.arr.latches := by simp [enterLoader]

@[simp] theorem drawGenerations_keepsLatches (draws : List Nat) (s : State) :
    (drawGenerations draws s).arr.latches = s.arr.latches := by simp [drawGenerations]

@[simp] theorem migrateSettings_keepsLatches (s : State) : (migrateSettings s).arr.latches = s.arr.latches := by simp [migrateSettings]

@[simp] theorem examineSlots_keepsLatches (s : State) : (examineSlots s).arr.latches = s.arr.latches := by
  unfold examineSlots
  split <;> simp

@[simp] theorem enterProof_keepsLatches (draws : List Nat) (s : State) : (enterProof draws s).arr.latches = s.arr.latches := by simp [enterProof]

@[simp] theorem imageCheck_keepsLatches (v : ImageVerdict) (draws : List Nat) (s : State) :
    (imageCheck v draws s).arr.latches = s.arr.latches := by simp [imageCheck]

/-! ### The operations of `Machine/DimOps` -/

@[simp] theorem targetLight_keepsLatches (s : State) : (targetLight s).arr.latches = s.arr.latches := by
  unfold targetLight
  split <;> simp

@[simp] theorem applyTarget_keepsLatches (s : State) : (applyTarget s).arr.latches = s.arr.latches := by simp [applyTarget]

@[simp] theorem enterFull_keepsLatches (s : State) : (enterFull s).arr.latches = s.arr.latches := by simp [enterFull]

@[simp] theorem enterLimited_keepsLatches (s : State) : (enterLimited s).arr.latches = s.arr.latches := by simp [enterLimited]

@[simp] theorem proofTransition_keepsLatches (s : State) : (proofTransition s).arr.latches = s.arr.latches := by simp [proofTransition]

@[simp] theorem enterIdle_keepsLatches (s : State) : (enterIdle s).arr.latches = s.arr.latches := by simp [enterIdle]

/-! ### The operations of `Machine/RakeOps` -/

@[simp] theorem checkThresholds_keepsLatches (p : Nat) (s : State) :
    (checkThresholds p s).arr.latches = s.arr.latches := by simp [checkThresholds]

@[simp] theorem enterPixel_keepsLatches (p cls link : Nat) (s : State) :
    (enterPixel p cls link s).arr.latches = s.arr.latches := by simp [enterPixel]

@[simp] theorem makeDead_keepsLatches (p : Nat) (s : State) : (makeDead p s).arr.latches = s.arr.latches := by simp [makeDead]

@[simp] theorem confirmPair_keepsLatches (p q : Nat) (s : State) : (confirmPair p q s).arr.latches = s.arr.latches := by simp [confirmPair]

@[simp] theorem addCand_keepsLatches (c : Cand) (s : State) : (addCand c s).arr.latches = s.arr.latches := by simp [addCand]

@[simp] theorem dropCand_keepsLatches (c : Cand) (s : State) : (dropCand c s).arr.latches = s.arr.latches := by simp [dropCand]

@[simp] theorem pixelResult_keepsLatches (p r : Nat) (s : State) : (pixelResult p r s).arr.latches = s.arr.latches := by
  unfold pixelResult
  split <;> simp

@[simp] theorem pairResult_keepsLatches (found : List (Nat × Nat)) (c : Cand) (row : Nat) (s : State) :
    (pairResult found c row s).arr.latches = s.arr.latches := by
  unfold pairResult
  split <;> simp

@[simp] theorem newPair_keepsLatches (old : List Cand) (e : Nat × Nat) (s : State) :
    (newPair old e s).arr.latches = s.arr.latches := by simp [newPair]

@[simp] theorem windowResults_keepsLatches (row : Nat) (m : Probe) (s : State) :
    (windowResults row m s).arr.latches = s.arr.latches := by simp [windowResults]

@[simp] theorem checkCoverage_keepsLatches (row e : Nat) (s : State) :
    (checkCoverage row e s).arr.latches = s.arr.latches := by simp [checkCoverage]

@[simp] theorem rebuild_keepsLatches (s : State) : (rebuild s).arr.latches = s.arr.latches := by simp [rebuild]

@[simp] theorem restoreMap_keepsLatches (s : State) : (restoreMap s).arr.latches = s.arr.latches := by simp [restoreMap]

@[simp] theorem sweepPixel_keepsLatches (s : State) (e : List (Sample × Bool) × Nat) : (sweepPixel s e).arr.latches = s.arr.latches := by
  unfold sweepPixel
  split <;> simp

@[simp] theorem sweepDone_keepsLatches (s : State) : (sweepDone s).arr.latches = s.arr.latches := by simp [sweepDone]

@[simp] theorem advanceCursor_keepsLatches (s : State) : (advanceCursor s).arr.latches = s.arr.latches := by simp [advanceCursor]

@[simp] theorem refNotReady_keepsLatches (s : State) : (refNotReady s).arr.latches = s.arr.latches := by simp [refNotReady]

@[simp] theorem sweepSamples_keepsLatches (w : RakeWindow) (samples : List Sample) (s : State) :
    (sweepSamples w samples s).arr.latches = s.arr.latches := by simp [sweepSamples]

@[simp] theorem touchWindow_keepsLatches (s : State) : (touchWindow s).arr.latches = s.arr.latches := by
  unfold touchWindow
  split <;> simp

@[simp] theorem freshBase_keepsLatches (s : State) : (freshBase s).arr.latches = s.arr.latches := by simp [freshBase]

@[simp] theorem startWindow_keepsLatches (i row : Nat) (sweep ready : Bool) (s : State) :
    (startWindow i row sweep ready s).arr.latches = s.arr.latches := by simp [startWindow]

/-! ### The operations of `Machine/Boot` -/

theorem execTrainingRetry_keepsLatches (t : Nat) (attempts : List (List LaneSweep)) (s : State) :
    LatchesKept s (execTrainingRetry t attempts s) := by simp [execTrainingRetry]

theorem execImageCheckComplete_keepsLatches (t : Nat) (v : ImageVerdict) (draws : List Nat) (s : State) :
    LatchesKept s (execImageCheckComplete t v draws s) := by simp [execImageCheckComplete]

theorem execLoaderCheckRetry_keepsLatches (t : Nat) (ok : Bool) (s : State) :
    LatchesKept s (execLoaderCheckRetry t ok s) := by simp [execLoaderCheckRetry]

theorem execCalLoadComplete_keepsLatches (t : Nat) (s : State) : LatchesKept s (execCalLoadComplete t s) := by simp [execCalLoadComplete]

theorem execMapRestoreComplete_keepsLatches (t : Nat) (s : State) :
    LatchesKept s (execMapRestoreComplete t s) := by simp [execMapRestoreComplete]

theorem execVinBelowVbo_keepsLatches (t : Nat) (s : State) : LatchesKept s (execVinBelowVbo t s) := by simp [execVinBelowVbo]

theorem execVinAboveVbo_keepsLatches (t : Nat) (s : State) : LatchesKept s (execVinAboveVbo t s) := by simp [execVinAboveVbo]

theorem execBrownout_keepsLatches (t : Nat) (s : State) : LatchesKept s (execBrownout t s) := by
  unfold execBrownout
  dsimp only
  (repeat' split) <;> simp

theorem execVledBlindWindowEnd_keepsLatches (t : Nat) (s : State) :
    LatchesKept s (execVledBlindWindowEnd t s) := by simp [execVledBlindWindowEnd]

theorem execVinLow_keepsLatches (t : Nat) (low : Bool) (vin : Nat) (s : State) : LatchesKept s (execVinLow t low vin s) := by simp [execVinLow]

theorem execVinHigh_keepsLatches (t : Nat) (high : Bool) (vin : Nat) (s : State) :
    LatchesKept s (execVinHigh t high vin s) := by simp [execVinHigh]

theorem execHoldReady_keepsLatches (t : Nat) (ready : Bool) (s : State) : LatchesKept s (execHoldReady t ready s) := by simp [execHoldReady]

theorem execLastgaspSlotErase_keepsLatches (t : Nat) (s : State) : LatchesKept s (execLastgaspSlotErase t s) := by simp [execLastgaspSlotErase]

/-! ### The operations of `Machine/FrameOps` -/

@[simp] theorem cutSlot_keepsLatches (c prev : Int) (r : TableRow) (s : State) :
    (cutSlot c prev r s).arr.latches = s.arr.latches := by simp [cutSlot]

@[simp] theorem contentCut_keepsLatches (m : Nat) (s : State) : (contentCut m s).arr.latches = s.arr.latches := by simp [contentCut]

@[simp] theorem leaveFallback_keepsLatches (lo : Nat) (s : State) : (leaveFallback lo s).arr.latches = s.arr.latches := by simp [leaveFallback]

@[simp] theorem beginThrottle_keepsLatches (s : State) : (beginThrottle s).arr.latches = s.arr.latches := by simp [beginThrottle]

@[simp] theorem throttleEdge_keepsLatches (before : Bool) (s : State) :
    (throttleEdge before s).arr.latches = s.arr.latches := by simp [throttleEdge]

@[simp] theorem applyChange_keepsLatches (m : Nat) (s : State) : (applyChange m s).arr.latches = s.arr.latches := by
  unfold applyChange
  split <;> simp

@[simp] theorem applyHostChange_keepsLatches (s : State) : (applyHostChange s).arr.latches = s.arr.latches := by
  unfold applyHostChange
  split <;> simp

@[simp] theorem monitorBoundary_keepsLatches (m : Nat) (s : State) :
    (monitorBoundary m s).arr.latches = s.arr.latches := by simp [monitorBoundary]

@[simp] theorem monitorStart_keepsLatches (f : CompFrame) (s : State) : (monitorStart f s).arr.latches = s.arr.latches := by simp [monitorStart]

@[simp] theorem noteFetches_keepsLatches (f : CompFrame) (s : State) : (noteFetches f s).arr.latches = s.arr.latches := by simp [noteFetches]

@[simp] theorem noteHorizon_keepsLatches (swap : Int) (r : TableRow) (s : State) :
    (noteHorizon swap r s).arr.latches = s.arr.latches := by simp [noteHorizon]

@[simp] theorem stuckCheck_keepsLatches (f : CompFrame) (s : State) : (stuckCheck f s).arr.latches = s.arr.latches := by
  unfold stuckCheck
  split <;> simp

@[simp] theorem applyChests_keepsLatches (m : Nat) (s : State) : (applyChests m s).arr.latches = s.arr.latches := by
  unfold applyChests
  split <;> simp

@[simp] theorem startStale_keepsLatches (fresh : List Nat) (s : State) : (startStale fresh s).arr.latches = s.arr.latches := by simp [startStale]

@[simp] theorem recut_keepsLatches (fresh : List Nat) (s : State) : (recut fresh s).arr.latches = s.arr.latches := by simp [recut]

@[simp] theorem boundaryReached_keepsLatches (m : Nat) (s : State) : (boundaryReached m s).arr.latches = s.arr.latches := by
  unfold boundaryReached
  dsimp only
  split <;> simp

@[simp] theorem boundaryApplied_keepsLatches (m : Nat) (s : State) : (boundaryApplied m s).arr.latches = s.arr.latches := by
  unfold boundaryApplied
  simp

@[simp] theorem frameStarted_keepsLatches (m : Nat) (held : Bool) (f : CompFrame) (s : State) :
    (frameStarted m held f s).arr.latches = s.arr.latches := by
  unfold frameStarted
  simp

@[simp] theorem composeFrame_keepsLatches (m : Nat) (s : State) : (composeFrame m s).arr.latches = s.arr.latches := by
  rw [composeFrame_eq]
  simp [frameTaken]

/-! ### The operations of `Machine/SwapOps` -/

@[simp] theorem passWithheld_keepsLatches (s : State) : (passWithheld s).arr.latches = s.arr.latches := by simp [passWithheld]

@[simp] theorem executeSwap_keepsLatches (readback : Bool) (s : State) :
    (executeSwap readback s).arr.latches = s.arr.latches := by simp [executeSwap]

@[simp] theorem noteConflict_keepsLatches (scale floor : Nat) (s : State) :
    (noteConflict scale floor s).arr.latches = s.arr.latches := by simp [noteConflict]

@[simp] theorem notePower_keepsLatches (set : Bool) (s : State) : (notePower set s).arr.latches = s.arr.latches := by simp [notePower]

@[simp] theorem setInactive_latches (scale sum budget vled : Nat) (a : PixelArray) : (setInactive scale sum budget vled a).latches = a.latches := by
  unfold setInactive
  dsimp only
  split <;> rfl

@[simp] theorem commandVled_latches (v t : Nat) (a : PixelArray) : (commandVled v t a).latches = a.latches := by
  unfold commandVled
  split <;> rfl

@[simp] theorem governFrame_keepsLatches (f : CompFrame) (s : State) : (governFrame f s).arr.latches = s.arr.latches := by
  unfold governFrame
  simp

/-! ### The operations of `Machine/Frames` -/

theorem execContentCutoff_keepsLatches (t : Nat) (s : State) : LatchesKept s (execContentCutoff t s) := by simp [execContentCutoff]

theorem execCompositionStart_keepsLatches (t : Nat) (s : State) : LatchesKept s (execCompositionStart t s) := by simp [execCompositionStart]

@[simp] theorem layerLate_keepsLatches (e : Nat × Bool) (s : State) : (layerLate e s).arr.latches = s.arr.latches := by
  unfold layerLate
  dsimp only
  (repeat' split) <;> simp

@[simp] theorem underrun_keepsLatches (row cause : Nat) (s : State) : (underrun row cause s).arr.latches = s.arr.latches := by simp [underrun]

theorem lateFetch_keepsLatches (base : List Nat) (acc : State × List Nat) (l : LateFetch) :
    (lateFetch base acc l).1.arr.latches = acc.1.arr.latches := by
  unfold lateFetch
  split <;> simp

theorem lateFetches_keepsLatches (base : List Nat) (late : List LateFetch) (acc : State × List Nat) :
    (late.foldl (lateFetch base) acc).1.arr.latches = acc.1.arr.latches := by
  induction late generalizing acc with
  | nil => rfl
  | cons l late ih => rw [List.foldl_cons, ih, lateFetch_keepsLatches]

theorem execRowLatePoint_keepsLatches (t row : Nat) (late : List LateFetch) (s : State) : LatchesKept s (execRowLatePoint t row late s) := by
  unfold execRowLatePoint
  dsimp only
  (repeat' split) <;> simp [lateFetches_keepsLatches]

@[simp] theorem monitorChecked_keepsLatches (x : MonFrame) (s : State) :
    (monitorChecked x s).arr.latches = s.arr.latches := by simp [monitorChecked]

@[simp] theorem sendRow_keepsLatches (f : CompFrame) (r : Nat) (s : State) : (sendRow f r s).arr.latches = s.arr.latches := by simp [sendRow]

theorem execRowTransferStart_keepsLatches (t row : Nat) (complete : Bool) (levels : List Nat) (s : State) :
    LatchesKept s (execRowTransferStart t row complete levels s) := by
  unfold execRowTransferStart
  dsimp only
  (repeat' split) <;> simp

@[simp] theorem storeRow_latches (row : Nat) (codes : List Nat) (a : PixelArray) : (storeRow row codes a).latches = a.latches := by
  unfold storeRow
  split <;> rfl

@[simp] theorem noteDriven_latches (t : Nat) (a : PixelArray) : (noteDriven t a).latches = a.latches := by
  unfold noteDriven
  split <;> rfl

@[simp] theorem takeRow_keepsLatches (p : RowPacket) (s : State) : (takeRow p s).arr.latches = s.arr.latches := by
  unfold takeRow
  dsimp only
  (repeat' split) <;> simp

theorem execRowPacket_keepsLatches (t : Nat) (p : RowPacket) (crc : Nat) (s : State) :
    LatchesKept s (execRowPacket t p crc s) := by simp [execRowPacket]

@[simp] theorem breachCheck_keepsLatches (f : CompFrame) (s : State) : (breachCheck f s).arr.latches = s.arr.latches := by
  unfold breachCheck
  split <;> simp

@[simp] theorem chestCheck_keepsLatches (f : CompFrame) (crc : Nat) (s : State) :
    (chestCheck f crc s).arr.latches = s.arr.latches := by simp [chestCheck]

theorem execChestCheckComplete_keepsLatches (t crc : Nat) (s : State) : LatchesKept s (execChestCheckComplete t crc s) := by
  unfold execChestCheckComplete
  dsimp only
  (repeat' split) <;> simp

theorem execGovernorLatch_keepsLatches (t : Nat) (s : State) : LatchesKept s (execGovernorLatch t s) := by
  unfold execGovernorLatch
  dsimp only
  split <;> simp

theorem execWrdoneDeadline_keepsLatches (t : Nat) (s : State) : LatchesKept s (execWrdoneDeadline t s) := by simp [execWrdoneDeadline]

@[simp] theorem takeSwap_keepsLatches (readback : Bool) (s : State) : (takeSwap readback s).arr.latches = s.arr.latches := by simp [takeSwap]

theorem execSluiceExecute_keepsLatches (t : Nat) (readback : Bool) (s : State) : LatchesKept s (execSluiceExecute t readback s) := by
  unfold execSluiceExecute
  dsimp only
  (repeat' split) <;> simp

theorem execTimedSwap_keepsLatches (t : Nat) (readback : Bool) (s : State) :
    LatchesKept s (execTimedSwap t readback s) := by simp [execTimedSwap]

theorem execDroopTimer_keepsLatches (t : Nat) (s : State) : LatchesKept s (execDroopTimer t s) := by simp [execDroopTimer]

@[simp] theorem skipMonitor_keepsLatches (rest : List MonFrame) (s : State) :
    (skipMonitor rest s).arr.latches = s.arr.latches := by simp [skipMonitor]

@[simp] theorem monitorSend_keepsLatches (x : MonFrame) (payload : List Byte) (s : State) :
    (monitorSend x payload s).arr.latches = s.arr.latches := by simp [monitorSend]

theorem execMonitorPacketSend_keepsLatches (t : Nat) (s : State) : LatchesKept s (execMonitorPacketSend t s) := by
  unfold execMonitorPacketSend
  dsimp only
  split <;> simp

theorem execMonitorTrailer_keepsLatches (t : Nat) (s : State) : LatchesKept s (execMonitorTrailer t s) := by
  unfold execMonitorTrailer
  dsimp only
  split <;> simp

/-! ### The operations of `Machine/Brine` -/

@[simp] theorem startReception_keepsLatches (seq slot : Nat) (s : State) : (startReception seq slot s).arr.latches = s.arr.latches := by
  unfold startReception
  dsimp only
  split <;> simp

@[simp] theorem storePacket_keepsLatches (r : TableRow) (raw : List Byte) (s : State) : (storePacket r raw s).arr.latches = s.arr.latches := by
  unfold storePacket
  dsimp only
  (repeat' split) <;> simp

@[simp] theorem countOrder_keepsLatches (s : State) : (countOrder s).arr.latches = s.arr.latches := by simp [countOrder]

@[simp] theorem takePacket_keepsLatches (r : TableRow) (raw : List Byte) (s : State) : (takePacket r raw s).arr.latches = s.arr.latches := by
  unfold takePacket
  split <;> simp

@[simp] theorem deliverPacket_keepsLatches (r : TableRow) (raw : List Byte) (s : State) :
    (deliverPacket r raw s).arr.latches = s.arr.latches := by
  unfold deliverPacket
  dsimp only
  (repeat' split) <;> simp

theorem execBrineVideoPacket_keepsLatches (t : Nat) (d : Datagram) (s : State) :
    LatchesKept s (execBrineVideoPacket t d s) := by simp [execBrineVideoPacket]

theorem execBufferMoveComplete_keepsLatches (t item : Nat) (s : State) :
    LatchesKept s (execBufferMoveComplete t item s) := by simp [execBufferMoveComplete]

/-! ### The operations of `Machine/Faults` -/

theorem execFaultAssert_keepsLatches (t src data : Nat) (s : State) : LatchesKept s (execFaultAssert t src data s) := by simp [execFaultAssert]

theorem execFaultLevelEnd_keepsLatches (t src : Nat) (s : State) : LatchesKept s (execFaultLevelEnd t src s) := by simp [execFaultLevelEnd]

theorem execShadowEnd_keepsLatches (t : Nat) (action : Action) (s : State) : LatchesKept s (execShadowEnd t action s) := by simp [execShadowEnd]

theorem execRearm_keepsLatches (t : Nat) (s : State) : LatchesKept s (execRearm t s) := by simp [execRearm]

theorem execMpWatchdogService_keepsLatches (t : Nat) (s : State) : LatchesKept s (execMpWatchdogService t s) := by simp [execMpWatchdogService]

theorem execMpWatchdogExpiry_keepsLatches (t : Nat) (inHand : Bool) (s : State) :
    LatchesKept s (execMpWatchdogExpiry t inHand s) := by simp [execMpWatchdogExpiry]

theorem execMpRestartEnd_keepsLatches (t : Nat) (s : State) : LatchesKept s (execMpRestartEnd t s) := by
  unfold execMpRestartEnd
  dsimp only
  split <;> simp

theorem execMpRestartOverrun_keepsLatches (t : Nat) (s : State) : LatchesKept s (execMpRestartOverrun t s) := by
  unfold execMpRestartOverrun
  dsimp only
  split <;> simp

theorem execClockMon_keepsLatches (t clock : Nat) (s : State) : LatchesKept s (execClockMon t clock s) := by simp [execClockMon]

/-! ### The operations of `Machine/TimeBase` -/

@[simp] theorem moveRunning_keepsLatches (d : Int) (s : State) : (moveRunning d s).arr.latches = s.arr.latches := by simp [moveRunning]

theorem execTscStep_keepsLatches (t : Nat) (offset : Int) (s : State) : LatchesKept s (execTscStep t offset s) := by simp [execTscStep]

theorem execTscJump_keepsLatches (t : Nat) (s : State) : LatchesKept s (execTscJump t s) := by simp [execTscJump]

@[simp] theorem gptpSend_keepsLatches (bytes : Nat) (g : GptpOut) (s : State) :
    (gptpSend bytes g s).arr.latches = s.arr.latches := by simp [gptpSend]

@[simp] theorem followOffset_keepsLatches (s : State) : (followOffset s).arr.latches = s.arr.latches := by simp [followOffset]

@[simp] theorem servo_keepsLatches (offset trim : Int) (s : State) : (servo offset trim s).arr.latches = s.arr.latches := by simp [servo]

@[simp] theorem selectMaster_keepsLatches (s : State) : (selectMaster s).arr.latches = s.arr.latches := by
  unfold selectMaster
  split <;> simp

@[simp] theorem relaySync_keepsLatches (port : Port) (correction rate : Int) (residence : Nat) (s : State) :
    (relaySync port correction rate residence s).arr.latches = s.arr.latches := by simp [relaySync]

@[simp] theorem takeSync_keepsLatches (port : Port) (logInterval offset trim correction rate : Int) (residence : Nat) (s : State) :
    (takeSync port logInterval offset trim correction rate residence s).arr.latches = s.arr.latches := by simp [takeSync]

@[simp] theorem takeAnnounce_keepsLatches (port : Port) (x : Announced) (s : State) :
    (takeAnnounce port x s).arr.latches = s.arr.latches := by simp [takeAnnounce]

theorem execGptpMessage_keepsLatches (t : Nat) (port : Port) (msg : GptpMsg) (s : State) : LatchesKept s (execGptpMessage t port msg s) := by
  unfold execGptpMessage
  split <;> simp

theorem execSyncReceiptTimeout_keepsLatches (t : Nat) (s : State) :
    LatchesKept s (execSyncReceiptTimeout t s) := by simp [execSyncReceiptTimeout]

theorem execPdelayRequest_keepsLatches (t : Nat) (port : Port) (s : State) :
    LatchesKept s (execPdelayRequest t port s) := by simp [execPdelayRequest]

theorem execAnnounceReceiptTimeout_keepsLatches (t : Nat) (port : Port) (s : State) :
    LatchesKept s (execAnnounceReceiptTimeout t port s) := by simp [execAnnounceReceiptTimeout]

/-! ### The operations of `Machine/LinkPorts` -/

@[simp] theorem cutMonitor_keepsLatches (s : State) : (cutMonitor s).arr.latches = s.arr.latches := by
  unfold cutMonitor
  split <;> simp

theorem execLinkDown_keepsLatches (t : Nat) (x : LinkLoss) (s : State) : LatchesKept s (execLinkDown t x s) := by
  unfold execLinkDown
  dsimp only
  (repeat' split) <;> simp

theorem execLinkUp_keepsLatches (t : Nat) (port : Port) (mode : LinkMode) (s : State) :
    LatchesKept s (execLinkUp t port mode s) := by simp [execLinkUp]

theorem execLinkDownTimeout_keepsLatches (t : Nat) (port : Port) (s : State) :
    LatchesKept s (execLinkDownTimeout t port s) := by simp [execLinkDownTimeout]

@[simp] theorem forwardFrame_keepsLatches (f : EthFrame) (s : State) : (forwardFrame f s).arr.latches = s.arr.latches := by simp [forwardFrame]

@[simp] theorem deliverFrame_keepsLatches (f : EthFrame) (s : State) : (deliverFrame f s).arr.latches = s.arr.latches := by
  unfold deliverFrame
  dsimp only
  (repeat' split) <;> simp

theorem execEthernetFrame_keepsLatches (t : Nat) (f : EthFrame) (s : State) :
    LatchesKept s (execEthernetFrame t f s) := by simp [execEthernetFrame]

theorem execArpRequest_keepsLatches (t : Nat) (port : Port) (target : Nat) (s : State) :
    LatchesKept s (execArpRequest t port target s) := by simp [execArpRequest]

theorem execHostSilent_keepsLatches (t : Nat) (s : State) : LatchesKept s (execHostSilent t s) := by simp [execHostSilent]

theorem execCanFrame_keepsLatches (t : Nat) (f : CanFrame) (s : State) : LatchesKept s (execCanFrame t f s) := by simp [execCanFrame]

theorem execIsotpTimeout_keepsLatches (t : Nat) (s : State) : LatchesKept s (execIsotpTimeout t s) := by simp [execIsotpTimeout]

theorem execCanBusOff_keepsLatches (t : Nat) (st : CanErr) (s : State) : LatchesKept s (execCanBusOff t st s) := by simp [execCanBusOff]

/-! ### The operations of `Machine/Mail` -/

theorem crcGuard_keepsLatches (value expected : Nat) {work : State → Answer} {s : State} (h : ∀ s, LatchesAnswered s (work s)) :
    LatchesAnswered s (crcGuard value expected work s) := by
  have hwork := h (cvuJob 3 value (some expected) s)
  rw [LatchesAnswered, cvuJob_arr] at hwork
  unfold crcGuard
  dsimp only
  split
  · exact hwork
  · simp

/-! ### The operations of `Machine/Gate` -/

@[simp] theorem rollAuth_keepsLatches (s : State) : (rollAuth s).arr.latches = s.arr.latches := by simp [rollAuth]

@[simp] theorem rejectAuth_keepsLatches (m : Msg) (s : State) : (rejectAuth m s).arr.latches = s.arr.latches := by simp [rejectAuth]

theorem execAuthWindowEnd_keepsLatches (t : Nat) (s : State) : LatchesKept s (execAuthWindowEnd t s) := by simp [execAuthWindowEnd]

@[simp] theorem hostArrival_keepsLatches (s : State) : (hostArrival s).arr.latches = s.arr.latches := by simp [hostArrival]

@[simp] theorem acceptMsg_keepsLatches (m : Msg) (s : State) : (acceptMsg m s).arr.latches = s.arr.latches := by simp [acceptMsg]

@[simp] theorem gateTrusted_keepsLatches (m : Msg) (x : Session) (s : State) :
    (gateTrusted m x s).arr.latches = s.arr.latches := by simp [gateTrusted]

@[simp] theorem countOpenReject_keepsLatches (m : Msg) (s : State) :
    (countOpenReject m s).arr.latches = s.arr.latches := by simp [countOpenReject]

@[simp] theorem openTrusted_keepsLatches (m : Msg) (d : Nat) (s : State) :
    (openTrusted m d s).arr.latches = s.arr.latches := by simp [openTrusted]

@[simp] theorem gateOpening_keepsLatches (m : Msg) (signed tag : List Byte) (s : State) :
    (gateOpening m signed tag s).arr.latches = s.arr.latches := by
  unfold gateOpening
  (repeat' split) <;> simp

@[simp] theorem gateCheck_keepsLatches (ep : Endpoint) (raw : List Byte) (s : State) : (gateCheck ep raw s).arr.latches = s.arr.latches := by
  unfold gateCheck
  dsimp only
  (repeat' split) <;> simp

theorem execPsiferMessage_keepsLatches (t : Nat) (ep : Endpoint) (raw : List Byte) (s : State) :
    LatchesKept s (execPsiferMessage t ep raw s) := by simp [execPsiferMessage]

theorem execSessionIdleLost_keepsLatches (t session : Nat) (s : State) : LatchesKept s (execSessionIdleLost t session s) := by
  unfold execSessionIdleLost
  dsimp only
  split <;> simp

theorem execMpLoadWindow_keepsLatches (t : Nat) (w : LoadWindow) (s : State) :
    LatchesKept s (execMpLoadWindow t w s) := by simp [execMpLoadWindow]

@[simp] theorem sendEvent_keepsLatches (x : Session) (loss : Nat) (recs : List EventRec) (s : State) :
    (sendEvent x loss recs s).arr.latches = s.arr.latches := by simp [sendEvent]

@[simp] theorem trimGone_keepsLatches (s : State) : (trimGone s).arr.latches = s.arr.latches := by simp [trimGone]

@[simp] theorem deliverEvents_keepsLatches (x : Session) (w : List LogRec) (s : State) :
    (deliverEvents x w s).arr.latches = s.arr.latches := by simp [deliverEvents]

theorem execEventMessage_keepsLatches (t session : Nat) (s : State) : LatchesKept s (execEventMessage t session s) := by
  unfold execEventMessage
  dsimp only
  split <;> simp

@[simp] theorem windowEvent_keepsLatches (s : State) (id : Nat) : (windowEvent s id).arr.latches = s.arr.latches := by
  unfold windowEvent
  split <;> simp

theorem execEventWindowEnd_keepsLatches (t : Nat) (s : State) : LatchesKept s (execEventWindowEnd t s) := by simp [execEventWindowEnd]

@[simp] theorem openSession_keepsLatches (m : Msg) (key nonce : List Byte) (s : State) :
    (openSession m key nonce s).arr.latches = s.arr.latches := by simp [openSession]

theorem execSessionOpen_keepsLatches (t : Nat) (m : Msg) (nonce : List Byte) (s : State) : LatchesKept s (execSessionOpen t m nonce s) := by
  unfold execSessionOpen
  dsimp only
  (repeat' split) <;> simp

theorem execSessionClose_keepsLatches (t : Nat) (m : Msg) (s : State) :
    LatchesKept s (execSessionClose t m s) := serveThen_keepsLatches _ _ _ _ _ (fun s => by simp) fun s => by simp

/-! ### The operations of `Machine/System` -/

theorem execCaps_keepsLatches (t : Nat) (m : Msg) (s : State) : LatchesKept s (execCaps t m s) := serve_keepsLatches _ _ _ _ _ fun s => by simp

theorem execPing_keepsLatches (t : Nat) (m : Msg) (s : State) : LatchesKept s (execPing t m s) := serve_keepsLatches _ _ _ _ _ fun s => by simp

theorem execResetModule_keepsLatches (t : Nat) (m : Msg) (boot : BootInputs) (s : State) :
    LatchesKept s (execResetModule t m boot s) := serveThen_keepsLatches _ _ _ _ _ (fun s => by simp) fun s => by simp

theorem execResetMpOnly_keepsLatches (t : Nat) (m : Msg) (s : State) :
    LatchesKept s (execResetMpOnly t m s) := serveThen_keepsLatches _ _ _ _ _ (fun s => by simp) fun s => by simp

theorem execSettingsStore_keepsLatches (t : Nat) (m : Msg) (s : State) :
    LatchesKept s (execSettingsStore t m s) := serve_keepsLatches _ _ _ _ _ fun s => by simp

@[simp] theorem storeOutcome_keepsLatches (opcode : Nat) (erased : Bool) {work : State → State} (s : State)
    (h : ∀ s, (work s).arr.latches = s.arr.latches) : (storeOutcome opcode erased work s).arr.latches = s.arr.latches := by
  unfold storeOutcome
  simp [h]

theorem execSettingsStoreOutcome_keepsLatches (t : Nat) (erased : Bool) (s : State) :
    LatchesKept s (execSettingsStoreOutcome t erased s) := by simp [execSettingsStoreOutcome]

theorem execLinkConfigWrite_keepsLatches (t : Nat) (m : Msg) (s : State) :
    LatchesKept s (execLinkConfigWrite t m s) := serve_keepsLatches _ _ _ _ _ fun s => by simp

theorem execCanConfigWrite_keepsLatches (t : Nat) (m : Msg) (s : State) :
    LatchesKept s (execCanConfigWrite t m s) := serve_keepsLatches _ _ _ _ _ fun s => by simp

theorem execMailboxConfigWrite_keepsLatches (t : Nat) (m : Msg) (s : State) :
    LatchesKept s (execMailboxConfigWrite t m s) := serve_keepsLatches _ _ _ _ _ fun s => by simp

/-! ### The operations of `Machine/DrawerMsgs` -/

@[simp] theorem addPending_keepsLatches (m : Msg) (f : Pending → Pending) (s : State) :
    (addPending m f s).arr.latches = s.arr.latches := by simp [addPending]

@[simp] theorem openSlot_keepsLatches (n ty : Nat) (s : State) : (openSlot n ty s).arr.latches = s.arr.latches := by simp [openSlot]

theorem execCreate_keepsLatches (t : Nat) (m : Msg) (s : State) :
    LatchesKept s (execCreate t m s) := serve_keepsLatches _ _ _ _ _ fun s => by simp

theorem execConfigure_keepsLatches (t : Nat) (m : Msg) (s : State) :
    LatchesKept s (execConfigure t m s) := serve_keepsLatches _ _ _ _ _ fun s => by simp

theorem execPlace_keepsLatches (t : Nat) (m : Msg) (s : State) : LatchesKept s (execPlace t m s) := serve_keepsLatches _ _ _ _ _ fun s => by simp

theorem execRelease_keepsLatches (t : Nat) (m : Msg) (s : State) :
    LatchesKept s (execRelease t m s) := serve_keepsLatches _ _ _ _ _ fun s => by simp

theorem execDestroy_keepsLatches (t : Nat) (m : Msg) (s : State) :
    LatchesKept s (execDestroy t m s) := serve_keepsLatches _ _ _ _ _ fun s => by simp

@[simp] theorem flipWork_keepsLatches (m : Msg) (s : State) : LatchesAnswered s (flipWork m s) := by simp [flipWork]

theorem execFlip_keepsLatches (t : Nat) (m : Msg) (s : State) : LatchesKept s (execFlip t m s) := by
  refine serve_keepsLatches _ _ _ _ _ fun s => .checked ?_
  split
  · simp
  · exact crcGuard_keepsLatches _ _ fun s => by simp

theorem execAbort_keepsLatches (t : Nat) (m : Msg) (s : State) : LatchesKept s (execAbort t m s) := serve_keepsLatches _ _ _ _ _ fun s => by simp

theorem execChunkWrite_keepsLatches (t : Nat) (m : Msg) (s : State) :
    LatchesKept s (execChunkWrite t m s) := serve_keepsLatches _ _ _ _ _ fun s => by simp

theorem execCurveWrite_keepsLatches (t : Nat) (m : Msg) (s : State) :
    LatchesKept s (execCurveWrite t m s) := serve_keepsLatches _ _ _ _ _ fun s => by simp

theorem execBlendProgramWrite_keepsLatches (t : Nat) (m : Msg) (s : State) :
    LatchesKept s (execBlendProgramWrite t m s) := serve_keepsLatches _ _ _ _ _ fun s => by simp

/-! ### The operations of `Machine/CommitMsg` -/

@[simp] theorem acceptCommit_keepsLatches (p : Proposal) (id m : Nat) (pl : Placing) (s : State) :
    (acceptCommit p id m pl s).arr.latches = s.arr.latches := by simp [acceptCommit]

@[simp] theorem applyNow_keepsLatches (s : State) : (applyNow s).arr.latches = s.arr.latches := by simp [applyNow]

@[simp] theorem commitBody_keepsLatches (m : Msg) (s : State) : LatchesAnswered s (commitBody m s) := by simp [commitBody]

theorem execCommit_keepsLatches (t : Nat) (m : Msg) (s : State) :
    LatchesKept s (execCommit t m s) := serve_keepsLatches _ _ _ _ _ fun s => by simp

/-! ### The operations of `Machine/ShadeMsgs` -/

@[simp] theorem handOff_keepsLatches (slot count : Nat) (f : List ShadeObj → List ShadeObj) (s : State) :
    (handOff slot count f s).arr.latches = s.arr.latches := by simp [handOff]

theorem execShadeUpdate_keepsLatches (t : Nat) (m : Msg) (s : State) :
    LatchesKept s (execShadeUpdate t m s) := serve_keepsLatches _ _ _ _ _ fun s => by simp

theorem execShadeClear_keepsLatches (t : Nat) (m : Msg) (s : State) :
    LatchesKept s (execShadeClear t m s) := serve_keepsLatches _ _ _ _ _ fun s => by simp

@[simp] theorem sealTable_keepsLatches (slot : Nat) (s : State) : LatchesAnswered s (sealTable slot s) := by
  unfold sealTable
  dsimp only
  split <;> simp

theorem execGlyphSeal_keepsLatches (t : Nat) (m : Msg) (s : State) :
    LatchesKept s (execGlyphSeal t m s) := serve_keepsLatches _ _ _ _ _ fun s => by simp

/-! ### The operations of `Machine/TimingMsgs` -/

@[simp] theorem takeCommits_keepsLatches (k : Nat) (cs : List Commit) (moved : List Item) (s : State) :
    (takeCommits k cs moved s).arr.latches = s.arr.latches := by simp [takeCommits]

@[simp] theorem acceptChange_keepsLatches (profile period k : Nat) (s : State) :
    (acceptChange profile period k s).arr.latches = s.arr.latches := by simp [acceptChange]

@[simp] theorem changeNow_keepsLatches (profile period : Nat) (s : State) :
    (changeNow profile period s).arr.latches = s.arr.latches := by simp [changeNow]

@[simp] theorem timingBody_keepsLatches (m : Msg) (s : State) : LatchesAnswered s (timingBody m s) := by
  unfold timingBody
  dsimp only
  (repeat' split) <;> simp

theorem execTimingChange_keepsLatches (t : Nat) (m : Msg) (s : State) :
    LatchesKept s (execTimingChange t m s) := serve_keepsLatches _ _ _ _ _ fun s => by simp

theorem execTimingAnchor_keepsLatches (t : Nat) (m : Msg) (s : State) :
    LatchesKept s (execTimingAnchor t m s) := serve_keepsLatches _ _ _ _ _ fun s => by simp

theorem execHostScaleWrite_keepsLatches (t : Nat) (m : Msg) (s : State) :
    LatchesKept s (execHostScaleWrite t m s) := serve_keepsLatches _ _ _ _ _ fun s => by simp

@[simp] theorem monitorSmall_keepsLatches (c : MonitorConfig) (s : State) :
    (monitorSmall c s).arr.latches = s.arr.latches := by simp [monitorSmall]

@[simp] theorem monitorFrom_keepsLatches (c : MonitorConfig) (k : Nat) (s : State) :
    (monitorFrom c k s).arr.latches = s.arr.latches := by simp [monitorFrom]

@[simp] theorem monitorPlace_keepsLatches (m : Msg) (c : MonitorConfig) (s : State) :
    LatchesAnswered s (monitorPlace m c s) := by simp [monitorPlace]

theorem execMonitorConfigWrite_keepsLatches (t : Nat) (m : Msg) (s : State) :
    LatchesKept s (execMonitorConfigWrite t m s) := serve_keepsLatches _ _ _ _ _ fun s => by simp

/-! ### The operations of `Machine/DiagMsgs` -/

theorem execLogRead_keepsLatches (t : Nat) (m : Msg) (s : State) :
    LatchesKept s (execLogRead t m s) := serve_keepsLatches _ _ _ _ _ fun s => by simp

theorem execEventFilter_keepsLatches (t : Nat) (m : Msg) (s : State) :
    LatchesKept s (execEventFilter t m s) := serve_keepsLatches _ _ _ _ _ fun s => by simp

theorem execFaultMapRead_keepsLatches (t : Nat) (m : Msg) (s : State) :
    LatchesKept s (execFaultMapRead t m s) := serve_keepsLatches _ _ _ _ _ fun s => by simp

theorem execScalerCoeffRead_keepsLatches (t : Nat) (m : Msg) (s : State) :
    LatchesKept s (execScalerCoeffRead t m s) := serve_keepsLatches _ _ _ _ _ fun s => by simp

/-! ### The operations of `Machine/SafetyMsgs` -/

theorem execChestStage_keepsLatches (t : Nat) (m : Msg) (s : State) :
    LatchesKept s (execChestStage t m s) := serve_keepsLatches _ _ _ _ _ fun s => by simp

@[simp] theorem startActivation_keepsLatches (m : Msg) (s : State) :
    (startActivation m s).arr.latches = s.arr.latches := by simp [startActivation]

theorem execChestActivate_keepsLatches (t : Nat) (m : Msg) (s : State) : LatchesKept s (execChestActivate t m s) := by
  unfold execChestActivate
  dsimp only
  (repeat' split) <;> simp

@[simp] theorem bindChest_keepsLatches (img : ChestImage) (ref m : Nat) (s : State) :
    (bindChest img ref m s).arr.latches = s.arr.latches := by simp [bindChest]

theorem execChestRefComplete_keepsLatches (t : Nat) (s : State) : LatchesKept s (execChestRefComplete t s) := by
  unfold execChestRefComplete
  dsimp only
  split <;> simp

theorem execSettleStage_keepsLatches (t : Nat) (m : Msg) (s : State) :
    LatchesKept s (execSettleStage t m s) := serve_keepsLatches _ _ _ _ _ fun s => by simp

@[simp] theorem startLatches_keepsLatches (levels : List Nat) (codes : Mem Nat) (s : State) :
    (startLatches levels codes s).arr.latches = s.arr.latches := by simp [startLatches]

@[simp] theorem settleWork_keepsLatches (m : Msg) (s : State) : LatchesAnswered s (settleWork m s) := by simp [settleWork]

theorem execSettleActivate_keepsLatches (t : Nat) (m : Msg) (s : State) : LatchesKept s (execSettleActivate t m s) :=
  serve_keepsLatches _ _ _ _ _ fun s => .checked (crcGuard_keepsLatches _ _ fun s => by simp)

theorem execSafetyStore_keepsLatches (t : Nat) (m : Msg) (s : State) :
    LatchesKept s (execSafetyStore t m s) := serve_keepsLatches _ _ _ _ _ fun s => by simp

theorem execSafetyStoreOutcome_keepsLatches (t : Nat) (erased : Bool) (s : State) :
    LatchesKept s (execSafetyStoreOutcome t erased s) := by simp [execSafetyStoreOutcome]

/-! ### The operations of `Machine/ReactMsgs` -/

theorem execHoldDemand_keepsLatches (t : Nat) (m : Msg) (s : State) :
    LatchesKept s (execHoldDemand t m s) := serve_keepsLatches _ _ _ _ _ fun s => by simp

@[simp] theorem startRecovery_keepsLatches (s : State) : (startRecovery s).arr.latches = s.arr.latches := by simp [startRecovery]

theorem execRecover_keepsLatches (t : Nat) (m : Msg) (s : State) :
    LatchesKept s (execRecover t m s) := serve_keepsLatches _ _ _ _ _ fun s => by simp

theorem execFaultForceSet_keepsLatches (t : Nat) (m : Msg) (s : State) :
    LatchesKept s (execFaultForceSet t m s) := serveThen_keepsLatches _ _ _ _ _ (fun s => by simp) fun s => by simp

theorem execFaultForceClear_keepsLatches (t : Nat) (m : Msg) (s : State) :
    LatchesKept s (execFaultForceClear t m s) := serve_keepsLatches _ _ _ _ _ fun s => by simp

@[simp] theorem reactRaised_keepsLatches (src : Nat) (s : State) : (reactRaised src s).arr.latches = s.arr.latches := by simp [reactRaised]

@[simp] theorem configureFault_keepsLatches (src r : Nat) (s : State) :
    (configureFault src r s).arr.latches = s.arr.latches := by simp [configureFault]

theorem execFaultConfig_keepsLatches (t : Nat) (m : Msg) (s : State) :
    LatchesKept s (execFaultConfig t m s) := serve_keepsLatches _ _ _ _ _ fun s => by simp

@[simp] theorem setMirror_keepsLatches (v : Nat) (s : State) : (setMirror v s).arr.latches = s.arr.latches := by
  unfold setMirror
  dsimp only
  split <;> simp

theorem execCompConfigWrite_keepsLatches (t : Nat) (m : Msg) (s : State) :
    LatchesKept s (execCompConfigWrite t m s) := serve_keepsLatches _ _ _ _ _ fun s => by simp

theorem execGovBudgetWrite_keepsLatches (t : Nat) (m : Msg) (s : State) :
    LatchesKept s (execGovBudgetWrite t m s) := serve_keepsLatches _ _ _ _ _ fun s => by simp

theorem execHostTimeoutWrite_keepsLatches (t : Nat) (m : Msg) (s : State) :
    LatchesKept s (execHostTimeoutWrite t m s) := serve_keepsLatches _ _ _ _ _ fun s => by simp

theorem execSdimConfigWrite_keepsLatches (t : Nat) (m : Msg) (s : State) :
    LatchesKept s (execSdimConfigWrite t m s) := serve_keepsLatches _ _ _ _ _ fun s => by simp

/-! ### The operations of `Machine/CalMsgs` -/

@[simp] theorem holdWarm_keepsLatches (s : State) : (holdWarm s).arr.latches = s.arr.latches := by simp [holdWarm]

theorem execCalRun_keepsLatches (t : Nat) (m : Msg) (s : State) :
    LatchesKept s (execCalRun t m s) := serve_keepsLatches _ _ _ _ _ fun s => by simp

@[simp] theorem applyRun_keepsLatches (fields : List (Nat × Int × Int × Int)) (s : State) :
    (applyRun fields s).arr.latches = s.arr.latches := by simp [applyRun]

@[simp] theorem judgeRun_keepsLatches (p q : CalPass) (s : State) : (judgeRun p q s).arr.latches = s.arr.latches := by simp [judgeRun]

@[simp] theorem startPass_keepsLatches (s : State) : (startPass s).arr.latches = s.arr.latches := by simp [startPass]

@[simp] theorem endPass_keepsLatches (p : CalPass) (s : State) : (endPass p s).arr.latches = s.arr.latches := by simp [endPass]

theorem execCalRunOutcome_keepsLatches (t : Nat) (e : CalStep) (s : State) : LatchesKept s (execCalRunOutcome t e s) := by
  unfold execCalRunOutcome
  dsimp only
  (repeat' split) <;> simp

theorem execCalRead_keepsLatches (t : Nat) (m : Msg) (s : State) :
    LatchesKept s (execCalRead t m s) := serve_keepsLatches _ _ _ _ _ fun s => by simp

theorem execCalWrite_keepsLatches (t : Nat) (m : Msg) (s : State) :
    LatchesKept s (execCalWrite t m s) := serve_keepsLatches _ _ _ _ _ fun s => by simp

theorem execCalStore_keepsLatches (t : Nat) (m : Msg) (s : State) :
    LatchesKept s (execCalStore t m s) := serve_keepsLatches _ _ _ _ _ fun s => by simp

@[simp] theorem writeSlot_keepsLatches (s : State) : (writeSlot s).arr.latches = s.arr.latches := by simp [writeSlot]

theorem execCalStoreOutcome_keepsLatches (t : Nat) (erased : Bool) (s : State) :
    LatchesKept s (execCalStoreOutcome t erased s) := by simp [execCalStoreOutcome]

@[simp] theorem writeUniformity_keepsLatches (first : Nat) (us : List Nat) (s : State) :
    (writeUniformity first us s).arr.latches = s.arr.latches := by simp [writeUniformity]

theorem execCorrChunk_keepsLatches (t : Nat) (m : Msg) (s : State) : LatchesKept s (execCorrChunk t m s) :=
  serve_keepsLatches _ _ _ _ _ fun s => .checked (crcGuard_keepsLatches _ _ fun s => by split <;> simp)

@[simp] theorem stageCurve_keepsLatches (m : Msg) (s : State) : (stageCurve m s).arr.latches = s.arr.latches := by simp [stageCurve]

@[simp] theorem applyCurve_keepsLatches (n : Nat) (s : State) : LatchesAnswered s (applyCurve n s) := by
  unfold applyCurve
  dsimp only
  split <;> simp

theorem execTcurveWrite_keepsLatches (t : Nat) (m : Msg) (s : State) :
    LatchesKept s (execTcurveWrite t m s) := serve_keepsLatches _ _ _ _ _ fun s => by simp

theorem execTcurveApply_keepsLatches (t : Nat) (m : Msg) (s : State) : LatchesKept s (execTcurveApply t m s) := by
  refine serve_keepsLatches _ _ _ _ _ fun s => .checked ?_
  have hcurve := applyCurve_keepsLatches (le m.payload 0 1) (stageCurve m s)
  rwa [LatchesAnswered, stageCurve_keepsLatches] at hcurve

theorem execAgeingCurveWrite_keepsLatches (t : Nat) (m : Msg) (s : State) :
    LatchesKept s (execAgeingCurveWrite t m s) := serve_keepsLatches _ _ _ _ _ fun s => by simp

/-! ### The operations of `Machine/Converters` -/

@[simp] theorem noteTaint_keepsLatches (n input : Nat) (l : List Sample) (s : State) :
    (noteTaint n input l s).arr.latches = s.arr.latches := by simp [noteTaint]

@[simp] theorem countEntry_keepsLatches (n input : Nat) (l : List Sample) (s : State) :
    (countEntry n input l s).arr.latches = s.arr.latches := by simp [countEntry]

@[simp] theorem countEntries_keepsLatches (n first : Nat) (entries : List (List Sample)) (s : State) :
    (countEntries n first entries s).arr.latches = s.arr.latches := by simp [countEntries]

@[simp] theorem takeReadings_keepsLatches (readings : List (List Sample)) (s : State) :
    (takeReadings readings s).arr.latches = s.arr.latches := by simp [takeReadings]

@[simp] theorem followThreshold_keepsLatches (r : Nat × Int) (x : Nat × Int × Int) (s : State) :
    (followThreshold r x s).arr.latches = s.arr.latches := by simp [followThreshold]

@[simp] theorem followHeat_keepsLatches (s : State) : (followHeat s).arr.latches = s.arr.latches := by simp [followHeat]

@[simp] theorem followInterlock_keepsLatches (s : State) : (followInterlock s).arr.latches = s.arr.latches := by simp [followInterlock]

theorem execScan_keepsLatches (t : Nat) (readings : List (List Sample)) (s : State) : LatchesKept s (execScan t readings s) := by simp [execScan]

theorem execThermalStep_keepsLatches (t : Nat) (s : State) : LatchesKept s (execThermalStep t s) := by simp [execThermalStep]

@[simp] theorem urgent_keepsLatches (input : Nat) (x : Sample) (s : State) : (urgent input x s).arr.latches = s.arr.latches := by simp [urgent]

theorem execUrgentRequest_keepsLatches (t input : Nat) (x : Sample) (s : State) :
    LatchesKept s (execUrgentRequest t input x s) := by simp [execUrgentRequest]

theorem execShutdownComparator_keepsLatches (t input : Nat) (x : Sample) (s : State) :
    LatchesKept s (execShutdownComparator t input x s) := by simp [execShutdownComparator]

@[simp] theorem selfOutcome_keepsLatches (a b : List Int) (s : State) : (selfOutcome a b s).arr.latches = s.arr.latches := by
  unfold selfOutcome
  split <;> simp

@[simp] theorem takeSelftest_keepsLatches (a b : List (List Sample)) (s : State) :
    (takeSelftest a b s).arr.latches = s.arr.latches := by simp [takeSelftest]

theorem execSelftest_keepsLatches (t : Nat) (a b : List (List Sample)) (s : State) :
    LatchesKept s (execSelftest t a b s) := by simp [execSelftest]

theorem execReferenceModeWarm_keepsLatches (t : Nat) (conv : Conv) (s : State) : LatchesKept s (execReferenceModeWarm t conv s) := by
  unfold execReferenceModeWarm
  split <;> simp

theorem execConvRefReady_keepsLatches (t : Nat) (conv : Conv) (s : State) : LatchesKept s (execConvRefReady t conv s) := by
  unfold execConvRefReady
  split <;> simp

theorem execReferenceModeAuto_keepsLatches (t : Nat) (conv : Conv) (s : State) : LatchesKept s (execReferenceModeAuto t conv s) := by
  unfold execReferenceModeAuto
  split <;> simp

/-! ### The operations of `Machine/Memories` -/

@[simp] theorem enqueueDram_keepsLatches (r : DramReq) (s : State) : (enqueueDram r s).arr.latches = s.arr.latches := by
  unfold enqueueDram
  dsimp only
  split <;> simp

@[simp] theorem refreshRow_keepsLatches (key row : Nat) (s : State) : (refreshRow key row s).arr.latches = s.arr.latches := by simp [refreshRow]

@[simp] theorem refreshDue_keepsLatches (key : Nat) (s : State) : (refreshDue key s).arr.latches = s.arr.latches := by simp [refreshDue]

@[simp] theorem activate_keepsLatches (r : DramReq) (s : State) : (activate r s).arr.latches = s.arr.latches := by simp [activate]

@[simp] theorem dramEcc_keepsLatches (ch owner : Nat) (ecc : Ecc) (s : State) : (dramEcc ch owner ecc s).arr.latches = s.arr.latches := by
  unfold dramEcc
  split <;> simp

@[simp] theorem serveDram_keepsLatches (r : DramReq) (s : State) : (serveDram r s).arr.latches = s.arr.latches := by simp [serveDram]

theorem execDramRequest_keepsLatches (t : Nat) (req : Option DramReq) (channel : Nat) (s : State) :
    LatchesKept s (execDramRequest t req channel s) := by
  unfold execDramRequest
  dsimp only
  (repeat' split) <;> simp

theorem execDramScrub_keepsLatches (t channel owner : Nat) (ecc : Ecc) (s : State) :
    LatchesKept s (execDramScrub t channel owner ecc s) := by simp [execDramScrub]

theorem execDqsDriftCheck_keepsLatches (t channel : Nat) (steps : List Int) (refresh : Nat) (s : State) :
    LatchesKept s (execDqsDriftCheck t channel steps refresh s) := by simp [execDqsDriftCheck]

theorem execNeighbourRefresh_keepsLatches (t channel bank row : Nat) (s : State) :
    LatchesKept s (execNeighbourRefresh t channel bank row s) := by simp [execNeighbourRefresh]

@[simp] theorem nextRefreshWindow_keepsLatches (channel : Nat) (s : State) :
    (nextRefreshWindow channel s).arr.latches = s.arr.latches := by simp [nextRefreshWindow]

theorem execRefreshWindowStart_keepsLatches (t : Nat) (s : State) :
    LatchesKept s (execRefreshWindowStart t s) := by simp [execRefreshWindowStart]

theorem execPanSramScrub_keepsLatches (t bank : Nat) (ecc : Ecc) (s : State) : LatchesKept s (execPanSramScrub t bank ecc s) := by
  unfold execPanSramScrub
  dsimp only
  (repeat' split) <;> simp

/-! ### The operations of `Machine/Rake` -/

@[simp] theorem startProbe_keepsLatches (s : State) : (startProbe s).arr.latches = s.arr.latches := by
  unfold startProbe
  dsimp only
  split <;> simp

@[simp] theorem endProbe_keepsLatches (w : RakeWindow) (m : Probe) (s : State) :
    (endProbe w m s).arr.latches = s.arr.latches := by simp [endProbe]

theorem execProbeWindow_keepsLatches (t : Nat) (m : Option Probe) (s : State) : LatchesKept s (execProbeWindow t m s) := by
  unfold execProbeWindow
  dsimp only
  (repeat' split) <;> simp

@[simp] theorem startSweep_keepsLatches (s : State) : (startSweep s).arr.latches = s.arr.latches := by simp [startSweep]

@[simp] theorem endSweep_keepsLatches (w : RakeWindow) (m : Probe) (samples : List Sample) (s : State) :
    (endSweep w m samples s).arr.latches = s.arr.latches := by simp [endSweep]

theorem execSweepWindow_keepsLatches (t : Nat) (m : Option Probe) (samples : List Sample) (s : State) :
    LatchesKept s (execSweepWindow t m samples s) := by
  unfold execSweepWindow
  dsimp only
  (repeat' split) <;> simp

theorem execVfModelRewrite_keepsLatches (t : Nat) (s : State) : LatchesKept s (execVfModelRewrite t s) := by simp [execVfModelRewrite]

theorem execFaultMapFlashWrite_keepsLatches (t : Nat) (s : State) :
    LatchesKept s (execFaultMapFlashWrite t s) := by simp [execFaultMapFlashWrite]

theorem execMapSnapshot_keepsLatches (t : Nat) (s : State) : LatchesKept s (execMapSnapshot t s) := by simp [execMapSnapshot]

/-! ### The operations of `Machine/SafeDimCmds` -/

@[simp] theorem takeSample_keepsLatches (a b : Bool) (s : State) : (takeSample a b s).arr.latches = s.arr.latches := by simp [takeSample]

theorem execSdimSample_keepsLatches (t : Nat) (a b : Contact) (s : State) : LatchesKept s (execSdimSample t a b s) := by simp [execSdimSample]

@[simp] theorem startDemand_keepsLatches (a b : Bool) (s : State) : (startDemand a b s).arr.latches = s.arr.latches := by simp [startDemand]

@[simp] theorem releaseLight_keepsLatches (target : Nat) (held : Bool) (s : State) :
    (releaseLight target held s).arr.latches = s.arr.latches := by
  unfold releaseLight
  split <;> simp

@[simp] theorem releaseDemand_keepsLatches (s : State) : (releaseDemand s).arr.latches = s.arr.latches := by simp [releaseDemand]

@[simp] theorem endRamp_keepsLatches (s : State) : (endRamp s).arr.latches = s.arr.latches := by simp [endRamp]

@[simp] theorem raiseDiscrepancy_keepsLatches (s : State) : (raiseDiscrepancy s).arr.latches = s.arr.latches := by simp [raiseDiscrepancy]

@[simp] theorem followAgreement_keepsLatches (s : State) : (followAgreement s).arr.latches = s.arr.latches := by simp [followAgreement]

@[simp] theorem raiseProofMissing_keepsLatches (s : State) : (raiseProofMissing s).arr.latches = s.arr.latches := by simp [raiseProofMissing]

@[simp] theorem seeProof_keepsLatches (s : State) : (seeProof s).arr.latches = s.arr.latches := by simp [seeProof]

@[simp] theorem followProof_keepsLatches (oldA oldB : Bool) (s : State) :
    (followProof oldA oldB s).arr.latches = s.arr.latches := by simp [followProof]

@[simp] theorem tickDue_keepsLatches (s : State) : (tickDue s).arr.latches = s.arr.latches := by simp [tickDue]

@[simp] theorem takeLevels_keepsLatches (s : State) : (takeLevels s).arr.latches = s.arr.latches := by simp [takeLevels]

theorem execSdimFilterTick_keepsLatches (t : Nat) (s : State) : LatchesKept s (execSdimFilterTick t s) := by simp [execSdimFilterTick]

theorem execSdimDiscrepancy_keepsLatches (t : Nat) (s : State) : LatchesKept s (execSdimDiscrepancy t s) := by simp [execSdimDiscrepancy]

theorem execProofMissing_keepsLatches (t : Nat) (s : State) : LatchesKept s (execProofMissing t s) := by simp [execProofMissing]

@[simp] theorem setBankScale_latches (shown : Bank) (v : Nat) (a : PixelArray) :
    (setBankScale shown v a).latches = a.latches := by cases shown <;> rfl

@[simp] theorem lowerShown_keepsLatches (env : Nat) (s : State) : (lowerShown env s).arr.latches = s.arr.latches := by
  unfold lowerShown
  simp

theorem execRampTick_keepsLatches (t : Nat) (s : State) : LatchesKept s (execRampTick t s) := by
  unfold execRampTick
  dsimp only
  split <;> simp

theorem execRampEnd_keepsLatches (t : Nat) (s : State) : LatchesKept s (execRampEnd t s) := by simp [execRampEnd]

theorem execRampEnvelope_keepsLatches (t mean : Nat) (s : State) : LatchesKept s (execRampEnvelope t mean s) := by simp [execRampEnvelope]

@[simp] theorem rollWindow_keepsLatches (k mean : Nat) (s : State) : (rollWindow k mean s).arr.latches = s.arr.latches := by simp [rollWindow]

theorem execGovernorEnvelope_keepsLatches (t mean : Nat) (s : State) :
    LatchesKept s (execGovernorEnvelope t mean s) := by simp [execGovernorEnvelope]

theorem execVledRegulation_keepsLatches (t mv : Nat) (s : State) : LatchesKept s (execVledRegulation t mv s) := by simp [execVledRegulation]

@[simp] theorem pulseOutcome_keepsLatches (fallOk : Bool) (recoveryOk : Option Bool) (s : State) :
    (pulseOutcome fallOk recoveryOk s).arr.latches = s.arr.latches := by simp [pulseOutcome]

theorem execCutoffTestpulse_keepsLatches (t : Nat) (fallOk : Bool) (recoveryOk : Option Bool) (s : State) :
    LatchesKept s (execCutoffTestpulse t fallOk recoveryOk s) := by simp [execCutoffTestpulse]

theorem execSwitchReadback_keepsLatches (t : Nat) (isOpen : Bool) (s : State) :
    LatchesKept s (execSwitchReadback t isOpen s) := by simp [execSwitchReadback]

/-! ### The operations of `Machine/Sync` -/

@[simp] theorem symArrive_keepsLatches (x : Sym) (s : State) : (symArrive x s).arr.latches = s.arr.latches := by simp [symArrive]

theorem execSymbolSlot_keepsLatches (t : Nat) (s : State) : LatchesKept s (execSymbolSlot t s) := by simp [execSymbolSlot]

theorem execSymbolRepeat_keepsLatches (t : Nat) (sym : Sym) (s : State) : LatchesKept s (execSymbolRepeat t sym s) := by simp [execSymbolRepeat]

@[simp] theorem compareBank_keepsLatches (sym : Sym) (s : State) : (compareBank sym s).arr.latches = s.arr.latches := by simp [compareBank]

@[simp] theorem takeSluice_keepsLatches (sym : Sym) (tEnd : Nat) (s : State) :
    (takeSluice sym tEnd s).arr.latches = s.arr.latches := by simp [takeSluice]

theorem execSluiceSymbolReceived_keepsLatches (t : Nat) (sym : Sym) (tEnd : Nat) (s : State) :
    LatchesKept s (execSluiceSymbolReceived t sym tEnd s) := by simp [execSluiceSymbolReceived]

@[simp] theorem confirmUpstream_keepsLatches (s : State) : (confirmUpstream s).arr.latches = s.arr.latches := by simp [confirmUpstream]

@[simp] theorem takeHead_keepsLatches (sym : Sym) (s : State) : (takeHead sym s).arr.latches = s.arr.latches := by simp [takeHead]

theorem execHeadReceived_keepsLatches (t : Nat) (sym : Sym) (s : State) : LatchesKept s (execHeadReceived t sym s) := by
  unfold execHeadReceived
  dsimp only
  (repeat' split) <;> simp

@[simp] theorem pendDepth_keepsLatches (depth : Nat) (s : State) : (pendDepth depth s).arr.latches = s.arr.latches := by simp [pendDepth]

@[simp] theorem takeDepth_keepsLatches (depth : Nat) (s : State) : (takeDepth depth s).arr.latches = s.arr.latches := by simp [takeDepth]

@[simp] theorem unenumerate_keepsLatches (s : State) : (unenumerate s).arr.latches = s.arr.latches := by simp [unenumerate]

theorem execEnumReceived_keepsLatches (t : Nat) (sym : Sym) (s : State) : LatchesKept s (execEnumReceived t sym s) := by
  unfold execEnumReceived
  dsimp only
  (repeat' split) <;> simp

@[simp] theorem becomeHead_keepsLatches (s : State) : (becomeHead s).arr.latches = s.arr.latches := by simp [becomeHead]

theorem execStartWindowEnd_keepsLatches (t : Nat) (s : State) : LatchesKept s (execStartWindowEnd t s) := by simp [execStartWindowEnd]

theorem execSyncLoss_keepsLatches (t : Nat) (s : State) : LatchesKept s (execSyncLoss t s) := by simp [execSyncLoss]

theorem execSyncLossEnd_keepsLatches (t : Nat) (s : State) : LatchesKept s (execSyncLossEnd t s) := by simp [execSyncLossEnd]

theorem execLinkDelayMeasure_keepsLatches (t delay : Nat) (s : State) :
    LatchesKept s (execLinkDelayMeasure t delay s) := by simp [execLinkDelayMeasure]

/-! ### The operations of `Machine/PowerMsgs` -/

@[simp] theorem startIdleRamp_keepsLatches (s : State) : (startIdleRamp s).arr.latches = s.arr.latches := by simp [startIdleRamp]

theorem execIdleRequest_keepsLatches (t : Nat) (m : Msg) (s : State) :
    LatchesKept s (execIdleRequest t m s) := serve_keepsLatches _ _ _ _ _ fun s => by simp

@[simp] theorem wakeToLight_keepsLatches (s : State) : (wakeToLight s).arr.latches = s.arr.latches := by simp [wakeToLight]

theorem execWakeToLight_keepsLatches (t : Nat) (m : Msg) (s : State) :
    LatchesKept s (execWakeToLight t m s) := serve_keepsLatches _ _ _ _ _ fun s => by simp

@[simp] theorem headNow_keepsLatches (s : State) : (headNow s).arr.latches = s.arr.latches := by simp [headNow]

@[simp] theorem writeSync_keepsLatches (c : SyncConfig) (s : State) : (writeSync c s).arr.latches = s.arr.latches := by simp [writeSync]

theorem execSyncConfigWrite_keepsLatches (t : Nat) (m : Msg) (s : State) :
    LatchesKept s (execSyncConfigWrite t m s) := serve_keepsLatches _ _ _ _ _ fun s => by simp

theorem execSyncEnumerate_keepsLatches (t : Nat) (m : Msg) (s : State) :
    LatchesKept s (execSyncEnumerate t m s) := serve_keepsLatches _ _ _ _ _ fun s => by simp

@[simp] theorem zeroise_keepsLatches (s : State) : (zeroise s).arr.latches = s.arr.latches := by simp [zeroise]

@[simp] theorem advanceTo_keepsLatches (target : Nat) (s : State) : (advanceTo target s).arr.latches = s.arr.latches := by simp [advanceTo]

theorem execLifecycleAdvance_keepsLatches (t : Nat) (m : Msg) (s : State) :
    LatchesKept s (execLifecycleAdvance t m s) := serveThen_keepsLatches _ _ _ _ _ (fun s => by simp) fun s => by simp

theorem execZeroise_keepsLatches (t : Nat) (m : Msg) (s : State) :
    LatchesKept s (execZeroise t m s) := serveThen_keepsLatches _ _ _ _ _ (fun s => by simp) fun s => by simp

/-! ### The operations of `Machine/ReadWord` -/

theorem execReadWord_keepsLatches (t : Nat) (m : Msg) (s : State) :
    LatchesKept s (execReadWord t m s) := serve_keepsLatches _ _ _ _ _ fun s => by simp

/-! ### The operations of `Machine/UpdateMsgs` -/

@[simp] theorem recordIntent_keepsLatches (bytes : Nat) (s : State) :
    (recordIntent bytes s).arr.latches = s.arr.latches := by simp [recordIntent]

theorem execUpdateIntent_keepsLatches (t : Nat) (m : Msg) (boot : BootInputs) (s : State) :
    LatchesKept s (execUpdateIntent t m boot s) := serveThen_keepsLatches _ _ _ _ _ (fun s => by simp) fun s => by simp

@[simp] theorem beginBlock_keepsLatches (start : Nat) (s : State) : (beginBlock start s).arr.latches = s.arr.latches := by simp [beginBlock]

@[simp] theorem fillBlock_keepsLatches (bs : List Byte) (s : State) : (fillBlock bs s).arr.latches = s.arr.latches := by
  unfold fillBlock
  split <;> simp

@[simp] theorem programBlock_keepsLatches (s : State) : (programBlock s).arr.latches = s.arr.latches := by
  unfold programBlock
  split <;> simp

@[simp] theorem writeBytes_keepsLatches (at_ : Nat) (bs : List Byte) (s : State) :
    (writeBytes at_ bs s).arr.latches = s.arr.latches := by simp [writeBytes]

theorem execUpdateBlock_keepsLatches (t : Nat) (m : Msg) (s : State) :
    LatchesKept s (execUpdateBlock t m s) := serve_keepsLatches _ _ _ _ _ fun s => by simp

theorem execUpdateVerify_keepsLatches (t : Nat) (m : Msg) (s : State) :
    LatchesKept s (execUpdateVerify t m s) := serve_keepsLatches _ _ _ _ _ fun s => by simp

@[simp] theorem verifyOutcome_keepsLatches (v : ImageVerdict) (s : State) :
    (verifyOutcome v s).arr.latches = s.arr.latches := by simp [verifyOutcome]

theorem execUpdateVerifyOutcome_keepsLatches (t : Nat) (v : ImageVerdict) (s : State) :
    LatchesKept s (execUpdateVerifyOutcome t v s) := by simp [execUpdateVerifyOutcome]

theorem execUpdateActivate_keepsLatches (t : Nat) (m : Msg) (boot : BootInputs) (s : State) :
    LatchesKept s (execUpdateActivate t m boot s) := serveThen_keepsLatches _ _ _ _ _ (fun s => by simp) fun s => by simp

@[simp] theorem confirmImage_keepsLatches (s : State) : (confirmImage s).arr.latches = s.arr.latches := by simp [confirmImage]

theorem execUpdateConfirm_keepsLatches (t : Nat) (m : Msg) (s : State) :
    LatchesKept s (execUpdateConfirm t m s) := serve_keepsLatches _ _ _ _ _ fun s => by simp

end Sys2Proof.Machine

/-! ## Settle-latch cycles and the readback check (03 R69, R77 to R79) -/

namespace Sys2Proof.Machine

/-! ### An assertion leaves the update and the check where they are -/

section
variable {c : Prop} [Decidable c] (a b : PixelArray)

@[simp] theorem ite_latchBusy : (if c then a else b).latchBusy = if c then a.latchBusy else b.latchBusy := apply_ite PixelArray.latchBusy c a b
@[simp] theorem ite_latchRow : (if c then a else b).latchRow = if c then a.latchRow else b.latchRow := apply_ite PixelArray.latchRow c a b
@[simp] theorem ite_latchRetry : (if c then a else b).latchRetry = if c then a.latchRetry else b.latchRetry := apply_ite PixelArray.latchRetry c a b
@[simp] theorem ite_levels : (if c then a else b).levels = if c then a.levels else b.levels := apply_ite PixelArray.levels c a b
@[simp] theorem ite_checkRow : (if c then a else b).checkRow = if c then a.checkRow else b.checkRow := apply_ite PixelArray.checkRow c a b
@[simp] theorem ite_checkedAt : (if c then a else b).checkedAt = if c then a.checkedAt else b.checkedAt := apply_ite PixelArray.checkedAt c a b

end

/-- The row the update has come to, the levels, and the row of the readback check are the same. -/
abbrev CycleKept (s u : State) : Prop :=
  u.arr.latchBusy = s.arr.latchBusy ∧ u.arr.latchRow = s.arr.latchRow ∧ u.arr.latchRetry = s.arr.latchRetry ∧ u.arr.levels = s.arr.levels
    ∧ u.arr.checkRow = s.arr.checkRow ∧ u.arr.checkedAt = s.arr.checkedAt

theorem cycleKept_of_arr {s u : State} (h : u.arr = s.arr) : CycleKept s u := by simp [CycleKept, h]

@[simp] theorem closeSwitch_cycle (s : State) : CycleKept s (closeSwitch s) := by
  unfold closeSwitch
  split <;> simp [CycleKept]

@[simp] theorem openSwitch_cycle (cause : Nat) (s : State) : CycleKept s (openSwitch cause s) := by
  unfold openSwitch
  split <;> simp [CycleKept]

@[simp] theorem selectSettle_cycle (s : State) : CycleKept s (selectSettle s) := ⟨rfl, rfl, rfl, rfl, rfl, rfl⟩

@[simp] theorem drvLow_cycle (s : State) : CycleKept s (drvLow s) := ⟨rfl, rfl, rfl, rfl, rfl, rfl⟩

@[simp] theorem kindHardware_cycle (kind cause : Nat) (s : State) : CycleKept s (kindHardware kind cause s) := by
  unfold kindHardware
  split <;> simp [CycleKept]

@[simp] theorem goSafe_cycle (kind cause : Nat) (s : State) : CycleKept s (goSafe kind cause s) := by simp [CycleKept, goSafe]

@[simp] theorem startSchedule_cycle (s : State) : CycleKept s (startSchedule s) := by simp [CycleKept, startSchedule]

@[simp] theorem proofToSafe_cycle (kind cause : Nat) (s : State) : CycleKept s (proofToSafe kind cause s) := by simp [CycleKept, proofToSafe]

@[simp] theorem react_cycle (src data r : Nat) (s : State) : CycleKept s (react src data r s) := by
  cases h : s.mode.op <;> simp [CycleKept, react, h]

@[simp] theorem settleFails_cycle (s : State) : CycleKept s (settleFails s) := by simp [CycleKept, settleFails]

theorem deliver_cycle (src data : Nat) (forced : Bool) (s : State) : CycleKept s (deliver src data forced false s) := by
  unfold CycleKept deliver
  split <;> simp

/-- FS09 and FS45 have no block action. -/
theorem deliver_latch {src : Nat} (h : src = 9 ∨ src = 45) (data : Nat) (forced : Bool) (s : State) :
    deliver src data forced true s = deliver src data forced false s := by
  obtain rfl | rfl := h <;>
  · unfold deliver
    split <;> rfl

theorem assertSource_cycle {src : Nat} (h : src = 9 ∨ src = 45) (data : Nat) (forced : Bool) (s : State) :
    CycleKept s (assertSource src data forced s) := by
  rw [assertSource_eq]
  split
  · exact cycleKept_of_arr (by simp [conditionNoted])
  · rw [deliver_latch h]
    obtain ⟨hbusy, hrow, hretry, hlevels, hcheck, hat⟩ := deliver_cycle src (data % 65536) forced (conditionNoted src data forced s)
    exact ⟨hbusy, hrow, hretry, hlevels, hcheck, hat⟩

/-- What the collector has seen stays seen in an assertion (15 R360). -/
theorem assertSource_stillSeen {n : Nat} (src data : Nat) (forced : Bool) {s : State} (h : hasBit s.flt.seen n = true) :
    hasBit (assertSource src data forced s).flt.seen n = true := by
  have hnoted : (conditionNoted src data forced s).flt.seen = s.flt.seen := by
    unfold conditionNoted
    (repeat' split) <;> rfl
  rw [assertSource_eq]
  split
  · rwa [hnoted]
  · generalize conditionNoted src data forced s = u at hnoted
    rw [← hnoted] at h
    cases hs : isShadowed u src (data % 65536) with
    | true =>
      rw [deliver_shadowed _ _ hs]
      have hseen : (deliverShadowed src (data % 65536) forced u).flt.seen = withBit u.flt.seen src := by
        unfold deliverShadowed
        dsimp only
        split
        · rfl
        · exact (recordFault_latched ..).2.1
      rw [hseen, hasBit_withBit, h, Bool.true_or]
    | false =>
      rw [(deliver_latched hs).2.1, latchedBy, latchFirst_eq]
      exact (hasBit_withBit ..).trans (by rw [h, Bool.true_or])

/-! ### A row cycle (03 R77 to R79) -/

@[simp] theorem followBeam_flt (s : State) : (followBeam s).flt = s.flt := by simp [followBeam]

@[simp] theorem followBeam_leaves (s : State) : (followBeam s).arr.latches = s.arr.latches ∧ CycleKept s (followBeam s) := by
  simp [followBeam, CycleKept]

@[simp] theorem latchDone_leaves (old s : State) : (latchDone old s).arr = s.arr ∧ (latchDone old s).flt = s.flt := by
  have hbase : (freshBase s).arr = s.arr ∧ (freshBase s).flt = s.flt := by
    unfold freshBase
    dsimp only
    split <;> exact ⟨rfl, rfl⟩
  unfold latchDone shiftWindows
  dsimp only
  (repeat' split) <;> simp [hbase]

/-- The cycle of the gap begins: with row 0 the new levels are in force. -/
def cycleBegun (g used : Nat) (s : State) : State :=
  { s with arr := { s.arr with gapFrame := g, gapCycles := if s.sched.running then used + 1 else 0,
                                levels := if s.arr.latchRow = 0 then s.arr.newLevels else s.arr.levels } }

/-- The packet is rejected: it is repeated once, and then the row is left. -/
def rowRejected (s : State) : State :=
  let u := assertSource 45 (s.arr.latchRow + 1024) false (followBeam { s with arr := if s.arr.latchRetry then nextLatchRow s.arr
    else { s.arr with latchRetry := true, gapCycles := if s.sched.running then 32 else 0 } })
  latchDone s (if s.arr.latchRetry then assertSource 9 s.arr.latchRow false u else u)

/-- The row is written and read back. -/
def rowWritten (rb : List Nat) (s : State) : State :=
  let u := followBeam { s with arr := nextLatchRow (setLatchRow s.arr.latchRow rb s.arr) }
  latchDone s (if decide (rb ≠ latchRowOf s.arr.pattern s.arr.latchRow) then assertSource 9 s.arr.latchRow false u else u)

theorem nextLatchRow_state (a : PixelArray) :
    (nextLatchRow a).latches = a.latches ∧ (nextLatchRow a).levels = a.levels
      ∧ (a.latchRow ≠ 639 → (nextLatchRow a).latchBusy = a.latchBusy ∧ (nextLatchRow a).latchRow = a.latchRow + 1
        ∧ (nextLatchRow a).latchRetry = false)
      ∧ (a.latchRow = 639 → (nextLatchRow a).latchBusy = false ∧ (nextLatchRow a).latchRow = 0) := by
  by_cases h : a.latchRow = 639 <;> simp [nextLatchRow, h]

/-- What an FS09 leaves after a row that was written or read back. -/
theorem assertSettle_state (row : Nat) (c : Prop) [Decidable c] (s : State) :
    let u := if c then assertSource 9 row false s else s
    u.arr.latches = s.arr.latches ∧ CycleKept s u ∧ (¬c → u.flt = s.flt) ∧ (c → s.flt.running = true → hasBit u.flt.seen 9 = true) := by
  by_cases h : c
  · rw [if_pos h]
    exact ⟨(assertSource_lasting ..).2.2.1, assertSource_cycle (.inl rfl) .., fun hn => absurd h hn,
      fun _ hrun => assertSource_seen (by decide) (by decide) hrun⟩
  · rw [if_neg h]
    exact ⟨rfl, cycleKept_of_arr rfl, fun _ => rfl, fun hc => absurd hc h⟩

theorem rowWritten_state (rb : List Nat) (s : State) :
    let u := rowWritten rb s
    u.arr.latches = memWriteList 0 s.arr.latches (2048 * s.arr.latchRow) rb
      ∧ (rb = latchRowOf s.arr.pattern s.arr.latchRow → u.flt = s.flt)
      ∧ (rb ≠ latchRowOf s.arr.pattern s.arr.latchRow → s.flt.running = true → hasBit u.flt.seen 9 = true)
      ∧ (s.arr.latchRow ≠ 639 → u.arr.latchBusy = s.arr.latchBusy ∧ u.arr.latchRow = s.arr.latchRow + 1)
      ∧ (s.arr.latchRow = 639 → u.arr.latchBusy = false ∧ u.arr.latchRow = 0) ∧ u.arr.levels = s.arr.levels := by
  obtain ⟨hstored, hlevels0, hnext, hlast⟩ := nextLatchRow_state (setLatchRow s.arr.latchRow rb s.arr)
  obtain ⟨v, hv⟩ : ∃ v, v = followBeam { s with arr := nextLatchRow (setLatchRow s.arr.latchRow rb s.arr) } := ⟨_, rfl⟩
  have hdone : rowWritten rb s = latchDone s (if decide (rb ≠ latchRowOf s.arr.pattern s.arr.latchRow) = true
      then assertSource 9 s.arr.latchRow false v else v) := by rw [hv]; rfl
  obtain ⟨hbeam, hbusy0, hrow0, -, hbeamLevels, -⟩ := followBeam_leaves { s with arr := nextLatchRow (setLatchRow s.arr.latchRow rb s.arr) }
  rw [← hv] at hbeam hbusy0 hrow0 hbeamLevels
  obtain ⟨hlatches, ⟨hbusy, hrow, -, hlevels, -, -⟩, hsame, hdiff⟩ :=
    assertSettle_state s.arr.latchRow (decide (rb ≠ latchRowOf s.arr.pattern s.arr.latchRow) = true) v
  have hflt : v.flt = s.flt := by rw [hv, followBeam_flt]
  dsimp only
  rw [hdone, (latchDone_leaves ..).1, (latchDone_leaves ..).2]
  refine ⟨hlatches.trans (hbeam.trans hstored), fun h => (hsame (by simp [h])).trans hflt,
    fun h hrun => hdiff (by simp [h]) (by rwa [hflt]), fun h => ?_,
    fun h => ?_, hlevels.trans (hbeamLevels.trans hlevels0)⟩
  · obtain ⟨kbusy, krow, -⟩ := hnext h
    exact ⟨hbusy.trans (hbusy0.trans kbusy), hrow.trans (hrow0.trans krow)⟩
  · obtain ⟨kbusy, krow⟩ := hlast h
    exact ⟨hbusy.trans (hbusy0.trans kbusy), hrow.trans (hrow0.trans krow)⟩

theorem rowRejected_latches (s : State) : (rowRejected s).arr.latches = s.arr.latches := by
  unfold rowRejected
  simp [nextLatchRow_state]

theorem rowRejected_state {s : State} (hbusy : s.arr.latchBusy = true) :
    let u := rowRejected s
    u.arr.latches = s.arr.latches ∧ (s.flt.running = true → hasBit u.flt.seen 45 = true)
      ∧ (s.arr.latchRetry = false → u.arr.latchRow = s.arr.latchRow ∧ u.arr.latchRetry = true ∧ u.arr.latchBusy = true)
      ∧ (s.arr.latchRetry = true → s.arr.latchRow ≠ 639 → u.arr.latchRow = s.arr.latchRow + 1 ∧ u.arr.latchRetry = false)
      ∧ (s.arr.latchRetry = true → s.arr.latchRow = 639 → u.arr.latchBusy = false)
      ∧ (s.arr.latchRetry = true → s.flt.running = true → hasBit u.flt.seen 9 = true) := by
  obtain ⟨v, hv⟩ : ∃ v : State, v = { s with arr := if s.arr.latchRetry then nextLatchRow s.arr
    else { s.arr with latchRetry := true, gapCycles := if s.sched.running then 32 else 0 } } := ⟨_, rfl⟩
  obtain ⟨w, hw⟩ : ∃ w, w = assertSource 45 (s.arr.latchRow + 1024) false (followBeam v) := ⟨_, rfl⟩
  have hdone : rowRejected s = latchDone s (if s.arr.latchRetry = true then assertSource 9 s.arr.latchRow false w else w) := by rw [hw, hv]; rfl
  obtain ⟨hbeam, hbusy0, hrow0, hretry0, -⟩ := followBeam_leaves v
  obtain ⟨hbusy1, hrow1, hretry1, -⟩ := assertSource_cycle (.inr rfl) (s.arr.latchRow + 1024) false (followBeam v)
  rw [← hw] at hbusy1 hrow1 hretry1
  have hflt : v.flt = s.flt := by rw [hv]
  obtain ⟨hlatches, ⟨hbusy2, hrow2, hretry2, -⟩, -, hsettle⟩ := assertSettle_state s.arr.latchRow (s.arr.latchRetry = true) w
  have hlatches1 : w.arr.latches = v.arr.latches := by rw [hw, (assertSource_lasting ..).2.2.1, hbeam]
  have hrun1 : w.flt.running = s.flt.running := by rw [hw, assertSource_running, followBeam_flt, hflt]
  have hseen : s.flt.running = true → hasBit w.flt.seen 45 = true := fun hrun =>
    hw ▸ assertSource_seen (by decide) (by decide) (by rw [followBeam_flt, hflt, hrun])
  obtain ⟨hstored, -, hnext, hlast⟩ := nextLatchRow_state s.arr
  dsimp only
  rw [hdone, (latchDone_leaves ..).1, (latchDone_leaves ..).2]
  refine ⟨hlatches.trans (hlatches1.trans ?_), fun hrun => ?_, fun hr => ?_, fun hr h => ?_, fun hr h => ?_,
    fun hr hrun => hsettle hr (hrun1.trans hrun)⟩
  · simp [hv, hstored]
  · split
    · exact assertSource_stillSeen _ _ _ (hseen hrun)
    · exact hseen hrun
  · have hrep : v.arr.latchRow = s.arr.latchRow ∧ v.arr.latchRetry = true ∧ v.arr.latchBusy = true := by simp [hv, hr, hbusy]
    exact ⟨(hrow2.trans (hrow1.trans hrow0)).trans hrep.1, (hretry2.trans (hretry1.trans hretry0)).trans hrep.2.1,
      (hbusy2.trans (hbusy1.trans hbusy0)).trans hrep.2.2⟩
  · obtain ⟨-, krow, kretry⟩ := hnext h
    have hv' : v.arr = nextLatchRow s.arr := by simp [hv, hr]
    exact ⟨(hrow2.trans (hrow1.trans hrow0)).trans (by rw [hv', krow]), (hretry2.trans (hretry1.trans hretry0)).trans (by rw [hv', kretry])⟩
  · have hv' : v.arr = nextLatchRow s.arr := by simp [hv, hr]
    exact (hbusy2.trans (hbusy1.trans hbusy0)).trans (by rw [hv', (hlast h).1])

/-! ### The commands -/

section

variable {t : Nat} {p : SealedRow} {rb : List Nat} {s : State}

theorem execLatchRowCycle_runs {g used : Nat} (hrb : readbackOk rb = true) (hp : latchPacketOk p.packet = true)
    (hgap : (if (advance t s).sched.running then latchGap (advance t s) else some 0) = some g)
    (hused : (if (advance t s).sched.running ∧ some g = some (advance t s).arr.gapFrame then (advance t s).arr.gapCycles else 0) = used)
    (hfree : used < 32) (hbusy : (advance t s).arr.latchBusy = true) :
    exec (.latchRowCycle t p rb) s = if !latchGood (cycleBegun g used (advance t s)).arr p
      then .next (rowRejected (cycleBegun g used (advance t s))) else .next (rowWritten rb (cycleBegun g used (advance t s))) := by
  change execLatchRowCycle t p rb s = _
  unfold execLatchRowCycle
  dsimp only
  rw [if_neg (by rw [hrb, hp]; decide), hgap]
  dsimp only
  rw [hused, if_neg (by rw [hbusy]; simp [hfree])]
  rfl

/-- The row of the readback check is read back. -/
def rowChecked (rb : List Nat) (s : State) : State :=
  let u := { s with arr := { setLatchRow s.arr.checkRow rb s.arr with
    checkRow := (s.arr.checkRow + 1) % 640, checkedAt := some (tsc s), gapFrame := if s.sched.running then (latchGap s).getD 0 else s.arr.gapFrame,
    gapCycles := if s.sched.running then 1 else 0 } }
  if decide (rb ≠ latchRowOf s.arr.pattern s.arr.checkRow) then assertSource 9 s.arr.checkRow false u else u

theorem rowChecked_state (rb : List Nat) (s : State) :
    let u := rowChecked rb s
    u.arr.latches = memWriteList 0 s.arr.latches (2048 * s.arr.checkRow) rb
      ∧ (rb = latchRowOf s.arr.pattern s.arr.checkRow → u.flt = s.flt)
      ∧ (rb ≠ latchRowOf s.arr.pattern s.arr.checkRow → s.flt.running = true → hasBit u.flt.seen 9 = true)
      ∧ u.arr.checkRow = (s.arr.checkRow + 1) % 640 ∧ u.arr.checkedAt = some (tsc s) := by
  unfold rowChecked
  extract_lets old v u
  obtain ⟨hlatches, ⟨-, -, -, -, hcheck, hat⟩, hsame, hdiff⟩ :=
    assertSettle_state s.arr.checkRow (decide (rb ≠ latchRowOf s.arr.pattern s.arr.checkRow) = true) v
  exact ⟨hlatches, fun h => hsame (by simp [h]), fun h hrun => hdiff (by simp [h]) hrun, hcheck, hat⟩

theorem execLatchReadbackCheck_due (hrb : readbackOk rb = true) (hbusy : s.arr.latchBusy = false) (hup : arrayUp s = true)
    (hrun : s.sched.running = true → ∃ g, latchGap (advance t s) = some g ∧ (s.arr.gapFrame ≠ g ∨ s.arr.gapCycles = 0))
    (hstop : s.sched.running = false → ∀ x, s.arr.checkedAt = some x → x / 100000 < tsc (advance t s) / 100000) :
    exec (.latchReadbackCheck t rb) s = .next (rowChecked rb (advance t s)) := by
  have hbusy' : (advance t s).arr.latchBusy = false := by rwa [advance_arr]
  change execLatchReadbackCheck t rb s = _
  unfold execLatchReadbackCheck
  dsimp only
  rw [if_neg (by rw [hrb]; decide)]
  refine if_neg ?_
  rw [hbusy', arrayUp_advance, hup]
  cases h : s.sched.running with
  | true =>
    obtain ⟨g, hgap, hfree⟩ := hrun h
    have hdue : s.arr.gapFrame = g → s.arr.gapCycles = 0 := hfree.resolve_left ∘ not_not_intro
    simpa [h, hgap] using hdue
  | false =>
    cases hat : s.arr.checkedAt with
    | none => simp [h, hat]
    | some x => simp [h, hat, hstop h x hat]

theorem execLatchReadbackCheck_waits (hrb : readbackOk rb = true)
    (h : s.arr.latchBusy = true ∨ ∃ x, s.sched.running = false ∧ s.arr.checkedAt = some x ∧ tsc (advance t s) / 100000 ≤ x / 100000) :
    exec (.latchReadbackCheck t rb) s = .next (advance t s) := by
  change execLatchReadbackCheck t rb s = _
  unfold execLatchReadbackCheck
  dsimp only
  rw [if_neg (by rw [hrb]; decide)]
  refine if_pos ?_
  obtain h | ⟨x, hstop, hat, hearly⟩ := h
  · exact .inl (by rwa [advance_arr])
  · simp [hstop, hat, hearly]

theorem execLatchRowCycle_idle (hrb : readbackOk rb = true) (hp : latchPacketOk p.packet = true)
    (h : s.arr.latchBusy = false ∨ (s.sched.running = true ∧ latchGap (advance t s) = none)) :
    exec (.latchRowCycle t p rb) s = .next (advance t s) := by
  change execLatchRowCycle t p rb s = _
  unfold execLatchRowCycle
  dsimp only
  rw [if_neg (by rw [hrb, hp]; decide)]
  obtain h | ⟨hrun, hgap⟩ := h
  · split
    · rfl
    · exact if_pos (.inl (by simp [h]))
  · simp [hrun, hgap]

end

/-! ### The store of the latches under every command -/

/-- The commands that write into the latches. -/
def writesLatches (c : Instr) : Bool :=
  match c with
  | .latchRowCycle _ _ _ => true
  | .latchReadbackCheck _ _ => true
  | _ => false

/-- A command that neither moves the power nor writes into the latches leaves them. -/
theorem exec_keepsLatches (c : Instr) (s : State) (hp : movesPower c = false) (hw : writesLatches c = false) : LatchesKept s (exec c s) :=
  match c with
  | .vinRise _ _ => Bool.noConfusion hp
  | .trainingRetry t attempts => execTrainingRetry_keepsLatches t attempts s
  | .imageCheckComplete t v draws => execImageCheckComplete_keepsLatches t v draws s
  | .loaderCheckRetry t ok => execLoaderCheckRetry_keepsLatches t ok s
  | .calLoadComplete t => execCalLoadComplete_keepsLatches t s
  | .mapRestoreComplete t => execMapRestoreComplete_keepsLatches t s
  | .vinBelowVbo t => execVinBelowVbo_keepsLatches t s
  | .vinAboveVbo t => execVinAboveVbo_keepsLatches t s
  | .brownout t => execBrownout_keepsLatches t s
  | .lastgaspSaveComplete _ _ _ _ => Bool.noConfusion hp
  | .vledBlindWindowEnd t => execVledBlindWindowEnd_keepsLatches t s
  | .vinLow t low vin => execVinLow_keepsLatches t low vin s
  | .vinHigh t high vin => execVinHigh_keepsLatches t high vin s
  | .holdReady t ready => execHoldReady_keepsLatches t ready s
  | .faultAssert t src data => execFaultAssert_keepsLatches t src data s
  | .faultLevelEnd t src => execFaultLevelEnd_keepsLatches t src s
  | .shadowEnd t action => execShadowEnd_keepsLatches t action s
  | .rearm t => execRearm_keepsLatches t s
  | .moduleReset _ _ => Bool.noConfusion hp
  | .mpWatchdogService t => execMpWatchdogService_keepsLatches t s
  | .mpWatchdogExpiry t inHand => execMpWatchdogExpiry_keepsLatches t inHand s
  | .mpRestartEnd t => execMpRestartEnd_keepsLatches t s
  | .mpRestartOverrun t => execMpRestartOverrun_keepsLatches t s
  | .clockMon t clock => execClockMon_keepsLatches t clock s
  | .tscStep t offset => execTscStep_keepsLatches t offset s
  | .tscJump t => execTscJump_keepsLatches t s
  | .gptpMessage t port msg => execGptpMessage_keepsLatches t port msg s
  | .syncReceiptTimeout t => execSyncReceiptTimeout_keepsLatches t s
  | .compositionStart t => execCompositionStart_keepsLatches t s
  | .contentCutoff t => execContentCutoff_keepsLatches t s
  | .rowLatePoint t row late => execRowLatePoint_keepsLatches t row late s
  | .rowTransferStart t row complete levels => execRowTransferStart_keepsLatches t row complete levels s
  | .rowPacket t p crc => execRowPacket_keepsLatches t p crc s
  | .chestCheckComplete t crc => execChestCheckComplete_keepsLatches t crc s
  | .governorLatch t => execGovernorLatch_keepsLatches t s
  | .wrdoneDeadline t => execWrdoneDeadline_keepsLatches t s
  | .sluiceExecute t readback => execSluiceExecute_keepsLatches t readback s
  | .timedSwap t readback => execTimedSwap_keepsLatches t readback s
  | .droopTimer t => execDroopTimer_keepsLatches t s
  | .latchRowCycle _ _ _ => Bool.noConfusion hw
  | .latchReadbackCheck _ _ => Bool.noConfusion hw
  | .probeWindow t m => execProbeWindow_keepsLatches t m s
  | .sweepWindow t m samples => execSweepWindow_keepsLatches t m samples s
  | .vfModelRewrite t => execVfModelRewrite_keepsLatches t s
  | .faultMapFlashWrite t => execFaultMapFlashWrite_keepsLatches t s
  | .mapSnapshot t => execMapSnapshot_keepsLatches t s
  | .monitorPacketSend t => execMonitorPacketSend_keepsLatches t s
  | .monitorTrailer t => execMonitorTrailer_keepsLatches t s
  | .symbolSlot t => execSymbolSlot_keepsLatches t s
  | .symbolRepeat t sym => execSymbolRepeat_keepsLatches t sym s
  | .sluiceSymbolReceived t sym tEnd => execSluiceSymbolReceived_keepsLatches t sym tEnd s
  | .headReceived t sym => execHeadReceived_keepsLatches t sym s
  | .enumReceived t sym => execEnumReceived_keepsLatches t sym s
  | .startWindowEnd t => execStartWindowEnd_keepsLatches t s
  | .syncLoss t => execSyncLoss_keepsLatches t s
  | .syncLossEnd t => execSyncLossEnd_keepsLatches t s
  | .linkDelayMeasure t delay => execLinkDelayMeasure_keepsLatches t delay s
  | .brineVideoPacket t d => execBrineVideoPacket_keepsLatches t d s
  | .bufferMoveComplete t item => execBufferMoveComplete_keepsLatches t item s
  | .chestRefComplete t => execChestRefComplete_keepsLatches t s
  | .linkDown t x => execLinkDown_keepsLatches t x s
  | .linkUp t port mode => execLinkUp_keepsLatches t port mode s
  | .linkDownTimeout t port => execLinkDownTimeout_keepsLatches t port s
  | .ethernetFrame t f => execEthernetFrame_keepsLatches t f s
  | .arpRequest t port target => execArpRequest_keepsLatches t port target s
  | .hostSilent t => execHostSilent_keepsLatches t s
  | .canFrame t f => execCanFrame_keepsLatches t f s
  | .isotpTimeout t => execIsotpTimeout_keepsLatches t s
  | .canBusOff t st => execCanBusOff_keepsLatches t st s
  | .psiferMessage t ep raw => execPsiferMessage_keepsLatches t ep raw s
  | .sessionIdleLost t session => execSessionIdleLost_keepsLatches t session s
  | .authWindowEnd t => execAuthWindowEnd_keepsLatches t s
  | .mpLoadWindow t w => execMpLoadWindow_keepsLatches t w s
  | .eventMessage t session => execEventMessage_keepsLatches t session s
  | .eventWindowEnd t => execEventWindowEnd_keepsLatches t s
  | .caps t m => execCaps_keepsLatches t m s
  | .readWord t m => execReadWord_keepsLatches t m s
  | .ping t m => execPing_keepsLatches t m s
  | .resetModule t m boot => execResetModule_keepsLatches t m boot s
  | .resetMpOnly t m => execResetMpOnly_keepsLatches t m s
  | .settingsStore t m => execSettingsStore_keepsLatches t m s
  | .settingsStoreOutcome t erased => execSettingsStoreOutcome_keepsLatches t erased s
  | .linkConfigWrite t m => execLinkConfigWrite_keepsLatches t m s
  | .canConfigWrite t m => execCanConfigWrite_keepsLatches t m s
  | .mailboxConfigWrite t m => execMailboxConfigWrite_keepsLatches t m s
  | .create t m => execCreate_keepsLatches t m s
  | .configure t m => execConfigure_keepsLatches t m s
  | .place t m => execPlace_keepsLatches t m s
  | .release t m => execRelease_keepsLatches t m s
  | .destroy t m => execDestroy_keepsLatches t m s
  | .flip t m => execFlip_keepsLatches t m s
  | .commit t m => execCommit_keepsLatches t m s
  | .abort t m => execAbort_keepsLatches t m s
  | .chunkWrite t m => execChunkWrite_keepsLatches t m s
  | .curveWrite t m => execCurveWrite_keepsLatches t m s
  | .blendProgramWrite t m => execBlendProgramWrite_keepsLatches t m s
  | .shadeUpdate t m => execShadeUpdate_keepsLatches t m s
  | .shadeClear t m => execShadeClear_keepsLatches t m s
  | .glyphSeal t m => execGlyphSeal_keepsLatches t m s
  | .timingChange t m => execTimingChange_keepsLatches t m s
  | .timingAnchor t m => execTimingAnchor_keepsLatches t m s
  | .hostScaleWrite t m => execHostScaleWrite_keepsLatches t m s
  | .monitorConfigWrite t m => execMonitorConfigWrite_keepsLatches t m s
  | .logRead t m => execLogRead_keepsLatches t m s
  | .eventFilter t m => execEventFilter_keepsLatches t m s
  | .faultMapRead t m => execFaultMapRead_keepsLatches t m s
  | .scalerCoeffRead t m => execScalerCoeffRead_keepsLatches t m s
  | .chestStage t m => execChestStage_keepsLatches t m s
  | .chestActivate t m => execChestActivate_keepsLatches t m s
  | .settleStage t m => execSettleStage_keepsLatches t m s
  | .settleActivate t m => execSettleActivate_keepsLatches t m s
  | .safetyStore t m => execSafetyStore_keepsLatches t m s
  | .safetyStoreOutcome t erased => execSafetyStoreOutcome_keepsLatches t erased s
  | .holdDemand t m => execHoldDemand_keepsLatches t m s
  | .recover t m => execRecover_keepsLatches t m s
  | .faultForceSet t m => execFaultForceSet_keepsLatches t m s
  | .faultForceClear t m => execFaultForceClear_keepsLatches t m s
  | .faultConfig t m => execFaultConfig_keepsLatches t m s
  | .compConfigWrite t m => execCompConfigWrite_keepsLatches t m s
  | .govBudgetWrite t m => execGovBudgetWrite_keepsLatches t m s
  | .hostTimeoutWrite t m => execHostTimeoutWrite_keepsLatches t m s
  | .sdimConfigWrite t m => execSdimConfigWrite_keepsLatches t m s
  | .calRun t m => execCalRun_keepsLatches t m s
  | .calRunOutcome t e => execCalRunOutcome_keepsLatches t e s
  | .calRead t m => execCalRead_keepsLatches t m s
  | .calWrite t m => execCalWrite_keepsLatches t m s
  | .calStore t m => execCalStore_keepsLatches t m s
  | .calStoreOutcome t erased => execCalStoreOutcome_keepsLatches t erased s
  | .corrChunk t m => execCorrChunk_keepsLatches t m s
  | .tcurveWrite t m => execTcurveWrite_keepsLatches t m s
  | .tcurveApply t m => execTcurveApply_keepsLatches t m s
  | .ageingCurveWrite t m => execAgeingCurveWrite_keepsLatches t m s
  | .idleRequest t m => execIdleRequest_keepsLatches t m s
  | .wakeToLight t m => execWakeToLight_keepsLatches t m s
  | .standbyRequest _ _ _ => Bool.noConfusion hp
  | .syncConfigWrite t m => execSyncConfigWrite_keepsLatches t m s
  | .syncEnumerate t m => execSyncEnumerate_keepsLatches t m s
  | .sessionOpen t m nonce => execSessionOpen_keepsLatches t m nonce s
  | .sessionClose t m => execSessionClose_keepsLatches t m s
  | .lifecycleAdvance t m => execLifecycleAdvance_keepsLatches t m s
  | .zeroise t m => execZeroise_keepsLatches t m s
  | .updateIntent t m boot => execUpdateIntent_keepsLatches t m boot s
  | .updateBlock t m => execUpdateBlock_keepsLatches t m s
  | .updateVerify t m => execUpdateVerify_keepsLatches t m s
  | .updateVerifyOutcome t v => execUpdateVerifyOutcome_keepsLatches t v s
  | .updateActivate t m boot => execUpdateActivate_keepsLatches t m boot s
  | .updateConfirm t m => execUpdateConfirm_keepsLatches t m s
  | .scan t readings => execScan_keepsLatches t readings s
  | .selftest t a b => execSelftest_keepsLatches t a b s
  | .urgentRequest t input x => execUrgentRequest_keepsLatches t input x s
  | .referenceModeAuto t conv => execReferenceModeAuto_keepsLatches t conv s
  | .shutdownComparator t input x => execShutdownComparator_keepsLatches t input x s
  | .thermalStep t => execThermalStep_keepsLatches t s
  | .sdimFilterTick t => execSdimFilterTick_keepsLatches t s
  | .rampTick t => execRampTick_keepsLatches t s
  | .rampEnd t => execRampEnd_keepsLatches t s
  | .rampEnvelope t mean => execRampEnvelope_keepsLatches t mean s
  | .sdimDiscrepancy t => execSdimDiscrepancy_keepsLatches t s
  | .proofMissing t => execProofMissing_keepsLatches t s
  | .cutoffTestpulse t fallOk recoveryOk => execCutoffTestpulse_keepsLatches t fallOk recoveryOk s
  | .switchReadback t isOpen => execSwitchReadback_keepsLatches t isOpen s
  | .governorEnvelope t mean => execGovernorEnvelope_keepsLatches t mean s
  | .vledRegulation t mv => execVledRegulation_keepsLatches t mv s
  | .dramRequest t req channel => execDramRequest_keepsLatches t req channel s
  | .dramScrub t channel owner ecc => execDramScrub_keepsLatches t channel owner ecc s
  | .dqsDriftCheck t channel steps refresh => execDqsDriftCheck_keepsLatches t channel steps refresh s
  | .neighbourRefresh t channel bank row => execNeighbourRefresh_keepsLatches t channel bank row s
  | .panSramScrub t bank ecc => execPanSramScrub_keepsLatches t bank ecc s
  | .wakeSource _ _ _ _ _ => Bool.noConfusion hp
  | .lastgaspSlotErase t => execLastgaspSlotErase_keepsLatches t s
  | .sdimSample t a b => execSdimSample_keepsLatches t a b s
  | .refreshWindowStart t => execRefreshWindowStart_keepsLatches t s
  | .referenceModeWarm t conv => execReferenceModeWarm_keepsLatches t conv s
  | .convRefReady t conv => execConvRefReady_keepsLatches t conv s
  | .pdelayRequest t port => execPdelayRequest_keepsLatches t port s
  | .announceReceiptTimeout t port => execAnnounceReceiptTimeout_keepsLatches t port s

/-- What a settle-latch cycle may lead to. -/
theorem execLatchRowCycle_cases (t : Nat) (p : SealedRow) (rb : List Nat) (s : State) :
    execLatchRowCycle t p rb s = .fault .impossibleOperand ∨ execLatchRowCycle t p rb s = .next (advance t s)
      ∨ ∃ g used, execLatchRowCycle t p rb s = .next (rowRejected (cycleBegun g used (advance t s)))
        ∨ execLatchRowCycle t p rb s = .next (rowWritten rb (cycleBegun g used (advance t s))) := by
  unfold execLatchRowCycle
  dsimp only
  split
  · exact .inl rfl
  · generalize (if (advance t s).sched.running then latchGap (advance t s) else some 0) = gap
    cases gap with
    | none => exact .inr (.inl rfl)
    | some g =>
      dsimp only
      generalize (if (advance t s).sched.running ∧ some g = some (advance t s).arr.gapFrame then (advance t s).arr.gapCycles else 0) = used
      split
      · exact .inr (.inl rfl)
      · refine .inr (.inr ⟨g, used, ?_⟩)
        by_cases hgood : (!latchGood (cycleBegun g used (advance t s)).arr p) = true
        · exact .inl (if_pos hgood)
        · exact .inr (if_neg hgood)

theorem execLatchReadbackCheck_cases (t : Nat) (rb : List Nat) (s : State) :
    execLatchReadbackCheck t rb s = .fault .impossibleOperand ∨ execLatchReadbackCheck t rb s = .next (advance t s)
      ∨ execLatchReadbackCheck t rb s = .next (rowChecked rb (advance t s)) := by
  unfold execLatchReadbackCheck
  dsimp only
  split
  · exact .inl rfl
  · exact .inr (ite_eq_left_or_right _ _)

theorem exec_latchesWf (c : Instr) {s : State} (hp : movesPower c = false) (h : memWf 0 s.arr.latches = true) :
    Leads (fun u => memWf 0 u.arr.latches = true) (exec c s) := by
  have hstart : ∀ t g used, memWf 0 (cycleBegun g used (advance t s)).arr.latches = true := fun t g used => by simpa [cycleBegun] using h
  cases hw : writesLatches c with
  | false => exact (exec_keepsLatches c s hp hw).imp fun u hu => by rw [hu, h]
  | true =>
    unfold writesLatches at hw
    split at hw
    · next t p rb =>
      change Leads _ (execLatchRowCycle t p rb s)
      obtain he | he | ⟨g, used, he | he⟩ := execLatchRowCycle_cases t p rb s
      · rw [he]; trivial
      · rw [he, leads_next, advance_arr, h]
      · rw [he, leads_next, rowRejected_latches, hstart]
      · rw [he, leads_next, (rowWritten_state ..).1]
        exact memWf_memWriteList rb (hstart t g used) _
    · next t rb =>
      change Leads _ (execLatchReadbackCheck t rb s)
      obtain he | he | he := execLatchReadbackCheck_cases t rb s
      · rw [he]; trivial
      · rw [he, leads_next, advance_arr, h]
      · rw [he, leads_next, (rowChecked_state ..).1, advance_arr]
        exact memWf_memWriteList rb h _
    · cases hw

@[simp] theorem cycleBegun_state (g used t : Nat) (s : State) :
    let u := cycleBegun g used (advance t s)
    u.arr.latches = s.arr.latches ∧ u.arr.pattern = s.arr.pattern ∧ u.arr.latchRow = s.arr.latchRow ∧ u.arr.latchRetry = s.arr.latchRetry
      ∧ u.arr.latchBusy = s.arr.latchBusy ∧ u.arr.levels = (if s.arr.latchRow = 0 then s.arr.newLevels else s.arr.levels) ∧ u.flt = s.flt := by
  simp [cycleBegun]

theorem latchGood_iff (a : PixelArray) (p : SealedRow) :
    latchGood a p = true ↔ p.crc = crc32 (packetBytes p.packet) ∧ p.packet.row = a.latchRow := by
  simp [latchGood, crcGood]

/-- The row cycle of an update whose gap has a cycle free. -/
theorem execLatchRowCycle_free {t : Nat} {p : SealedRow} {rb : List Nat} {s : State} (hrb : readbackOk rb = true)
    (hp : latchPacketOk p.packet = true) (hbusy : s.arr.latchBusy = true)
    (hrun : s.sched.running = true → ∃ g, latchGap (advance t s) = some g ∧ (s.arr.gapFrame = g → s.arr.gapCycles < 32)) :
    ∃ g used, exec (.latchRowCycle t p rb) s = if !latchGood (cycleBegun g used (advance t s)).arr p
      then .next (rowRejected (cycleBegun g used (advance t s))) else .next (rowWritten rb (cycleBegun g used (advance t s))) := by
  have hbusy' : (advance t s).arr.latchBusy = true := by rwa [advance_arr]
  cases h : s.sched.running with
  | true =>
    obtain ⟨g, hgap, hfree⟩ := hrun h
    refine ⟨g, _, execLatchRowCycle_runs hrb hp (by simpa [h] using hgap) rfl ?_ hbusy'⟩
    split
    · next hsame => exact advance_arr t s ▸ hfree (Option.some.inj (by simpa using hsame.2)).symm
    · decide
  | false => exact ⟨0, 0, execLatchRowCycle_runs hrb hp (by simp [h]) (by simp [h]) (by decide) hbusy'⟩

/-- Settles O52. -/
theorem latchCyclesWriteOneRow : Obligations.LatchCyclesWriteOneRow := by
  refine ⟨fun t p rb s hrb hp hwf => ?_, fun c s u hp hwf he => (exec_latchesWf c hp hwf).of_next he, rfl⟩
  intro a row same
  have hlen : rb.length = 2048 := by
    obtain ⟨hlen, -⟩ : _ ∧ _ := by simpa [readbackOk] using hrb
    exact hlen
  have hsame : ∀ (u : State) (r : Nat), u.arr.latches = memWriteList 0 s.arr.latches (2048 * r) rb → same u r := fun u r hu q => by
    rw [hu, memRead_memWriteList rb hwf, hlen]
  refine ⟨fun hbusy hrun => ⟨fun hcrc hrow => ?_, fun hbad => ?_⟩, fun h => execLatchRowCycle_idle hrb hp (.inl h),
    fun h hgap => execLatchRowCycle_idle hrb hp (.inr ⟨h, hgap⟩), fun hbusy hup hrun hstop => ?_,
    fun h => execLatchReadbackCheck_waits hrb (.inl h),
    fun x hstop hat hearly => execLatchReadbackCheck_waits hrb (.inr ⟨x, hstop, hat, hearly⟩)⟩
  case refine_1 =>
    obtain ⟨g, used, hexec⟩ := execLatchRowCycle_free (t := t) (p := p) hrb hp hbusy hrun
    obtain ⟨hstart, hpattern, hat, -, hbusy', hstartLevels, hflt⟩ := cycleBegun_state g used t s
    obtain ⟨hlatches, hcalm, hseen, hnext, hlast, hlevels⟩ := rowWritten_state rb (cycleBegun g used (advance t s))
    have hgood : latchGood (cycleBegun g used (advance t s)).arr p = true := (latchGood_iff ..).mpr ⟨hcrc, hrow.trans hat.symm⟩
    rw [hstart, hat] at hlatches
    rw [hpattern, hat, hflt] at hcalm hseen
    rw [hat, hbusy'] at hnext
    rw [hat] at hlast
    rw [hstartLevels] at hlevels
    refine ⟨_, hexec.trans (if_neg (by rw [hgood]; decide)), hsame _ _ hlatches, hcalm, hseen, fun h => ?_, hlast, fun h => ?_, fun h => ?_⟩
    · obtain ⟨hb, hr⟩ := hnext h
      exact ⟨hb.trans hbusy, hr⟩
    · exact hlevels.trans (if_pos h)
    · exact hlevels.trans (if_neg h)
  case refine_2 =>
    obtain ⟨g, used, hexec⟩ := execLatchRowCycle_free (t := t) (p := p) hrb hp hbusy hrun
    obtain ⟨hstart, -, hat, hretry, hbusy', -, hflt⟩ := cycleBegun_state g used t s
    have hpoor : latchGood (cycleBegun g used (advance t s)).arr p = false := by
      rw [Bool.eq_false_iff, Ne, latchGood_iff, hat]
      exact Classical.not_and_iff_not_or_not.mpr hbad
    have hleft := rowRejected_state (hbusy'.trans hbusy)
    rw [hstart, hflt, hretry, hat] at hleft
    exact ⟨_, hexec.trans (if_pos (by rw [hpoor]; rfl)), hleft⟩
  case refine_3 =>
    have hread := rowChecked_state rb (advance t s)
    rw [advance_arr, advance_flt] at hread
    obtain ⟨hlatches, hrest⟩ := hread
    exact ⟨_, execLatchReadbackCheck_due hrb hbusy hup hrun hstop, hsame _ _ hlatches, hrest⟩

end Sys2Proof.Machine
